-- ==== Sys2Proof/Word.lean ====
section
/-! DEFINITION. The word types of the model and the shape of a register field. -/
namespace Sys2Proof

/-- A register word (R4: register accesses are 32 bits wide). -/
abbrev Word := BitVec 32
/-- A byte of memory. -/
abbrev Byte := BitVec 8

namespace Machine

/-- The access codes of R5. -/
inductive Acc where
  | rw | ro | w1c | wo | rws | rc
deriving DecidableEq, Repr

/-- A register field: the offset of its register in the page, its bit range, its access code and its reset value. -/
structure Fld where
  off : Nat
  hi : Nat
  lo : Nat
  acc : Acc
  reset : Nat
deriving DecidableEq, Repr

end Machine
end Sys2Proof
end

