-- ==== Sys2Proof/Syntax.lean ====
section
/-! DEFINITION. The commands the block takes, one constructor per row of the table of operations and events, with their operands. -/
namespace Sys2Proof

/-- A Glifen frame: the fields of its header (R92) and its payload bytes. -/
structure Frame where
  etype : Nat
  ver : Nat
  cls : Nat
  port : Nat
  node : Nat
  cyc : BitVec 32
  flags : Nat
  len : Nat
  axcnt : Nat
  markadj : Nat
  holdmax : Nat
  payload : List Byte
deriving DecidableEq, Repr

/-- A received Glifen frame: the raw time of the TCLK edge at or before its start and the position of the start after that edge in bit
times (R90, R151), its wire length in bytes, the code-group errors inside it, whether a /V/
stands in it and whether its FCS is correct (R103 step 1), its source address byte k (R90, R379), and its content; the payload
holds every byte received between header and FCS, pad included. -/
structure RxFrame where
  edge : BitVec 64
  bit : Nat
  wire : Nat
  cgErr : Nat
  vErr : Bool
  fcsOk : Bool
  srcK : Nat
  frame : Frame
  /-- A word of the frame buffer that holds it is uncorrectable (R504). -/
  upset : Bool := false
deriving DecidableEq, Repr

/-- What a node may send that only Girth and Latigo may send (R88). -/
inductive Forbidden where
  | mark
  | frame (cls : Nat)
deriving DecidableEq, Repr

/-- A command entry of a Bench ring (R185). -/
structure Entry where
  op : Nat
  status : Nat
  axis : Nat
  apply : Nat
  offset : Nat
  len : Nat
  rsvd : Nat
  data : List Byte
deriving DecidableEq, Repr

/-- A command whose record part and write-backs are held (R12, R186): its Bench, the address of its ring entry (none for a command
that came outside a ring), the CYC of the CWSTART that served it, the entry, and the status it has so far. -/
structure HeldCmd where
  bench : Nat
  addr : Option Nat
  cyc : BitVec 48
  entry : Entry
  status : Nat
deriving DecidableEq, Repr

/-! ### Profile generators: what an image of R378 holds -/

namespace Machine

/-- Generator modes (R301). -/
inductive PgMode where
  | idle | move | velocity | gear | cam | group | stop | halt
deriving DecidableEq, Repr

/-- The two-stage planner of R302: inner velocity, inner position, window (newest first), remainder, output. -/
structure Plan where
  q : BitVec 64 := 0
  w : Int := 0
  hist : List Int := []
  r : Int := 0
  pout : BitVec 64 := 0
  vff : Int := 0
  aff : Int := 0
deriving DecidableEq, Repr

/-- A step of a generator that waits (R323): its cycle, its master's position for it (none while the master's own step waits too) and
whether the master's sample is missing. -/
structure PgWait where
  cyc : BitVec 48
  mpos : Option (BitVec 64)
  bad : Bool
deriving DecidableEq, Repr

/-- A profile generator (R298–R318). -/
structure Pg where
  plan : Plan := {}
  mode : PgMode := .idle
  tgt : BitVec 64 := 0
  vcmd : Int := 0
  /-- 0 none, 1 TRACK, 2 LOCKED. -/
  sync : Nat := 0
  /-- Consecutive steps that ended with the landing (R314). -/
  landings : Nat := 0
  g : BitVec 64 := 0
  grem : Int := 0
  num : Int := 0
  den : Int := 1
  camTab : Nat := 0
  camNext : Option Nat := none
  x : Int := 0
  /-- Master position of the last step. -/
  mlast : BitVec 64 := 0
  abort : Bool := false
  overshoot : Bool := false
  overlim : Bool := false
  stall : Bool := false
  masterBad : Bool := false
  /-- HALT brakes with DSTOP: its page's RUN was cleared (R307) or its cam table is lost (R504). -/
  haltDstop : Bool := false
  /-- The group whose path it takes part in, from IGSTART until it is started or commanded anew (R309). -/
  group : Option Nat := none
  start : BitVec 64 := 0
  dist : Int := 0
  pend : Option (BitVec 64) := none
  /-- The latched measured position and whether the last latch missed (R312). -/
  latch : BitVec 64 := 0
  latchBad : Bool := false
  /-- The cycle of its last step (SPCYC). -/
  spCyc : BitVec 48 := 0
  /-- The SP section of its last step, not yet written (R299). -/
  sp : Option (List Byte) := none
  /-- Its steps that wait for the axis's instance of the cycle before theirs, oldest first (R323). -/
  waiting : List PgWait := []
deriving DecidableEq, Repr

/-- An interpolation group (R308–R310). -/
structure Igrp where
  plan : Plan := {}
  dlead : Int := 0
  /-- Halting at the group's DSTOP rather than its A. -/
  dstop : Bool := false
deriving DecidableEq, Repr

/-- A virtual master (R318). -/
structure Vm where
  plan : Plan := {}
  vcmd : Int := 0
  setPend : Option (BitVec 64 × BitVec 64) := none
  velPend : Option (BitVec 64 × BitVec 64) := none
deriving DecidableEq, Repr

/-- The internal state of a generator, a group or a virtual master, as RCOPY and RBLOCK carry it bit for bit (R378). -/
inductive GenImage where
  | none
  | pg (g : Pg)
  | group (g : Igrp)
  | vm (v : Vm)
deriving DecidableEq, Repr

end Machine


/-! ### Operands of the Awl instructions (R235–R257) -/

/-- The second source of a P-format operation: a D register, or the coefficient word through C0 (K = 1, R237). -/
inductive Src2 where
  | d (r : Fin 16)
  | coef
deriving DecidableEq, Repr

/-- The second source of a multiply: a D register or the coefficient through C0 in P format, or a coefficient through C0 or C1
in the GK layout, which has no parallel moves (R246). -/
inductive MulSrc where
  | d (r : Fin 16)
  | k
  | c (j : Fin 2)
deriving DecidableEq, Repr

/-- The kinds of parallel move (R238). -/
inductive MoveKind where
  | load | store | loadPair
deriving DecidableEq, Repr

/-- A parallel move: its kind, its REG and its AREG field. -/
structure Move where
  kind : MoveKind
  reg : Fin 4
  areg : Fin 4
deriving DecidableEq, Repr

/-- The two parallel moves of a P-format word. -/
structure Moves where
  x : Option Move := none
  y : Option Move := none
deriving DecidableEq, Repr

/-- An immediate or an offset: its value, and whether the extension word supplies it (R245). -/
structure Imm where
  v : Word
  long : Bool
deriving DecidableEq, Repr

/-- The addressing modes of R247. -/
inductive MemMode where
  | plain | incr | step
  | index (off : Imm)
deriving DecidableEq, Repr

/-- A D register or a pair (named by half its even register). -/
inductive DReg where
  | d (r : Fin 16)
  | pair (p : Fin 8)
deriving DecidableEq, Repr

/-- Source of a MOVC write. -/
inductive CtlSrc where
  | d (r : Fin 16)
  | imm (v : Imm)
deriving DecidableEq, Repr

/-- Width and register of a register-form queue access (R249). -/
inductive QReg where
  | w16 (r : Fin 16)
  | w32 (r : Fin 16)
  | w64 (p : Fin 8)
deriving DecidableEq, Repr

/-- A repeat count (R255). -/
inductive Count where
  | imm (n : BitVec 16)
  | reg (r : Fin 16)
deriving DecidableEq, Repr

/-- The end of a LOOP body: E8 or the extension word (R255). -/
inductive LoopEnd where
  | short (e8 : BitVec 8)
  | long (last : Word)
deriving DecidableEq, Repr

/-- Two-source operations on D registers. -/
inductive BinOp where
  | add | sub | addw | subw | and | or | xor | min | max | clip | asl | asr | lsr | cadd | csub
deriving DecidableEq, Repr

/-- One-source operations on D registers. -/
inductive UnaOp where
  | mov | neg | abs | not | norm | rcps | rsqs | scs
deriving DecidableEq, Repr

/-- Real multiplies. -/
inductive MulOp where
  | mpy | mac | msu
deriving DecidableEq, Repr

/-- Complex multiplies. -/
inductive CMulOp where
  | cmpy | cmac | cmacj
deriving DecidableEq, Repr

/-- Operations on D pairs. -/
inductive WideOp where
  | addw | subw | add | sub
deriving DecidableEq, Repr

/-- A decoded Awl instruction (R236–R255). -/
inductive AwlIns where
  | nop
  | nopMoves (mv : Moves)
  | bin (op : BinOp) (d s1 : Fin 16) (s2 : Src2) (mv : Moves)
  | una (op : UnaOp) (d s : Fin 16) (mv : Moves)
  | cmp (s1 : Fin 16) (s2 : Src2) (mv : Moves)
  | tst (s1 : Fin 16) (s2 : Src2) (mv : Moves)
  | mul (op : MulOp) (a : Fin 4) (s1 : Fin 16) (s2 : MulSrc) (mv : Moves)
  | cmul (op : CMulOp) (a : Fin 2) (s1 : Fin 16) (s2 : MulSrc) (mv : Moves)
  | clr (a : Fin 4) (mv : Moves)
  | movE (a : Fin 4) (s1 : Fin 16) (s2 : Src2) (mv : Moves)
  | conv (dst : DReg) (a : Fin 4) (k : Fin 64) (form : Option Moves)
  | cconv (d : Fin 16) (a : Fin 2) (k : Fin 64) (form : Option Moves)
  | binI (op : BinOp) (d s : Fin 16) (v : Imm)
  | ldi (d : Fin 16) (v : Imm)
  | cmpi (s : Fin 16) (v : Imm)
  | tsti (s : Fin 16) (v : Imm)
  | shiftI (op : BinOp) (d s : Fin 16) (n : Fin 32)
  | normE (d : Fin 16) (a : Fin 4)
  | movgRead (d : Fin 16) (a : Fin 4)
  | movgWrite (a : Fin 4) (g : Fin 16) (s : Fin 8)
  | wide (op : WideOp) (d s1 s2 : Fin 8)
  | mov64 (d s : Fin 8)
  | cmp64 (s1 s2 : Fin 8)
  | movcRead (d : Fin 16) (cr : Fin 56)
  | movcWrite (cr : Fin 56) (src : CtlSrc)
  | ld (dst : DReg) (ak : Fin 8) (mode : MemMode)
  | st (src : DReg) (ak : Fin 8) (mode : MemMode)
  | ldc (d : Fin 16) (j : Fin 2)
  | ldq (q : Fin 16) (dst : QReg) (ak : Fin 8) (off : Imm)
  | stq (q : Fin 16) (src : QReg) (ak : Fin 8) (off : Imm)
  | ldqB (q : Fin 16) (am ak : Fin 8) (off : Imm) (n : Fin 8)
  | stqB (q : Fin 16) (am ak : Fin 8) (off : Imm) (n : Fin 8)
  | waitq (mask : BitVec 16)
  | endt
  | post (j : Fin 4)
  | trap (n : BitVec 8)
  | rte
  | bkpt (n : BitVec 8)
  | br (cond : Fin 14) (off : BitVec 13)
  | call (d : Fin 16) (off : BitVec 13)
  | jmp (cond : Fin 14) (d : Fin 16)
  | loop (cnt : Count) (e : LoopEnd)
  | redo (cnt : Count)
deriving DecidableEq, Repr

/-- The commands of the block: the rows of the table of operations and events.  Some rows name a value for an
operand that is left out: no upset, a frame that crosses, one sample. -/
inductive Instr where
  /-- I0 (R8): At the common instant of each cycle, CYC increments, samples are taken and the outputs received or written in the previous cycle take effect. -/
  | i0 (upset : Bool := false) (idle : BitVec 16 := 0xFFFF)
  /-- CYCLE_MARK_SEND (R87): Girth sends the /M/ cycle mark on a port MT ticks before the next I0. -/
  | cycleMarkSend (n : Fin 32)
  /-- CYCLE_ZERO (R126): A started Girth places I0 of cycle 0, enters RUNNING with CYC 0 and starts its running ports in NOSYNC. -/
  | cycleZero (idle : BitVec 16 := 0xFFFF)
  /-- NETWORK_STOP (R131): Clearing GIRTH RUN sends every mapped axis with REST for two CUTOFFs, then stops the marks and all ports. -/
  | networkStop (m : Fin 96)
  /-- LOCAL_ARRIVAL (R358): At the local arrival tick the IN sections of local and ANALOG axes are written and one local arrival event is posted. -/
  | localArrival
  /-- CYCLE_UP (R103): A received uplink frame is judged against its window and checked, and its axis blocks are delivered, discarded STALE or left MISSING. -/
  | cycleUp (n : Fin 32) (f : RxFrame)
  /-- ARRIVAL_TIMEOUT (R118): At UPCLOSE + GUARD + 24 of a port without a delivered frame, expected blocks are counted MISSING and the arrival event is posted. -/
  | arrivalTimeout (n : Fin 32)
  /-- WINDOW_TRUNCATION (R117): At tick W1 a frame still arriving is closed with /V/, discarded and counted TRUNC as a violation. -/
  | windowTruncation (n : Fin 32) (f : RxFrame)
  /-- FORBIDDEN_ORDERED_SET (R88): A K28.1 or a Girth-reserved class received from a node is discarded, sets BABMARK and counts one violation. -/
  | forbiddenOrderedSet (n : Fin 32) (what : Forbidden)
  /-- PORT_BLOCK (R123): When the violations in a port's history reach BABN the port is blocked and its axes go to REST. -/
  | portBlock (n : Fin 32)
  /-- BLOCKED_WRITE (R124): A host write of 1 to SCHSTAT.BLOCKED requests re-enable of the port at the next I0. -/
  | blockedWrite (m : Fin 96) (n : Fin 32)
  /-- PORT_SYNC_GAIN (R86): A lane gains Clause 36 sync and its port advances from NOSYNC. -/
  | portSyncGain (n : Fin 32)
  /-- PORT_SYNC_LOSS (R86): A lane loses sync: SYNCLOSS set, fault 0x2101, blocks counted MISSING and the port returns to NOSYNC. -/
  | portSyncLoss (n : Fin 32)
  /-- JOIN (R127): A JOIN frame on a spare port is checked and its RESULT decided for the GRANT of the next cycle. -/
  | join (n : Fin 32) (f : RxFrame)
  /-- DELAY_RESP (R100): A DELAY-RESP is matched to its request and yields a new link delay if valid. -/
  | delayResp (n : Fin 32) (f : RxFrame)
  /-- MAILBOX_RECEIVE (R101): A MAILBOX frame from a node is accepted or dropped and counted. -/
  | mailboxReceive (n : Fin 32) (f : RxFrame)
  /-- CWSTART (R11): At compute window start Cinch finishes old tokens, applies host commands, creates tokens and starts the profile generators. -/
  | cwstart (upset : Bool := false)
  /-- PG_ENGINE_DONE (R299): The engine writes the SP sections and posts the event that satisfies predecessor 0x8200. -/
  | pgEngineDone (ticks : Nat)
  /-- VM_PENDING_APPLY (R318): A pending VMSET or VMVEL takes effect in the first cycle whose ideal I0 reaches TSTART. -/
  | vmPendingApply (k : Fin 4)
  /-- TASK_DISPATCH (R171): Cinch dispatches a ready CYCLIC token to an available Awl by the affinity and migration passes. -/
  | taskDispatch (bench : Fin 8)
  /-- SERVICE_DISPATCH (R174): An idle Awl within budget takes the highest-priority queued SERVICE instance. -/
  | serviceDispatch (bench : Fin 8)
  /-- SERVICE_RESUME (R174): A preempted SERVICE instance resumes on its own Awl when that Awl has no CYCLIC token. -/
  | serviceResume (awl : Fin 64)
  /-- DEADLINE (R177): A CYCLIC token without ENDT at its deadline tick goes LATE, raising EVT[0] and setting OUTFLAGS.LATE. -/
  | deadline (ns : Nat)
  /-- CUTOFF (R14): Girth and the local output units snapshot every OUT section and decide each axis's output and state. -/
  | cutoff (trip : BitVec 8) (high : BitVec 8) (low : BitVec 8)
  /-- HOLD_LIMIT (R21): An axis whose HOLDCNT has reached HOLDMAX and misses again is sent with REST and enters REST. -/
  | holdLimit (axis : Fin 256)
  /-- DOWNLINK_SEND (R98): At DLSTART Girth sends each port's CYCLE-DOWN with safety word and axis blocks. -/
  | downlinkSend (n : Fin 32) (upset : Bool := false)
  /-- ACYCLIC_WINDOW (R120): At ACYSTART Girth sends at most one COLDSTART, DELAY-REQ, GRANT and MAILBOX per port in order. -/
  | acyclicWindow (n : Fin 32)
  /-- RELAY_SEND (R121): At RLYSTART Girth sends the RELAY frame filled from the named source blocks. -/
  | relaySend (n : Fin 32)
  /-- START (R21): Host command START moves a STOPPED axis to STARTING or is refused. -/
  | start (bench : Fin 8) (e : Entry)
  /-- STOP (R21): Host command STOP moves a RUNNING axis to STOPPING or sets RESUME in HOLD. -/
  | stop (bench : Fin 8) (e : Entry)
  /-- AXRESET (R21): Host command AXRESET returns a REST axis without REST cause to STOPPED. -/
  | axreset (bench : Fin 8) (e : Entry)
  /-- PARWRITE (R187): Host command PARWRITE writes parameter bytes into the Axis Record. -/
  | parwrite (bench : Fin 8) (e : Entry)
  /-- MOVEABS (R305): Profile command MOVEABS starts a move to an absolute target. -/
  | moveabs (bench : Fin 8) (e : Entry)
  /-- MOVEREL (R305): Profile command MOVEREL starts a move by a distance. -/
  | moverel (bench : Fin 8) (e : Entry)
  /-- VELOCITY (R305): Profile command VELOCITY enters velocity mode. -/
  | velocity (bench : Fin 8) (e : Entry)
  /-- HALT (R305): Profile command HALT brakes at A and becomes IDLE at rest. -/
  | halt (bench : Fin 8) (e : Entry)
  /-- SETPOS (R305): Profile command SETPOS sets the position of a STOPPED axis. -/
  | setpos (bench : Fin 8) (e : Entry)
  /-- SETLIM (R305): Profile command SETLIM sets new V and A. -/
  | setlim (bench : Fin 8) (e : Entry)
  /-- SETSTOP (R305): Profile command SETSTOP sets DSTOP and optionally JN. -/
  | setstop (bench : Fin 8) (e : Entry)
  /-- SETMASTER (R305): Profile command SETMASTER selects the master source. -/
  | setmaster (bench : Fin 8) (e : Entry)
  /-- GEARIN (R313): Profile command GEARIN couples the follower to its master by a ratio. -/
  | gearin (bench : Fin 8) (e : Entry)
  /-- CAMIN (R316): Profile command CAMIN couples the follower through a cam table. -/
  | camin (bench : Fin 8) (e : Entry)
  /-- PHASE (R305): Profile command PHASE shifts the follower target. -/
  | phase (bench : Fin 8) (e : Entry)
  /-- GEAROUT (R305): Profile command GEAROUT leaves GEAR or CAM into HALT or VELOCITY. -/
  | gearout (bench : Fin 8) (e : Entry)
  /-- CAMSEL (R317): Profile command CAMSEL sets a table switch pending. -/
  | camsel (bench : Fin 8) (e : Entry)
  /-- IGTGT (R309): Profile command IGTGT stores a pending member target. -/
  | igtgt (bench : Fin 8) (e : Entry)
  /-- IGSTART (R309): Profile command IGSTART starts a straight-line group move. -/
  | igstart (bench : Fin 8) (e : Entry)
  /-- IGHALT (R305): Profile command IGHALT halts the group along its path. -/
  | ighalt (bench : Fin 8) (e : Entry)
  /-- VMSET (R318): Profile command VMSET stores a pending virtual-master position. -/
  | vmset (bench : Fin 8) (k : Fin 4) (e : Entry)
  /-- VMVEL (R318): Profile command VMVEL stores a pending virtual-master velocity. -/
  | vmvel (bench : Fin 8) (k : Fin 4) (e : Entry)
  /-- SVCTRIG_WRITE (R173): A write to CINCH.SVCTRIG releases a SERVICE task or is counted in TRIGREJ. -/
  | svctrigWrite (m : Fin 96) (task : BitVec 12)
  /-- CMDTAIL_WRITE (R184): A write to CMDTAIL advances a Bench command ring or is refused. -/
  | cmdtailWrite (m : Fin 96) (bench : Fin 8) (index : BitVec 12)
  /-- BUDGET_WRITE (R176): A write to CINCHB.BUDGETe changes an Awl's SERVICE budget at once. -/
  | budgetWrite (m : Fin 96) (bench : Fin 8) (e : Fin 8) (v : Word)
  /-- STATCLR (R195): A write to CINCHB.STATCLR resets the wait, busy and completion maxima. -/
  | statclr (m : Fin 96) (bench : Fin 8)
  /-- BENCH_STATCLR (R234): A write to BENCH.STATCLR clears QLATMAX. -/
  | benchStatclr (m : Fin 96) (bench : Fin 8)
  /-- NOP (R251): SYS NOP does nothing. -/
  | nop (awl : Fin 64)
  /-- NOP_MOVES (R240): P-format NOP performs only its parallel moves. -/
  | nopMoves (awl : Fin 64) (mv : Moves)
  /-- MOV (R240): Register move into a D register. -/
  | mov (awl : Fin 64) (d : Fin 16) (s1 : Fin 16) (mv : Moves)
  /-- ADD (R240): Saturating 32-bit add. -/
  | add (awl : Fin 64) (d : Fin 16) (s1 : Fin 16) (s2 : Src2) (mv : Moves)
  /-- SUB (R240): Saturating 32-bit subtract. -/
  | sub (awl : Fin 64) (d : Fin 16) (s1 : Fin 16) (s2 : Src2) (mv : Moves)
  /-- ADDW (R221): Wrapping 32-bit add. -/
  | addw (awl : Fin 64) (d : Fin 16) (s1 : Fin 16) (s2 : Src2) (mv : Moves)
  /-- SUBW (R221): Wrapping 32-bit subtract. -/
  | subw (awl : Fin 64) (d : Fin 16) (s1 : Fin 16) (s2 : Src2) (mv : Moves)
  /-- NEG (R240): Saturating negate. -/
  | neg (awl : Fin 64) (d : Fin 16) (s1 : Fin 16) (mv : Moves)
  /-- ABS (R240): Saturating absolute value. -/
  | abs (awl : Fin 64) (d : Fin 16) (s1 : Fin 16) (mv : Moves)
  /-- AND (R240): Bitwise AND. -/
  | and (awl : Fin 64) (d : Fin 16) (s1 : Fin 16) (s2 : Src2) (mv : Moves)
  /-- OR (R240): Bitwise OR. -/
  | or (awl : Fin 64) (d : Fin 16) (s1 : Fin 16) (s2 : Src2) (mv : Moves)
  /-- XOR (R240): Bitwise XOR. -/
  | xor (awl : Fin 64) (d : Fin 16) (s1 : Fin 16) (s2 : Src2) (mv : Moves)
  /-- NOT (R240): Bitwise NOT. -/
  | not (awl : Fin 64) (d : Fin 16) (s1 : Fin 16) (mv : Moves)
  /-- MIN (R240): Signed minimum. -/
  | min (awl : Fin 64) (d : Fin 16) (s1 : Fin 16) (s2 : Src2) (mv : Moves)
  /-- MAX (R240): Signed maximum. -/
  | max (awl : Fin 64) (d : Fin 16) (s1 : Fin 16) (s2 : Src2) (mv : Moves)
  /-- CLIP (R222): Clip a register between two bounds. -/
  | clip (awl : Fin 64) (d : Fin 16) (s1 : Fin 16) (s2 : Src2) (mv : Moves)
  /-- ASL (R241): Saturating arithmetic shift left by register count. -/
  | asl (awl : Fin 64) (d : Fin 16) (s1 : Fin 16) (s2 : Src2) (mv : Moves)
  /-- ASR (R241): Arithmetic shift right by register count. -/
  | asr (awl : Fin 64) (d : Fin 16) (s1 : Fin 16) (s2 : Src2) (mv : Moves)
  /-- LSR (R241): Logical shift right by register count. -/
  | lsr (awl : Fin 64) (d : Fin 16) (s1 : Fin 16) (s2 : Src2) (mv : Moves)
  /-- NORM (R222): Count redundant sign bits of a D register. -/
  | norm (awl : Fin 64) (d : Fin 16) (s1 : Fin 16) (mv : Moves)
  /-- RCPS (R242): Reciprocal seed. -/
  | rcps (awl : Fin 64) (d : Fin 16) (s1 : Fin 16) (mv : Moves)
  /-- RSQS (R242): Reciprocal square root seed. -/
  | rsqs (awl : Fin 64) (d : Fin 16) (s1 : Fin 16) (mv : Moves)
  /-- SCS (R229): Packed cosine and sine of an angle from the table. -/
  | scs (awl : Fin 64) (d : Fin 16) (s1 : Fin 16) (mv : Moves)
  /-- CADD (R243): Packed complex saturating add. -/
  | cadd (awl : Fin 64) (d : Fin 16) (s1 : Fin 16) (s2 : Src2) (mv : Moves)
  /-- CSUB (R243): Packed complex saturating subtract. -/
  | csub (awl : Fin 64) (d : Fin 16) (s1 : Fin 16) (s2 : Src2) (mv : Moves)
  /-- CMP (R240): Set flags from the exact 32-bit difference. -/
  | cmp (awl : Fin 64) (s1 : Fin 16) (s2 : Src2) (mv : Moves)
  /-- TST (R240): Set flags from the AND of two operands. -/
  | tst (awl : Fin 64) (s1 : Fin 16) (s2 : Src2) (mv : Moves)
  /-- MPY (R223): Multiply into an accumulator, register or coefficient operand. -/
  | mpy (awl : Fin 64) (a : Fin 4) (s1 : Fin 16) (s2 : MulSrc) (mv : Moves)
  /-- MAC (R223): Multiply-accumulate with guard clamp. -/
  | mac (awl : Fin 64) (a : Fin 4) (s1 : Fin 16) (s2 : MulSrc) (mv : Moves)
  /-- MSU (R223): Multiply-subtract with guard clamp. -/
  | msu (awl : Fin 64) (a : Fin 4) (s1 : Fin 16) (s2 : MulSrc) (mv : Moves)
  /-- CMPY (R226): Complex multiply into an accumulator pair. -/
  | cmpy (awl : Fin 64) (a : Fin 2) (s1 : Fin 16) (s2 : MulSrc) (mv : Moves)
  /-- CMAC (R226): Complex multiply-accumulate. -/
  | cmac (awl : Fin 64) (a : Fin 2) (s1 : Fin 16) (s2 : MulSrc) (mv : Moves)
  /-- CMACJ (R226): Complex multiply-accumulate with the conjugate. -/
  | cmacj (awl : Fin 64) (a : Fin 2) (s1 : Fin 16) (s2 : MulSrc) (mv : Moves)
  /-- CLR (R240): Clear an accumulator. -/
  | clr (awl : Fin 64) (a : Fin 4) (mv : Moves)
  /-- MOV_E_LOAD (R240): Load an accumulator from a D register pair. -/
  | movELoad (awl : Fin 64) (a : Fin 4) (s1 : Fin 16) (s2 : Src2) (mv : Moves)
  /-- MOV_CONV (R224): Shift, round and saturate an accumulator into a D register or pair. -/
  | movConv (awl : Fin 64) (dst : DReg) (a : Fin 4) (k : Fin 64) (form : Option Moves)
  /-- MOV_CCONV (R228): Convert an accumulator pair into packed complex Q1.15. -/
  | movCconv (awl : Fin 64) (d : Fin 16) (a : Fin 2) (k : Fin 64) (form : Option Moves)
  /-- ADDI (R246): Saturating add immediate. -/
  | addi (awl : Fin 64) (d : Fin 16) (s1 : Fin 16) (v : Imm)
  /-- ADDWI (R246): Wrapping add immediate. -/
  | addwi (awl : Fin 64) (d : Fin 16) (s1 : Fin 16) (v : Imm)
  /-- ANDI (R246): AND immediate. -/
  | andi (awl : Fin 64) (d : Fin 16) (s1 : Fin 16) (v : Imm)
  /-- ORI (R246): OR immediate. -/
  | ori (awl : Fin 64) (d : Fin 16) (s1 : Fin 16) (v : Imm)
  /-- XORI (R246): XOR immediate. -/
  | xori (awl : Fin 64) (d : Fin 16) (s1 : Fin 16) (v : Imm)
  /-- LDI (R246): Load immediate. -/
  | ldi (awl : Fin 64) (d : Fin 16) (v : Imm)
  /-- CMPI (R246): Compare with immediate. -/
  | cmpi (awl : Fin 64) (s1 : Fin 16) (v : Imm)
  /-- TSTI (R246): Test with immediate. -/
  | tsti (awl : Fin 64) (s1 : Fin 16) (v : Imm)
  /-- ASLI (R241): Shift left by immediate. -/
  | asli (awl : Fin 64) (d : Fin 16) (s1 : Fin 16) (k : Fin 32)
  /-- ASRI (R241): Arithmetic shift right by immediate. -/
  | asri (awl : Fin 64) (d : Fin 16) (s1 : Fin 16) (k : Fin 32)
  /-- LSRI (R241): Logical shift right by immediate. -/
  | lsri (awl : Fin 64) (d : Fin 16) (s1 : Fin 16) (k : Fin 32)
  /-- NORM_E (R246): Count redundant sign bits of an accumulator. -/
  | normE (awl : Fin 64) (d : Fin 16) (a : Fin 4)
  /-- MOVG_READ (R246): Read the guard bits of an accumulator into D. -/
  | movgRead (awl : Fin 64) (d : Fin 16) (a : Fin 4)
  /-- MOVG_WRITE (R246): Load all 72 bits of an accumulator from D registers. -/
  | movgWrite (awl : Fin 64) (a : Fin 4) (g : Fin 16) (p : Fin 8)
  /-- ADDW_64 (R246): Wrapping 64-bit add. -/
  | addw64 (awl : Fin 64) (d p q : Fin 8)
  /-- SUBW_64 (R246): Wrapping 64-bit subtract. -/
  | subw64 (awl : Fin 64) (d p q : Fin 8)
  /-- ADD_64 (R246): Saturating 64-bit add. -/
  | add64 (awl : Fin 64) (d p q : Fin 8)
  /-- SUB_64 (R246): Saturating 64-bit subtract. -/
  | sub64 (awl : Fin 64) (d p q : Fin 8)
  /-- MOV_64 (R246): Move a D register pair. -/
  | mov64 (awl : Fin 64) (d p : Fin 8)
  /-- CMP_64 (R246): Set flags from the exact 64-bit difference. -/
  | cmp64 (awl : Fin 64) (p q : Fin 8)
  /-- MOVC_READ (R248): Read a control register into D. -/
  | movcRead (awl : Fin 64) (d : Fin 16) (cr : Fin 56)
  /-- MOVC_WRITE (R248): Write a control register from D or an immediate. -/
  | movcWrite (awl : Fin 64) (cr : Fin 56) (src : CtlSrc)
  /-- LD (R247): Local 32- or 64-bit load with addressing mode. -/
  | ld (awl : Fin 64) (dst : DReg) (ak : Fin 8) (mode : MemMode)
  /-- ST (R247): Local 32- or 64-bit store with addressing mode. -/
  | st (awl : Fin 64) (src : DReg) (ak : Fin 8) (mode : MemMode)
  /-- LDC (R246): Load a coefficient word through C0 or C1. -/
  | ldc (awl : Fin 64) (d : Fin 16) (j : Fin 2)
  /-- LDQ (R249): Post a register-form Bench-queue load. -/
  | ldq (awl : Fin 64) (q : Fin 16) (dst : QReg) (ak : Fin 8) (off : Imm)
  /-- STQ (R249): Post a register-form Bench-queue store. -/
  | stq (awl : Fin 64) (q : Fin 16) (src : QReg) (ak : Fin 8) (off : Imm)
  /-- LDQ_B (R249): Post a block Bench-queue load into local memory. -/
  | ldqB (awl : Fin 64) (q : Fin 16) (am : Fin 8) (ak : Fin 8) (off : Imm) (k : Fin 8)
  /-- STQ_B (R249): Post a block Bench-queue store from local memory. -/
  | stqB (awl : Fin 64) (q : Fin 16) (am : Fin 8) (ak : Fin 8) (off : Imm) (k : Fin 8)
  /-- WAITQ (R214): Wait on named queue entries and commit their load data. -/
  | waitq (awl : Fin 64) (mask : BitVec 16)
  /-- QUEUE_ENTRY_COMPLETE (R215): A Bench-queue access is performed at its target and the entry becomes DONE or FREE. -/
  | queueEntryComplete (awl : Fin 64)
  /-- ENDT (R216): End of task instance after all queue entries complete; the bank returns to Cinch. -/
  | endt (awl : Fin 64)
  /-- POST (R251): Signal a task stage to Cinch after queue completions. -/
  | post (awl : Fin 64) (j : Fin 4)
  /-- TRAP (R251): Raise the software exception n. -/
  | trap (awl : Fin 64) (k : BitVec 8)
  /-- RTE (R269): Return from exception by reloading state from the frame. -/
  | rte (awl : Fin 64)
  /-- BKPT (R251): Software breakpoint: halts under BKEN or raises an exception. -/
  | bkpt (awl : Fin 64) (k : BitVec 8)
  /-- BR (R253): Conditional branch with two delay slots. -/
  | br (awl : Fin 64) (cond : Fin 14) (off : BitVec 13)
  /-- CALL (R253): Branch writing the return address into a link register. -/
  | call (awl : Fin 64) (d : Fin 16) (off : BitVec 13)
  /-- JMP (R253): Conditional jump to a register address. -/
  | jmp (awl : Fin 64) (cond : Fin 14) (d : Fin 16)
  /-- LOOP (R260): Start a block repeat on the loop stack. -/
  | loop (awl : Fin 64) (cnt : Count) (e : LoopEnd)
  /-- REDO (R263): Repeat the next instruction a counted number of times. -/
  | redo (awl : Fin 64) (cnt : Count)
  /-- HALT_REQUEST (R271): A write of DBGCTL.HALT = 1 halts the Awl at an instruction boundary. -/
  | haltRequest (m : Fin 96) (awl : Fin 64)
  /-- HALT_RESUME (R271): A write of DBGCTL.HALT = 0 resumes the halted Awl. -/
  | haltResume (m : Fin 96) (awl : Fin 64)
  /-- DEBUG_STEP (R272): A write of DBGCTL.STEP issues one instruction and halts again. -/
  | debugStep (m : Fin 96) (awl : Fin 64)
  /-- HARDWARE_BREAKPOINT (R271): An armed breakpoint address halts the Awl before the instruction. -/
  | hardwareBreakpoint (awl : Fin 64)
  /-- DBGRDATA_ACCESS (R273): A DBGRDATA access reads or writes the selected register of a halted Awl. -/
  | dbgrdataAccess (m : Fin 96) (awl : Fin 64) (write : Option Word)
  /-- BLOCK_START (R72): PCTL.RUN written 1 in STOPPED runs the start check and takes claims, entering STARTING or staying STOPPED. -/
  | blockStart (m : Fin 96) (page : Fin 4096)
  /-- START_COMPLETE (R70): A block's start-up completes and it enters RUNNING. -/
  | startComplete (page : Fin 4096)
  /-- BLOCK_STOP (R70): PCTL.RUN written 0 moves a starting or running block to STOPPING. -/
  | blockStop (m : Fin 96) (page : Fin 4096)
  /-- STOP_COMPLETE (R70): A block's stop completes and it enters STOPPED, releasing its claims. -/
  | stopComplete (page : Fin 4096)
  /-- FAULT_REACTION_COMPLETE (R70): A FAULTED block with RUN 0 completes its fault reaction and enters STOPPED. -/
  | faultReactionComplete (page : Fin 4096)
  /-- EVTSET_WRITE (R75): Writing EVTSET sets event bits and raises the event request. -/
  | evtsetWrite (m : Fin 96) (page : Fin 4096) (v : Word)
  /-- ECAP_CLEAR (R76): Writing all ones to ECAP0 clears the capture and re-arms it. -/
  | ecapClear (m : Fin 96) (page : Fin 4096)
  /-- COUNTER_READ (R5): Reading an RC counter returns and clears it. -/
  | counterRead (m : Fin 96) (page : Fin 4096) (off : Fin 4096)
  /-- REGISTER_WRITE (R72): A write to a register without its own row updates RW fields, applies W1C and RWS rules. -/
  | registerWrite (m : Fin 96) (addr : Word) (bytes : List Byte)
  /-- CALIBRATION_START (R81): CALCTL.START written in STOPPED runs one calibration of the shell. -/
  | calibrationStart (m : Fin 96) (page : Fin 4096) (k : Fin 30)
  /-- CALIBRATION_DONE (R365): A calibration run completes, updating CALRES or setting FAIL. -/
  | calibrationDone (page : Fin 4096) (k : Fin 30) (ok : Bool) (res0 : Word) (res1 : Word) (err : BitVec 8)
  /-- PWR_TARGET_WRITE (R50): A write to PWR.TARGET is checked whole and either refused or starts switching domains. -/
  | pwrTargetWrite (m : Fin 96) (v : Word)
  /-- POWER_STEP_DONE (R49): One domain finishes switching on, with memory zeroed, or off, and the next step begins. -/
  | powerStepDone
  /-- CLOCK_MONITOR_MEASURE (R45): A watch-oscillator measurement of TCLK completes and may raise 0x0302. -/
  | clockMonitorMeasure (count : BitVec 16)
  /-- PLL_LOSS_OF_LOCK (R46): The root PLL loses lock, raising 0x0301. -/
  | pllLossOfLock
  /-- PLL_RELOCK (R46): The root PLL regains lock and LOCK returns to 1. -/
  | pllRelock
  /-- PCIE_REFCLK_LOSS (R47): The PCIe reference is absent, raising 0x0303. -/
  | pcieRefclkLoss
  /-- SCRUB_SLOT (R41): The scrubber reads, corrects and writes back one word. -/
  | scrubSlot
  /-- ERROR_INJECT_ARM (R64): A write to ECC.INJCTL arms or disarms error injection on a word. -/
  | errorInjectArm (m : Fin 96) (v : Word)
  /-- HOST_BAR2_ACCESS (R458): A host memory TLP to BAR2 is performed on the fabric through the host gate. -/
  | hostBar2Access (addr : Word) (size : Nat) (write : Option (List (Option Byte)))
  /-- RATE_WRITE (R145): A write to TIME.RATE rebases and changes the rate at one TCLK edge, or is refused. -/
  | rateWrite (m : Fin 96) (v : Word)
  /-- OFFLO_WRITE (R146): A write to OFFLO stages the low OFFSET word. -/
  | offloWrite (m : Fin 96) (v : Word)
  /-- OFFHI_WRITE (R146): A write to OFFHI commits a new OFFSET, or is refused. -/
  | offhiWrite (m : Fin 96) (v : Word)
  /-- STEPLO_WRITE (R146): A write to STEPLO stages the low step word. -/
  | steploWrite (m : Fin 96) (v : Word)
  /-- STEPHI_WRITE (R146): A write to STEPHI adds the step to OFFSET, or is refused. -/
  | stephiWrite (m : Fin 96) (v : Word)
  /-- NOWLO_READ (R149): Reading NOWLO captures a time snapshot for the reading master. -/
  | nowloRead (m : Fin 96)
  /-- OFFLO_READ (R158): Reading OFFLO latches OFFHI for the reading master. -/
  | offloRead (m : Fin 96)
  /-- RREFLO_READ (R158): Reading RREFLO latches RREFHI for the reading master. -/
  | rrefloRead (m : Fin 96)
  /-- CYCLO_READ (R134): Reading GIRTH.CYCLO latches CYCHI for the reading master. -/
  | cycloRead (m : Fin 96)
  /-- TGTLO_READ (R160): Reading a time pin's TGTLO latches TGTHI for the reading master. -/
  | tgtloRead (m : Fin 96) (k : Fin 8)
  /-- PIN_ARM (R154): Writing CTL.ARM = 1 arms a time pin, or sets LATE or CFGREJ. -/
  | pinArm (m : Fin 96) (k : Fin 8) (v : Word)
  /-- PIN_DISARM (R154): Writing CTL.ARM = 0 disarms a time pin. -/
  | pinDisarm (m : Fin 96) (k : Fin 8) (v : Word)
  /-- PIN_FIRE (R155): An armed pin fires when T64 reaches TARGET and starts its pulse. -/
  | pinFire (k : Fin 8)
  /-- PULSE_END (R155): A time pin pulse ends after WIDTH ticks. -/
  | pulseEnd (k : Fin 8)
  /-- PLANT_FRAME_RECEIVE (R150): A plant-port frame is stamped and written to a receive descriptor or dropped. -/
  | plantFrameReceive (x : Fin 2) (bytes : List Byte) (fcsOk : Bool) (startBit : Nat)
  /-- TETHER_SYNC_SEND (R377): Latigo sends TETHER-SYNC at SYNCT. -/
  | tetherSyncSend
  /-- TETHER_SYNC_RECEIVE (R381): A twin TETHER-SYNC updates time servo, lock, acknowledgements and comparison. -/
  | tetherSyncReceive (f : RxFrame)
  /-- TETHER_COLDSTART_SEND (R379): An unpaired device sends COLDSTART on L0 every Tc. -/
  | tetherColdstartSend
  /-- COLDSTART_RECEIVE (R379): A twin COLDSTART decides roles or a pair configuration fault. -/
  | coldstartReceive (f : RxFrame)
  /-- ARRIVE_SEND (R385): Latigo sends ARRIVE with the delivered-port map at ARRT. -/
  | arriveSend
  /-- ARRIVE_RECEIVE (R385): A twin ARRIVE is recorded for self-caused judgement. -/
  | arriveReceive (f : RxFrame)
  /-- CMD_RECEIVE (R384): The follower writes forwarded entries into its ring or declares a gap. -/
  | cmdReceive (f : RxFrame)
  /-- RREQ (R388): A copy request makes the source send RCOPY and RBLOCK copies. -/
  | rreq (f : RxFrame)
  /-- RCOPY_RECEIVE (R388): An axis copy is received and held for installation or discarded late. -/
  | rcopyReceive (f : RxFrame) (image : Machine.Pg)
  /-- RBLOCK_RECEIVE (R388): A shared-block, group or virtual-master image piece is received. -/
  | rblockReceive (f : RxFrame) (image : Machine.GenImage)
  /-- COPY_INSTALL (R388): A received copy is installed at the end of its cycle and last Awls cleared. -/
  | copyInstall (kind : Fin 4) (index : Nat)
  /-- TETHER_LOSS (R390): TLOST cycles without TETHER-SYNC mean tether loss; the follower enters SOLO or HOLDOVER. -/
  | tetherLoss
  /-- HOLDOVER_LIMIT (R390): After HOLDLIM cycles of HOLDOVER the follower goes SILENT. -/
  | holdoverLimit
  /-- HANDOVER_WRITE (R392): Writing CTL.HANDOVER announces a role exchange 16 cycles ahead, or is refused. -/
  | handoverWrite (m : Fin 96)
  /-- ROLE_EXCHANGE (R392): At CWSTART of the handover cycle leader and follower exchange roles. -/
  | roleExchange
  /-- SOLO_WRITE (R393): Writing CTL.SOLO enters SOLO when the conditions hold. -/
  | soloWrite (m : Fin 96)
  /-- TRATE_WRITE (R381): A host write of LAT.TRATE is copied into TIME.RATE by the leader's Latigo. -/
  | trateWrite (m : Fin 96) (v : Word)
  /-- ARM (R404): Stamp CTL.ARM starts an acquisition in QWAIT. -/
  | arm (m : Fin 96) (n : Fin 16)
  /-- FORCE (R404): Stamp CTL.FORCE sets a pending FORCE trigger. -/
  | force (m : Fin 96) (n : Fin 16)
  /-- ABORT (R404): Stamp CTL.ABORT releases the slot in progress and enters IDLE. -/
  | abort (m : Fin 96) (n : Fin 16)
  /-- RELEASE (R402): Writing RELEASE frees the oldest held Stamp slots. -/
  | release (m : Fin 96) (n : Fin 16) (count : BitVec 16)
  /-- QUOTA_WRITE (R402): Writing QUOTA changes the Stamp byte quota at once. -/
  | quotaWrite (m : Fin 96) (n : Fin 16) (v : Word)
  /-- EVALUATION (R422): Buckle evaluates every safety function and forms the STO word every 125 µs. -/
  | evaluation (upset : Bool := false)
  /-- DISCREPANCY_LOCK (R422): A discrepancy count reaching DISC locks the function. -/
  | discrepancyLock (n : Fin 16)
  /-- TWO_HAND_TIMEOUT (R423): A two-hand count reaching 4,000 without the other hand gives RELEASE. -/
  | twoHandTimeout (n : Fin 16)
  /-- RESET_STUCK (R424): A reset input active for 24,001 evaluations raises 0x8103. -/
  | resetStuck (n : Fin 16)
  /-- SELF_TEST (R417): The self-test vector set runs every 128 evaluations. -/
  | selfTest (pass : Bool)
  /-- CONFIG_CRC_PASS (R417): The running safety configuration CRC is recomputed every 1,024 evaluations. -/
  | configCrcPass
  /-- INPUT_TEST_PULSE (R428): A test source is pulsed off and its input must read safe. -/
  | inputTestPulse (sf : Fin 16) (ch2 : Bool)
  /-- OUTPUT_TEST_PULSE (R429): A safety output is switched off for 2 evaluations every OTPER. -/
  | outputTestPulse (n : Fin 16)
  /-- MANAGEMENT_FRAME (R440): A management frame crosses the barrier every 10 µs in each direction. -/
  | managementFrame (result : Fin 3) (crossed : Bool := true)
  /-- FIELD_LINK_LOSS (R440): 16 missing management frames lose the link, faulting FLD with 0x9001. -/
  | fieldLinkLoss
  /-- INPUT_SAMPLE (R443): A field input is sampled and classed OFF, ON, BREAK or TRANS. -/
  | inputSample (n : Fin 32) (microamp : Nat) (millivolt : Nat)
  /-- OUTPUT_REFRESH (R440): An output coupler carries a refresh of its commanded level. -/
  | outputRefresh (n : Fin 16) (crossed : Bool)
  /-- READBACK (R446): The field die reads back each output every 10 µs and judges EXTHIGH. -/
  | readback (above : BitVec 16) (below : BitVec 16)
  /-- THERMAL_SHUTDOWN (R446): A shorted output's thermal shutdown turns it off, raising 0x9201. -/
  | thermalShutdown (n : Fin 16)
  /-- RETRY (R446): After 100 ms a shut-down channel still commanded on is switched on again. -/
  | retry (n : Fin 16)
  /-- OPEN_LOAD (R446): Current below 2 mA for 10 ms sets OPENLD and raises 0x9203. -/
  | openLoad (n : Fin 16) (low : Bool)
  /-- SAFE_STATE_TIMEOUT (R448): No refresh or management frame for TSAFE ms puts a channel in its safe state. -/
  | safeStateTimeout (n : Fin 16)
  /-- SAFEACT_RELEASE (R449): A host write of 1 to SAFEACT releases a channel from its safe state, or is refused. -/
  | safeactRelease (m : Fin 96) (mask : BitVec 16)
  /-- VFLD_MEASURE (R450): The field die measures VFLD and temperature and switches outputs off on undervoltage or overtemperature. -/
  | vfldMeasure (millivolt : Nat) (kelvin : Nat)
  /-- QUADRATURE_STEP (R348): A filtered quadrature change counts, absorbs or is an illegal step. -/
  | quadratureStep (n : Fin 16) (a b : Bool) (k : Nat := 1)
  /-- HALL_CODE_CHANGE (R349): A filtered Hall code change counts a step or is counted bad or illegal. -/
  | hallCodeChange (n : Fin 16) (code : Fin 8) (k : Nat := 1)
  /-- INDEX_CAPTURE (R354): A rising index captures the counter into ZCAP. -/
  | indexCapture (n : Fin 16) (z : Bool := true) (k : Nat := 1)
  /-- ILLEGAL_STEP_FAULT (R351): Illegal steps in the window reaching ILLMAX fault the channel. -/
  | illegalStepFault (n : Fin 16)
  /-- SERIAL_TRANSFER_DONE (R356): A serial transfer is checked and updates the counter or counts a failure. -/
  | serialTransferDone (n : Fin 16) (idle : Bool) (bits : BitVec 64)
  /-- SERIAL_FAULT (R356): SERMAX consecutive failed transfers raise 0x6102 and fault the channel. -/
  | serialFault (n : Fin 16)
  /-- CONVERSION_DONE (R362): An analog conversion completes and its sample word is formed. -/
  | conversionDone (n : Fin 16) (raw : BitVec 12)
  /-- CONTINUOUS_SLOT (R363): A continuous-conversion slot starts a conversion or is skipped. -/
  | continuousSlot (n : Fin 16)
  /-- AUXILIARY_CONVERSION (R363): An auxiliary compare activation starts a conversion or is dropped. -/
  | auxiliaryConversion (n : Fin 16)
  /-- OUTVAL_WRITE (R364): A write to OUTVAL drives a FREE output channel within 64 ticks. -/
  | outvalWrite (m : Fin 96) (n : Fin 16) (v : Word)
  /-- MONITOR_CONVERSION (R366): A monitor channel is converted every 100 µs and checked against its limits. -/
  | monitorConversion (k : Fin 8) (value : BitVec 16)
  /-- PERIOD_START (R332): A Stitch period begins, taking its length and initial leg states. -/
  | periodStart (n : Fin 8)
  /-- COMPARE_MATCH (R333): The period time reaches a compare value and the leg signal changes. -/
  | compareMatch (n : Fin 8) (ns : Nat)
  /-- DEAD_TIME_END (R331): A switch turns on after DT of steady leg signal. -/
  | deadTimeEnd (n : Fin 8) (leg : Fin 3)
  /-- AUX_CHANNEL_ACTIVATE (R341): An auxiliary compare channel becomes active or inactive. -/
  | auxChannelActivate (n : Fin 8) (k : Fin 4) (ns : Nat)
  /-- TRIP_INPUT (R335): A selected unblanked filtered trip input sets the latch and turns all switches off. -/
  | tripInput (n : Fin 8) (levels : BitVec 8) (k : Nat := 1)
  /-- BLANK_WINDOW_END (R336): At the end of blanking a still-active trip sets the latch. -/
  | blankWindowEnd (n : Fin 8)
  /-- TRIP_CLEAR (R337): Writing TRIPSTAT.LATCH = 1 clears the trip latch or is refused. -/
  | tripClear (m : Fin 96) (n : Fin 8)
  /-- PERIOD_WRITE (R332): A write to PERIOD takes effect at the next period start. -/
  | periodWrite (m : Fin 96) (n : Fin 8) (v : Word)
  /-- COMPARE_WRITE (R333): A write to LEGx changes RISE and FALL for later compares. -/
  | compareWrite (m : Fin 96) (n : Fin 8) (leg : Fin 3) (v : Word)
  /-- LEGOFF_WRITE (R333): A write to LEGOFF forces legs off from that tick. -/
  | legoffWrite (m : Fin 96) (n : Fin 8) (v : Word)
  /-- HALT_N_RISE (R340): HALT_N returning high unfreezes Stitch at the next period start. -/
  | haltNRise
  /-- HOST_RESET (R459): A host-side reset resets the PCIe core, HOST and MSIX pages and aborts DMA. -/
  | hostReset (kind : Fin 4)
  /-- REARM_WRITE (R461): Writing MSIX.REARM re-arms vectors and resends if requests are active. -/
  | rearmWrite (m : Fin 96) (half : Fin 2) (v : Word)
  /-- TAIL_WRITE (R462): A write to DMA TAIL hands descriptors to the channel or is refused. -/
  | tailWrite (m : Fin 96) (k : Fin 8) (index : BitVec 12)
  /-- DMA_DESCRIPTOR (R464): A DMA channel serves the descriptor at HEAD and writes it back with a status. -/
  | dmaDescriptor (k : Fin 8) (pcie : Option (List Byte)) (startBit : Nat)
  /-- GATE_RELEASE (R470): Writing 1 to GATE STAT.FROZEN releases a frozen master to STOPPED, or is refused. -/
  | gateRelease (m : Fin 96) (gate : Fin 96)
  /-- WINDOW_WRITE (R471): A write to a gate window register changes the master's window or is refused. -/
  | windowWrite (m : Fin 96) (gate : Fin 96) (k : Fin 8) (ctl : Bool) (v : Word)
  /-- POR_N_FALL (R479): POR_N low resets the whole controller die. -/
  | porNFall
  /-- POWER_ON_RESET (R480): POR_N rising latches the straps and starts the boot loader. -/
  | powerOnReset (refmode bootsrc : Bool) (pairid : Fin 8) (tacksel : Fin 4)
  /-- BOOT_COMPLETE (R485): The loader finishes an image, verifies it or fails over, and on success starts TACK. -/
  | bootComplete (image : List Byte) (unreadable : Option Nat)
  /-- HOST_LOAD_GO (R487): Writing HLCTL.GO starts installation of a host-loaded image. -/
  | hostLoadGo (m : Fin 96)
  /-- OTP_PROGRAM (R482): Writing OTPCTL.PROG blows OTP bits of a word, or is refused. -/
  | otpProgram (m : Fin 96) (v : Word)
  /-- TACK_SWITCH (R488): Writing TACK.CTL.SWITCH requests a switch to a stored tack set. -/
  | tackSwitch (m : Fin 96) (tsel : Fin 4)
  /-- TACKSEL_PIN_REQUEST (R488): TACKSEL pins held at a new value for PINDEB ms request a switch. -/
  | tackselPinRequest (pins : Fin 4)
  /-- TACK_STOP_DONE (R492): With every switched page stopped, the engine writes PWR.TARGET for the new set. -/
  | tackStopDone
  /-- TACK_POWER_DONE (R492): Power settled, the engine writes the register list, axis map and data blocks and starts the pages. -/
  | tackPowerDone
  /-- TACK_DEFERRED_START (R493): A deferred start-list page starts once its prerequisite is RUNNING. -/
  | tackDeferredStart
  /-- TEMPERATURE_WARNING (R507): A die sensor above TWARN raises 0x0601. -/
  | temperatureWarning (kelvin : Nat := 0x10000)
  /-- TEMPERATURE_SHUTDOWN (R507): A die temperature above 125 °C raises class-D fault 0x0602. -/
  | temperatureShutdown
  /-- SUPPLY_OUT_OF_WINDOW (R507): A supply outside its window for more than 2 µs raises class-D fault 0x0603. -/
  | supplyOutOfWindow (supply : Fin 5)
  /-- ILLEGAL_INSTRUCTION (R257): An Awl issues a reserved encoding, which has no effect and raises the illegal-instruction exception. -/
  | illegalInstruction (awl : Fin 64) (word : Word) (ext : Word)
  /-- PCIE_REFCLK_RETURN (R47): The PCIe reference clock returns, PLLSTAT.PCIEREF reads 1 and the host interface can run again. -/
  | pcieRefclkReturn
  /-- PCIE_LINK_UP (R473): The PCIe link trains and enters L0, setting LINKSTAT.UP and making PD_HOST unswitchable under R50. -/
  | pcieLinkUp (gen : Nat) (width : Nat)
  /-- PCIE_POWER_STATE_CHANGE (R458): A configuration write moves the function between D0 and D3hot, stopping or resuming DMA descriptor fetches. -/
  | pciePowerStateChange (d3 : Bool)
  /-- PLANT_LINK_CHANGE (R476): A plant port's link goes up or down, changing MACSTAT.LINK and whether transmit descriptors are sent or written back NOTSENT. -/
  | plantLinkChange (x : Fin 2) (up : Bool)
  /-- TETHER_LANE_SYNC_CHANGE (R376): A tether lane gains or loses Clause 36 sync, moving LAT from STARTING and rerouting all tether traffic onto the other lane. -/
  | tetherLaneSyncChange (lane : Fin 2) (up : Bool)
  /-- PAIRING_LISTEN_TIMEOUT (R379): A device that became follower and heard no leader TETHER-SYNC for 3 cycles returns to UNPAIRED. -/
  | pairingListenTimeout
  /-- INSTANCE_BUDGET_PASSED (R163): A task instance's execution time passes its descriptor BUDGET and is counted once in OVERBUD. -/
  | instanceBudgetPassed (awl : Fin 64)
  /-- OTP_PROGRAM_DONE (R482): OTP programming of a word completes within 1 ms and OTPCTL.BUSY falls. -/
  | otpProgramDone
  /-- TEMPERATURE_WARNING_REARM (R507): The die temperature falls 5 K below TWARN and the warning comparator re-arms. -/
  | temperatureWarningRearm (kelvin : Nat := 0)
  /-- SHELL_MONITOR_MEASURE (R81): An enabled analog shell monitor updates MONVAL and sets MONSTAT ABOVE or BELOW against MONLIM. -/
  | shellMonitorMeasure (page : Fin 4096) (k : Fin 30) (value : BitVec 16)
  /-- DEBUG_PORT_ACCESS (R536): An access by the debug port, master 92, is checked against GATE92 and performed or refused. -/
  | debugPortAccess (addr : Word) (size : Nat) (write : Option (List Byte))
  /-- CODE_GROUP_ERROR (R112): A node port receives a code-group or disparity error, or a /C/, outside a frame and counts it in CGERR. -/
  | codeGroupError (n : Fin 32)
deriving DecidableEq, Repr

end Sys2Proof
end

