-- ==== Sys2Proof/Decode.lean ====
section
/-! DEFINITION. The command a word of the table spells.  The rows of this block's table give no bits, so no word spells a command. -/
namespace Sys2Proof

/-- A row of the table that gives bits: its width, the bits that are fixed, their values, and the command. -/
structure BitRow where
  nbits : Nat
  mask : Nat
  bits : Nat
  command : Instr
deriving DecidableEq, Repr

/-- The rows that give bits: none. -/
def bitRows : List BitRow := []

/-- The command the word `w` of `nbits` bits spells. -/
def decodeTableWord (nbits w : Nat) : Option Instr :=
  (bitRows.find? fun r => r.nbits == nbits && w &&& r.mask == r.bits).map (·.command)

end Sys2Proof
end

