-- ==== Sys2Proof/Machine/Bits.lean ====
section
/-! DEFINITION. Bit fields, sign extension, byte order, saturation: the plain helpers every meaning uses. -/
namespace Sys2Proof.Machine

/-- Bits `[hi:lo]` of a number (bit ranges are written high bit first, 00_scope). -/
def bitsOf (v hi lo : Nat) : Nat := (v / 2 ^ lo) % 2 ^ (hi + 1 - lo)

/-- Bit `i` of a number. -/
def bitOf (v i : Nat) : Bool := v.testBit i

/-- The number with bit `i` set. -/
def withBit (v i : Nat) : Nat := v ||| 2 ^ i

/-- The number with bit `i` cleared. -/
def withoutBit (v i : Nat) : Nat := if v.testBit i then v - 2 ^ i else v

/-- The mask of a register field. -/
def Fld.mask (f : Fld) : Word := BitVec.ofNat 32 (2 ^ f.lo * (2 ^ (f.hi + 1 - f.lo) - 1))

/-- The value of a field in a register word. -/
def Fld.get (f : Fld) (w : Word) : Nat := bitsOf w.toNat f.hi f.lo

/-- The register word with a field replaced by the low bits of `v`. -/
def Fld.put (f : Fld) (v : Nat) (w : Word) : Word :=
  (w &&& ~~~f.mask) ||| (BitVec.ofNat 32 (2 ^ f.lo * v) &&& f.mask)

/-- The two's-complement value of the low `n` bits of `v`. -/
def toSigned (n v : Nat) : Int := (BitVec.ofNat n v).toInt

/-- The low `n` bits of the two's-complement form of an integer. -/
def ofSigned (n : Nat) (i : Int) : Nat := (BitVec.ofInt n i).toNat

/-- An integer clamped to the signed range of `n` bits. -/
def clampSigned (n : Nat) (i : Int) : Int := max (-(2 ^ (n - 1) : Int)) (min (2 ^ (n - 1) - 1) i)

/-- `a` modulo 2^64. -/
def wrap64 (a : Nat) : Nat := a % 2 ^ 64

/-- A 32-bit counter that saturates at 0xFFFF_FFFF (R33). -/
def satInc (w : Word) : Word := if w = 0xFFFFFFFF#32 then w else w + 1

/-- `n` counts of a saturating 32-bit counter (R33). -/
def satAdd (w : Word) (n : Nat) : Word := BitVec.ofNat 32 (min 0xFFFFFFFF (w.toNat + n))

/-- The number a little-endian list of bytes spells (R4). -/
def leToNat : List Byte → Nat
  | [] => 0
  | b :: bs => b.toNat + 256 * leToNat bs

/-- The `n` little-endian bytes of a number (R4). -/
def leBytes : Nat → Nat → List Byte
  | 0, _ => []
  | n + 1, v => BitVec.ofNat 8 v :: leBytes n (v / 256)

/-- The number a list of bytes spells, the first byte the most significant. -/
def beToNat (bs : List Byte) : Nat := leToNat bs.reverse

/-- The `n` bytes of a number, the most significant first. -/
def beBytes (n v : Nat) : List Byte := (leBytes n v).reverse

/-- The number of ones among the low `n` bits of `v`. -/
def popCount : Nat → Nat → Nat
  | 0, _ => 0
  | n + 1, v => v % 2 + popCount n (v / 2)

/-- Arithmetic shift right of an integer, toward minus infinity. -/
def asrInt (i : Int) (n : Nat) : Int := Int.fdiv i (2 ^ n)

/-- Bytes `[off, off + n)` of a list, missing bytes read as 0. -/
def slice (bs : List Byte) (off n : Nat) : List Byte := (List.range n).map fun i => bs.getD (off + i) 0

/-- The little-endian number in bytes `[off, off + n)` of a list. -/
def fieldAt (bs : List Byte) (off n : Nat) : Nat := leToNat (slice bs off n)

end Sys2Proof.Machine
end

