-- ==== Sys2Proof/Machine/Flags.lean ====
section
/-! DEFINITION. The arithmetic of an Awl on D registers, pairs and accumulators, each with the flags it sets (R219–R229, R240–R246). -/
namespace Sys2Proof.Machine

/-- What an operation does to the flags: `none` leaves a flag unchanged; SV and SG are only ever set (R207). -/
structure Fl where
  z : Option Bool := none
  n : Option Bool := none
  c : Option Bool := none
  v : Option Bool := none
  sv : Bool := false
  sg : Bool := false
deriving DecidableEq, Repr

/-- Saturation of an integer to `n` signed bits (R220), and whether it was needed. -/
def satTo (n : Nat) (x : Int) : BitVec n × Bool := (BitVec.ofInt n (clampSigned n x), decide (clampSigned n x ≠ x))

/-- Flags of a saturating result with a carry. -/
def flSat {n : Nat} (r : BitVec n) (c v : Bool) : Fl :=
  { z := some (r == 0), n := some r.msb, c := some c, v := some v, sv := v }

/-- Flags of a wrapping result: overflow sets V but not SV (R221). -/
def flWrap {n : Nat} (r : BitVec n) (c v : Bool) : Fl := { z := some (r == 0), n := some r.msb, c := some c, v := some v }

/-- Carry out of an unsigned sum. -/
def carryOf {n : Nat} (a b : BitVec n) : Bool := decide (2 ^ n ≤ a.toNat + b.toNat)

/-- Borrow of an unsigned difference. -/
def borrowOf {n : Nat} (a b : BitVec n) : Bool := decide (a.toNat < b.toNat)

/-- Saturating add (R240). -/
def addSat {n : Nat} (a b : BitVec n) : BitVec n × Fl :=
  let r := satTo n (a.toInt + b.toInt)
  (r.1, flSat r.1 (carryOf a b) r.2)

/-- Saturating subtract (R240). -/
def subSat {n : Nat} (a b : BitVec n) : BitVec n × Fl :=
  let r := satTo n (a.toInt - b.toInt)
  (r.1, flSat r.1 (borrowOf a b) r.2)

/-- Wrapping add (R221). -/
def addWrap {n : Nat} (a b : BitVec n) : BitVec n × Fl :=
  (a + b, flWrap (a + b) (carryOf a b) (satTo n (a.toInt + b.toInt)).2)

/-- Wrapping subtract (R221). -/
def subWrap {n : Nat} (a b : BitVec n) : BitVec n × Fl :=
  (a - b, flWrap (a - b) (borrowOf a b) (satTo n (a.toInt - b.toInt)).2)

/-- Flags of the exact difference (CMP, R240). -/
def cmpFl {n : Nat} (a b : BitVec n) : Fl :=
  { z := some (a == b), n := some (a.slt b), c := some (borrowOf a b), v := some false }

/-- A result with Z and N, C and V cleared. -/
def logic (r : Word) : Word × Fl := (r, flSat r false false)

/-- ASL (R241). -/
def shiftLeft (a : Word) (n : Nat) : Word × Fl :=
  let r := satTo 32 (a.toInt * 2 ^ n)
  (r.1, flSat r.1 false r.2)

/-- ASR (R241). -/
def shiftRight (a : Word) (n : Nat) : Word × Fl :=
  let r := a.sshiftRight (min n 31)
  (r, flWrap r (if n = 0 then false else if n ≤ 31 then a.getLsbD (n - 1) else a.msb) false)

/-- LSR (R241). -/
def shiftLogical (a : Word) (n : Nat) : Word × Fl :=
  let r := a >>> n
  (r, flWrap r (decide (1 ≤ n ∧ n ≤ 32) && a.getLsbD (n - 1)) false)

/-- A packed complex word of two parts (R219). -/
def packed (re im : BitVec 16) : Word := re ++ im

/-- The real part of a packed word. -/
def reOf (a : Word) : BitVec 16 := a.extractLsb' 16 16

/-- The imaginary part of a packed word. -/
def imOf (a : Word) : BitVec 16 := a.extractLsb' 0 16

/-- CADD and CSUB: each part saturated on its own (R243). -/
def packedOp (f : Int → Int → Int) (a b : Word) : Word × Fl :=
  let re := satTo 16 (f (reOf a).toInt (reOf b).toInt)
  let im := satTo 16 (f (imOf a).toInt (imOf b).toInt)
  let v := re.2 || im.2
  (packed re.1 im.1, { z := some (re.1 == 0 && im.1 == 0), n := some re.1.msb, c := some false, v := some v, sv := v })

/-- CLIP x, lo, hi (R222). -/
def clipOp (x lo hi : Word) : Word × Fl :=
  let y := if x.slt lo then lo else x
  let r := if hi.slt y then hi else y
  (r, flSat r false (r != x))

/-- The two-source operations of R240; `old` is Dd before the instruction, read by CLIP alone. -/
def binOp (op : BinOp) (old a b : Word) : Word × Fl :=
  match op with
  | .add => addSat a b
  | .sub => subSat a b
  | .addw => addWrap a b
  | .subw => subWrap a b
  | .and => logic (a &&& b)
  | .or => logic (a ||| b)
  | .xor => logic (a ^^^ b)
  | .min => logic (if b.slt a then b else a)
  | .max => logic (if a.slt b then b else a)
  | .clip => clipOp old a b
  | .asl => shiftLeft a (b.toNat % 64)
  | .asr => shiftRight a (b.toNat % 64)
  | .lsr => shiftLogical a (b.toNat % 64)
  | .cadd => packedOp (· + ·) a b
  | .csub => packedOp (· - ·) a b

/-- The number of redundant sign bits of an `n`-bit word (R222): n − 1 for 0 and for −1. -/
def redundant {n : Nat} (a : BitVec n) : Nat :=
  ((List.range (n - 1)).find? fun i => a.getLsbD (n - 2 - i) != a.msb).getD (n - 1)

/-- The centre of the interval of 2^18 that holds a seed's operand (R242). -/
def seedCentre (x : Word) : Nat := 2 ^ 18 * bitsOf x.toNat 30 18 + 2 ^ 17

/-- RCPS (R242). -/
def rcps (x : Word) : Word × Fl :=
  if 0x40000000 ≤ x.toNat ∧ x.toNat ≤ 0x7FFFFFFF then
    (BitVec.ofNat 32 ((2 ^ 61 + seedCentre x / 2) / seedCentre x), { v := some false })
  else (0x7FFFFFFF, { v := some true, sv := true })

/-- The integer square root of a number below 4^bits, one bit of the root at a time. -/
def rootOf (bits n : Nat) : Nat :=
  (List.range bits).reverse.foldl (fun r i => if (r + 2 ^ i) * (r + 2 ^ i) ≤ n then r + 2 ^ i else r) 0

/-- RSQS (R242): the integer nearest to 2^30·√(2^31 / xm). -/
def rsqs (x : Word) : Word × Fl :=
  if 0x20000000 ≤ x.toNat ∧ x.toNat ≤ 0x7FFFFFFF then
    (BitVec.ofNat 32 ((rootOf 40 (2 ^ 93 / seedCentre x) + 1) / 2), { v := some false })
  else (0x7FFFFFFF, { v := some true, sv := true })

/-- A real product in the mode of SR.FM (R223), with the saturation of its single case. -/
def realProduct (fm : Bool) (a b : Word) : Int × Bool :=
  let p := a.toInt * b.toInt
  if fm then (if 2 * p = 2 ^ 63 then (2 ^ 63 - 1, true) else (2 * p, false)) else (p, false)

/-- MPY, MAC and MSU (R223, R225). -/
def mulOp (op : MulOp) (fm : Bool) (e : BitVec 72) (a b : Word) : BitVec 72 × Fl :=
  let (p, s) := realProduct fm a b
  match op with
  | .mpy => (BitVec.ofInt 72 p, { v := some s, sv := s })
  | .mac => let r := satTo 72 (e.toInt + p); (r.1, { v := some (s || r.2), sv := s || r.2, sg := r.2 })
  | .msu => let r := satTo 72 (e.toInt - p); (r.1, { v := some (s || r.2), sv := s || r.2, sg := r.2 })

/-- One part of a complex accumulation (R227): the sum in 40 bits, whether it was clamped, and whether the accumulator had to be
clamped before. -/
def accPart (e : BitVec 72) (p : Int) : BitVec 72 × Bool × Bool :=
  let a := clampSigned 40 e.toInt
  let r := clampSigned 40 (a + p)
  (BitVec.ofInt 72 r, decide (r ≠ a + p), decide (a ≠ e.toInt))

/-- CMPY, CMAC and CMACJ on an accumulator pair (R226, R227).  An accumulator already outside the 40-bit range sets SV and SG
when it is read (R240), V follows the sum alone. -/
def cmulOp (op : CMulOp) (re im : BitVec 72) (a b : Word) : BitVec 72 × BitVec 72 × Fl :=
  let ar := (reOf a).toInt; let ai := (imOf a).toInt
  let br := (reOf b).toInt; let bi := (imOf b).toInt
  match op with
  | .cmpy => (BitVec.ofInt 72 (ar * br - ai * bi), BitVec.ofInt 72 (ar * bi + ai * br), { v := some false })
  | .cmac =>
    let (x, vx, gx) := accPart re (ar * br - ai * bi)
    let (y, vy, gy) := accPart im (ar * bi + ai * br)
    (x, y, { v := some (vx || vy), sv := vx || vy || gx || gy, sg := vx || vy || gx || gy })
  | .cmacj =>
    let (x, vx, gx) := accPart re (ar * br + ai * bi)
    let (y, vy, gy) := accPart im (ai * br - ar * bi)
    (x, y, { v := some (vx || vy), sv := vx || vy || gx || gy, sg := vx || vy || gx || gy })

/-- The shifted and rounded value of a conversion (R224). -/
def convShift (rnd : Bool) (e : BitVec 72) (k : Nat) : Int :=
  asrInt (e.toInt + if rnd || k == 0 then 0 else 2 ^ (k - 1)) k

/-- A conversion into `n` bits (R224). -/
def convTo (n : Nat) (rnd : Bool) (e : BitVec 72) (k : Nat) : BitVec n × Fl :=
  let r := satTo n (convShift rnd e k)
  (r.1, { v := some r.2, sv := r.2 })

/-- The complex conversion (R228). -/
def convPacked (rnd : Bool) (re im : BitVec 72) (k : Nat) : Word × Fl :=
  let x := satTo 16 (convShift rnd re k)
  let y := satTo 16 (convShift rnd im k)
  (packed x.1 y.1, { v := some (x.2 || y.2), sv := x.2 || y.2 })

/-- The operations on pairs (R221, R246). -/
def wideOp (op : WideOp) (a b : BitVec 64) : BitVec 64 × Fl :=
  match op with
  | .addw => addWrap a b
  | .subw => subWrap a b
  | .add => addSat a b
  | .sub => subSat a b

end Sys2Proof.Machine
end

