-- ==== Sys2Proof/Machine/Operands.lean ====
section
/-! DEFINITION. The operand forms of an Awl: the one-source operations with the SCS table (R229), the circular post-modification
(R258), the conditions of R252, the local addresses of R201 and the loads and stores of R247. -/
namespace Sys2Proof.Machine

/-- The first quarter of the table of R229: round(32,768·sin(2πk / 1,024)), at most 32,767, for k = 0 to 256. -/
def sineQuarter : List Nat :=
  [0, 201, 402, 603, 804, 1005, 1206, 1407, 1608, 1809, 2009, 2210, 2411, 2611, 2811, 3012,
   3212, 3412, 3612, 3812, 4011, 4211, 4410, 4609, 4808, 5007, 5205, 5404, 5602, 5800, 5998, 6195,
   6393, 6590, 6787, 6983, 7180, 7376, 7571, 7767, 7962, 8157, 8351, 8546, 8740, 8933, 9127, 9319,
   9512, 9704, 9896, 10088, 10279, 10469, 10660, 10850, 11039, 11228, 11417, 11605, 11793, 11980, 12167, 12354]
  ++
  [12540, 12725, 12910, 13095, 13279, 13463, 13646, 13828, 14010, 14192, 14373, 14553, 14733, 14912, 15091, 15269,
   15447, 15624, 15800, 15976, 16151, 16326, 16500, 16673, 16846, 17018, 17190, 17361, 17531, 17700, 17869, 18037,
   18205, 18372, 18538, 18703, 18868, 19032, 19195, 19358, 19520, 19681, 19841, 20001, 20160, 20318, 20475, 20632,
   20788, 20943, 21097, 21251, 21403, 21555, 21706, 21856, 22006, 22154, 22302, 22449, 22595, 22740, 22884, 23028]
  ++
  [23170, 23312, 23453, 23593, 23732, 23870, 24008, 24144, 24279, 24414, 24548, 24680, 24812, 24943, 25073, 25202,
   25330, 25457, 25583, 25708, 25833, 25956, 26078, 26199, 26320, 26439, 26557, 26674, 26791, 26906, 27020, 27133,
   27246, 27357, 27467, 27576, 27684, 27791, 27897, 28002, 28106, 28209, 28311, 28411, 28511, 28610, 28707, 28803,
   28899, 28993, 29086, 29178, 29269, 29359, 29448, 29535, 29622, 29707, 29792, 29875, 29957, 30038, 30118, 30196]
  ++
  [30274, 30350, 30425, 30499, 30572, 30644, 30715, 30784, 30853, 30920, 30986, 31050, 31114, 31177, 31238, 31298,
   31357, 31415, 31471, 31527, 31581, 31634, 31686, 31737, 31786, 31834, 31881, 31927, 31972, 32015, 32058, 32099,
   32138, 32177, 32214, 32251, 32286, 32319, 32352, 32383, 32413, 32442, 32470, 32496, 32522, 32546, 32568, 32590,
   32610, 32629, 32647, 32664, 32679, 32693, 32706, 32718, 32729, 32738, 32746, 32753, 32758, 32762, 32766, 32767]
  ++
  [32767]

/-- S_k of R229, by the symmetry of the sine. -/
def sineAt (k : Nat) : Int :=
  let k := k % 1024
  if k ≤ 256 then sineQuarter.getD k 0
  else if k ≤ 512 then sineQuarter.getD (512 - k) 0
  else if k ≤ 768 then -(scsNeg (k - 512))
  else -(scsNeg (1024 - k))
where
  /-- The magnitude of a negative entry: only the positive bound is clamped. -/
  scsNeg (k : Nat) : Int := if k = 256 then 32768 else sineQuarter.getD k 0

/-- One part of the rotation vector: the entries at `k` and `k + 1` interpolated by f / 2^16 (R229). -/
def scsPart (k f : Nat) : Int := sineAt k + asrInt ((sineAt (k + 1) - sineAt k) * f + 2 ^ 15) 16

/-- SCS (R229): cosine in the high half, sine in the low half. -/
def scs (a : Word) : Word :=
  let k := bitsOf a.toNat 31 22
  let f := bitsOf a.toNat 21 6
  packed (BitVec.ofInt 16 (scsPart (k + 256) f)) (BitVec.ofInt 16 (scsPart k f))

/-- The one-source operations of R240. -/
def unaOp (op : UnaOp) (a : Word) : Word × Fl :=
  match op with
  | .mov => (a, {})
  | .neg => let r := satTo 32 (-a.toInt); (r.1, flSat r.1 false r.2)
  | .abs => let r := satTo 32 a.toInt.natAbs; (r.1, flSat r.1 false r.2)
  | .not => logic (~~~a)
  | .norm => (BitVec.ofNat 32 (redundant a), {})
  | .rcps => rcps a
  | .rsqs => rsqs a
  | .scs => (scs a, {})

/-- The instructions until the result of a one-source operation is visible (R209, R240). -/
def unaDelay : UnaOp → Nat
  | .rcps | .rsqs => 2
  | .scs => 3
  | _ => 1

/-- The post-modification of R258: pointer, base, length and step. -/
def circular (a b l : Word) (s : Int) : Word :=
  let len : Nat := l.toNat % 2 ^ 14
  if len = 0 then a + BitVec.ofInt 32 s
  else b + BitVec.ofInt 32 (((a - b).toInt + s) % (len : Int))

/-- The conditions of R252 on SR. -/
def condTrue (c : Fin 14) (sr : Word) : Bool :=
  let z := sr.getLsbD 0; let n := sr.getLsbD 1; let cy := sr.getLsbD 2; let v := sr.getLsbD 3
  match c.val with
  | 0 => true
  | 1 => z
  | 2 => !z
  | 3 => n
  | 4 => !n
  | 5 => !n && !z
  | 6 => n || z
  | 7 => cy
  | 8 => !cy
  | 9 => v
  | 10 => !v
  | 11 => sr.getLsbD 4
  | 12 => sr.getLsbD 5
  | _ => sr.getLsbD 6

/-- The bits of SR a program can write (R207). -/
def srMask : Word := 0x37F

/-- The writable bits of a control register (R248, R262). -/
def crValue (r : Nat) (v : Word) : Word :=
  if r = 38 then v &&& srMask
  else if r = 43 then (if (v &&& 7).toNat > 4 then 4 else v &&& 7)
  else if 44 ≤ r ∧ r ≤ 51 then v &&& 0x3FFF
  else if 52 ≤ r then v &&& 0xFFFF
  else v

/-- A control register that MOVC may only read (R248). -/
def crReadOnly (r : Nat) : Bool := 39 ≤ r && r ≤ 42

/-- A local data address relative to the Awl's local memory: X memory for A0–A3, Y memory for A4–A7 (R201), aligned to `n`. -/
def localAddr (ak : Nat) (ea : Word) (n : Nat) : Nat :=
  (if ak < 4 then 0x4000 else 0x6000) + ea.toNat % 0x2000 / n * n

end Sys2Proof.Machine
end

