-- ==== Sys2Proof/Machine/AwlDecode.lean ====
section
/-! DEFINITION. The instruction words of an Awl: length, format and fields (R235–R257).  `awlDecode` answers none for every reserved
encoding; the one reservation that depends on the address of the word, a LOOP whose end is not after it, is `loopEnd`. -/
namespace Sys2Proof.Machine

/-- A field of an instruction word. -/
def wf (w : Word) (hi lo : Nat) : Nat := bitsOf w.toNat hi lo

/-- A field as an index below `n`, a power of two that fits the field. -/
def fin (n : Nat) [NeZero n] (v : Nat) : Fin n := Fin.ofNat n v

/-- The word occupies two words: a G word with bit 23, a LOOP word with bit 24 (R235). -/
def awlLong (w : Word) : Bool :=
  (wf w 31 30 == 1 && w.getLsbD 23) || (wf w 31 26 == 4 && w.getLsbD 24)

/-- The length in bytes of the instruction that begins with `w`. -/
def awlLen (w : Word) : Nat := if awlLong w then 8 else 4

/-- Answer only where a condition holds. -/
def need {α : Type} (b : Bool) (x : Option α) : Option α := if b then x else none

/-- A move field of R238; a nonzero field of KIND 0 is reserved. -/
def decodeMove (f : Nat) : Option (Option Move) :=
  let reg := fin 4 (bitsOf f 3 2)
  let areg := fin 4 (bitsOf f 1 0)
  match bitsOf f 5 4 with
  | 0 => if f = 0 then some none else none
  | 1 => some (some ⟨.load, reg, areg⟩)
  | 2 => some (some ⟨.store, reg, areg⟩)
  | _ => some (some ⟨.loadPair, reg, areg⟩)

/-- The two-source P operation of an opcode (R240). -/
def decodeBin (op : Nat) : Option BinOp :=
  match op with
  | 0x02 => some .add | 0x03 => some .sub | 0x04 => some .addw | 0x05 => some .subw
  | 0x08 => some .and | 0x09 => some .or | 0x0A => some .xor
  | 0x0C => some .min | 0x0D => some .max | 0x0E => some .clip | 0x0F => some .asl | 0x10 => some .asr | 0x11 => some .lsr
  | 0x16 => some .cadd | 0x17 => some .csub
  | _ => none

/-- The one-source P operation of an opcode (R240). -/
def decodeUna (op : Nat) : Option UnaOp :=
  match op with
  | 0x01 => some .mov | 0x06 => some .neg | 0x07 => some .abs | 0x0B => some .not
  | 0x12 => some .norm | 0x13 => some .rcps | 0x14 => some .rsqs | 0x15 => some .scs
  | _ => none

/-- A P-format word (R237–R240). -/
def decodeP (w : Word) : Option AwlIns :=
  let op := wf w 30 25
  let d := wf w 24 21
  let s1 := wf w 20 17
  let s2 := wf w 16 13
  let k := w.getLsbD 0
  match decodeMove (wf w 12 7), decodeMove (wf w 6 1) with
  | some x, some y =>
    let mv : Moves := ⟨x, y⟩
    let src : Src2 := if k then .coef else .d (fin 16 s2)
    let mul : MulSrc := if k then .k else .d (fin 16 s2)
    let srcOk := !k || s2 == 0
    match decodeBin op, decodeUna op with
    | some o, _ => need srcOk (some (.bin o (fin 16 d) (fin 16 s1) src mv))
    | _, some o => need (!k) (some (.una o (fin 16 d) (fin 16 s1) mv))
    | _, _ =>
      match op with
      | 0x00 => need (!k && d == 0 && s1 == 0 && s2 == 0) (some (.nopMoves mv))
      | 0x18 => need (srcOk && d == 0) (some (.cmp (fin 16 s1) src mv))
      | 0x19 => need (srcOk && d == 0) (some (.tst (fin 16 s1) src mv))
      | 0x20 => need (srcOk && d < 4) (some (.mul .mpy (fin 4 d) (fin 16 s1) mul mv))
      | 0x21 => need (srcOk && d < 4) (some (.mul .mac (fin 4 d) (fin 16 s1) mul mv))
      | 0x22 => need (srcOk && d < 4) (some (.mul .msu (fin 4 d) (fin 16 s1) mul mv))
      | 0x23 => need (srcOk && (d == 0 || d == 2)) (some (.cmul .cmpy (fin 2 (d / 2)) (fin 16 s1) mul mv))
      | 0x24 => need (srcOk && (d == 0 || d == 2)) (some (.cmul .cmac (fin 2 (d / 2)) (fin 16 s1) mul mv))
      | 0x25 => need (srcOk && (d == 0 || d == 2)) (some (.cmul .cmacj (fin 2 (d / 2)) (fin 16 s1) mul mv))
      | 0x26 => need (!k && d < 4 && s1 == 0 && s2 == 0) (some (.clr (fin 4 d) mv))
      | 0x27 => need (srcOk && d < 4) (some (.movE (fin 4 d) (fin 16 s1) src mv))
      | 0x28 => need (!k && s2 < 4) (some (.conv (.d (fin 16 d)) (fin 4 s2) (fin 64 s1) (some mv)))
      | 0x29 => need (!k && s2 < 4) (some (.conv (.d (fin 16 d)) (fin 4 s2) (fin 64 (16 + s1)) (some mv)))
      | 0x2A => need (!k && (s2 == 0 || s2 == 2)) (some (.cconv (fin 16 d) (fin 2 (s2 / 2)) (fin 64 s1) (some mv)))
      | _ => none
  | _, _ => none

/-- The immediate of a GI or GCI word (R245): the sign-extended field, or the extension word with the field 0. -/
def decodeImm (w ext : Word) (n : Nat) : Option Imm :=
  let v := wf w (n - 1) 0
  if w.getLsbD 23 then (if v = 0 then some ⟨ext, true⟩ else none)
  else some ⟨BitVec.ofInt 32 (toSigned n v), false⟩

/-- The offset of a GQ or GB word (R245), `scale` bytes per unit. -/
def decodeOff (w ext : Word) (n scale : Nat) : Option Imm :=
  let v := wf w (n - 1) 0
  if w.getLsbD 23 then (if v = 0 then some ⟨ext, true⟩ else none) else some ⟨BitVec.ofNat 32 (v * scale), false⟩

/-- The addressing mode of a GM word (R245, R247). -/
def decodeMode (w ext : Word) : Option MemMode :=
  let v := wf w 12 0
  let l := w.getLsbD 23
  match wf w 15 14 with
  | 0 => need (!l && v == 0) (some .plain)
  | 1 => need (!l && v == 0) (some .incr)
  | 2 => need (!l && v == 0) (some .step)
  | _ => if l then need (v == 0) (some (.index ⟨ext, true⟩)) else some (.index ⟨BitVec.ofInt 32 (toSigned 13 v), false⟩)

/-- A GI word (R246). -/
def decodeGI (op : Nat) (w ext : Word) : Option AwlIns :=
  let d := wf w 22 19
  let s := wf w 18 15
  let n := wf w 14 0
  let l := w.getLsbD 23
  match op with
  | 0x00 => (decodeImm w ext 15).map (.binI .add (fin 16 d) (fin 16 s) ·)
  | 0x01 => (decodeImm w ext 15).map (.binI .addw (fin 16 d) (fin 16 s) ·)
  | 0x02 => (decodeImm w ext 15).map (.binI .and (fin 16 d) (fin 16 s) ·)
  | 0x03 => (decodeImm w ext 15).map (.binI .or (fin 16 d) (fin 16 s) ·)
  | 0x04 => (decodeImm w ext 15).map (.binI .xor (fin 16 d) (fin 16 s) ·)
  | 0x05 => need (s == 0) ((decodeImm w ext 15).map (.ldi (fin 16 d) ·))
  | 0x06 => need (d == 0) ((decodeImm w ext 15).map (.cmpi (fin 16 s) ·))
  | 0x07 => need (d == 0) ((decodeImm w ext 15).map (.tsti (fin 16 s) ·))
  | 0x08 => need (!l && n < 32) (some (.shiftI .asl (fin 16 d) (fin 16 s) (fin 32 n)))
  | 0x09 => need (!l && n < 32) (some (.shiftI .asr (fin 16 d) (fin 16 s) (fin 32 n)))
  | 0x0A => need (!l && n < 32) (some (.shiftI .lsr (fin 16 d) (fin 16 s) (fin 32 n)))
  | 0x10 => need (!l && s < 4 && n < 64) (some (.conv (.d (fin 16 d)) (fin 4 s) (fin 64 n) none))
  | 0x11 => need (!l && s < 4 && n < 64 && d % 2 == 0) (some (.conv (.pair (fin 8 (d / 2))) (fin 4 s) (fin 64 n) none))
  | 0x12 => need (!l && (s == 0 || s == 2) && n < 64) (some (.cconv (fin 16 d) (fin 2 (s / 2)) (fin 64 n) none))
  | _ => none

/-- A GR word (R246). -/
def decodeGR (op : Nat) (w : Word) : Option AwlIns :=
  let d := wf w 22 19
  let s1 := wf w 18 15
  let s2 := wf w 14 11
  let even (x : Nat) : Bool := x % 2 == 0
  let p (x : Nat) : Fin 8 := fin 8 (x / 2)
  need (!w.getLsbD 23 && wf w 10 0 == 0)
    (match op with
    | 0x13 => need (s1 < 4) (some (.normE (fin 16 d) (fin 4 s1)))
    | 0x14 => need (s1 < 4) (some (.movgRead (fin 16 d) (fin 4 s1)))
    | 0x15 => need (d < 4 && even s2) (some (.movgWrite (fin 4 d) (fin 16 s1) (p s2)))
    | 0x16 => need (even d && even s1 && even s2) (some (.wide .addw (p d) (p s1) (p s2)))
    | 0x17 => need (even d && even s1 && even s2) (some (.wide .subw (p d) (p s1) (p s2)))
    | 0x18 => need (even d && even s1 && even s2) (some (.wide .add (p d) (p s1) (p s2)))
    | 0x19 => need (even d && even s1 && even s2) (some (.wide .sub (p d) (p s1) (p s2)))
    | 0x1A => need (even d && even s1 && s2 == 0) (some (.mov64 (p d) (p s1)))
    | 0x1B => need (d == 0 && even s1 && even s2) (some (.cmp64 (p s1) (p s2)))
    | _ => none)

/-- A control-register number of MOVC (R248). -/
def decodeCR (v : Nat) : Option (Fin 56) := if h : v < 56 then some ⟨v, h⟩ else none

/-- A GK word (R246). -/
def decodeGK (op : Nat) (w : Word) : Option AwlIns :=
  let d := wf w 22 19
  let s := fin 16 (wf w 18 15)
  let j := fin 2 (wf w 14 14)
  need (!w.getLsbD 23 && wf w 13 0 == 0)
    (match op with
    | 0x24 => need (wf w 18 15 == 0) (some (.ldc (fin 16 d) j))
    | 0x26 => need (d < 4) (some (.mul .mpy (fin 4 d) s (.c j) {}))
    | 0x27 => need (d < 4) (some (.mul .mac (fin 4 d) s (.c j) {}))
    | 0x28 => need (d < 4) (some (.mul .msu (fin 4 d) s (.c j) {}))
    | 0x29 => need (d == 0 || d == 2) (some (.cmul .cmpy (fin 2 (d / 2)) s (.c j) {}))
    | 0x2A => need (d == 0 || d == 2) (some (.cmul .cmac (fin 2 (d / 2)) s (.c j) {}))
    | 0x2B => need (d == 0 || d == 2) (some (.cmul .cmacj (fin 2 (d / 2)) s (.c j) {}))
    | _ => none)

/-- The register operand of a GQ word (R249). -/
def decodeQReg (w : Word) : Option QReg :=
  let d := wf w 22 19
  match wf w 11 10 with
  | 0 => some (.w16 (fin 16 d))
  | 1 => some (.w32 (fin 16 d))
  | 2 => need (d % 2 == 0) (some (.w64 (fin 8 (d / 2))))
  | _ => none

/-- A D register or an even pair. -/
def decodeDReg (pair : Bool) (d : Nat) : Option DReg :=
  if pair then need (d % 2 == 0) (some (.pair (fin 8 (d / 2)))) else some (.d (fin 16 d))

/-- A G-format word (R244–R249). -/
def decodeG (w ext : Word) : Option AwlIns :=
  let op := wf w 29 24
  let d := wf w 22 19
  let ak := fin 8 (wf w 18 16)
  let q := fin 16 (wf w 15 12)
  if op ≤ 0x12 then decodeGI op w ext
  else if op ≤ 0x1B then decodeGR op w
  else match op with
  | 0x1C => need (!w.getLsbD 23 && wf w 12 0 == 0) ((decodeCR (wf w 22 17)).map (.movcRead (fin 16 (wf w 16 13)) ·))
  | 0x1D =>
    need (!w.getLsbD 23 && wf w 12 0 == 0 && !crReadOnly (wf w 22 17))
      ((decodeCR (wf w 22 17)).map (.movcWrite · (.d (fin 16 (wf w 16 13)))))
  | 0x1E =>
    need (!crReadOnly (wf w 22 17))
      (match decodeCR (wf w 22 17), decodeImm w ext 17 with
      | some cr, some v => some (.movcWrite cr (.imm v))
      | _, _ => none)
  | 0x20 | 0x21 =>
    need (!w.getLsbD 13)
      (match decodeDReg (op == 0x21) d, decodeMode w ext with
      | some r, some m => some (.ld r ak m)
      | _, _ => none)
  | 0x22 | 0x23 =>
    need (!w.getLsbD 13)
      (match decodeDReg (op == 0x23) d, decodeMode w ext with
      | some r, some m => some (.st r ak m)
      | _, _ => none)
  | 0x24 | 0x26 | 0x27 | 0x28 | 0x29 | 0x2A | 0x2B => decodeGK op w
  | 0x30 =>
    match decodeQReg w, decodeOff w ext 10 1 with
    | some r, some o => some (.ldq q r ak o)
    | _, _ => none
  | 0x31 =>
    match decodeQReg w, decodeOff w ext 10 1 with
    | some r, some o => some (.stq q r ak o)
    | _, _ => none
  | 0x32 => need (!w.getLsbD 19) ((decodeOff w ext 9 8).map (.ldqB q (fin 8 (wf w 22 20)) ak · (fin 8 (wf w 11 9))))
  | 0x33 => need (!w.getLsbD 19) ((decodeOff w ext 9 8).map (.stqB q (fin 8 (wf w 22 20)) ak · (fin 8 (wf w 11 9))))
  | 0x34 => need (!w.getLsbD 23 && wf w 22 16 == 0) (some (.waitq (w.truncate 16)))
  | _ => none

/-- A condition of R252. -/
def decodeCond (v : Nat) : Option (Fin 14) := if h : v < 14 then some ⟨v, h⟩ else none

/-- A B-format word (R250, R251). -/
def decodeB (w ext : Word) : Option AwlIns :=
  let arg := wf w 15 8
  match wf w 29 26 with
  | 0 =>
    need (wf w 25 16 == 0)
      (match wf w 7 0 with
      | 0 => need (arg == 0) (some .nop)
      | 1 => need (arg == 0) (some .endt)
      | 2 => need (arg < 4) (some (.post (fin 4 arg)))
      | 3 => some (.trap (BitVec.ofNat 8 arg))
      | 4 => need (arg == 0) (some .rte)
      | 5 => some (.bkpt (BitVec.ofNat 8 arg))
      | _ => none)
  | 1 => need (!w.getLsbD 25 && wf w 20 13 == 0) ((decodeCond (wf w 24 21)).map (.br · (w.truncate 13)))
  | 2 => need (!w.getLsbD 25 && wf w 20 13 == 0) (some (.call (fin 16 (wf w 24 21)) (w.truncate 13)))
  | 3 => need (!w.getLsbD 25 && wf w 16 0 == 0) ((decodeCond (wf w 24 21)).map (.jmp · (fin 16 (wf w 20 17))))
  | 4 =>
    let e : Option LoopEnd :=
      if w.getLsbD 24 then need (wf w 7 0 == 0) (some (.long ext)) else some (.short (w.truncate 8))
    if w.getLsbD 25 then need (wf w 19 8 == 0) (e.map (.loop (.reg (fin 16 (wf w 23 20))) ·))
    else e.map (.loop (.imm (BitVec.ofNat 16 (wf w 23 8))) ·)
  | 5 =>
    if w.getLsbD 25 then need (wf w 20 0 == 0) (some (.redo (.reg (fin 16 (wf w 24 21)))))
    else need (wf w 24 16 == 0) (some (.redo (.imm (w.truncate 16))))
  | _ => none

/-- The instruction a word and its extension word spell; none for a reserved encoding (R257). -/
def awlDecode (w ext : Word) : Option AwlIns :=
  if w.getLsbD 31 then decodeP w else if w.getLsbD 30 then decodeG w ext else decodeB w ext

/-- The length of an instruction in bytes. -/
def insLen : AwlIns → Nat
  | .binI _ _ _ v | .ldi _ v | .cmpi _ v | .tsti _ v | .movcWrite _ (.imm v) => if v.long then 8 else 4
  | .ld _ _ (.index o) | .st _ _ (.index o) => if o.long then 8 else 4
  | .ldq _ _ _ o | .stq _ _ _ o | .ldqB _ _ _ o _ | .stqB _ _ _ o _ => if o.long then 8 else 4
  | .loop _ (.long _) => 8
  | _ => 4

/-- A short immediate that its field can hold. -/
def immFits (v : Imm) (n : Nat) : Bool := v.long || BitVec.ofInt 32 (toSigned n v.v.toNat) == v.v

/-- A short queue offset that its field can hold. -/
def immFitsOff (v : Imm) (n scale : Nat) : Bool := v.long || (v.v.toNat < 2 ^ n * scale && v.v.toNat % scale == 0)

/-- No encoding spells the instruction: an operand the encodings of R235–R257 cannot hold. -/
def unencodable : AwlIns → Bool
  | .mul _ _ _ (.c _) mv | .cmul _ _ _ (.c _) mv => decide (mv ≠ {})
  | .conv dst _ k (some _) => decide (32 ≤ k.val) || (match dst with | .pair _ => true | .d _ => false)
  | .cconv _ _ k (some _) => decide (16 ≤ k.val)
  | .binI op _ _ v => !(op == .add || op == .addw || op == .and || op == .or || op == .xor) || !immFits v 15
  | .ldi _ v | .cmpi _ v | .tsti _ v => !immFits v 15
  | .shiftI op _ _ _ => !(op == .asl || op == .asr || op == .lsr)
  | .movcWrite cr src => crReadOnly cr.val || (match src with | .imm v => !immFits v 17 | .d _ => false)
  | .ld _ _ (.index o) | .st _ _ (.index o) => !immFits o 13
  | .ldq _ _ _ o | .stq _ _ _ o => !immFitsOff o 10 1
  | .ldqB _ _ _ o _ | .stqB _ _ _ o _ => !immFitsOff o 9 8
  | _ => false

/-- The instruction is of B format (R236). -/
def insIsB : AwlIns → Bool
  | .nop | .endt | .post _ | .trap _ | .rte | .bkpt _ | .br _ _ | .call _ _ | .jmp _ _ | .loop _ _ | .redo _ => true
  | _ => false

/-- The address of the last body word of a LOOP at `a` (R255); none where the encoding is reserved. -/
def loopEnd (a : Nat) : LoopEnd → Option Nat
  | .short e8 => let e := a + 4 * (e8.toNat + 1); if e ≤ 0x3FFC then some e else none
  | .long v => let e := v.toNat % 0x4000 / 4 * 4; if e > a + 4 then some e else none

end Sys2Proof.Machine
end

