-- ==== Sys2Proof/Config.lean ====
section
/-! DEFINITION. What the spec leaves open: constants without a body, so that no proof can see a value of them. -/
namespace Sys2Proof.Config

/-- The free values: the `n`-th value the machine draws where the spec says that a value results but not which
(notes/assumptions/1.md).  A claim about a drawn value holds for every value. -/
opaque freeValue : Nat → BitVec 64

/-- The Vendor ID of the PCIe function: Delsum's, whose number the spec does not give (R457, notes/assumptions/112.md). -/
opaque vendorId : BitVec 16

/-- The bytes that hold a generator, group or virtual-master image in RCOPY and RBLOCK: their layout is internal (R378,
notes/assumptions/123.md). -/
opaque imageByte : GenImage → Nat → Byte

end Sys2Proof.Config
end

