-- ==== Sys2Proof/Machine/Fields.lean ====
section
/-! DEFINITION. The register fields of every page, as the register tables of the chapters give them:
one constant per field (offset, bit range, access code of R5, reset value), and per kind of page the list of its fields.
A reset value the tables leave to straps, pins or fuses is 0 here (notes/assumptions/3.md). -/
namespace Sys2Proof.Machine


/-! ### HDR (R68) -/

def HDR.PID : Nat := 0x0
def HDR.PID_TYPE : Fld := ⟨0x0, 31, 20, .ro, 0⟩
def HDR.PID_INST : Fld := ⟨0x0, 19, 12, .ro, 0⟩
def HDR.PID_REV : Fld := ⟨0x0, 11, 0, .ro, 177⟩
def HDR.PCTL : Nat := 0x4
def HDR.PCTL_MODE : Fld := ⟨0x4, 15, 4, .rws, 0⟩
def HDR.PCTL_RUN : Fld := ⟨0x4, 0, 0, .rw, 0⟩
def HDR.PSTAT : Nat := 0x8
def HDR.PSTAT_CONFLICT : Fld := ⟨0x8, 9, 9, .w1c, 0⟩
def HDR.PSTAT_CFGREJ : Fld := ⟨0x8, 8, 8, .w1c, 0⟩
def HDR.PSTAT_STATE : Fld := ⟨0x8, 2, 0, .ro, 1⟩
def HDR.EVT : Nat := 0xC
def HDR.EVT_EVENT : Fld := ⟨0xC, 31, 0, .w1c, 0⟩
def HDR.EVTEN : Nat := 0x10
def HDR.EVTEN_ENABLE : Fld := ⟨0x10, 31, 0, .rw, 0⟩
def HDR.EVTSET : Nat := 0x14
def HDR.EVTSET_FORCE : Fld := ⟨0x14, 31, 0, .wo, 0⟩
def HDR.ECAP0 : Nat := 0x18
def HDR.ECAP0_CODE : Fld := ⟨0x18, 31, 16, .w1c, 0⟩
def HDR.ECAP0_CYC : Fld := ⟨0x18, 15, 0, .w1c, 0⟩
def HDR.ECAP1 : Nat := 0x1C
def HDR.ECAP1_DETAIL : Fld := ⟨0x1C, 31, 0, .ro, 0⟩
def HDR.CLAIM : Nat := 0x20
def HDR.CLAIM_HELD : Fld := ⟨0x20, 31, 31, .ro, 0⟩
def HDR.CLAIM_ITEMS : Fld := ⟨0x20, 15, 0, .ro, 0⟩
/-- The fields of the common header (R68). -/
def HDR.fields : List Fld :=
  [HDR.PID_TYPE, HDR.PID_INST, HDR.PID_REV, HDR.PCTL_MODE, HDR.PCTL_RUN, HDR.PSTAT_CONFLICT, HDR.PSTAT_CFGREJ, HDR.PSTAT_STATE]
  ++ [HDR.EVT_EVENT, HDR.EVTEN_ENABLE, HDR.EVTSET_FORCE, HDR.ECAP0_CODE, HDR.ECAP0_CYC, HDR.ECAP1_DETAIL, HDR.CLAIM_HELD, HDR.CLAIM_ITEMS]

/-! ### GLOB (R83) -/

def GLOB.DEVID : Nat := 0x40
def GLOB.DEVID_PART : Fld := ⟨0x40, 31, 16, .ro, 598⟩
def GLOB.STRAP : Nat := 0x44
def GLOB.STRAP_REFMODE : Fld := ⟨0x44, 8, 8, .ro, 0⟩
def GLOB.STRAP_TACKSEL : Fld := ⟨0x44, 5, 4, .ro, 0⟩
def GLOB.STRAP_BOOTSRC : Fld := ⟨0x44, 3, 3, .ro, 0⟩
def GLOB.STRAP_PAIRID : Fld := ⟨0x44, 2, 0, .ro, 0⟩
def GLOB.UID0 : Nat := 0x48
def GLOB.UID0_UIDLO : Fld := ⟨0x48, 31, 0, .ro, 0⟩
def GLOB.UID1 : Nat := 0x4C
def GLOB.UID1_UIDHI : Fld := ⟨0x4C, 31, 0, .ro, 0⟩
def GLOB.SCRATCH : Nat := 0x50
def GLOB.SCRATCH_DATA : Fld := ⟨0x50, 31, 0, .rw, 0⟩
/-- Every field of a page of kind GLOB beyond the header. -/
def GLOB.fields : List Fld :=
  [GLOB.DEVID_PART, GLOB.STRAP_REFMODE, GLOB.STRAP_TACKSEL, GLOB.STRAP_BOOTSRC, GLOB.STRAP_PAIRID, GLOB.UID0_UIDLO, GLOB.UID1_UIDHI, GLOB.SCRATCH_DATA]

/-! ### PWR (R58, R59, R60) -/

def PWR.TARGET : Nat := 0x40
def PWR.TARGET_DOMAIN : Fld := ⟨0x40, 17, 0, .rw, 16640⟩
def PWR.STATUS : Nat := 0x44
def PWR.STATUS_BUSY : Fld := ⟨0x44, 31, 31, .ro, 0⟩
def PWR.STATUS_DOMAIN : Fld := ⟨0x44, 17, 0, .ro, 16640⟩
def PWR.REFUSE : Nat := 0x48
def PWR.REFUSE_REASON : Fld := ⟨0x48, 26, 24, .ro, 0⟩
def PWR.REFUSE_DOMAIN : Fld := ⟨0x48, 17, 0, .ro, 0⟩
/-- Every field of a page of kind PWR beyond the header. -/
def PWR.fields : List Fld :=
  [PWR.TARGET_DOMAIN, PWR.STATUS_BUSY, PWR.STATUS_DOMAIN, PWR.REFUSE_REASON, PWR.REFUSE_DOMAIN]

/-! ### CLK (R53, R54, R55, R56, R57) -/

def CLK.REFCFG : Nat := 0x40
def CLK.REFCFG_REFMODE : Fld := ⟨0x40, 0, 0, .ro, 0⟩
def CLK.PLLSTAT : Nat := 0x44
def CLK.PLLSTAT_PCIEREF : Fld := ⟨0x44, 3, 3, .ro, 0⟩
def CLK.PLLSTAT_WDFAIL : Fld := ⟨0x44, 2, 2, .w1c, 0⟩
def CLK.PLLSTAT_LOL : Fld := ⟨0x44, 1, 1, .w1c, 0⟩
def CLK.PLLSTAT_LOCK : Fld := ⟨0x44, 0, 0, .ro, 1⟩
def CLK.LOLCNT : Nat := 0x48
def CLK.LOLCNT_COUNT : Fld := ⟨0x48, 31, 0, .rc, 0⟩
def CLK.WDCNT : Nat := 0x4C
def CLK.WDCNT_LAST : Fld := ⟨0x4C, 15, 0, .ro, 0⟩
def CLK.WDLIM : Nat := 0x50
def CLK.WDLIM_HI : Fld := ⟨0x50, 31, 16, .rws, 27648⟩
def CLK.WDLIM_LO : Fld := ⟨0x50, 15, 0, .rws, 23552⟩
/-- Every field of a page of kind CLK beyond the header. -/
def CLK.fields : List Fld :=
  [CLK.REFCFG_REFMODE, CLK.PLLSTAT_PCIEREF, CLK.PLLSTAT_WDFAIL, CLK.PLLSTAT_LOL, CLK.PLLSTAT_LOCK, CLK.LOLCNT_COUNT, CLK.WDCNT_LAST, CLK.WDLIM_HI]
  ++ [CLK.WDLIM_LO]

/-! ### BOOT (R497) -/

def BOOT.STAT : Nat := 0x40
def BOOT.STAT_DONE : Fld := ⟨0x40, 31, 31, .ro, 0⟩
def BOOT.STAT_FAIL : Fld := ⟨0x40, 30, 30, .ro, 0⟩
def BOOT.STAT_SRC : Fld := ⟨0x40, 25, 24, .ro, 0⟩
def BOOT.STAT_REASON : Fld := ⟨0x40, 15, 8, .ro, 0⟩
def BOOT.STAT_UNSEC : Fld := ⟨0x40, 3, 3, .ro, 0⟩
def BOOT.STAT_TACKLOCK : Fld := ⟨0x40, 2, 2, .ro, 0⟩
def BOOT.STAT_DBGLOCK : Fld := ⟨0x40, 1, 1, .ro, 0⟩
def BOOT.STAT_KEYSET : Fld := ⟨0x40, 0, 0, .ro, 0⟩
def BOOT.IVER : Nat := 0x44
def BOOT.IVER_IVER : Fld := ⟨0x44, 31, 0, .ro, 0⟩
def BOOT.HLBASE : Nat := 0x48
def BOOT.HLBASE_ADDR : Fld := ⟨0x48, 31, 3, .rw, 0⟩
def BOOT.HLCTL : Nat := 0x4C
def BOOT.HLCTL_GO : Fld := ⟨0x4C, 0, 0, .wo, 0⟩
def BOOT.OTPCTL : Nat := 0x50
def BOOT.OTPCTL_BUSY : Fld := ⟨0x50, 31, 31, .ro, 0⟩
def BOOT.OTPCTL_PROG : Fld := ⟨0x50, 4, 4, .wo, 0⟩
def BOOT.OTPCTL_WORD : Fld := ⟨0x50, 3, 0, .rw, 0⟩
def BOOT.OTPDATA : Nat := 0x54
def BOOT.OTPDATA_DATA : Fld := ⟨0x54, 31, 0, .rw, 0⟩
def BOOT.OTPRD (k : Nat) : Nat := 0x60 + 0x4 * k
def BOOT.OTPRD_VALUE (k : Nat) : Fld := ⟨0x60 + 0x4 * k, 31, 0, .ro, 0⟩
/-- Every field of a page of kind BOOT beyond the header. -/
def BOOT.fields : List Fld :=
  [BOOT.STAT_DONE, BOOT.STAT_FAIL, BOOT.STAT_SRC, BOOT.STAT_REASON, BOOT.STAT_UNSEC, BOOT.STAT_TACKLOCK, BOOT.STAT_DBGLOCK, BOOT.STAT_KEYSET]
  ++ [BOOT.IVER_IVER, BOOT.HLBASE_ADDR, BOOT.HLCTL_GO, BOOT.OTPCTL_BUSY, BOOT.OTPCTL_PROG, BOOT.OTPCTL_WORD, BOOT.OTPDATA_DATA]
  ++ (List.range 10).flatMap (fun k => [BOOT.OTPRD_VALUE k])

/-! ### TACK (R498) -/

def TACK.CFG : Nat := 0x40
def TACK.CFG_PINDEB : Fld := ⟨0x40, 15, 8, .rws, 10⟩
def TACK.CFG_PINSEL : Fld := ⟨0x40, 0, 0, .rws, 0⟩
def TACK.CTL : Nat := 0x44
def TACK.CTL_TSEL : Fld := ⟨0x44, 5, 4, .wo, 0⟩
def TACK.CTL_SWITCH : Fld := ⟨0x44, 0, 0, .wo, 0⟩
def TACK.STAT : Nat := 0x48
def TACK.STAT_BUSY : Fld := ⟨0x48, 31, 31, .ro, 0⟩
def TACK.STAT_PARTIAL : Fld := ⟨0x48, 30, 30, .w1c, 0⟩
def TACK.STAT_PHASE : Fld := ⟨0x48, 29, 27, .ro, 0⟩
def TACK.STAT_PINS : Fld := ⟨0x48, 21, 20, .ro, 0⟩
def TACK.STAT_ACTIVE : Fld := ⟨0x48, 18, 16, .ro, 7⟩
def TACK.STAT_REASON : Fld := ⟨0x48, 7, 0, .ro, 0⟩
def TACK.FAILPAGE : Nat := 0x4C
def TACK.FAILPAGE_PAGE : Fld := ⟨0x4C, 9, 0, .ro, 0⟩
def TACK.SWITCHES : Nat := 0x50
def TACK.SWITCHES_COUNT : Fld := ⟨0x50, 31, 0, .rc, 0⟩
def TACK.REJECTS : Nat := 0x54
def TACK.REJECTS_COUNT : Fld := ⟨0x54, 31, 0, .rc, 0⟩
def TACK.TBASE (k : Nat) : Nat := 0x60 + 0x8 * k
def TACK.TBASE_ADDR (k : Nat) : Fld := ⟨0x60 + 0x8 * k, 31, 3, .rws, 0⟩
def TACK.TLEN (k : Nat) : Nat := 0x64 + 0x8 * k
def TACK.TLEN_LEN (k : Nat) : Fld := ⟨0x64 + 0x8 * k, 31, 0, .rws, 0⟩
/-- Every field of a page of kind TACK beyond the header. -/
def TACK.fields : List Fld :=
  [TACK.CFG_PINDEB, TACK.CFG_PINSEL, TACK.CTL_TSEL, TACK.CTL_SWITCH, TACK.STAT_BUSY, TACK.STAT_PARTIAL, TACK.STAT_PHASE, TACK.STAT_PINS]
  ++ [TACK.STAT_ACTIVE, TACK.STAT_REASON, TACK.FAILPAGE_PAGE, TACK.SWITCHES_COUNT, TACK.REJECTS_COUNT]
  ++ (List.range 4).flatMap (fun k => [TACK.TBASE_ADDR k, TACK.TLEN_LEN k])

/-! ### FLT (R511, R512, R513) -/

def FLT.STAT : Nat := 0x40
def FLT.STAT_FATAL : Fld := ⟨0x40, 31, 31, .ro, 0⟩
def FLT.STAT_FATALCODE : Fld := ⟨0x40, 15, 0, .ro, 0⟩
def FLT.PINCFG : Nat := 0x44
def FLT.PINCFG_CLASS : Fld := ⟨0x44, 3, 0, .rw, 7⟩
def FLT.TCFG : Nat := 0x48
def FLT.TCFG_TWARN : Fld := ⟨0x48, 15, 0, .rw, 6130⟩
def FLT.SUPSTAT : Nat := 0x4C
def FLT.SUPSTAT_OUT : Fld := ⟨0x4C, 4, 0, .ro, 0⟩
def FLT.LOGWR : Nat := 0x50
def FLT.LOGWR_INDEX : Fld := ⟨0x50, 4, 0, .ro, 0⟩
def FLT.TOTAL : Nat := 0x54
def FLT.TOTAL_COUNT : Fld := ⟨0x54, 31, 0, .rc, 0⟩
def FLT.CNTD : Nat := 0x58
def FLT.CNTD_COUNT : Fld := ⟨0x58, 31, 0, .rc, 0⟩
def FLT.CNTS : Nat := 0x5C
def FLT.CNTS_COUNT : Fld := ⟨0x5C, 31, 0, .rc, 0⟩
def FLT.CNTA : Nat := 0x60
def FLT.CNTA_COUNT : Fld := ⟨0x60, 31, 0, .rc, 0⟩
def FLT.CNTB : Nat := 0x64
def FLT.CNTB_COUNT : Fld := ⟨0x64, 31, 0, .rc, 0⟩
def FLT.CNTI : Nat := 0x68
def FLT.CNTI_COUNT : Fld := ⟨0x68, 31, 0, .rc, 0⟩
def FLT.LOGOVR : Nat := 0x6C
def FLT.LOGOVR_COUNT : Fld := ⟨0x6C, 31, 0, .rc, 0⟩
def FLT.LOGA (k : Nat) : Nat := 0x100 + 0x10 * k
def FLT.LOGA_CODE (k : Nat) : Fld := ⟨0x100 + 0x10 * k, 31, 16, .ro, 0⟩
def FLT.LOGA_CYC (k : Nat) : Fld := ⟨0x100 + 0x10 * k, 15, 0, .ro, 0⟩
def FLT.LOGB (k : Nat) : Nat := 0x104 + 0x10 * k
def FLT.LOGB_DETAIL (k : Nat) : Fld := ⟨0x104 + 0x10 * k, 31, 0, .ro, 0⟩
def FLT.LOGC (k : Nat) : Nat := 0x108 + 0x10 * k
def FLT.LOGC_PAGE (k : Nat) : Fld := ⟨0x108 + 0x10 * k, 9, 0, .ro, 0⟩
/-- Every field of a page of kind FLT beyond the header. -/
def FLT.fields : List Fld :=
  [FLT.STAT_FATAL, FLT.STAT_FATALCODE, FLT.PINCFG_CLASS, FLT.TCFG_TWARN, FLT.SUPSTAT_OUT, FLT.LOGWR_INDEX, FLT.TOTAL_COUNT, FLT.CNTD_COUNT]
  ++ [FLT.CNTS_COUNT, FLT.CNTA_COUNT, FLT.CNTB_COUNT, FLT.CNTI_COUNT, FLT.LOGOVR_COUNT]
  ++ (List.range 32).flatMap (fun k => [FLT.LOGA_CODE k, FLT.LOGA_CYC k, FLT.LOGB_DETAIL k, FLT.LOGC_PAGE k])

/-! ### ECC (R61, R62, R63, R64) -/

def ECC.SCRUBCFG : Nat := 0x40
def ECC.SCRUBCFG_PERIOD : Fld := ⟨0x40, 15, 0, .rws, 100⟩
def ECC.PASSCNT : Nat := 0x44
def ECC.PASSCNT_COUNT : Fld := ⟨0x44, 31, 0, .rc, 0⟩
def ECC.CORR1 : Nat := 0x48
def ECC.CORR1_COUNT : Fld := ⟨0x48, 31, 0, .rc, 0⟩
def ECC.CORR2 : Nat := 0x4C
def ECC.CORR2_COUNT : Fld := ⟨0x4C, 31, 0, .rc, 0⟩
def ECC.UNCORR : Nat := 0x50
def ECC.UNCORR_COUNT : Fld := ⟨0x50, 31, 0, .rc, 0⟩
def ECC.LASTADDR : Nat := 0x54
def ECC.LASTADDR_ADDR : Fld := ⟨0x54, 31, 3, .ro, 0⟩
def ECC.LASTINFO : Nat := 0x58
def ECC.LASTINFO_MASTER : Fld := ⟨0x58, 22, 16, .ro, 0⟩
def ECC.LASTINFO_SCRUB : Fld := ⟨0x58, 8, 8, .ro, 0⟩
def ECC.LASTINFO_KIND : Fld := ⟨0x58, 1, 0, .ro, 0⟩
def ECC.INJCTL : Nat := 0x5C
def ECC.INJCTL_ARM : Fld := ⟨0x5C, 31, 31, .rw, 0⟩
def ECC.INJCTL_COUNT : Fld := ⟨0x5C, 25, 24, .rw, 0⟩
def ECC.INJCTL_BITC : Fld := ⟨0x5C, 22, 16, .rw, 0⟩
def ECC.INJCTL_BITB : Fld := ⟨0x5C, 14, 8, .rw, 0⟩
def ECC.INJCTL_BITA : Fld := ⟨0x5C, 6, 0, .rw, 0⟩
def ECC.INJADDR : Nat := 0x60
def ECC.INJADDR_ADDR : Fld := ⟨0x60, 31, 3, .rw, 0⟩
/-- Every field of a page of kind ECC beyond the header. -/
def ECC.fields : List Fld :=
  [ECC.SCRUBCFG_PERIOD, ECC.PASSCNT_COUNT, ECC.CORR1_COUNT, ECC.CORR2_COUNT, ECC.UNCORR_COUNT, ECC.LASTADDR_ADDR, ECC.LASTINFO_MASTER, ECC.LASTINFO_SCRUB]
  ++ [ECC.LASTINFO_KIND, ECC.INJCTL_ARM, ECC.INJCTL_COUNT, ECC.INJCTL_BITC, ECC.INJCTL_BITB, ECC.INJCTL_BITA, ECC.INJADDR_ADDR]

/-! ### TIME (R157, R158, R159) -/

def TIME.CTL : Nat := 0x40
def TIME.CTL_SRC : Fld := ⟨0x40, 0, 0, .rws, 0⟩
def TIME.RATELIM : Nat := 0x44
def TIME.RATELIM_LIMIT : Fld := ⟨0x44, 30, 0, .rws, 16384⟩
def TIME.RATE : Nat := 0x48
def TIME.RATE_RATE : Fld := ⟨0x48, 31, 0, .rw, 0⟩
def TIME.OFFLO : Nat := 0x4C
def TIME.OFFLO_OFFSET : Fld := ⟨0x4C, 31, 0, .rw, 0⟩
def TIME.OFFHI : Nat := 0x50
def TIME.OFFHI_OFFSET : Fld := ⟨0x50, 31, 0, .rw, 0⟩
def TIME.STEPLO : Nat := 0x54
def TIME.STEPLO_STEP : Fld := ⟨0x54, 31, 0, .wo, 0⟩
def TIME.STEPHI : Nat := 0x58
def TIME.STEPHI_STEP : Fld := ⟨0x58, 31, 0, .wo, 0⟩
def TIME.RREFLO : Nat := 0x5C
def TIME.RREFLO_RREF : Fld := ⟨0x5C, 31, 0, .ro, 0⟩
def TIME.RREFHI : Nat := 0x60
def TIME.RREFHI_RREF : Fld := ⟨0x60, 31, 0, .ro, 0⟩
def TIME.NOWLO : Nat := 0x64
def TIME.NOWLO_T64 : Fld := ⟨0x64, 31, 0, .ro, 0⟩
def TIME.NOWHI : Nat := 0x68
def TIME.NOWHI_T64 : Fld := ⟨0x68, 31, 0, .ro, 0⟩
def TIME.RAWLO : Nat := 0x6C
def TIME.RAWLO_RAW : Fld := ⟨0x6C, 31, 0, .ro, 0⟩
def TIME.RAWHI : Nat := 0x70
def TIME.RAWHI_RAW : Fld := ⟨0x70, 31, 0, .ro, 0⟩
def TIME.SCYCLO : Nat := 0x74
def TIME.SCYCLO_CYC : Fld := ⟨0x74, 31, 0, .ro, 0⟩
def TIME.SCYCHI : Nat := 0x78
def TIME.SCYCHI_CYC : Fld := ⟨0x78, 15, 0, .ro, 0⟩
def TIME.SPHASE : Nat := 0x7C
def TIME.SPHASE_VALID : Fld := ⟨0x7C, 31, 31, .ro, 0⟩
def TIME.SPHASE_PHASE : Fld := ⟨0x7C, 17, 0, .ro, 0⟩
def TIME.REFUSED : Nat := 0x80
def TIME.REFUSED_COUNT : Fld := ⟨0x80, 31, 0, .rc, 0⟩
/-- Every field of a page of kind TIME beyond the header. -/
def TIME.fields : List Fld :=
  [TIME.CTL_SRC, TIME.RATELIM_LIMIT, TIME.RATE_RATE, TIME.OFFLO_OFFSET, TIME.OFFHI_OFFSET, TIME.STEPLO_STEP, TIME.STEPHI_STEP, TIME.RREFLO_RREF]
  ++ [TIME.RREFHI_RREF, TIME.NOWLO_T64, TIME.NOWHI_T64, TIME.RAWLO_RAW, TIME.RAWHI_RAW, TIME.SCYCLO_CYC, TIME.SCYCHI_CYC, TIME.SPHASE_VALID]
  ++ [TIME.SPHASE_PHASE, TIME.REFUSED_COUNT]

/-! ### TPIN (R160) -/

def TPIN.CFG (k : Nat) : Nat := 0x40 + 0x20 * k
def TPIN.CFG_POL (k : Nat) : Fld := ⟨0x40 + 0x20 * k, 1, 1, .rws, 0⟩
def TPIN.CFG_EN (k : Nat) : Fld := ⟨0x40 + 0x20 * k, 0, 0, .rws, 0⟩
def TPIN.CTL (k : Nat) : Nat := 0x44 + 0x20 * k
def TPIN.CTL_ARM (k : Nat) : Fld := ⟨0x44 + 0x20 * k, 31, 31, .rw, 0⟩
def TPIN.CTL_PERIODIC (k : Nat) : Fld := ⟨0x44 + 0x20 * k, 30, 30, .rw, 0⟩
def TPIN.CTL_WIDTH (k : Nat) : Fld := ⟨0x44 + 0x20 * k, 15, 0, .rw, 0⟩
def TPIN.TGTLO (k : Nat) : Nat := 0x48 + 0x20 * k
def TPIN.TGTLO_TARGET (k : Nat) : Fld := ⟨0x48 + 0x20 * k, 31, 0, .rw, 0⟩
def TPIN.TGTHI (k : Nat) : Nat := 0x4C + 0x20 * k
def TPIN.TGTHI_TARGET (k : Nat) : Fld := ⟨0x4C + 0x20 * k, 31, 0, .rw, 0⟩
def TPIN.PERLO (k : Nat) : Nat := 0x50 + 0x20 * k
def TPIN.PERLO_PERIOD (k : Nat) : Fld := ⟨0x50 + 0x20 * k, 31, 0, .rw, 0⟩
def TPIN.PERHI (k : Nat) : Nat := 0x54 + 0x20 * k
def TPIN.PERHI_PERIOD (k : Nat) : Fld := ⟨0x54 + 0x20 * k, 15, 0, .rw, 0⟩
def TPIN.STAT (k : Nat) : Nat := 0x58 + 0x20 * k
def TPIN.STAT_LATE (k : Nat) : Fld := ⟨0x58 + 0x20 * k, 2, 2, .w1c, 0⟩
def TPIN.STAT_FIRED (k : Nat) : Fld := ⟨0x58 + 0x20 * k, 1, 1, .w1c, 0⟩
def TPIN.STAT_ACTIVE (k : Nat) : Fld := ⟨0x58 + 0x20 * k, 0, 0, .ro, 0⟩
def TPIN.SKIP (k : Nat) : Nat := 0x5C + 0x20 * k
def TPIN.SKIP_COUNT (k : Nat) : Fld := ⟨0x5C + 0x20 * k, 31, 0, .rc, 0⟩
/-- Every field of a page of kind TPIN beyond the header. -/
def TPIN.fields : List Fld :=
  []
  ++ (List.range 8).flatMap (fun k => [TPIN.CFG_POL k, TPIN.CFG_EN k, TPIN.CTL_ARM k, TPIN.CTL_PERIODIC k, TPIN.CTL_WIDTH k, TPIN.TGTLO_TARGET k, TPIN.TGTHI_TARGET k, TPIN.PERLO_PERIOD k]
  ++ [TPIN.PERHI_PERIOD k, TPIN.STAT_LATE k, TPIN.STAT_FIRED k, TPIN.STAT_ACTIVE k, TPIN.SKIP_COUNT k])

/-! ### PLNT (R161, R476) -/

def PLNT.MACCFG : Nat := 0x40
def PLNT.MACCFG_BCAST : Fld := ⟨0x40, 9, 9, .rws, 1⟩
def PLNT.MACCFG_PROMISC : Fld := ⟨0x40, 8, 8, .rws, 0⟩
def PLNT.MACCFG_SPEED : Fld := ⟨0x40, 2, 1, .rws, 2⟩
def PLNT.MACCFG_MODE : Fld := ⟨0x40, 0, 0, .rws, 0⟩
def PLNT.MACLO : Nat := 0x44
def PLNT.MACLO_ADDR : Fld := ⟨0x44, 31, 0, .rws, 0⟩
def PLNT.MACHI : Nat := 0x48
def PLNT.MACHI_ADDR : Fld := ⟨0x48, 15, 0, .rws, 0⟩
def PLNT.MACSTAT : Nat := 0x4C
def PLNT.MACSTAT_LINK : Fld := ⟨0x4C, 0, 0, .ro, 0⟩
def PLNT.RXOK : Nat := 0x50
def PLNT.RXOK_COUNT : Fld := ⟨0x50, 31, 0, .rc, 0⟩
def PLNT.RXFCS : Nat := 0x54
def PLNT.RXFCS_COUNT : Fld := ⟨0x54, 31, 0, .rc, 0⟩
def PLNT.RXDROP : Nat := 0x58
def PLNT.RXDROP_COUNT : Fld := ⟨0x58, 31, 0, .rc, 0⟩
def PLNT.TXOK : Nat := 0x5C
def PLNT.TXOK_COUNT : Fld := ⟨0x5C, 31, 0, .rc, 0⟩
def PLNT.TSCFG : Nat := 0xC0
def PLNT.TSCFG_TXLAT : Fld := ⟨0xC0, 31, 16, .rws, 0⟩
def PLNT.TSCFG_RXLAT : Fld := ⟨0xC0, 15, 0, .rws, 0⟩
def PLNT.RXSTAMP : Nat := 0xC4
def PLNT.RXSTAMP_COUNT : Fld := ⟨0xC4, 31, 0, .rc, 0⟩
def PLNT.TXSTAMP : Nat := 0xC8
def PLNT.TXSTAMP_COUNT : Fld := ⟨0xC8, 31, 0, .rc, 0⟩
def PLNT.TXNOSTAMP : Nat := 0xCC
def PLNT.TXNOSTAMP_COUNT : Fld := ⟨0xCC, 31, 0, .rc, 0⟩
/-- Every field of a page of kind PLNT beyond the header. -/
def PLNT.fields : List Fld :=
  [PLNT.MACCFG_BCAST, PLNT.MACCFG_PROMISC, PLNT.MACCFG_SPEED, PLNT.MACCFG_MODE, PLNT.MACLO_ADDR, PLNT.MACHI_ADDR, PLNT.MACSTAT_LINK, PLNT.RXOK_COUNT]
  ++ [PLNT.RXFCS_COUNT, PLNT.RXDROP_COUNT, PLNT.TXOK_COUNT, PLNT.TSCFG_TXLAT, PLNT.TSCFG_RXLAT, PLNT.RXSTAMP_COUNT, PLNT.TXSTAMP_COUNT, PLNT.TXNOSTAMP_COUNT]

/-! ### GIRTH (R132, R133, R134, R135) -/

def GIRTH.CYCLE : Nat := 0x40
def GIRTH.CYCLE_PERDIV : Fld := ⟨0x40, 25, 24, .rws, 1⟩
def GIRTH.CYCLE_TC : Fld := ⟨0x40, 17, 0, .rws, 4000⟩
def GIRTH.CWIN : Nat := 0x44
def GIRTH.CWIN_CUTOFF : Fld := ⟨0x44, 31, 16, .rws, 2750⟩
def GIRTH.CWIN_CWSTART : Fld := ⟨0x44, 15, 0, .rws, 375⟩
def GIRTH.EPOCHLO : Nat := 0x48
def GIRTH.EPOCHLO_EPOCH : Fld := ⟨0x48, 31, 0, .rws, 0⟩
def GIRTH.EPOCHHI : Nat := 0x4C
def GIRTH.EPOCHHI_EPOCH : Fld := ⟨0x4C, 31, 0, .rws, 0⟩
def GIRTH.CYCLO : Nat := 0x50
def GIRTH.CYCLO_CYC : Fld := ⟨0x50, 31, 0, .ro, 0⟩
def GIRTH.CYCHI : Nat := 0x54
def GIRTH.CYCHI_CYC : Fld := ⟨0x54, 15, 0, .ro, 0⟩
def GIRTH.CTLSTAT : Nat := 0x58
def GIRTH.CTLSTAT_CYCERR : Fld := ⟨0x58, 1, 1, .w1c, 0⟩
def GIRTH.CTLSTAT_REPORT : Fld := ⟨0x58, 0, 0, .ro, 0⟩
def GIRTH.CYCERR : Nat := 0x5C
def GIRTH.CYCERR_COUNT : Fld := ⟨0x5C, 31, 0, .rc, 0⟩
def GIRTH.CTLRST : Nat := 0x60
def GIRTH.CTLRST_COUNT : Fld := ⟨0x60, 31, 0, .rc, 0⟩
/-- Every field of a page of kind GIRTH beyond the header. -/
def GIRTH.fields : List Fld :=
  [GIRTH.CYCLE_PERDIV, GIRTH.CYCLE_TC, GIRTH.CWIN_CUTOFF, GIRTH.CWIN_CWSTART, GIRTH.EPOCHLO_EPOCH, GIRTH.EPOCHHI_EPOCH, GIRTH.CYCLO_CYC, GIRTH.CYCHI_CYC]
  ++ [GIRTH.CTLSTAT_CYCERR, GIRTH.CTLSTAT_REPORT, GIRTH.CYCERR_COUNT, GIRTH.CTLRST_COUNT]

/-! ### NPORT (R109, R110, R111, R112, R136, R137, R138, R139, R140, R538) -/

def NPORT.LINKCFG : Nat := 0x40
def NPORT.LINKCFG_ETYPE : Fld := ⟨0x40, 31, 16, .rws, 34997⟩
def NPORT.LINKCFG_RXINV : Fld := ⟨0x40, 1, 1, .rws, 0⟩
def NPORT.LINKCFG_RATE : Fld := ⟨0x40, 0, 0, .rws, 0⟩
def NPORT.LINKSTAT : Nat := 0x44
def NPORT.LINKSTAT_BABMARK : Fld := ⟨0x44, 5, 5, .w1c, 0⟩
def NPORT.LINKSTAT_LDOVER : Fld := ⟨0x44, 4, 4, .w1c, 0⟩
def NPORT.LINKSTAT_SYNCLOSS : Fld := ⟨0x44, 3, 3, .w1c, 0⟩
def NPORT.LINKSTAT_LDVALID : Fld := ⟨0x44, 2, 2, .ro, 0⟩
def NPORT.LINKSTAT_RATE : Fld := ⟨0x44, 1, 1, .ro, 0⟩
def NPORT.LINKSTAT_SYNC : Fld := ⟨0x44, 0, 0, .ro, 0⟩
def NPORT.LDELAY : Nat := 0x48
def NPORT.LDELAY_MARKADJ : Fld := ⟨0x48, 31, 24, .ro, 0⟩
def NPORT.LDELAY_VALUE : Fld := ⟨0x48, 23, 0, .ro, 0⟩
def NPORT.LDCFG : Nat := 0x4C
def NPORT.LDCFG_LDMAX : Fld := ⟨0x4C, 31, 16, .rws, 100⟩
def NPORT.LDCFG_DLYPER : Fld := ⟨0x4C, 15, 0, .rws, 1000⟩
def NPORT.CGERR : Nat := 0x50
def NPORT.CGERR_COUNT : Fld := ⟨0x50, 31, 0, .rc, 0⟩
def NPORT.DELIV : Nat := 0x54
def NPORT.DELIV_COUNT : Fld := ⟨0x54, 31, 0, .rc, 0⟩
def NPORT.STALE : Nat := 0x58
def NPORT.STALE_COUNT : Fld := ⟨0x58, 31, 0, .rc, 0⟩
def NPORT.MISSING : Nat := 0x5C
def NPORT.MISSING_COUNT : Fld := ⟨0x5C, 31, 0, .rc, 0⟩
def NPORT.FCSERR : Nat := 0x60
def NPORT.FCSERR_COUNT : Fld := ⟨0x60, 31, 0, .rc, 0⟩
def NPORT.HDRERR : Nat := 0x64
def NPORT.HDRERR_COUNT : Fld := ⟨0x64, 31, 0, .rc, 0⟩
def NPORT.LENERR : Nat := 0x68
def NPORT.LENERR_COUNT : Fld := ⟨0x68, 31, 0, .rc, 0⟩
def NPORT.MBXSENT : Nat := 0x6C
def NPORT.MBXSENT_COUNT : Fld := ⟨0x6C, 31, 0, .rc, 0⟩
def NPORT.MBXRECV : Nat := 0x70
def NPORT.MBXRECV_COUNT : Fld := ⟨0x70, 31, 0, .rc, 0⟩
def NPORT.MBXDROP : Nat := 0x74
def NPORT.MBXDROP_COUNT : Fld := ⟨0x74, 31, 0, .rc, 0⟩
def NPORT.NODEID : Nat := 0x78
def NPORT.NODEID_NODE : Fld := ⟨0x78, 7, 0, .rws, 0⟩
def NPORT.UPWIN : Nat := 0x80
def NPORT.UPWIN_CLOSE : Fld := ⟨0x80, 31, 16, .rws, 1000⟩
def NPORT.UPWIN_OPEN : Fld := ⟨0x80, 15, 0, .rws, 250⟩
def NPORT.PORTCFG : Nat := 0x84
def NPORT.PORTCFG_NCLASS : Fld := ⟨0x84, 31, 16, .rws, 0⟩
def NPORT.PORTCFG_HOLDMAX : Fld := ⟨0x84, 15, 12, .rws, 2⟩
def NPORT.PORTCFG_AXCNT : Fld := ⟨0x84, 11, 8, .rws, 0⟩
def NPORT.PORTCFG_GUARD : Fld := ⟨0x84, 7, 0, .rws, 40⟩
def NPORT.FRMLEN : Nat := 0x88
def NPORT.FRMLEN_DNLEN : Fld := ⟨0x88, 31, 16, .ro, 72⟩
def NPORT.FRMLEN_UPLEN : Fld := ⟨0x88, 15, 0, .ro, 72⟩
def NPORT.DLWIN : Nat := 0x8C
def NPORT.DLWIN_DLSTART : Fld := ⟨0x8C, 15, 0, .rws, 2760⟩
def NPORT.ACYWIN : Nat := 0x90
def NPORT.ACYWIN_END : Fld := ⟨0x90, 31, 16, .rws, 3800⟩
def NPORT.ACYWIN_START : Fld := ⟨0x90, 15, 0, .rws, 3500⟩
def NPORT.JOINWIN : Nat := 0x94
def NPORT.JOINWIN_CLOSE : Fld := ⟨0x94, 31, 16, .rws, 0⟩
def NPORT.JOINWIN_OPEN : Fld := ⟨0x94, 15, 0, .rws, 0⟩
def NPORT.RELAYCFG : Nat := 0x98
def NPORT.RELAYCFG_RLYSTART : Fld := ⟨0x98, 31, 16, .rws, 0⟩
def NPORT.RELAYCFG_COUNT : Fld := ⟨0x98, 4, 0, .rws, 0⟩
def NPORT.BABCFG : Nat := 0x9C
def NPORT.BABCFG_BABM : Fld := ⟨0x9C, 31, 16, .rws, 1000⟩
def NPORT.BABCFG_BABN : Fld := ⟨0x9C, 7, 0, .rws, 8⟩
def NPORT.SCHSTAT : Nat := 0xA0
def NPORT.SCHSTAT_HIST : Fld := ⟨0xA0, 31, 16, .ro, 0⟩
def NPORT.SCHSTAT_GRANTED : Fld := ⟨0xA0, 9, 9, .ro, 0⟩
def NPORT.SCHSTAT_BLOCKED : Fld := ⟨0xA0, 8, 8, .w1c, 0⟩
def NPORT.SCHSTAT_PORTST : Fld := ⟨0xA0, 2, 0, .ro, 0⟩
def NPORT.EARLY : Nat := 0xA4
def NPORT.EARLY_COUNT : Fld := ⟨0xA4, 31, 0, .rc, 0⟩
def NPORT.LATE : Nat := 0xA8
def NPORT.LATE_COUNT : Fld := ⟨0xA8, 31, 0, .rc, 0⟩
def NPORT.TRUNC : Nat := 0xAC
def NPORT.TRUNC_COUNT : Fld := ⟨0xAC, 31, 0, .rc, 0⟩
def NPORT.VIOL : Nat := 0xB0
def NPORT.VIOL_COUNT : Fld := ⟨0xB0, 31, 0, .rc, 0⟩
def NPORT.JOINREJ : Nat := 0xB4
def NPORT.JOINREJ_COUNT : Fld := ⟨0xB4, 31, 0, .rc, 0⟩
def NPORT.GRANTUID : Nat := 0xB8
def NPORT.GRANTUID_NUID : Fld := ⟨0xB8, 31, 0, .ro, 0⟩
def NPORT.NODEWIN : Nat := 0xBC
def NPORT.NODEWIN_CLOSE : Fld := ⟨0xBC, 31, 16, .ro, 0⟩
def NPORT.NODEWIN_OPEN : Fld := ⟨0xBC, 15, 0, .ro, 0⟩
def NPORT.RELAY (k : Nat) : Nat := 0xC0 + 0x4 * k
def NPORT.RELAY_SPORT (k : Nat) : Fld := ⟨0xC0 + 0x4 * k, 12, 8, .rws, 0⟩
def NPORT.RELAY_SSLOT (k : Nat) : Fld := ⟨0xC0 + 0x4 * k, 6, 4, .rws, 0⟩
def NPORT.RELAY_SWORD (k : Nat) : Fld := ⟨0xC0 + 0x4 * k, 3, 2, .rws, 0⟩
def NPORT.RELAY_SAGE (k : Nat) : Fld := ⟨0xC0 + 0x4 * k, 0, 0, .rws, 0⟩
/-- Every field of a page of kind NPORT beyond the header. -/
def NPORT.fields : List Fld :=
  [NPORT.LINKCFG_ETYPE, NPORT.LINKCFG_RXINV, NPORT.LINKCFG_RATE, NPORT.LINKSTAT_BABMARK, NPORT.LINKSTAT_LDOVER, NPORT.LINKSTAT_SYNCLOSS, NPORT.LINKSTAT_LDVALID, NPORT.LINKSTAT_RATE]
  ++ [NPORT.LINKSTAT_SYNC, NPORT.LDELAY_MARKADJ, NPORT.LDELAY_VALUE, NPORT.LDCFG_LDMAX, NPORT.LDCFG_DLYPER, NPORT.CGERR_COUNT, NPORT.DELIV_COUNT, NPORT.STALE_COUNT]
  ++ [NPORT.MISSING_COUNT, NPORT.FCSERR_COUNT, NPORT.HDRERR_COUNT, NPORT.LENERR_COUNT, NPORT.MBXSENT_COUNT, NPORT.MBXRECV_COUNT, NPORT.MBXDROP_COUNT, NPORT.NODEID_NODE]
  ++ [NPORT.UPWIN_CLOSE, NPORT.UPWIN_OPEN, NPORT.PORTCFG_NCLASS, NPORT.PORTCFG_HOLDMAX, NPORT.PORTCFG_AXCNT, NPORT.PORTCFG_GUARD, NPORT.FRMLEN_DNLEN, NPORT.FRMLEN_UPLEN]
  ++ [NPORT.DLWIN_DLSTART, NPORT.ACYWIN_END, NPORT.ACYWIN_START, NPORT.JOINWIN_CLOSE, NPORT.JOINWIN_OPEN, NPORT.RELAYCFG_RLYSTART, NPORT.RELAYCFG_COUNT, NPORT.BABCFG_BABM]
  ++ [NPORT.BABCFG_BABN, NPORT.SCHSTAT_HIST, NPORT.SCHSTAT_GRANTED, NPORT.SCHSTAT_BLOCKED, NPORT.SCHSTAT_PORTST, NPORT.EARLY_COUNT, NPORT.LATE_COUNT, NPORT.TRUNC_COUNT]
  ++ [NPORT.VIOL_COUNT, NPORT.JOINREJ_COUNT, NPORT.GRANTUID_NUID, NPORT.NODEWIN_CLOSE, NPORT.NODEWIN_OPEN]
  ++ (List.range 16).flatMap (fun k => [NPORT.RELAY_SPORT k, NPORT.RELAY_SSLOT k, NPORT.RELAY_SWORD k, NPORT.RELAY_SAGE k])

/-! ### LAT (R393, R394, R395, R396) -/

def LAT.PCFG : Nat := 0x40
def LAT.PCFG_EN : Fld := ⟨0x40, 31, 31, .rws, 0⟩
def LAT.PCFG_RSCMP : Fld := ⟨0x40, 23, 16, .rws, 16⟩
def LAT.PCFG_TLOST : Fld := ⟨0x40, 15, 8, .rws, 4⟩
def LAT.PCFG_PLANE : Fld := ⟨0x40, 0, 0, .rws, 0⟩
def LAT.HOLDCFG : Nat := 0x44
def LAT.HOLDCFG_HOLDLIM : Fld := ⟨0x44, 15, 0, .rws, 9000⟩
def LAT.TCFG : Nat := 0x48
def LAT.TCFG_TDMAX : Fld := ⟨0x48, 31, 16, .rws, 100⟩
def LAT.TCFG_LOCKTOL : Fld := ⟨0x48, 15, 0, .rws, 64⟩
def LAT.SCHED : Nat := 0x4C
def LAT.SCHED_ARRT : Fld := ⟨0x4C, 31, 16, .ro, 0⟩
def LAT.SCHED_SYNCT : Fld := ⟨0x4C, 15, 0, .rws, 3000⟩
def LAT.CTL : Nat := 0x50
def LAT.CTL_HANDOVER : Fld := ⟨0x50, 1, 1, .wo, 0⟩
def LAT.CTL_SOLO : Fld := ⟨0x50, 0, 0, .wo, 0⟩
def LAT.STAT : Nat := 0x54
def LAT.STAT_TWINID : Fld := ⟨0x54, 23, 21, .ro, 0⟩
def LAT.STAT_TWINSEEN : Fld := ⟨0x54, 20, 20, .ro, 0⟩
def LAT.STAT_LANE1 : Fld := ⟨0x54, 17, 17, .ro, 0⟩
def LAT.STAT_LANE0 : Fld := ⟨0x54, 16, 16, .ro, 0⟩
def LAT.STAT_CFGERR : Fld := ⟨0x54, 12, 12, .ro, 0⟩
def LAT.STAT_HPEND : Fld := ⟨0x54, 11, 11, .ro, 0⟩
def LAT.STAT_LOCKED : Fld := ⟨0x54, 10, 10, .ro, 0⟩
def LAT.STAT_ROLE : Fld := ⟨0x54, 9, 8, .ro, 0⟩
def LAT.STAT_PSTATE : Fld := ⟨0x54, 2, 0, .ro, 0⟩
def LAT.TRATE : Nat := 0x58
def LAT.TRATE_RATE : Fld := ⟨0x58, 31, 0, .rw, 0⟩
def LAT.TDELAY : Nat := 0x5C
def LAT.TDELAY_D : Fld := ⟨0x5C, 23, 0, .ro, 0⟩
def LAT.TERR : Nat := 0x60
def LAT.TERR_E : Fld := ⟨0x60, 31, 0, .ro, 0⟩
def LAT.PORTINV : Nat := 0x64
def LAT.PORTINV_INV : Fld := ⟨0x64, 31, 0, .ro, 0⟩
def LAT.RSLEFT : Nat := 0x68
def LAT.RSLEFT_ALL : Fld := ⟨0x68, 31, 31, .ro, 0⟩
def LAT.RSLEFT_AXES : Fld := ⟨0x68, 8, 0, .ro, 0⟩
def LAT.HCYCLO : Nat := 0x6C
def LAT.HCYCLO_HCYC : Fld := ⟨0x6C, 31, 0, .ro, 0⟩
def LAT.MISMATCH : Nat := 0x70
def LAT.MISMATCH_COUNT : Fld := ⟨0x70, 31, 0, .rc, 0⟩
def LAT.SELFINV : Nat := 0x74
def LAT.SELFINV_COUNT : Fld := ⟨0x74, 31, 0, .rc, 0⟩
def LAT.CMDFWD : Nat := 0x78
def LAT.CMDFWD_COUNT : Fld := ⟨0x78, 31, 0, .rc, 0⟩
def LAT.CMDRETX : Nat := 0x7C
def LAT.CMDRETX_COUNT : Fld := ⟨0x7C, 31, 0, .rc, 0⟩
def LAT.COPIES : Nat := 0x80
def LAT.COPIES_COUNT : Fld := ⟨0x80, 31, 0, .rc, 0⟩
def LAT.COPYDISC : Nat := 0x84
def LAT.COPYDISC_COUNT : Fld := ⟨0x84, 31, 0, .rc, 0⟩
def LAT.HOLDCYC : Nat := 0x88
def LAT.HOLDCYC_COUNT : Fld := ⟨0x88, 31, 0, .rc, 0⟩
def LAT.SYNCERR : Nat := 0x8C
def LAT.SYNCERR_COUNT : Fld := ⟨0x8C, 31, 0, .rc, 0⟩
/-- Every field of a page of kind LAT beyond the header. -/
def LAT.fields : List Fld :=
  [LAT.PCFG_EN, LAT.PCFG_RSCMP, LAT.PCFG_TLOST, LAT.PCFG_PLANE, LAT.HOLDCFG_HOLDLIM, LAT.TCFG_TDMAX, LAT.TCFG_LOCKTOL, LAT.SCHED_ARRT]
  ++ [LAT.SCHED_SYNCT, LAT.CTL_HANDOVER, LAT.CTL_SOLO, LAT.STAT_TWINID, LAT.STAT_TWINSEEN, LAT.STAT_LANE1, LAT.STAT_LANE0, LAT.STAT_CFGERR]
  ++ [LAT.STAT_HPEND, LAT.STAT_LOCKED, LAT.STAT_ROLE, LAT.STAT_PSTATE, LAT.TRATE_RATE, LAT.TDELAY_D, LAT.TERR_E, LAT.PORTINV_INV]
  ++ [LAT.RSLEFT_ALL, LAT.RSLEFT_AXES, LAT.HCYCLO_HCYC, LAT.MISMATCH_COUNT, LAT.SELFINV_COUNT, LAT.CMDFWD_COUNT, LAT.CMDRETX_COUNT, LAT.COPIES_COUNT]
  ++ [LAT.COPYDISC_COUNT, LAT.HOLDCYC_COUNT, LAT.SYNCERR_COUNT]

/-! ### CINCH (R190, R191, R192, R193) -/

def CINCH.GRAPHCFG : Nat := 0x40
def CINCH.GRAPHCFG_TASKCNT : Fld := ⟨0x40, 12, 0, .rws, 0⟩
def CINCH.GBASE : Nat := 0x44
def CINCH.GBASE_ADDR : Fld := ⟨0x44, 31, 5, .rws, 0⟩
def CINCH.SCHCFG : Nat := 0x48
def CINCH.SCHCFG_AFFWAIT : Fld := ⟨0x48, 9, 0, .rws, 100⟩
def CINCH.LEDCFG : Nat := 0x50
def CINCH.LEDCFG_EN : Fld := ⟨0x50, 31, 31, .rws, 0⟩
def CINCH.LEDCFG_SIZE : Fld := ⟨0x50, 3, 0, .rws, 8⟩
def CINCH.LEDBASE : Nat := 0x54
def CINCH.LEDBASE_ADDR : Fld := ⟨0x54, 31, 6, .rws, 0⟩
def CINCH.LEDWR : Nat := 0x58
def CINCH.LEDWR_INDEX : Fld := ⟨0x58, 15, 0, .ro, 0⟩
def CINCH.DONE : Nat := 0x5C
def CINCH.DONE_COUNT : Fld := ⟨0x5C, 31, 0, .rc, 0⟩
def CINCH.LATE : Nat := 0x60
def CINCH.LATE_COUNT : Fld := ⟨0x60, 31, 0, .rc, 0⟩
def CINCH.SKIPPED : Nat := 0x64
def CINCH.SKIPPED_COUNT : Fld := ⟨0x64, 31, 0, .rc, 0⟩
def CINCH.TRIGREJ : Nat := 0x68
def CINCH.TRIGREJ_COUNT : Fld := ⟨0x68, 31, 0, .rc, 0⟩
def CINCH.SVCTRIG : Nat := 0x6C
def CINCH.SVCTRIG_TASK : Fld := ⟨0x6C, 11, 0, .wo, 0⟩
def CINCH.LOADERR : Nat := 0x70
def CINCH.LOADERR_TASK : Fld := ⟨0x70, 27, 16, .ro, 0⟩
def CINCH.LOADERR_REASON : Fld := ⟨0x70, 3, 0, .ro, 0⟩
def CINCH.SVCDROP : Nat := 0x74
def CINCH.SVCDROP_COUNT : Fld := ⟨0x74, 31, 0, .rc, 0⟩
/-- Every field of a page of kind CINCH beyond the header. -/
def CINCH.fields : List Fld :=
  [CINCH.GRAPHCFG_TASKCNT, CINCH.GBASE_ADDR, CINCH.SCHCFG_AFFWAIT, CINCH.LEDCFG_EN, CINCH.LEDCFG_SIZE, CINCH.LEDBASE_ADDR, CINCH.LEDWR_INDEX, CINCH.DONE_COUNT]
  ++ [CINCH.LATE_COUNT, CINCH.SKIPPED_COUNT, CINCH.TRIGREJ_COUNT, CINCH.SVCTRIG_TASK, CINCH.LOADERR_TASK, CINCH.LOADERR_REASON, CINCH.SVCDROP_COUNT]

/-! ### CINCHB (R194, R195, R196, R197, R198, R199) -/

def CINCHB.AWLEN : Nat := 0x40
def CINCHB.AWLEN_EN : Fld := ⟨0x40, 7, 0, .rw, 255⟩
def CINCHB.CMDCFG : Nat := 0x44
def CINCHB.CMDCFG_CMDMAX : Fld := ⟨0x44, 22, 16, .rws, 16⟩
def CINCHB.CMDCFG_RINGLOG2 : Fld := ⟨0x44, 3, 0, .rws, 6⟩
def CINCHB.CMDBASE : Nat := 0x48
def CINCHB.CMDBASE_ADDR : Fld := ⟨0x48, 31, 5, .rws, 0⟩
def CINCHB.CMDTAIL : Nat := 0x4C
def CINCHB.CMDTAIL_INDEX : Fld := ⟨0x4C, 11, 0, .rw, 0⟩
def CINCHB.CMDHEAD : Nat := 0x50
def CINCHB.CMDHEAD_INDEX : Fld := ⟨0x50, 11, 0, .ro, 0⟩
def CINCHB.CMDAPP : Nat := 0x54
def CINCHB.CMDAPP_COUNT : Fld := ⟨0x54, 31, 0, .rc, 0⟩
def CINCHB.CMDREJ : Nat := 0x58
def CINCHB.CMDREJ_COUNT : Fld := ⟨0x58, 31, 0, .rc, 0⟩
def CINCHB.SVCMERGE : Nat := 0x5C
def CINCHB.SVCMERGE_COUNT : Fld := ⟨0x5C, 31, 0, .rc, 0⟩
def CINCHB.QDEPTH : Nat := 0x60
def CINCHB.QDEPTH_SVC : Fld := ⟨0x60, 31, 16, .ro, 0⟩
def CINCHB.QDEPTH_CYC : Fld := ⟨0x60, 15, 0, .ro, 0⟩
def CINCHB.WAITMIN : Nat := 0x64
def CINCHB.WAITMIN_NS : Fld := ⟨0x64, 15, 0, .ro, 65535⟩
def CINCHB.WAITMAX : Nat := 0x68
def CINCHB.WAITMAX_NS : Fld := ⟨0x68, 15, 0, .ro, 0⟩
def CINCHB.WAITLAST : Nat := 0x6C
def CINCHB.WAITLAST_NS : Fld := ⟨0x6C, 15, 0, .ro, 0⟩
def CINCHB.STATCLR : Nat := 0x7C
def CINCHB.STATCLR_CLR : Fld := ⟨0x7C, 0, 0, .wo, 0⟩
def CINCHB.BUDGET (k : Nat) : Nat := 0x80 + 0x4 * k
def CINCHB.BUDGET_NS (k : Nat) : Fld := ⟨0x80 + 0x4 * k, 19, 0, .rw, 0⟩
def CINCHB.BUSYLAST (k : Nat) : Nat := 0x100 + 0x20 * k
def CINCHB.BUSYLAST_NS (k : Nat) : Fld := ⟨0x100 + 0x20 * k, 19, 0, .ro, 0⟩
def CINCHB.BUSYMAX (k : Nat) : Nat := 0x104 + 0x20 * k
def CINCHB.BUSYMAX_NS (k : Nat) : Fld := ⟨0x104 + 0x20 * k, 19, 0, .ro, 0⟩
def CINCHB.BUSYAVG (k : Nat) : Nat := 0x108 + 0x20 * k
def CINCHB.BUSYAVG_NS (k : Nat) : Fld := ⟨0x108 + 0x20 * k, 19, 0, .ro, 0⟩
def CINCHB.DEBT (k : Nat) : Nat := 0x10C + 0x20 * k
def CINCHB.DEBT_NS (k : Nat) : Fld := ⟨0x10C + 0x20 * k, 19, 0, .ro, 0⟩
def CINCHB.SVCUSED (k : Nat) : Nat := 0x110 + 0x20 * k
def CINCHB.SVCUSED_COUNT (k : Nat) : Fld := ⟨0x110 + 0x20 * k, 31, 0, .rc, 0⟩
def CINCHB.SVCLAPSED (k : Nat) : Nat := 0x114 + 0x20 * k
def CINCHB.SVCLAPSED_COUNT (k : Nat) : Fld := ⟨0x114 + 0x20 * k, 31, 0, .rc, 0⟩
def CINCHB.OVERBUD (k : Nat) : Nat := 0x118 + 0x20 * k
def CINCHB.OVERBUD_COUNT (k : Nat) : Fld := ⟨0x118 + 0x20 * k, 31, 0, .rc, 0⟩
def CINCHB.SVCABORT (k : Nat) : Nat := 0x11C + 0x20 * k
def CINCHB.SVCABORT_COUNT (k : Nat) : Fld := ⟨0x11C + 0x20 * k, 31, 0, .rc, 0⟩
def CINCHB.COMPLAST (k : Nat) : Nat := 0x200 + 0x8 * k
def CINCHB.COMPLAST_TICK (k : Nat) : Fld := ⟨0x200 + 0x8 * k, 17, 0, .ro, 0⟩
def CINCHB.COMPMAX (k : Nat) : Nat := 0x204 + 0x8 * k
def CINCHB.COMPMAX_TICK (k : Nat) : Fld := ⟨0x204 + 0x8 * k, 17, 0, .ro, 0⟩
/-- Every field of a page of kind CINCHB beyond the header. -/
def CINCHB.fields : List Fld :=
  [CINCHB.AWLEN_EN, CINCHB.CMDCFG_CMDMAX, CINCHB.CMDCFG_RINGLOG2, CINCHB.CMDBASE_ADDR, CINCHB.CMDTAIL_INDEX, CINCHB.CMDHEAD_INDEX, CINCHB.CMDAPP_COUNT, CINCHB.CMDREJ_COUNT]
  ++ [CINCHB.SVCMERGE_COUNT, CINCHB.QDEPTH_SVC, CINCHB.QDEPTH_CYC, CINCHB.WAITMIN_NS, CINCHB.WAITMAX_NS, CINCHB.WAITLAST_NS, CINCHB.STATCLR_CLR]
  ++ (List.range 8).flatMap (fun k => [CINCHB.BUDGET_NS k, CINCHB.BUSYLAST_NS k, CINCHB.BUSYMAX_NS k, CINCHB.BUSYAVG_NS k, CINCHB.DEBT_NS k, CINCHB.SVCUSED_COUNT k, CINCHB.SVCLAPSED_COUNT k, CINCHB.OVERBUD_COUNT k]
  ++ [CINCHB.SVCABORT_COUNT k])
  ++ (List.range 32).flatMap (fun k => [CINCHB.COMPLAST_TICK k, CINCHB.COMPMAX_TICK k])

/-! ### AWL (R230, R231, R232, R233, R275, R276, R277) -/

def AWL.EXEC : Nat := 0x40
def AWL.EXEC_BUSY : Fld := ⟨0x40, 31, 31, .ro, 0⟩
def AWL.EXEC_QWAIT : Fld := ⟨0x40, 30, 30, .ro, 0⟩
def AWL.EXEC_SVCHELD : Fld := ⟨0x40, 29, 29, .ro, 0⟩
def AWL.EXEC_BANK : Fld := ⟨0x40, 28, 28, .ro, 0⟩
def AWL.EXEC_AXIS : Fld := ⟨0x40, 23, 16, .ro, 0⟩
def AWL.EXEC_NOAXIS : Fld := ⟨0x40, 15, 15, .ro, 0⟩
def AWL.EXEC_TASK : Fld := ⟨0x40, 11, 0, .ro, 0⟩
def AWL.PC : Nat := 0x44
def AWL.PC_PC : Fld := ⟨0x44, 13, 0, .ro, 0⟩
def AWL.ENDSR : Nat := 0x48
def AWL.ENDSR_SR : Fld := ⟨0x48, 31, 0, .ro, 0⟩
def AWL.ENDCTX : Nat := 0x4C
def AWL.ENDCTX_CTX : Fld := ⟨0x4C, 31, 0, .ro, 0⟩
def AWL.STICKY : Nat := 0x50
def AWL.STICKY_SQ : Fld := ⟨0x50, 2, 2, .w1c, 0⟩
def AWL.STICKY_SG : Fld := ⟨0x50, 1, 1, .w1c, 0⟩
def AWL.STICKY_SV : Fld := ⟨0x50, 0, 0, .w1c, 0⟩
def AWL.QSTAT : Nat := 0x54
def AWL.QSTAT_PEND : Fld := ⟨0x54, 31, 16, .ro, 0⟩
def AWL.QSTAT_DONE : Fld := ⟨0x54, 15, 0, .ro, 0⟩
def AWL.QERR : Nat := 0x58
def AWL.QERR_VALID : Fld := ⟨0x58, 31, 31, .w1c, 0⟩
def AWL.QERR_KIND : Fld := ⟨0x58, 26, 24, .ro, 0⟩
def AWL.QERR_ENTRY : Fld := ⟨0x58, 19, 16, .ro, 0⟩
def AWL.QERR_BANK : Fld := ⟨0x58, 12, 12, .ro, 0⟩
def AWL.QERR_TASK : Fld := ⟨0x58, 11, 0, .ro, 0⟩
def AWL.QERRADDR : Nat := 0x5C
def AWL.QERRADDR_ADDR : Fld := ⟨0x5C, 31, 0, .ro, 0⟩
def AWL.INSTR : Nat := 0x60
def AWL.INSTR_COUNT : Fld := ⟨0x60, 31, 0, .rc, 0⟩
def AWL.COEFSTALL : Nat := 0x64
def AWL.COEFSTALL_COUNT : Fld := ⟨0x64, 31, 0, .rc, 0⟩
def AWL.QSTALL : Nat := 0x68
def AWL.QSTALL_COUNT : Fld := ⟨0x68, 31, 0, .rc, 0⟩
def AWL.EXTSTALL : Nat := 0x6C
def AWL.EXTSTALL_COUNT : Fld := ⟨0x6C, 31, 0, .rc, 0⟩
def AWL.EXCCFG : Nat := 0x70
def AWL.EXCCFG_EN : Fld := ⟨0x70, 31, 31, .rws, 0⟩
def AWL.EXCCFG_ENTRY : Fld := ⟨0x70, 13, 0, .rws, 0⟩
def AWL.EXCSTAT : Nat := 0x74
def AWL.EXCSTAT_EXM1 : Fld := ⟨0x74, 17, 17, .ro, 0⟩
def AWL.EXCSTAT_EXM0 : Fld := ⟨0x74, 16, 16, .ro, 0⟩
def AWL.EXCSTAT_LAST : Fld := ⟨0x74, 7, 0, .ro, 0⟩
def AWL.EXCCNT : Nat := 0x78
def AWL.EXCCNT_COUNT : Fld := ⟨0x78, 31, 0, .rc, 0⟩
def AWL.DBGCTL : Nat := 0x80
def AWL.DBGCTL_EXCHALT : Fld := ⟨0x80, 3, 3, .rw, 0⟩
def AWL.DBGCTL_BKEN : Fld := ⟨0x80, 2, 2, .rw, 0⟩
def AWL.DBGCTL_STEP : Fld := ⟨0x80, 1, 1, .wo, 0⟩
def AWL.DBGCTL_HALT : Fld := ⟨0x80, 0, 0, .rw, 0⟩
def AWL.DBGSTAT : Nat := 0x84
def AWL.DBGSTAT_HALTED : Fld := ⟨0x84, 31, 31, .ro, 0⟩
def AWL.DBGSTAT_REASON : Fld := ⟨0x84, 18, 16, .ro, 0⟩
def AWL.DBGSTAT_PC : Fld := ⟨0x84, 13, 0, .ro, 0⟩
def AWL.BP0 : Nat := 0x88
def AWL.BP0_EN : Fld := ⟨0x88, 31, 31, .rw, 0⟩
def AWL.BP0_ADDR : Fld := ⟨0x88, 13, 0, .rw, 0⟩
def AWL.BP1 : Nat := 0x8C
def AWL.BP1_EN : Fld := ⟨0x8C, 31, 31, .rw, 0⟩
def AWL.BP1_ADDR : Fld := ⟨0x8C, 13, 0, .rw, 0⟩
def AWL.DBGRSEL : Nat := 0x90
def AWL.DBGRSEL_BANK : Fld := ⟨0x90, 8, 8, .rw, 0⟩
def AWL.DBGRSEL_REG : Fld := ⟨0x90, 6, 0, .rw, 0⟩
def AWL.DBGRDATA : Nat := 0x94
def AWL.DBGRDATA_DATA : Fld := ⟨0x94, 31, 0, .rw, 0⟩
/-- Every field of a page of kind AWL beyond the header. -/
def AWL.fields : List Fld :=
  [AWL.EXEC_BUSY, AWL.EXEC_QWAIT, AWL.EXEC_SVCHELD, AWL.EXEC_BANK, AWL.EXEC_AXIS, AWL.EXEC_NOAXIS, AWL.EXEC_TASK, AWL.PC_PC]
  ++ [AWL.ENDSR_SR, AWL.ENDCTX_CTX, AWL.STICKY_SQ, AWL.STICKY_SG, AWL.STICKY_SV, AWL.QSTAT_PEND, AWL.QSTAT_DONE, AWL.QERR_VALID]
  ++ [AWL.QERR_KIND, AWL.QERR_ENTRY, AWL.QERR_BANK, AWL.QERR_TASK, AWL.QERRADDR_ADDR, AWL.INSTR_COUNT, AWL.COEFSTALL_COUNT, AWL.QSTALL_COUNT]
  ++ [AWL.EXTSTALL_COUNT, AWL.EXCCFG_EN, AWL.EXCCFG_ENTRY, AWL.EXCSTAT_EXM1, AWL.EXCSTAT_EXM0, AWL.EXCSTAT_LAST, AWL.EXCCNT_COUNT, AWL.DBGCTL_EXCHALT]
  ++ [AWL.DBGCTL_BKEN, AWL.DBGCTL_STEP, AWL.DBGCTL_HALT, AWL.DBGSTAT_HALTED, AWL.DBGSTAT_REASON, AWL.DBGSTAT_PC, AWL.BP0_EN, AWL.BP0_ADDR]
  ++ [AWL.BP1_EN, AWL.BP1_ADDR, AWL.DBGRSEL_BANK, AWL.DBGRSEL_REG, AWL.DBGRDATA_DATA]

/-! ### BENCH (R234) -/

def BENCH.QLATLAST : Nat := 0x40
def BENCH.QLATLAST_NS : Fld := ⟨0x40, 15, 0, .ro, 0⟩
def BENCH.QLATMAX : Nat := 0x44
def BENCH.QLATMAX_NS : Fld := ⟨0x44, 15, 0, .ro, 0⟩
def BENCH.ENTRIES : Nat := 0x48
def BENCH.ENTRIES_COUNT : Fld := ⟨0x48, 31, 0, .rc, 0⟩
def BENCH.CONTEND : Nat := 0x4C
def BENCH.CONTEND_COUNT : Fld := ⟨0x4C, 31, 0, .rc, 0⟩
def BENCH.EXTACC : Nat := 0x50
def BENCH.EXTACC_COUNT : Fld := ⟨0x50, 31, 0, .rc, 0⟩
def BENCH.STATCLR : Nat := 0x7C
def BENCH.STATCLR_CLR : Fld := ⟨0x7C, 0, 0, .wo, 0⟩
/-- Every field of a page of kind BENCH beyond the header. -/
def BENCH.fields : List Fld :=
  [BENCH.QLATLAST_NS, BENCH.QLATMAX_NS, BENCH.ENTRIES_COUNT, BENCH.CONTEND_COUNT, BENCH.EXTACC_COUNT, BENCH.STATCLR_CLR]

/-! ### PG (R325, R326) -/

def PG.CAMUSE : Nat := 0x40
def PG.CAMUSE_USE : Fld := ⟨0x40, 15, 0, .ro, 0⟩
def PG.PGTIME : Nat := 0x44
def PG.PGTIME_MAX : Fld := ⟨0x44, 31, 16, .ro, 0⟩
def PG.PGTIME_LAST : Fld := ⟨0x44, 15, 0, .ro, 0⟩
def PG.REFUSED : Nat := 0x48
def PG.REFUSED_COUNT : Fld := ⟨0x48, 31, 0, .rc, 0⟩
def PG.LASTREF : Nat := 0x4C
def PG.LASTREF_OP : Fld := ⟨0x4C, 31, 24, .ro, 0⟩
def PG.LASTREF_REASON : Fld := ⟨0x4C, 23, 16, .ro, 0⟩
def PG.LASTREF_AXIS : Fld := ⟨0x4C, 15, 0, .ro, 0⟩
def PG.STALLS : Nat := 0x50
def PG.STALLS_COUNT : Fld := ⟨0x50, 31, 0, .rc, 0⟩
def PG.CAMBASE (k : Nat) : Nat := 0x80 + 0x4 * k
def PG.CAMBASE_ADDR (k : Nat) : Fld := ⟨0x80 + 0x4 * k, 31, 5, .rws, 0⟩
def PG.CAMBASE_EN (k : Nat) : Fld := ⟨0x80 + 0x4 * k, 0, 0, .rws, 0⟩
def PG.VMALO (k : Nat) : Nat := 0x100 + 0x20 * k
def PG.VMALO_A (k : Nat) : Fld := ⟨0x100 + 0x20 * k, 31, 0, .rws, 0⟩
def PG.VMAHI (k : Nat) : Nat := 0x104 + 0x20 * k
def PG.VMAHI_A (k : Nat) : Fld := ⟨0x104 + 0x20 * k, 31, 0, .rws, 0⟩
def PG.VMCFG (k : Nat) : Nat := 0x108 + 0x20 * k
def PG.VMCFG_JN (k : Nat) : Fld := ⟨0x108 + 0x20 * k, 5, 0, .rws, 1⟩
def PG.VMSTAT (k : Nat) : Nat := 0x10C + 0x20 * k
def PG.VMSTAT_DISC (k : Nat) : Fld := ⟨0x10C + 0x20 * k, 4, 4, .w1c, 0⟩
def PG.VMSTAT_LATE (k : Nat) : Fld := ⟨0x10C + 0x20 * k, 3, 3, .w1c, 0⟩
def PG.VMSTAT_VELPEND (k : Nat) : Fld := ⟨0x10C + 0x20 * k, 2, 2, .ro, 0⟩
def PG.VMSTAT_SETPEND (k : Nat) : Fld := ⟨0x10C + 0x20 * k, 1, 1, .ro, 0⟩
def PG.VMSTAT_ATREST (k : Nat) : Fld := ⟨0x10C + 0x20 * k, 0, 0, .ro, 1⟩
def PG.VMPOSLO (k : Nat) : Nat := 0x110 + 0x20 * k
def PG.VMPOSLO_POS (k : Nat) : Fld := ⟨0x110 + 0x20 * k, 31, 0, .ro, 0⟩
def PG.VMPOSHI (k : Nat) : Nat := 0x114 + 0x20 * k
def PG.VMPOSHI_POS (k : Nat) : Fld := ⟨0x114 + 0x20 * k, 31, 0, .ro, 0⟩
def PG.VMVELLO (k : Nat) : Nat := 0x118 + 0x20 * k
def PG.VMVELLO_VEL (k : Nat) : Fld := ⟨0x118 + 0x20 * k, 31, 0, .ro, 0⟩
def PG.VMVELHI (k : Nat) : Nat := 0x11C + 0x20 * k
def PG.VMVELHI_VEL (k : Nat) : Fld := ⟨0x11C + 0x20 * k, 31, 0, .ro, 0⟩
/-- Every field of a page of kind PG beyond the header. -/
def PG.fields : List Fld :=
  [PG.CAMUSE_USE, PG.PGTIME_MAX, PG.PGTIME_LAST, PG.REFUSED_COUNT, PG.LASTREF_OP, PG.LASTREF_REASON, PG.LASTREF_AXIS, PG.STALLS_COUNT]
  ++ (List.range 16).flatMap (fun k => [PG.CAMBASE_ADDR k, PG.CAMBASE_EN k])
  ++ (List.range 4).flatMap (fun k => [PG.VMALO_A k, PG.VMAHI_A k, PG.VMCFG_JN k, PG.VMSTAT_DISC k, PG.VMSTAT_LATE k, PG.VMSTAT_VELPEND k, PG.VMSTAT_SETPEND k, PG.VMSTAT_ATREST k]
  ++ [PG.VMPOSLO_POS k, PG.VMPOSHI_POS k, PG.VMVELLO_VEL k, PG.VMVELHI_VEL k])

/-! ### PGB (R327) -/

def PGB.VLIMLO (k : Nat) : Nat := 0x100 + 0x20 * k
def PGB.VLIMLO_V (k : Nat) : Fld := ⟨0x100 + 0x20 * k, 31, 0, .rws, 0⟩
def PGB.VLIMHI (k : Nat) : Nat := 0x104 + 0x20 * k
def PGB.VLIMHI_V (k : Nat) : Fld := ⟨0x104 + 0x20 * k, 31, 0, .rws, 0⟩
def PGB.ALIMLO (k : Nat) : Nat := 0x108 + 0x20 * k
def PGB.ALIMLO_A (k : Nat) : Fld := ⟨0x108 + 0x20 * k, 31, 0, .rws, 0⟩
def PGB.ALIMHI (k : Nat) : Nat := 0x10C + 0x20 * k
def PGB.ALIMHI_A (k : Nat) : Fld := ⟨0x10C + 0x20 * k, 31, 0, .rws, 0⟩
def PGB.DSTOPLO (k : Nat) : Nat := 0x110 + 0x20 * k
def PGB.DSTOPLO_DSTOP (k : Nat) : Fld := ⟨0x110 + 0x20 * k, 31, 0, .rws, 0⟩
def PGB.DSTOPHI (k : Nat) : Nat := 0x114 + 0x20 * k
def PGB.DSTOPHI_DSTOP (k : Nat) : Fld := ⟨0x114 + 0x20 * k, 31, 0, .rws, 0⟩
def PGB.SCFG (k : Nat) : Nat := 0x118 + 0x20 * k
def PGB.SCFG_MKIND (k : Nat) : Fld := ⟨0x118 + 0x20 * k, 31, 30, .rws, 0⟩
def PGB.SCFG_MIDX (k : Nat) : Fld := ⟨0x118 + 0x20 * k, 23, 16, .rws, 0⟩
def PGB.SCFG_STEPSTALL (k : Nat) : Fld := ⟨0x118 + 0x20 * k, 10, 10, .rws, 0⟩
def PGB.SCFG_STARTSRC (k : Nat) : Fld := ⟨0x118 + 0x20 * k, 8, 8, .rws, 0⟩
def PGB.SCFG_JN (k : Nat) : Fld := ⟨0x118 + 0x20 * k, 5, 0, .rws, 1⟩
/-- Every field of a page of kind PGB beyond the header. -/
def PGB.fields : List Fld :=
  []
  ++ (List.range 32).flatMap (fun k => [PGB.VLIMLO_V k, PGB.VLIMHI_V k, PGB.ALIMLO_A k, PGB.ALIMHI_A k, PGB.DSTOPLO_DSTOP k, PGB.DSTOPHI_DSTOP k, PGB.SCFG_MKIND k, PGB.SCFG_MIDX k]
  ++ [PGB.SCFG_STEPSTALL k, PGB.SCFG_STARTSRC k, PGB.SCFG_JN k])

/-! ### IGRP (R328) -/

def IGRP.MEM0 : Nat := 0x40
def IGRP.MEM0_AXS : Fld := ⟨0x40, 31, 0, .rws, 0⟩
def IGRP.MEM1 : Nat := 0x44
def IGRP.MEM1_AXS : Fld := ⟨0x44, 31, 0, .rws, 0⟩
def IGRP.GCFG : Nat := 0x48
def IGRP.GCFG_JN : Fld := ⟨0x48, 13, 8, .rws, 1⟩
def IGRP.GCFG_CNT : Fld := ⟨0x48, 3, 0, .rws, 0⟩
def IGRP.VLIMLO : Nat := 0x4C
def IGRP.VLIMLO_V : Fld := ⟨0x4C, 31, 0, .rws, 0⟩
def IGRP.VLIMHI : Nat := 0x50
def IGRP.VLIMHI_V : Fld := ⟨0x50, 31, 0, .rws, 0⟩
def IGRP.ALIMLO : Nat := 0x54
def IGRP.ALIMLO_A : Fld := ⟨0x54, 31, 0, .rws, 0⟩
def IGRP.ALIMHI : Nat := 0x58
def IGRP.ALIMHI_A : Fld := ⟨0x58, 31, 0, .rws, 0⟩
def IGRP.DSTOPLO : Nat := 0x5C
def IGRP.DSTOPLO_DSTOP : Fld := ⟨0x5C, 31, 0, .rws, 0⟩
def IGRP.DSTOPHI : Nat := 0x60
def IGRP.DSTOPHI_DSTOP : Fld := ⟨0x60, 31, 0, .rws, 0⟩
def IGRP.GSTAT : Nat := 0x64
def IGRP.GSTAT_ABORT : Fld := ⟨0x64, 9, 9, .w1c, 0⟩
def IGRP.GSTAT_INPOS : Fld := ⟨0x64, 8, 8, .ro, 0⟩
def IGRP.GSTAT_LEAD : Fld := ⟨0x64, 6, 4, .ro, 0⟩
def IGRP.GSTAT_STATE : Fld := ⟨0x64, 1, 0, .ro, 0⟩
def IGRP.SIGMALO : Nat := 0x68
def IGRP.SIGMALO_SIGMA : Fld := ⟨0x68, 31, 0, .ro, 0⟩
def IGRP.SIGMAHI : Nat := 0x6C
def IGRP.SIGMAHI_SIGMA : Fld := ⟨0x6C, 31, 0, .ro, 0⟩
def IGRP.DLEADLO : Nat := 0x70
def IGRP.DLEADLO_DLEAD : Fld := ⟨0x70, 31, 0, .ro, 0⟩
def IGRP.DLEADHI : Nat := 0x74
def IGRP.DLEADHI_DLEAD : Fld := ⟨0x74, 31, 0, .ro, 0⟩
/-- Every field of a page of kind IGRP beyond the header. -/
def IGRP.fields : List Fld :=
  [IGRP.MEM0_AXS, IGRP.MEM1_AXS, IGRP.GCFG_JN, IGRP.GCFG_CNT, IGRP.VLIMLO_V, IGRP.VLIMHI_V, IGRP.ALIMLO_A, IGRP.ALIMHI_A]
  ++ [IGRP.DSTOPLO_DSTOP, IGRP.DSTOPHI_DSTOP, IGRP.GSTAT_ABORT, IGRP.GSTAT_INPOS, IGRP.GSTAT_LEAD, IGRP.GSTAT_STATE, IGRP.SIGMALO_SIGMA, IGRP.SIGMAHI_SIGMA]
  ++ [IGRP.DLEADLO_DLEAD, IGRP.DLEADHI_DLEAD]

/-! ### STITCH (R344, R345) -/

def STITCH.UCFG : Nat := 0x40
def STITCH.UCFG_HOLDMAX : Fld := ⟨0x40, 31, 28, .rws, 2⟩
def STITCH.UCFG_STOGRP : Fld := ⟨0x40, 20, 16, .rws, 0⟩
def STITCH.UCFG_STOEN : Fld := ⟨0x40, 15, 15, .rws, 0⟩
def STITCH.UCFG_HALTFRZ : Fld := ⟨0x40, 10, 10, .rws, 0⟩
def STITCH.UCFG_POLL : Fld := ⟨0x40, 9, 9, .rws, 0⟩
def STITCH.UCFG_POLH : Fld := ⟨0x40, 8, 8, .rws, 0⟩
def STITCH.UCFG_LEGEN : Fld := ⟨0x40, 6, 4, .rws, 7⟩
def STITCH.UCFG_MODE : Fld := ⟨0x40, 0, 0, .rws, 0⟩
def STITCH.DT : Nat := 0x44
def STITCH.DT_NS : Fld := ⟨0x44, 9, 0, .rws, 200⟩
def STITCH.PERIOD : Nat := 0x48
def STITCH.PERIOD_TICKS : Fld := ⟨0x48, 13, 0, .rw, 5000⟩
def STITCH.PERNOW : Nat := 0x4C
def STITCH.PERNOW_TICKS : Fld := ⟨0x4C, 13, 0, .ro, 0⟩
def STITCH.LEGA : Nat := 0x50
def STITCH.LEGA_FALL : Fld := ⟨0x50, 31, 16, .rw, 0⟩
def STITCH.LEGA_RISE : Fld := ⟨0x50, 15, 0, .rw, 0⟩
def STITCH.LEGB : Nat := 0x54
def STITCH.LEGB_FALL : Fld := ⟨0x54, 31, 16, .rw, 0⟩
def STITCH.LEGB_RISE : Fld := ⟨0x54, 15, 0, .rw, 0⟩
def STITCH.LEGC : Nat := 0x58
def STITCH.LEGC_FALL : Fld := ⟨0x58, 31, 16, .rw, 0⟩
def STITCH.LEGC_RISE : Fld := ⟨0x58, 15, 0, .rw, 0⟩
def STITCH.LEGOFF : Nat := 0x5C
def STITCH.LEGOFF_OFF : Fld := ⟨0x5C, 2, 0, .rw, 0⟩
def STITCH.REFRESH : Nat := 0x60
def STITCH.REFRESH_W : Fld := ⟨0x60, 27, 16, .rws, 0⟩
def STITCH.REFRESH_N : Fld := ⟨0x60, 7, 0, .rws, 0⟩
def STITCH.TRIPCFG : Nat := 0x64
def STITCH.TRIPCFG_FILT : Fld := ⟨0x64, 31, 24, .rws, 4⟩
def STITCH.TRIPCFG_SEL : Fld := ⟨0x64, 23, 16, .rws, 0⟩
def STITCH.TRIPCFG_ACTHI : Fld := ⟨0x64, 15, 8, .rws, 0⟩
def STITCH.TRIPCFG_BLANK : Fld := ⟨0x64, 2, 0, .rws, 0⟩
def STITCH.TRIPSTAT : Nat := 0x68
def STITCH.TRIPSTAT_LIVE : Fld := ⟨0x68, 23, 16, .ro, 0⟩
def STITCH.TRIPSTAT_TRIPACT : Fld := ⟨0x68, 9, 9, .w1c, 0⟩
def STITCH.TRIPSTAT_LATCH : Fld := ⟨0x68, 8, 8, .w1c, 0⟩
def STITCH.TRIPSTAT_SRC : Fld := ⟨0x68, 7, 0, .ro, 0⟩
def STITCH.TRIPS : Nat := 0x6C
def STITCH.TRIPS_COUNT : Fld := ⟨0x6C, 31, 0, .rc, 0⟩
def STITCH.CLRREF : Nat := 0x70
def STITCH.CLRREF_COUNT : Fld := ⟨0x70, 31, 0, .rc, 0⟩
def STITCH.REFRESHES : Nat := 0x74
def STITCH.REFRESHES_COUNT : Fld := ⟨0x74, 31, 0, .rc, 0⟩
def STITCH.OUTSTAT : Nat := 0x78
def STITCH.OUTSTAT_PHASE : Fld := ⟨0x78, 31, 16, .ro, 0⟩
def STITCH.OUTSTAT_STOOFF : Fld := ⟨0x78, 10, 10, .ro, 0⟩
def STITCH.OUTSTAT_FROZEN : Fld := ⟨0x78, 9, 9, .ro, 0⟩
def STITCH.OUTSTAT_TRIPOFF : Fld := ⟨0x78, 8, 8, .ro, 0⟩
def STITCH.OUTSTAT_OUT : Fld := ⟨0x78, 5, 0, .ro, 0⟩
def STITCH.XCFG (k : Nat) : Nat := 0x80 + 0x10 * k
def STITCH.XCFG_XLEGS (k : Nat) : Fld := ⟨0x80 + 0x10 * k, 6, 4, .rws, 0⟩
def STITCH.XCFG_XMODE (k : Nat) : Fld := ⟨0x80 + 0x10 * k, 0, 0, .rws, 0⟩
def STITCH.XCMP (k : Nat) : Nat := 0x84 + 0x10 * k
def STITCH.XCMP_END (k : Nat) : Fld := ⟨0x84 + 0x10 * k, 31, 16, .rw, 0⟩
def STITCH.XCMP_START (k : Nat) : Fld := ⟨0x84 + 0x10 * k, 15, 0, .rw, 0⟩
def STITCH.XLEN (k : Nat) : Nat := 0x88 + 0x10 * k
def STITCH.XLEN_NS (k : Nat) : Fld := ⟨0x88 + 0x10 * k, 11, 0, .rw, 0⟩
def STITCH.XSTAT (k : Nat) : Nat := 0x8C + 0x10 * k
def STITCH.XSTAT_ACTIVE (k : Nat) : Fld := ⟨0x8C + 0x10 * k, 0, 0, .ro, 0⟩
/-- Every field of a page of kind STITCH beyond the header. -/
def STITCH.fields : List Fld :=
  [STITCH.UCFG_HOLDMAX, STITCH.UCFG_STOGRP, STITCH.UCFG_STOEN, STITCH.UCFG_HALTFRZ, STITCH.UCFG_POLL, STITCH.UCFG_POLH, STITCH.UCFG_LEGEN, STITCH.UCFG_MODE]
  ++ [STITCH.DT_NS, STITCH.PERIOD_TICKS, STITCH.PERNOW_TICKS, STITCH.LEGA_FALL, STITCH.LEGA_RISE, STITCH.LEGB_FALL, STITCH.LEGB_RISE, STITCH.LEGC_FALL]
  ++ [STITCH.LEGC_RISE, STITCH.LEGOFF_OFF, STITCH.REFRESH_W, STITCH.REFRESH_N, STITCH.TRIPCFG_FILT, STITCH.TRIPCFG_SEL, STITCH.TRIPCFG_ACTHI, STITCH.TRIPCFG_BLANK]
  ++ [STITCH.TRIPSTAT_LIVE, STITCH.TRIPSTAT_TRIPACT, STITCH.TRIPSTAT_LATCH, STITCH.TRIPSTAT_SRC, STITCH.TRIPS_COUNT, STITCH.CLRREF_COUNT, STITCH.REFRESHES_COUNT, STITCH.OUTSTAT_PHASE]
  ++ [STITCH.OUTSTAT_STOOFF, STITCH.OUTSTAT_FROZEN, STITCH.OUTSTAT_TRIPOFF, STITCH.OUTSTAT_OUT]
  ++ (List.range 4).flatMap (fun k => [STITCH.XCFG_XLEGS k, STITCH.XCFG_XMODE k, STITCH.XCMP_END k, STITCH.XCMP_START k, STITCH.XLEN_NS k, STITCH.XSTAT_ACTIVE k])

/-! ### FBCH (R369, R370, R371) -/

def FBCH.CFG : Nat := 0x40
def FBCH.CFG_FILT : Fld := ⟨0x40, 29, 24, .rws, 2⟩
def FBCH.CFG_SPDWIN : Fld := ⟨0x40, 15, 12, .rws, 3⟩
def FBCH.CFG_AUXSEL : Fld := ⟨0x40, 11, 10, .rws, 0⟩
def FBCH.CFG_REV : Fld := ⟨0x40, 9, 9, .rws, 0⟩
def FBCH.CFG_ZEN : Fld := ⟨0x40, 8, 8, .rws, 0⟩
def FBCH.CFG_MODE : Fld := ⟨0x40, 1, 0, .rws, 0⟩
def FBCH.ROUTE : Nat := 0x44
def FBCH.ROUTE_EN : Fld := ⟨0x44, 31, 31, .rws, 0⟩
def FBCH.ROUTE_AXIS : Fld := ⟨0x44, 7, 0, .rws, 0⟩
def FBCH.ILLCFG : Nat := 0x48
def FBCH.ILLCFG_ILLWIN : Fld := ⟨0x48, 31, 16, .rws, 1000⟩
def FBCH.ILLCFG_ILLMAX : Fld := ⟨0x48, 7, 0, .rws, 16⟩
def FBCH.SERCFG : Nat := 0x4C
def FBCH.SERCFG_CLKDIV : Fld := ⟨0x4C, 31, 24, .rws, 9⟩
def FBCH.SERCFG_PBITS : Fld := ⟨0x4C, 23, 18, .rws, 25⟩
def FBCH.SERCFG_EEN : Fld := ⟨0x4C, 17, 17, .rws, 0⟩
def FBCH.SERCFG_EPOL : Fld := ⟨0x4C, 16, 16, .rws, 0⟩
def FBCH.SERCFG_CBITS : Fld := ⟨0x4C, 15, 12, .rws, 0⟩
def FBCH.SERCFG_CINV : Fld := ⟨0x4C, 11, 11, .rws, 0⟩
def FBCH.SERCFG_SDLY : Fld := ⟨0x4C, 4, 0, .rws, 0⟩
def FBCH.SERPOLY : Nat := 0x50
def FBCH.SERPOLY_SERMAX : Fld := ⟨0x50, 15, 8, .rws, 4⟩
def FBCH.SERPOLY_POLY : Fld := ⟨0x50, 7, 0, .rws, 0⟩
def FBCH.STAT : Nat := 0x54
def FBCH.STAT_BOUND : Fld := ⟨0x54, 31, 16, .ro, 0⟩
def FBCH.STAT_HALL : Fld := ⟨0x54, 10, 8, .ro, 0⟩
def FBCH.STAT_DIR : Fld := ⟨0x54, 6, 6, .ro, 0⟩
def FBCH.STAT_TOUTS : Fld := ⟨0x54, 5, 5, .w1c, 0⟩
def FBCH.STAT_ENCS : Fld := ⟨0x54, 4, 4, .w1c, 0⟩
def FBCH.STAT_CRCS : Fld := ⟨0x54, 3, 3, .w1c, 0⟩
def FBCH.STAT_ZSEEN : Fld := ⟨0x54, 2, 2, .w1c, 0⟩
def FBCH.STAT_HALLS : Fld := ⟨0x54, 1, 1, .w1c, 0⟩
def FBCH.STAT_ILLS : Fld := ⟨0x54, 0, 0, .w1c, 0⟩
def FBCH.POS : Nat := 0x58
def FBCH.POS_POS : Fld := ⟨0x58, 31, 0, .ro, 0⟩
def FBCH.SPEED : Nat := 0x5C
def FBCH.SPEED_SPEED : Fld := ⟨0x5C, 31, 0, .ro, 0⟩
def FBCH.ZCAP : Nat := 0x60
def FBCH.ZCAP_ZCAP : Fld := ⟨0x60, 31, 0, .ro, 0⟩
def FBCH.COUNT : Nat := 0x64
def FBCH.COUNT_COUNT : Fld := ⟨0x64, 31, 0, .ro, 0⟩
def FBCH.ILLEGAL : Nat := 0x68
def FBCH.ILLEGAL_COUNT : Fld := ⟨0x68, 31, 0, .rc, 0⟩
def FBCH.HALLBAD : Nat := 0x6C
def FBCH.HALLBAD_COUNT : Fld := ⟨0x6C, 31, 0, .rc, 0⟩
def FBCH.ABSORB : Nat := 0x70
def FBCH.ABSORB_COUNT : Fld := ⟨0x70, 31, 0, .rc, 0⟩
def FBCH.SERERR : Nat := 0x74
def FBCH.SERERR_COUNT : Fld := ⟨0x74, 31, 0, .rc, 0⟩
/-- Every field of a page of kind FBCH beyond the header. -/
def FBCH.fields : List Fld :=
  [FBCH.CFG_FILT, FBCH.CFG_SPDWIN, FBCH.CFG_AUXSEL, FBCH.CFG_REV, FBCH.CFG_ZEN, FBCH.CFG_MODE, FBCH.ROUTE_EN, FBCH.ROUTE_AXIS]
  ++ [FBCH.ILLCFG_ILLWIN, FBCH.ILLCFG_ILLMAX, FBCH.SERCFG_CLKDIV, FBCH.SERCFG_PBITS, FBCH.SERCFG_EEN, FBCH.SERCFG_EPOL, FBCH.SERCFG_CBITS, FBCH.SERCFG_CINV]
  ++ [FBCH.SERCFG_SDLY, FBCH.SERPOLY_SERMAX, FBCH.SERPOLY_POLY, FBCH.STAT_BOUND, FBCH.STAT_HALL, FBCH.STAT_DIR, FBCH.STAT_TOUTS, FBCH.STAT_ENCS]
  ++ [FBCH.STAT_CRCS, FBCH.STAT_ZSEEN, FBCH.STAT_HALLS, FBCH.STAT_ILLS, FBCH.POS_POS, FBCH.SPEED_SPEED, FBCH.ZCAP_ZCAP, FBCH.COUNT_COUNT]
  ++ [FBCH.ILLEGAL_COUNT, FBCH.HALLBAD_COUNT, FBCH.ABSORB_COUNT, FBCH.SERERR_COUNT]

/-! ### ANA (R372) -/

def ANA.MONVAL (k : Nat) : Nat := 0x40 + 0x4 * k
def ANA.MONVAL_VALUE (k : Nat) : Fld := ⟨0x40 + 0x4 * k, 15, 0, .ro, 0⟩
def ANA.MONLIM (k : Nat) : Nat := 0x60 + 0x4 * k
def ANA.MONLIM_HI (k : Nat) : Fld := ⟨0x60 + 0x4 * k, 31, 16, .rw, 65535⟩
def ANA.MONLIM_LO (k : Nat) : Fld := ⟨0x60 + 0x4 * k, 15, 0, .rw, 0⟩
def ANA.MONSTAT : Nat := 0x80
def ANA.MONSTAT_ABOVE : Fld := ⟨0x80, 15, 8, .w1c, 0⟩
def ANA.MONSTAT_BELOW : Fld := ⟨0x80, 7, 0, .w1c, 0⟩
/-- Every field of a page of kind ANA beyond the header. -/
def ANA.fields : List Fld :=
  [ANA.MONSTAT_ABOVE, ANA.MONSTAT_BELOW]
  ++ (List.range 8).flatMap (fun k => [ANA.MONVAL_VALUE k, ANA.MONLIM_HI k, ANA.MONLIM_LO k])

/-! ### AXCH (R373, R374) -/

def AXCH.CFG : Nat := 0x40
def AXCH.CFG_REN : Fld := ⟨0x40, 31, 31, .rws, 0⟩
def AXCH.CFG_AXIS : Fld := ⟨0x40, 23, 16, .rws, 0⟩
def AXCH.CFG_FIELD : Fld := ⟨0x40, 15, 14, .rws, 0⟩
def AXCH.CFG_XSEL : Fld := ⟨0x40, 10, 8, .rws, 0⟩
def AXCH.CFG_XUNIT : Fld := ⟨0x40, 6, 4, .rws, 0⟩
def AXCH.CFG_CONT : Fld := ⟨0x40, 2, 2, .rws, 0⟩
def AXCH.CFG_DIR : Fld := ⟨0x40, 0, 0, .rws, 0⟩
def AXCH.RDIV : Nat := 0x44
def AXCH.RDIV_RDIV : Fld := ⟨0x44, 3, 0, .rws, 0⟩
def AXCH.OCFG : Nat := 0x48
def AXCH.OCFG_HOLDMAX : Fld := ⟨0x48, 31, 28, .rws, 2⟩
def AXCH.OCFG_STOGRP : Fld := ⟨0x48, 20, 16, .rws, 0⟩
def AXCH.OCFG_STOEN : Fld := ⟨0x48, 15, 15, .rws, 0⟩
def AXCH.OCFG_FREE : Fld := ⟨0x48, 14, 14, .rws, 0⟩
def AXCH.OCFG_RESTCODE : Fld := ⟨0x48, 11, 0, .rws, 0⟩
def AXCH.OUTVAL : Nat := 0x4C
def AXCH.OUTVAL_CODE : Fld := ⟨0x4C, 11, 0, .rw, 0⟩
def AXCH.SAMP : Nat := 0x50
def AXCH.SAMP_I0 : Fld := ⟨0x50, 31, 16, .ro, 0⟩
def AXCH.SAMP_LAST : Fld := ⟨0x50, 15, 0, .ro, 0⟩
def AXCH.XSAMP : Nat := 0x54
def AXCH.XSAMP_WORD : Fld := ⟨0x54, 15, 0, .ro, 0⟩
def AXCH.OUTNOW : Nat := 0x58
def AXCH.OUTNOW_CODE : Fld := ⟨0x58, 11, 0, .ro, 0⟩
def AXCH.XDROP : Nat := 0x60
def AXCH.XDROP_COUNT : Fld := ⟨0x60, 31, 0, .rc, 0⟩
def AXCH.RANGE : Nat := 0x64
def AXCH.RANGE_COUNT : Fld := ⟨0x64, 31, 0, .rc, 0⟩
/-- Every field of a page of kind AXCH beyond the header. -/
def AXCH.fields : List Fld :=
  [AXCH.CFG_REN, AXCH.CFG_AXIS, AXCH.CFG_FIELD, AXCH.CFG_XSEL, AXCH.CFG_XUNIT, AXCH.CFG_CONT, AXCH.CFG_DIR, AXCH.RDIV_RDIV]
  ++ [AXCH.OCFG_HOLDMAX, AXCH.OCFG_STOGRP, AXCH.OCFG_STOEN, AXCH.OCFG_FREE, AXCH.OCFG_RESTCODE, AXCH.OUTVAL_CODE, AXCH.SAMP_I0, AXCH.SAMP_LAST]
  ++ [AXCH.XSAMP_WORD, AXCH.OUTNOW_CODE, AXCH.XDROP_COUNT, AXCH.RANGE_COUNT]

/-! ### STAMP (R412, R413, R414, R415, R416) -/

def STAMP.ACQCFG : Nat := 0x40
def STAMP.ACQCFG_SDIV : Fld := ⟨0x40, 31, 16, .rws, 1⟩
def STAMP.ACQCFG_RLEN : Fld := ⟨0x40, 12, 0, .rws, 256⟩
def STAMP.SEGCFG : Nat := 0x44
def STAMP.SEGCFG_PRE : Fld := ⟨0x44, 28, 17, .rws, 0⟩
def STAMP.SEGCFG_NSEG : Fld := ⟨0x44, 16, 0, .rws, 1⟩
def STAMP.REGION : Nat := 0x48
def STAMP.REGION_BASE : Fld := ⟨0x48, 23, 16, .rws, 0⟩
def STAMP.REGION_NGRAN : Fld := ⟨0x48, 8, 0, .rws, 1⟩
def STAMP.QUOTA : Nat := 0x4C
def STAMP.QUOTA_BYTES : Fld := ⟨0x4C, 24, 0, .rw, 16777216⟩
def STAMP.CONDCFG : Nat := 0x50
def STAMP.CONDCFG_WSIG : Fld := ⟨0x50, 28, 26, .rws, 0⟩
def STAMP.CONDCFG_WOUT : Fld := ⟨0x50, 25, 25, .rws, 0⟩
def STAMP.CONDCFG_ESIG : Fld := ⟨0x50, 24, 22, .rws, 0⟩
def STAMP.CONDCFG_EDIR : Fld := ⟨0x50, 21, 20, .rws, 0⟩
def STAMP.CONDCFG_LSIG : Fld := ⟨0x50, 19, 17, .rws, 0⟩
def STAMP.CONDCFG_LABOVE : Fld := ⟨0x50, 16, 16, .rws, 0⟩
def STAMP.CONDCFG_TRIGEN : Fld := ⟨0x50, 5, 0, .rws, 0⟩
def STAMP.LVLTHR : Nat := 0x54
def STAMP.LVLTHR_VALUE : Fld := ⟨0x54, 31, 0, .rws, 0⟩
def STAMP.EDGETHR : Nat := 0x58
def STAMP.EDGETHR_VALUE : Fld := ⟨0x58, 31, 0, .rws, 0⟩
def STAMP.WINLO : Nat := 0x5C
def STAMP.WINLO_VALUE : Fld := ⟨0x5C, 31, 0, .rws, 0⟩
def STAMP.WINHI : Nat := 0x60
def STAMP.WINHI_VALUE : Fld := ⟨0x60, 31, 0, .rws, 0⟩
def STAMP.EXTCFG : Nat := 0x64
def STAMP.EXTCFG_TPSEL : Fld := ⟨0x64, 31, 24, .rws, 0⟩
def STAMP.EXTCFG_XKIND : Fld := ⟨0x64, 17, 16, .rws, 0⟩
def STAMP.EXTCFG_XIDX : Fld := ⟨0x64, 12, 8, .rws, 0⟩
def STAMP.EXTCFG_XPOL : Fld := ⟨0x64, 0, 0, .rws, 0⟩
def STAMP.MASKCFG : Nat := 0x68
def STAMP.MASKCFG_MEN : Fld := ⟨0x68, 31, 31, .rws, 0⟩
def STAMP.MASKCFG_MSTOP : Fld := ⟨0x68, 30, 30, .rws, 0⟩
def STAMP.MASKCFG_MLEN : Fld := ⟨0x68, 28, 16, .rws, 16⟩
def STAMP.MASKCFG_MSIG : Fld := ⟨0x68, 2, 0, .rws, 0⟩
def STAMP.HOLDCFG : Nat := 0x6C
def STAMP.HOLDCFG_MODE : Fld := ⟨0x6C, 0, 0, .rws, 0⟩
def STAMP.HOLDOFF : Nat := 0x70
def STAMP.HOLDOFF_VALUE : Fld := ⟨0x70, 31, 0, .rws, 0⟩
def STAMP.SIG (k : Nat) : Nat := 0xA0 + 0x4 * k
def STAMP.SIG_EN (k : Nat) : Fld := ⟨0xA0 + 0x4 * k, 31, 31, .rws, 0⟩
def STAMP.SIG_W32 (k : Nat) : Fld := ⟨0xA0 + 0x4 * k, 30, 30, .rws, 0⟩
def STAMP.SIG_SIGNED (k : Nat) : Fld := ⟨0xA0 + 0x4 * k, 29, 29, .rws, 0⟩
def STAMP.SIG_KIND (k : Nat) : Fld := ⟨0xA0 + 0x4 * k, 26, 24, .rws, 0⟩
def STAMP.SIG_INDEX (k : Nat) : Fld := ⟨0xA0 + 0x4 * k, 23, 16, .rws, 0⟩
def STAMP.SIG_OFFSET (k : Nat) : Fld := ⟨0xA0 + 0x4 * k, 9, 0, .rws, 0⟩
def STAMP.CTL : Nat := 0xC0
def STAMP.CTL_ABORT : Fld := ⟨0xC0, 2, 2, .wo, 0⟩
def STAMP.CTL_FORCE : Fld := ⟨0xC0, 1, 1, .wo, 0⟩
def STAMP.CTL_ARM : Fld := ⟨0xC0, 0, 0, .wo, 0⟩
def STAMP.RELEASE : Nat := 0xC4
def STAMP.RELEASE_COUNT : Fld := ⟨0xC4, 15, 0, .wo, 0⟩
def STAMP.STAT : Nat := 0xC8
def STAMP.STAT_ACQ : Fld := ⟨0xC8, 2, 0, .ro, 0⟩
def STAMP.IDX : Nat := 0xCC
def STAMP.IDX_RD : Fld := ⟨0xCC, 31, 16, .ro, 0⟩
def STAMP.IDX_WR : Fld := ⟨0xCC, 15, 0, .ro, 0⟩
def STAMP.HELD : Nat := 0xD0
def STAMP.HELD_NSLOT : Fld := ⟨0xD0, 31, 16, .ro, 0⟩
def STAMP.HELD_HELD : Fld := ⟨0xD0, 15, 0, .ro, 0⟩
def STAMP.USE : Nat := 0xD4
def STAMP.USE_BYTES : Fld := ⟨0xD4, 24, 0, .ro, 0⟩
def STAMP.SEGLEFT : Nat := 0xD8
def STAMP.SEGLEFT_COUNT : Fld := ⟨0xD8, 16, 0, .ro, 0⟩
def STAMP.FILLED : Nat := 0xE0
def STAMP.FILLED_COUNT : Fld := ⟨0xE0, 31, 0, .rc, 0⟩
def STAMP.UNFILLED : Nat := 0xE4
def STAMP.UNFILLED_COUNT : Fld := ⟨0xE4, 31, 0, .rc, 0⟩
def STAMP.TRIGIGN : Nat := 0xE8
def STAMP.TRIGIGN_COUNT : Fld := ⟨0xE8, 31, 0, .rc, 0⟩
def STAMP.NOSLOT : Nat := 0xEC
def STAMP.NOSLOT_COUNT : Fld := ⟨0xEC, 31, 0, .rc, 0⟩
def STAMP.VIOL : Nat := 0xF0
def STAMP.VIOL_COUNT : Fld := ⟨0xF0, 31, 0, .rc, 0⟩
/-- Every field of a page of kind STAMP beyond the header. -/
def STAMP.fields : List Fld :=
  [STAMP.ACQCFG_SDIV, STAMP.ACQCFG_RLEN, STAMP.SEGCFG_PRE, STAMP.SEGCFG_NSEG, STAMP.REGION_BASE, STAMP.REGION_NGRAN, STAMP.QUOTA_BYTES, STAMP.CONDCFG_WSIG]
  ++ [STAMP.CONDCFG_WOUT, STAMP.CONDCFG_ESIG, STAMP.CONDCFG_EDIR, STAMP.CONDCFG_LSIG, STAMP.CONDCFG_LABOVE, STAMP.CONDCFG_TRIGEN, STAMP.LVLTHR_VALUE, STAMP.EDGETHR_VALUE]
  ++ [STAMP.WINLO_VALUE, STAMP.WINHI_VALUE, STAMP.EXTCFG_TPSEL, STAMP.EXTCFG_XKIND, STAMP.EXTCFG_XIDX, STAMP.EXTCFG_XPOL, STAMP.MASKCFG_MEN, STAMP.MASKCFG_MSTOP]
  ++ [STAMP.MASKCFG_MLEN, STAMP.MASKCFG_MSIG, STAMP.HOLDCFG_MODE, STAMP.HOLDOFF_VALUE, STAMP.CTL_ABORT, STAMP.CTL_FORCE, STAMP.CTL_ARM, STAMP.RELEASE_COUNT]
  ++ [STAMP.STAT_ACQ, STAMP.IDX_RD, STAMP.IDX_WR, STAMP.HELD_NSLOT, STAMP.HELD_HELD, STAMP.USE_BYTES, STAMP.SEGLEFT_COUNT, STAMP.FILLED_COUNT]
  ++ [STAMP.UNFILLED_COUNT, STAMP.TRIGIGN_COUNT, STAMP.NOSLOT_COUNT, STAMP.VIOL_COUNT]
  ++ (List.range 8).flatMap (fun k => [STAMP.SIG_EN k, STAMP.SIG_W32 k, STAMP.SIG_SIGNED k, STAMP.SIG_KIND k, STAMP.SIG_INDEX k, STAMP.SIG_OFFSET k])

/-! ### BUCKLE (R436) -/

def BUCKLE.CFG : Nat := 0x40
def BUCKLE.CFG_OTPER : Fld := ⟨0x40, 15, 0, .rws, 800⟩
def BUCKLE.SCRCEXP : Nat := 0x44
def BUCKLE.SCRCEXP_CRC : Fld := ⟨0x44, 31, 0, .rws, 0⟩
def BUCKLE.SCRCNOW : Nat := 0x48
def BUCKLE.SCRCNOW_CRC : Fld := ⟨0x48, 31, 0, .ro, 0⟩
def BUCKLE.STAT : Nat := 0x4C
def BUCKLE.STAT_FIELD : Fld := ⟨0x4C, 5, 5, .w1c, 0⟩
def BUCKLE.STAT_ECC : Fld := ⟨0x4C, 4, 4, .w1c, 0⟩
def BUCKLE.STAT_CLOCK : Fld := ⟨0x4C, 3, 3, .w1c, 0⟩
def BUCKLE.STAT_SELFTEST : Fld := ⟨0x4C, 2, 2, .w1c, 0⟩
def BUCKLE.STAT_CRCRUN : Fld := ⟨0x4C, 1, 1, .w1c, 0⟩
def BUCKLE.STAT_CRCSTART : Fld := ⟨0x4C, 0, 0, .w1c, 0⟩
def BUCKLE.EVAL : Nat := 0x50
def BUCKLE.EVAL_COUNT : Fld := ⟨0x50, 31, 0, .rc, 0⟩
def BUCKLE.STPASS : Nat := 0x54
def BUCKLE.STPASS_COUNT : Fld := ⟨0x54, 31, 0, .rc, 0⟩
/-- Every field of a page of kind BUCKLE beyond the header. -/
def BUCKLE.fields : List Fld :=
  [BUCKLE.CFG_OTPER, BUCKLE.SCRCEXP_CRC, BUCKLE.SCRCNOW_CRC, BUCKLE.STAT_FIELD, BUCKLE.STAT_ECC, BUCKLE.STAT_CLOCK, BUCKLE.STAT_SELFTEST, BUCKLE.STAT_CRCRUN]
  ++ [BUCKLE.STAT_CRCSTART, BUCKLE.EVAL_COUNT, BUCKLE.STPASS_COUNT]

/-! ### SF (R437, R438) -/

def SF.CFG : Nat := 0x40
def SF.CFG_EN : Fld := ⟨0x40, 31, 31, .rws, 0⟩
def SF.CFG_TYPE : Fld := ⟨0x40, 27, 26, .rws, 0⟩
def SF.CFG_ANTIV : Fld := ⟨0x40, 25, 25, .rws, 0⟩
def SF.CFG_AUTORST : Fld := ⟨0x40, 24, 24, .rws, 0⟩
def SF.CFG_FILT : Fld := ⟨0x40, 23, 20, .rws, 2⟩
def SF.CFG_DISC : Fld := ⟨0x40, 15, 0, .rws, 400⟩
def SF.INPUT : Nat := 0x44
def SF.INPUT_RST : Fld := ⟨0x44, 28, 24, .rws, 0⟩
def SF.INPUT_CH2 : Fld := ⟨0x44, 20, 16, .rws, 0⟩
def SF.INPUT_CH1 : Fld := ⟨0x44, 12, 8, .rws, 0⟩
def SF.TEST : Nat := 0x48
def SF.TEST_T2EN : Fld := ⟨0x48, 31, 31, .rws, 0⟩
def SF.TEST_T2SRC : Fld := ⟨0x48, 27, 24, .rws, 0⟩
def SF.TEST_TPER : Fld := ⟨0x48, 23, 16, .rws, 64⟩
def SF.TEST_T1EN : Fld := ⟨0x48, 15, 15, .rws, 0⟩
def SF.TEST_T1SRC : Fld := ⟨0x48, 11, 8, .rws, 0⟩
def SF.GROUPS : Nat := 0x4C
def SF.GROUPS_MASK : Fld := ⟨0x4C, 31, 0, .rws, 0⟩
def SF.STAT : Nat := 0x50
def SF.STAT_DCNT : Fld := ⟨0x50, 31, 16, .ro, 0⟩
def SF.STAT_RSTSTK : Fld := ⟨0x50, 12, 12, .w1c, 0⟩
def SF.STAT_RSTREQ : Fld := ⟨0x50, 11, 11, .ro, 1⟩
def SF.STAT_INFLT : Fld := ⟨0x50, 10, 10, .w1c, 0⟩
def SF.STAT_DISCLK : Fld := ⟨0x50, 9, 9, .w1c, 0⟩
def SF.STAT_PERMIT : Fld := ⟨0x50, 8, 8, .ro, 0⟩
def SF.STAT_STATE : Fld := ⟨0x50, 2, 0, .ro, 0⟩
def SF.DEMANDS : Nat := 0x54
def SF.DEMANDS_COUNT : Fld := ⟨0x54, 31, 0, .rc, 0⟩
def SF.LOCKS : Nat := 0x58
def SF.LOCKS_COUNT : Fld := ⟨0x58, 31, 0, .rc, 0⟩
def SF.RESETS : Nat := 0x5C
def SF.RESETS_COUNT : Fld := ⟨0x5C, 31, 0, .rc, 0⟩
def SF.RSTREF : Nat := 0x60
def SF.RSTREF_COUNT : Fld := ⟨0x60, 31, 0, .rc, 0⟩
def SF.RSTLONG : Nat := 0x64
def SF.RSTLONG_COUNT : Fld := ⟨0x64, 31, 0, .rc, 0⟩
def SF.TESTERR : Nat := 0x68
def SF.TESTERR_COUNT : Fld := ⟨0x68, 31, 0, .rc, 0⟩
/-- Every field of a page of kind SF beyond the header. -/
def SF.fields : List Fld :=
  [SF.CFG_EN, SF.CFG_TYPE, SF.CFG_ANTIV, SF.CFG_AUTORST, SF.CFG_FILT, SF.CFG_DISC, SF.INPUT_RST, SF.INPUT_CH2]
  ++ [SF.INPUT_CH1, SF.TEST_T2EN, SF.TEST_T2SRC, SF.TEST_TPER, SF.TEST_T1EN, SF.TEST_T1SRC, SF.GROUPS_MASK, SF.STAT_DCNT]
  ++ [SF.STAT_RSTSTK, SF.STAT_RSTREQ, SF.STAT_INFLT, SF.STAT_DISCLK, SF.STAT_PERMIT, SF.STAT_STATE, SF.DEMANDS_COUNT, SF.LOCKS_COUNT]
  ++ [SF.RESETS_COUNT, SF.RSTREF_COUNT, SF.RSTLONG_COUNT, SF.TESTERR_COUNT]

/-! ### STO (R439) -/

def STO.GRPEN : Nat := 0x40
def STO.GRPEN_EN : Fld := ⟨0x40, 31, 0, .rws, 0⟩
def STO.WORD : Nat := 0x44
def STO.WORD_STO : Fld := ⟨0x44, 31, 0, .ro, 0⟩
def STO.SENT : Nat := 0x48
def STO.SENT_STO : Fld := ⟨0x48, 31, 0, .ro, 0⟩
def STO.OUTCFG : Nat := 0x4C
def STO.OUTCFG_EN15 : Fld := ⟨0x4C, 31, 31, .rws, 0⟩
def STO.OUTCFG_GRP15 : Fld := ⟨0x4C, 28, 24, .rws, 0⟩
def STO.OUTCFG_EN14 : Fld := ⟨0x4C, 23, 23, .rws, 0⟩
def STO.OUTCFG_GRP14 : Fld := ⟨0x4C, 20, 16, .rws, 0⟩
def STO.OUTCFG_EN13 : Fld := ⟨0x4C, 15, 15, .rws, 0⟩
def STO.OUTCFG_GRP13 : Fld := ⟨0x4C, 12, 8, .rws, 0⟩
def STO.OUTCFG_EN12 : Fld := ⟨0x4C, 7, 7, .rws, 0⟩
def STO.OUTCFG_GRP12 : Fld := ⟨0x4C, 4, 0, .rws, 0⟩
def STO.OUTSTAT : Nat := 0x50
def STO.OUTSTAT_OFLT : Fld := ⟨0x50, 15, 12, .w1c, 0⟩
def STO.OUTSTAT_RB : Fld := ⟨0x50, 7, 4, .ro, 0⟩
def STO.OUTSTAT_CMD : Fld := ⟨0x50, 3, 0, .ro, 0⟩
def STO.OTEST : Nat := 0x54
def STO.OTEST_COUNT : Fld := ⟨0x54, 31, 0, .rc, 0⟩
def STO.OFAULT : Nat := 0x58
def STO.OFAULT_COUNT : Fld := ⟨0x58, 31, 0, .rc, 0⟩
/-- Every field of a page of kind STO beyond the header. -/
def STO.fields : List Fld :=
  [STO.GRPEN_EN, STO.WORD_STO, STO.SENT_STO, STO.OUTCFG_EN15, STO.OUTCFG_GRP15, STO.OUTCFG_EN14, STO.OUTCFG_GRP14, STO.OUTCFG_EN13]
  ++ [STO.OUTCFG_GRP13, STO.OUTCFG_EN12, STO.OUTCFG_GRP12, STO.OUTSTAT_OFLT, STO.OUTSTAT_RB, STO.OUTSTAT_CMD, STO.OTEST_COUNT, STO.OFAULT_COUNT]

/-! ### FLD (R454) -/

def FLD.CFG : Nat := 0x40
def FLD.CFG_TSAFE : Fld := ⟨0x40, 7, 0, .rws, 10⟩
def FLD.STAT : Nat := 0x44
def FLD.STAT_OT : Fld := ⟨0x44, 3, 3, .ro, 0⟩
def FLD.STAT_VOUT : Fld := ⟨0x44, 2, 2, .w1c, 0⟩
def FLD.STAT_UV : Fld := ⟨0x44, 1, 1, .ro, 0⟩
def FLD.STAT_LINK : Fld := ⟨0x44, 0, 0, .ro, 0⟩
def FLD.MEAS : Nat := 0x48
def FLD.MEAS_TEMP : Fld := ⟨0x48, 31, 16, .ro, 0⟩
def FLD.MEAS_VFLD : Fld := ⟨0x48, 15, 0, .ro, 0⟩
def FLD.VLIM : Nat := 0x4C
def FLD.VLIM_HI : Fld := ⟨0x4C, 31, 16, .rw, 30000⟩
def FLD.VLIM_LO : Fld := ⟨0x4C, 15, 0, .rw, 19200⟩
def FLD.LINKERR : Nat := 0x50
def FLD.LINKERR_COUNT : Fld := ⟨0x50, 31, 0, .rc, 0⟩
def FLD.UVCNT : Nat := 0x54
def FLD.UVCNT_COUNT : Fld := ⟨0x54, 31, 0, .rc, 0⟩
/-- Every field of a page of kind FLD beyond the header. -/
def FLD.fields : List Fld :=
  [FLD.CFG_TSAFE, FLD.STAT_OT, FLD.STAT_VOUT, FLD.STAT_UV, FLD.STAT_LINK, FLD.MEAS_TEMP, FLD.MEAS_VFLD, FLD.VLIM_HI]
  ++ [FLD.VLIM_LO, FLD.LINKERR_COUNT, FLD.UVCNT_COUNT]

/-! ### FLDDI (R455) -/

def FLDDI.LEVEL : Nat := 0x40
def FLDDI.LEVEL_LEVEL : Fld := ⟨0x40, 23, 0, .ro, 0⟩
def FLDDI.VALID : Nat := 0x44
def FLDDI.VALID_VALID : Fld := ⟨0x44, 23, 0, .ro, 0⟩
def FLDDI.BREAK : Nat := 0x48
def FLDDI.BREAK_BREAK : Fld := ⟨0x48, 23, 0, .ro, 0⟩
def FLDDI.BRKSTK : Nat := 0x4C
def FLDDI.BRKSTK_BREAK : Fld := ⟨0x4C, 23, 0, .w1c, 0⟩
def FLDDI.CHGEN : Nat := 0x50
def FLDDI.CHGEN_EN : Fld := ⟨0x50, 23, 0, .rw, 0⟩
def FLDDI.BREAKS : Nat := 0x60
def FLDDI.BREAKS_COUNT : Fld := ⟨0x60, 31, 0, .rc, 0⟩
def FLDDI.TRANS : Nat := 0x64
def FLDDI.TRANS_COUNT : Fld := ⟨0x64, 31, 0, .rc, 0⟩
def FLDDI.DICFG (k : Nat) : Nat := 0x100 + 0x4 * k
def FLDDI.DICFG_INV (k : Nat) : Fld := ⟨0x100 + 0x4 * k, 12, 12, .rws, 0⟩
def FLDDI.DICFG_FILT (k : Nat) : Fld := ⟨0x100 + 0x4 * k, 11, 8, .rws, 1⟩
def FLDDI.DICFG_WBEN (k : Nat) : Fld := ⟨0x100 + 0x4 * k, 4, 4, .rws, 0⟩
def FLDDI.DICFG_TYPE1 (k : Nat) : Fld := ⟨0x100 + 0x4 * k, 3, 3, .rws, 0⟩
def FLDDI.DICFG_PER (k : Nat) : Fld := ⟨0x100 + 0x4 * k, 2, 0, .rws, 3⟩
/-- Every field of a page of kind FLDDI beyond the header. -/
def FLDDI.fields : List Fld :=
  [FLDDI.LEVEL_LEVEL, FLDDI.VALID_VALID, FLDDI.BREAK_BREAK, FLDDI.BRKSTK_BREAK, FLDDI.CHGEN_EN, FLDDI.BREAKS_COUNT, FLDDI.TRANS_COUNT]
  ++ (List.range 24).flatMap (fun k => [FLDDI.DICFG_INV k, FLDDI.DICFG_FILT k, FLDDI.DICFG_WBEN k, FLDDI.DICFG_TYPE1 k, FLDDI.DICFG_PER k])

/-! ### FLDDO (R456) -/

def FLDDO.OUT : Nat := 0x40
def FLDDO.OUT_OUT : Fld := ⟨0x40, 15, 0, .rw, 0⟩
def FLDDO.RB : Nat := 0x44
def FLDDO.RB_CMD : Fld := ⟨0x44, 31, 16, .ro, 0⟩
def FLDDO.RB_RB : Fld := ⟨0x44, 15, 0, .ro, 0⟩
def FLDDO.TSD : Nat := 0x48
def FLDDO.TSD_STK : Fld := ⟨0x48, 31, 16, .w1c, 0⟩
def FLDDO.TSD_NOW : Fld := ⟨0x48, 15, 0, .ro, 0⟩
def FLDDO.EXTHIGH : Nat := 0x4C
def FLDDO.EXTHIGH_STK : Fld := ⟨0x4C, 31, 16, .w1c, 0⟩
def FLDDO.EXTHIGH_NOW : Fld := ⟨0x4C, 15, 0, .ro, 0⟩
def FLDDO.OPENLD : Nat := 0x50
def FLDDO.OPENLD_STK : Fld := ⟨0x50, 31, 16, .w1c, 0⟩
def FLDDO.OPENLD_NOW : Fld := ⟨0x50, 15, 0, .ro, 0⟩
def FLDDO.SAFEACT : Nat := 0x54
def FLDDO.SAFEACT_SAFE : Fld := ⟨0x54, 15, 0, .w1c, 0⟩
def FLDDO.SHORTS : Nat := 0x60
def FLDDO.SHORTS_COUNT : Fld := ⟨0x60, 31, 0, .rc, 0⟩
def FLDDO.RETRIES : Nat := 0x64
def FLDDO.RETRIES_COUNT : Fld := ⟨0x64, 31, 0, .rc, 0⟩
def FLDDO.EXTHI : Nat := 0x68
def FLDDO.EXTHI_COUNT : Fld := ⟨0x68, 31, 0, .rc, 0⟩
def FLDDO.SAFEREF : Nat := 0x6C
def FLDDO.SAFEREF_COUNT : Fld := ⟨0x6C, 31, 0, .rc, 0⟩
def FLDDO.OCFG (k : Nat) : Nat := 0x100 + 0x4 * k
def FLDDO.OCFG_OLEN (k : Nat) : Fld := ⟨0x100 + 0x4 * k, 2, 2, .rws, 0⟩
def FLDDO.OCFG_SAFE (k : Nat) : Fld := ⟨0x100 + 0x4 * k, 1, 0, .rws, 0⟩
/-- Every field of a page of kind FLDDO beyond the header. -/
def FLDDO.fields : List Fld :=
  [FLDDO.OUT_OUT, FLDDO.RB_CMD, FLDDO.RB_RB, FLDDO.TSD_STK, FLDDO.TSD_NOW, FLDDO.EXTHIGH_STK, FLDDO.EXTHIGH_NOW, FLDDO.OPENLD_STK]
  ++ [FLDDO.OPENLD_NOW, FLDDO.SAFEACT_SAFE, FLDDO.SHORTS_COUNT, FLDDO.RETRIES_COUNT, FLDDO.EXTHI_COUNT, FLDDO.SAFEREF_COUNT]
  ++ (List.range 16).flatMap (fun k => [FLDDO.OCFG_OLEN k, FLDDO.OCFG_SAFE k])

/-! ### HOST (R473) -/

def HOST.LINKSTAT : Nat := 0x40
def HOST.LINKSTAT_D3 : Fld := ⟨0x40, 8, 8, .ro, 0⟩
def HOST.LINKSTAT_WIDTH : Fld := ⟨0x40, 6, 4, .ro, 0⟩
def HOST.LINKSTAT_GEN : Fld := ⟨0x40, 3, 1, .ro, 0⟩
def HOST.LINKSTAT_UP : Fld := ⟨0x40, 0, 0, .ro, 0⟩
def HOST.RESETCNT : Nat := 0x44
def HOST.RESETCNT_COUNT : Fld := ⟨0x44, 31, 0, .rc, 0⟩
def HOST.REFUSED : Nat := 0x48
def HOST.REFUSED_COUNT : Fld := ⟨0x48, 31, 0, .rc, 0⟩
def HOST.REFADDR : Nat := 0x4C
def HOST.REFADDR_ADDR : Fld := ⟨0x4C, 31, 0, .ro, 0⟩
def HOST.CPLERR : Nat := 0x50
def HOST.CPLERR_COUNT : Fld := ⟨0x50, 31, 0, .rc, 0⟩
/-- Every field of a page of kind HOST beyond the header. -/
def HOST.fields : List Fld :=
  [HOST.LINKSTAT_D3, HOST.LINKSTAT_WIDTH, HOST.LINKSTAT_GEN, HOST.LINKSTAT_UP, HOST.RESETCNT_COUNT, HOST.REFUSED_COUNT, HOST.REFADDR_ADDR, HOST.CPLERR_COUNT]

/-! ### MSIX (R474) -/

def MSIX.REARM0 : Nat := 0x40
def MSIX.REARM0_VEC : Fld := ⟨0x40, 31, 0, .wo, 0⟩
def MSIX.REARM1 : Nat := 0x44
def MSIX.REARM1_VEC : Fld := ⟨0x44, 31, 0, .wo, 0⟩
def MSIX.ARMED0 : Nat := 0x48
def MSIX.ARMED0_VEC : Fld := ⟨0x48, 31, 0, .ro, 4294967295⟩
def MSIX.ARMED1 : Nat := 0x4C
def MSIX.ARMED1_VEC : Fld := ⟨0x4C, 31, 0, .ro, 4294967295⟩
/-- Every field of a page of kind MSIX beyond the header. -/
def MSIX.fields : List Fld :=
  [MSIX.REARM0_VEC, MSIX.REARM1_VEC, MSIX.ARMED0_VEC, MSIX.ARMED1_VEC]

/-! ### DMA (R475) -/

def DMA.CFG : Nat := 0x40
def DMA.CFG_PLNT : Fld := ⟨0x40, 8, 8, .rws, 0⟩
def DMA.CFG_KIND : Fld := ⟨0x40, 2, 0, .rws, 0⟩
def DMA.PORTS : Nat := 0x44
def DMA.PORTS_MASK : Fld := ⟨0x44, 31, 0, .rws, 0⟩
def DMA.RBASE : Nat := 0x48
def DMA.RBASE_ADDR : Fld := ⟨0x48, 31, 5, .rws, 0⟩
def DMA.RING : Nat := 0x4C
def DMA.RING_RLOG2 : Fld := ⟨0x4C, 3, 0, .rws, 4⟩
def DMA.TAIL : Nat := 0x50
def DMA.TAIL_INDEX : Fld := ⟨0x50, 11, 0, .rw, 0⟩
def DMA.HEAD : Nat := 0x54
def DMA.HEAD_INDEX : Fld := ⟨0x54, 11, 0, .ro, 0⟩
def DMA.DONE : Nat := 0x58
def DMA.DONE_COUNT : Fld := ⟨0x58, 31, 0, .rc, 0⟩
def DMA.FAIL : Nat := 0x5C
def DMA.FAIL_COUNT : Fld := ⟨0x5C, 31, 0, .rc, 0⟩
def DMA.LENERR : Nat := 0x60
def DMA.LENERR_COUNT : Fld := ⟨0x60, 31, 0, .rc, 0⟩
def DMA.RXDROP : Nat := 0x64
def DMA.RXDROP_COUNT : Fld := ⟨0x64, 31, 0, .rc, 0⟩
/-- Every field of a page of kind DMA beyond the header. -/
def DMA.fields : List Fld :=
  [DMA.CFG_PLNT, DMA.CFG_KIND, DMA.PORTS_MASK, DMA.RBASE_ADDR, DMA.RING_RLOG2, DMA.TAIL_INDEX, DMA.HEAD_INDEX, DMA.DONE_COUNT]
  ++ [DMA.FAIL_COUNT, DMA.LENERR_COUNT, DMA.RXDROP_COUNT]

/-! ### GATE (R477) -/

def GATE.WBASE (k : Nat) : Nat := 0x40 + 0x8 * k
def GATE.WBASE_BASE (k : Nat) : Fld := ⟨0x40 + 0x8 * k, 31, 12, .rw, 0⟩
def GATE.WCTL (k : Nat) : Nat := 0x44 + 0x8 * k
def GATE.WCTL_EN (k : Nat) : Fld := ⟨0x44 + 0x8 * k, 31, 31, .rw, 0⟩
def GATE.WCTL_X (k : Nat) : Fld := ⟨0x44 + 0x8 * k, 10, 10, .rw, 0⟩
def GATE.WCTL_W (k : Nat) : Fld := ⟨0x44 + 0x8 * k, 9, 9, .rw, 0⟩
def GATE.WCTL_R (k : Nat) : Fld := ⟨0x44 + 0x8 * k, 8, 8, .rw, 0⟩
def GATE.WCTL_SZ (k : Nat) : Fld := ⟨0x44 + 0x8 * k, 5, 0, .rw, 12⟩
def GATE.STAT : Nat := 0x80
def GATE.STAT_FROZEN : Fld := ⟨0x80, 1, 1, .w1c, 0⟩
def GATE.STAT_VALID : Fld := ⟨0x80, 0, 0, .w1c, 0⟩
def GATE.VADDR : Nat := 0x84
def GATE.VADDR_ADDR : Fld := ⟨0x84, 31, 0, .ro, 0⟩
def GATE.VINFO : Nat := 0x88
def GATE.VINFO_CYC : Fld := ⟨0x88, 31, 16, .ro, 0⟩
def GATE.VINFO_ACC : Fld := ⟨0x88, 9, 8, .ro, 0⟩
def GATE.VINFO_KIND : Fld := ⟨0x88, 2, 0, .ro, 0⟩
def GATE.VCNT : Nat := 0x8C
def GATE.VCNT_COUNT : Fld := ⟨0x8C, 31, 0, .rc, 0⟩
/-- Every field of a page of kind GATE beyond the header. -/
def GATE.fields : List Fld :=
  [GATE.STAT_FROZEN, GATE.STAT_VALID, GATE.VADDR_ADDR, GATE.VINFO_CYC, GATE.VINFO_ACC, GATE.VINFO_KIND, GATE.VCNT_COUNT]
  ++ (List.range 8).flatMap (fun k => [GATE.WBASE_BASE k, GATE.WCTL_EN k, GATE.WCTL_X k, GATE.WCTL_W k, GATE.WCTL_R k, GATE.WCTL_SZ k])

/-! ### SHELL (R81) -/

def SHELL.CALCTL (k : Nat) : Nat := 0x100 + 0x80 * k
def SHELL.CALCTL_USETRIM (k : Nat) : Fld := ⟨0x100 + 0x80 * k, 9, 9, .rws, 0⟩
def SHELL.CALCTL_AUTO (k : Nat) : Fld := ⟨0x100 + 0x80 * k, 8, 8, .rws, 1⟩
def SHELL.CALCTL_KIND (k : Nat) : Fld := ⟨0x100 + 0x80 * k, 2, 1, .rws, 0⟩
def SHELL.CALCTL_START (k : Nat) : Fld := ⟨0x100 + 0x80 * k, 0, 0, .wo, 0⟩
def SHELL.CALSTAT (k : Nat) : Nat := 0x104 + 0x80 * k
def SHELL.CALSTAT_RUNS (k : Nat) : Fld := ⟨0x104 + 0x80 * k, 31, 16, .ro, 0⟩
def SHELL.CALSTAT_ERR (k : Nat) : Fld := ⟨0x104 + 0x80 * k, 15, 8, .ro, 0⟩
def SHELL.CALSTAT_FAIL (k : Nat) : Fld := ⟨0x104 + 0x80 * k, 2, 2, .w1c, 0⟩
def SHELL.CALSTAT_DONE (k : Nat) : Fld := ⟨0x104 + 0x80 * k, 1, 1, .w1c, 0⟩
def SHELL.CALSTAT_BUSY (k : Nat) : Fld := ⟨0x104 + 0x80 * k, 0, 0, .ro, 0⟩
def SHELL.CALRES0 (k : Nat) : Nat := 0x108 + 0x80 * k
def SHELL.CALRES0_RESULT (k : Nat) : Fld := ⟨0x108 + 0x80 * k, 31, 0, .ro, 0⟩
def SHELL.CALRES1 (k : Nat) : Nat := 0x10C + 0x80 * k
def SHELL.CALRES1_RESULT (k : Nat) : Fld := ⟨0x10C + 0x80 * k, 31, 0, .ro, 0⟩
def SHELL.CALTRIM0 (k : Nat) : Nat := 0x110 + 0x80 * k
def SHELL.CALTRIM0_TRIM (k : Nat) : Fld := ⟨0x110 + 0x80 * k, 31, 0, .rws, 0⟩
def SHELL.CALTRIM1 (k : Nat) : Nat := 0x114 + 0x80 * k
def SHELL.CALTRIM1_TRIM (k : Nat) : Fld := ⟨0x114 + 0x80 * k, 31, 0, .rws, 0⟩
def SHELL.MONCTL (k : Nat) : Nat := 0x140 + 0x80 * k
def SHELL.MONCTL_SELECT (k : Nat) : Fld := ⟨0x140 + 0x80 * k, 3, 1, .rw, 0⟩
def SHELL.MONCTL_EN (k : Nat) : Fld := ⟨0x140 + 0x80 * k, 0, 0, .rw, 0⟩
def SHELL.MONVAL (k : Nat) : Nat := 0x144 + 0x80 * k
def SHELL.MONVAL_VALUE (k : Nat) : Fld := ⟨0x144 + 0x80 * k, 15, 0, .ro, 0⟩
def SHELL.MONLIM (k : Nat) : Nat := 0x148 + 0x80 * k
def SHELL.MONLIM_HI (k : Nat) : Fld := ⟨0x148 + 0x80 * k, 31, 16, .rw, 65535⟩
def SHELL.MONLIM_LO (k : Nat) : Fld := ⟨0x148 + 0x80 * k, 15, 0, .rw, 0⟩
def SHELL.MONSTAT (k : Nat) : Nat := 0x14C + 0x80 * k
def SHELL.MONSTAT_BELOW (k : Nat) : Fld := ⟨0x14C + 0x80 * k, 1, 1, .w1c, 0⟩
def SHELL.MONSTAT_ABOVE (k : Nat) : Fld := ⟨0x14C + 0x80 * k, 0, 0, .w1c, 0⟩
/-- The fields of shell `k` of a page with analog shells (R80, R81). -/
def SHELL.fields (k : Nat) : List Fld :=
  [SHELL.CALCTL_USETRIM k, SHELL.CALCTL_AUTO k, SHELL.CALCTL_KIND k, SHELL.CALCTL_START k, SHELL.CALSTAT_RUNS k, SHELL.CALSTAT_ERR k, SHELL.CALSTAT_FAIL k, SHELL.CALSTAT_DONE k]
  ++ [SHELL.CALSTAT_BUSY k, SHELL.CALRES0_RESULT k, SHELL.CALRES1_RESULT k, SHELL.CALTRIM0_TRIM k, SHELL.CALTRIM1_TRIM k, SHELL.MONCTL_SELECT k, SHELL.MONCTL_EN k, SHELL.MONVAL_VALUE k]
  ++ [SHELL.MONLIM_HI k, SHELL.MONLIM_LO k, SHELL.MONSTAT_BELOW k, SHELL.MONSTAT_ABOVE k]

end Sys2Proof.Machine
end

