-- ==== Sys2Proof/Machine/Registers.lean ====
section
/-! DEFINITION. The register pages (R65): page numbers, kinds of page, the power domain each lies in (R48), and what each register
reads as at reset. -/
namespace Sys2Proof.Machine

def pgGLOB : Nat := 0x000
def pgPWR : Nat := 0x001
def pgCLK : Nat := 0x002
def pgBOOT : Nat := 0x003
def pgTACK : Nat := 0x004
def pgFLT : Nat := 0x005
def pgECC : Nat := 0x006
def pgTIME : Nat := 0x010
def pgTPIN : Nat := 0x011
def pgPLNT (n : Nat) : Nat := 0x012 + n
def pgGIRTH : Nat := 0x020
def pgNPORT (n : Nat) : Nat := 0x040 + n
def pgLAT : Nat := 0x060
def pgCINCH : Nat := 0x080
def pgCINCHB (b : Nat) : Nat := 0x081 + b
def pgAWL (n : Nat) : Nat := 0x100 + n
def pgBENCH (b : Nat) : Nat := 0x140 + b
def pgPG : Nat := 0x180
def pgPGB (b : Nat) : Nat := 0x181 + b
def pgIGRP (g : Nat) : Nat := 0x190 + g
def pgSTITCH (n : Nat) : Nat := 0x200 + n
def pgFBCH (n : Nat) : Nat := 0x210 + n
def pgANA : Nat := 0x220
def pgAXCH (n : Nat) : Nat := 0x221 + n
def pgSTAMP (n : Nat) : Nat := 0x240 + n
def pgBUCKLE : Nat := 0x260
def pgSF (n : Nat) : Nat := 0x261 + n
def pgSTO : Nat := 0x271
def pgFLD : Nat := 0x280
def pgFLDDI : Nat := 0x281
def pgFLDDO : Nat := 0x282
def pgHOST : Nat := 0x2A0
def pgDMA (k : Nat) : Nat := 0x2A1 + k
def pgMSIX : Nat := 0x2A9
def pgGATE (m : Nat) : Nat := 0x2C0 + m
def pgDBG : Nat := 0x3F0

/-- The kinds of register page (R65). -/
inductive PageKind where
  | glob | pwr | clk | boot | tack | flt | ecc | time | tpin | plnt | girth | nport | lat | cinch | cinchb | awl | bench
  | pg | pgb | igrp | stitch | fbch | ana | axch | stamp | buckle | sf | sto | fld | flddi | flddo | host | dma | msix
  | gate | dbg
deriving DecidableEq, Repr

/-- One row of the page index of R65: kind, first page, number of pages, block type code. -/
structure PageRow where
  kind : PageKind
  first : Nat
  count : Nat
  type : Nat
deriving DecidableEq, Repr

/-- The page index of R65. -/
def pageIndex : List PageRow :=
  [⟨.glob, 0x000, 1, 0x001⟩, ⟨.pwr, 0x001, 1, 0x002⟩, ⟨.clk, 0x002, 1, 0x003⟩, ⟨.boot, 0x003, 1, 0x004⟩,
   ⟨.tack, 0x004, 1, 0x005⟩, ⟨.flt, 0x005, 1, 0x006⟩, ⟨.ecc, 0x006, 1, 0x007⟩, ⟨.time, 0x010, 1, 0x010⟩,
   ⟨.tpin, 0x011, 1, 0x011⟩, ⟨.plnt, 0x012, 2, 0x012⟩, ⟨.girth, 0x020, 1, 0x020⟩, ⟨.nport, 0x040, 32, 0x021⟩]
  ++ [⟨.lat, 0x060, 1, 0x022⟩, ⟨.cinch, 0x080, 1, 0x030⟩, ⟨.cinchb, 0x081, 8, 0x031⟩, ⟨.awl, 0x100, 64, 0x040⟩,
   ⟨.bench, 0x140, 8, 0x041⟩, ⟨.pg, 0x180, 1, 0x050⟩, ⟨.pgb, 0x181, 8, 0x051⟩, ⟨.igrp, 0x190, 32, 0x052⟩,
   ⟨.stitch, 0x200, 8, 0x060⟩, ⟨.fbch, 0x210, 16, 0x061⟩, ⟨.ana, 0x220, 1, 0x062⟩, ⟨.axch, 0x221, 16, 0x063⟩]
  ++ [⟨.stamp, 0x240, 16, 0x070⟩, ⟨.buckle, 0x260, 1, 0x080⟩, ⟨.sf, 0x261, 16, 0x081⟩, ⟨.sto, 0x271, 1, 0x082⟩,
   ⟨.fld, 0x280, 1, 0x090⟩, ⟨.flddi, 0x281, 1, 0x091⟩, ⟨.flddo, 0x282, 1, 0x092⟩, ⟨.host, 0x2A0, 1, 0x0A0⟩,
   ⟨.dma, 0x2A1, 8, 0x0A1⟩, ⟨.msix, 0x2A9, 1, 0x0A2⟩, ⟨.gate, 0x2C0, 96, 0x0A3⟩, ⟨.dbg, 0x3F0, 1, 0x0F0⟩]

/-- The row of the page index a page lies in; none for a reserved page number (R66). -/
def pageRow (p : Nat) : Option PageRow :=
  pageIndex.find? fun r => decide (r.first ≤ p) && decide (p < r.first + r.count)

/-- The kind of a page. -/
def pageKind (p : Nat) : Option PageKind := (pageRow p).map (·.kind)

/-- The instance number of a page: its position in its range (R65). -/
def pageInst (p : Nat) : Nat := match pageRow p with | some r => p - r.first | none => 0

/-- The block type code of a page (R65). -/
def pageType (p : Nat) : Nat := match pageRow p with | some r => r.type | none => 0

/-- A fault code of a page's block: the low byte of the block type above the code within the block (R77). -/
def blockCode (p c : Nat) : Nat := 256 * (pageType p % 256) + c

/-- The number of analog shells on a page (R80). -/
def pageShells (p : Nat) : Nat :=
  match pageKind p with
  | some .clk | some .plnt | some .nport | some .axch | some .fld => 1
  | some .lat => 2
  | some .host => 4
  | _ => 0

/-- The switched power domain a page lies in, by its bit of R48; none for the always-on domain. -/
def pageDomain (p : Nat) : Option Nat :=
  match pageKind p with
  | some .cinchb | some .bench | some .pgb => some (pageInst p)
  | some .awl => some (pageInst p / 8)
  | some .cinch | some .pg | some .igrp | some .stamp => some 8
  | some .nport => some 12
  | some .lat => some 13
  | some .host | some .dma | some .msix => some 14
  | some .plnt => some 15
  | some .ana | some .axch => some 16
  | some .stitch | some .fbch => some 17
  | _ => none

/-- The fields a page holds beyond the common header. -/
def kindFields : PageKind → List Fld
  | .glob => GLOB.fields | .pwr => PWR.fields | .clk => CLK.fields | .boot => BOOT.fields | .tack => TACK.fields
  | .flt => FLT.fields | .ecc => ECC.fields | .time => TIME.fields | .tpin => TPIN.fields | .plnt => PLNT.fields
  | .girth => GIRTH.fields | .nport => NPORT.fields | .lat => LAT.fields | .cinch => CINCH.fields
  | .cinchb => CINCHB.fields | .awl => AWL.fields | .bench => BENCH.fields | .pg => PG.fields | .pgb => PGB.fields
  | .igrp => IGRP.fields | .stitch => STITCH.fields | .fbch => FBCH.fields | .ana => ANA.fields | .axch => AXCH.fields
  | .stamp => STAMP.fields | .buckle => BUCKLE.fields | .sf => SF.fields | .sto => STO.fields | .fld => FLD.fields
  | .flddi => FLDDI.fields | .flddo => FLDDO.fields | .host => HOST.fields | .dma => DMA.fields | .msix => MSIX.fields
  | .gate => GATE.fields | .dbg => []

/-- The registers of MSIX that stand in ranges (R460, R474): the map bytes, the words of the table, the pending bits
(notes/assumptions/92.md). -/
def msixFields (off : Nat) : List Fld :=
  if off % 4 ≠ 0 then []
  else if off < 0x800 then
    (List.range 4).flatMap fun b => [⟨off, 8 * b + 7, 8 * b + 7, .rw, 0⟩, ⟨off, 8 * b + 5, 8 * b, .rw, 0⟩]
  else if off < 0xC00 then [⟨off, 31, 0, .rw, if off % 16 = 12 then 1 else 0⟩]
  else if off < 0xC08 then [⟨off, 31, 0, .ro, 0⟩]
  else []

/-- The fields of the register at an offset of a page. -/
def regFields (p off : Nat) : List Fld :=
  match pageKind p with
  | none => []
  | some k =>
    if off < 0x40 then HDR.fields.filter (·.off = off)
    else if k = .msix ∧ 0x400 ≤ off then msixFields off
    else (kindFields k ++ (List.range (pageShells p)).flatMap SHELL.fields).filter (·.off = off)

/-- The bits of a register that carry a field with one of the given access codes. -/
def accMask (p off : Nat) (a : Acc) : Word :=
  ((regFields p off).filter (·.acc = a)).foldl (fun w f => w ||| f.mask) 0

/-- The windows the read-only gate pages hold: central memory and all Bench memory, with R and W (R471). -/
def gateWindowsRO (off : Nat) : Word :=
  if off = GATE.WBASE 0 then 0x00000000
  else if off = GATE.WCTL 0 then 0x80000300 ||| 24
  else if off = GATE.WBASE 1 then 0x01000000
  else if off = GATE.WCTL 1 then 0x80000300 ||| 23
  else if off % 8 = 4 && off ≥ 0x40 && off < 0x80 then 12
  else 0

/-- The reset value of a register, as its table gives it; the registers whose value depends on the page come first:
the identity of R65, the running pages of R69, NODEID (R538), the windows of R471, the MSI-X mask bits (R460). -/
def regResetAt (p off : Nat) : Word :=
  match pageRow p with
  | none => 0
  | some r =>
    let tab : Word := (regFields p off).foldl (fun w f => f.put f.reset w) 0
    if off = HDR.PID then BitVec.ofNat 32 (2 ^ 20 * r.type + 2 ^ 12 * (p - r.first) + 0x0B1)
    else if off = HDR.PCTL then (if p = pgGLOB ∨ p = pgPWR ∨ p = pgECC then 1 else 0)
    else if off = HDR.PSTAT then (if p = pgGLOB ∨ p = pgPWR ∨ p = pgECC then 3 else 1)
    else
      match r.kind with
      | .nport => if off = NPORT.NODEID then BitVec.ofNat 32 (p - r.first) else tab
      | .gate =>
        let m := p - r.first
        if off < 0x80 ∧ 0x40 ≤ off then
          if m = 64 ∨ m = 93 then
            (if off = GATE.WCTL 0 then 0x80000700 ||| 32 else tab)
          else if m = 89 ∨ m = 90 ∨ m = 91 ∨ m = 94 then gateWindowsRO off
          else tab
        else tab
      | _ => tab

/-- The reset value of the register of a key `page * 0x1000 + offset`. -/
def regReset (key : Nat) : Word := regResetAt (key / 0x1000) (key % 0x1000)

end Sys2Proof.Machine
end

