-- ==== Sys2Proof/Machine/Sparse.lean ====
section
/-! DEFINITION. Sparse maps from numbers to values, as lists of pairs in one canonical form: keys strictly rising, and no entry
equal to what an unlisted key reads as.  Memory, the register file and every family of like records are such maps. -/
namespace Sys2Proof.Machine.Sp

variable {α : Type}

/-- The value at a key; an unlisted key reads as `d key`. -/
def get (d : Nat → α) : List (Nat × α) → Nat → α
  | [], k => d k
  | (j, v) :: m, k => if j = k then v else get d m k

/-- Drop the entry of a key. -/
def erase : List (Nat × α) → Nat → List (Nat × α)
  | [], _ => []
  | (j, v) :: m, k => if j = k then erase m k else (j, v) :: erase m k

/-- Put an entry for a key not listed at its place in the rising order of keys. -/
def insert : List (Nat × α) → Nat → α → List (Nat × α)
  | [], k, v => [(k, v)]
  | (j, w) :: m, k, v => if k < j then (k, v) :: (j, w) :: m else (j, w) :: insert m k v

/-- Write the value at a key; writing what an unlisted key reads as removes the entry. -/
def set [DecidableEq α] (d : Nat → α) (m : List (Nat × α)) (k : Nat) (v : α) : List (Nat × α) :=
  if v = d k then erase m k else insert (erase m k) k v

/-- Every key of the map is above `k`. -/
def above (k : Nat) : List (Nat × α) → Bool
  | [] => true
  | (j, _) :: m => decide (k < j) && above k m

/-- The canonical form: keys strictly rising, no entry equal to what an unlisted key reads as. -/
def wf [DecidableEq α] (d : Nat → α) : List (Nat × α) → Bool
  | [] => true
  | (k, v) :: m => above k m && decide (v ≠ d k) && wf d m

end Sys2Proof.Machine.Sp
end

