-- ==== Sys2Proof/Machine/State.lean ====
section
/-! DEFINITION. The state of the block as plain data, and the state after reset.

The host-visible registers have one home, the register map `regs` (0x1000 * page + offset); a register not listed reads its reset
value (Machine/Registers.lean).  What the spec gives the block beside its registers stands in the records below.  Families of
like records (ports, axes, Awls, ...) are sparse maps in the canonical form of Machine/Sparse.lean: an unlisted index has the
record's reset value. -/
namespace Sys2Proof.Machine

/-- Why a step of the block would stop with a fault.  No meaning of this model raises one: every command has an effect. -/
inductive Fault where
  /-- Raised by nothing: kept so that the type is not empty.  Safe. -/
  | none
deriving DecidableEq, Repr

/-- Why a command has no meaning. -/
inductive Refusal where
  /-- Raised by an arm of the dispatcher whose command has no meaning yet.  Safe: the machine stops. -/
  | notModelled (mnemonic : String)
deriving DecidableEq, Repr

/-! ### What the block sends -/

/-- What the controller configures in the field die over the management link (R440, R442–R447). -/
structure DieCfg where
  /-- SAFE of each output, and the outputs whose safe state Buckle overrides to OFF (R447). -/
  modes : List Nat := []
  forced : Nat := 0
  /-- TSAFE in ms; the outputs with open-load detection; the inputs with wire-break detection, and those of type 1. -/
  tsafe : Nat := 0
  olen : Nat := 0
  wben : Nat := 0
  type1 : Nat := 0
  /-- The sample period of each input in units of 31.25 µs, 0 on Buckle's grid (R442). -/
  grid : List Nat := []
deriving DecidableEq, Repr

/-- What leaves the block: the model's own record of transmissions, oldest first (notes/assumptions/5.md). -/
inductive Tx where
  /-- A cycle mark /M/ on a node port, with its CYC byte and its lead MT (R87). -/
  | mark (port : Nat) (cycByte : Nat) (mt : Nat)
  /-- A Glifen frame on a node port, and its MAC frame: addresses, EtherType, header, payload, pad and FCS (R90). -/
  | frame (port : Nat) (f : Frame) (mac : List Byte)
  /-- A frame on a tether lane, and its MAC frame (R376). -/
  | tether (lane : Nat) (f : Frame) (mac : List Byte)
  /-- A frame on a tether lane whose payload ends in the bytes of a generator image, and its MAC frame (R90, R378). -/
  | tetherImage (lane : Nat) (f : Frame) (image : GenImage) (mac : List Byte)
  /-- A frame sent by a plant port (R462). -/
  | plant (port : Nat) (bytes : List Byte)
  /-- An MSI-X message of a vector (R461). -/
  | msix (vector : Nat)
  /-- A write of a DMA channel into PCIe space (R462). -/
  | pcieWrite (channel : Nat) (addr : Nat) (bytes : List Byte)
  /-- A management frame to the field die: configuration and sampling grid, the outputs of a safe-state command (R440), and whether FLD
  has started since the last frame that crossed (R449). -/
  | manage (cfg : DieCfg) (safe : List Nat) (start : Bool := false)
  /-- A refresh of a field output's coupler with its level (R440). -/
  | refresh (output : Nat) (level : Bool)
  /-- The clock of a serial transfer on FBnA, from I0 on: low at I0, `pulses` periods of `period` PCLK cycles, then high; an abandoned
  transfer ends it (R355). -/
  | serialClock (channel : Nat) (pulses : Nat) (period : Nat)
  /-- A QSPI read of the boot loader: command, flash address, length, PCLK cycles a clock, clocks before the data, and the level of the
  mode clocks where the command has them (R486). -/
  | flash (command : Nat) (addr : Nat) (len : Nat) (div : Nat) (dummy : Nat) (mode : Option Bool := none)
deriving DecidableEq, Repr

/-- What an access returned to its master: the model's own record of the last one (notes/assumptions/5.md). -/
inductive Reply where
  | none
  | data (bytes : List Byte)
  | abort
deriving DecidableEq, Repr

/-! ### Time -/

/-- A snapshot of R149. -/
structure Snap where
  t64 : BitVec 64 := 0
  raw : BitVec 64 := 0
  cyc : BitVec 48 := 0
  phase : Nat := 0
  valid : Bool := false
deriving DecidableEq, Repr

/-- What turns raw time into corrected time (R142): OFFSET, RREF, RATE. -/
structure TimeFn where
  offset : BitVec 64
  rref : BitVec 64
  rate : Word
deriving DecidableEq, Repr

/-- A write to the time base that takes effect at the next TCLK edge (R145, R146): RATE, OFFSET, or a step of OFFSET. -/
inductive TimeChange where
  | rate (v : Word)
  | offset (v : BitVec 64)
  | step (v : BitVec 64)
deriving DecidableEq, Repr

/-- The time base (R141–R149): raw counter, the OFFSET, RREF and RATE in force at the present TCLK edge, the writes that take effect at
the next, the staged low words, the RATE in force at the last I0, and the snapshots and latched high words of each master. -/
structure TimeBase where
  raw : BitVec 64 := 0
  offset : BitVec 64 := 0
  rref : BitVec 64 := 0
  rate : Word := 0
  /-- Writes of the present tick, oldest first. -/
  staged : List TimeChange := []
  /-- What was in force before a recent change, newest first: the raw time of the edge of the change, and the function that held until
  then (R151). -/
  past : List (BitVec 64 × TimeFn) := []
  offStage : Word := 0
  stepStage : Word := 0
  rateRef : Word := 0
  /-- An OFFSET write or a step took effect at the present TCLK edge (R155). -/
  stepEdge : Bool := false
  /-- The raw time at which the pulse of each time pin ends (R155). -/
  pulses : List (Nat × BitVec 64) := []
  snaps : List (Nat × Snap) := []
  /-- Latched high words: master * 16 + register (0 OFFHI, 1 RREFHI, 2 CYCHI, 8 + k TGTHI of pin k). -/
  latches : List (Nat × Word) := []
deriving DecidableEq, Repr

/-! ### Girth -/

/-- Girth (R126–R131). -/
structure Girth where
  cyc : BitVec 48 := 0
  /-- T64 of the ideal I0 of cycle 0; in STARTING the earliest that may be: 2 × Tc ticks after the start (R126, R144). -/
  t0 : BitVec 64 := 0
  /-- The CUTOFF of the cycle has been taken. -/
  cutDone : Bool := false
  /-- CUTOFFs sent with REST since RUN was cleared (R131). -/
  stopCuts : Nat := 0
  /-- The cycle of the last CWSTART of Girth's schedule (R384, R388). -/
  cw : Option (BitVec 48) := none
  /-- The cycle number Cinch reported at the last CWSTART (R130). -/
  report : Option (BitVec 48) := none
  /-- A disagreement of this cycle, to be mended at the next I0 (R130). -/
  disagree : Bool := false
  /-- Cinch's cycle number (R130 step 4 loads Girth's into it). -/
  cinchCyc : BitVec 48 := 0
deriving DecidableEq, Repr

/-- A delivered uplink block (R95): the cycle it was delivered for and its 16 bytes. -/
structure UpBlock where
  cyc : BitVec 48
  bytes : List Byte
deriving DecidableEq, Repr

/-- An outstanding DELAY-REQ (R100). -/
structure DelayReq where
  seq : Nat
  t1 : BitVec 64
  cyc : BitVec 48
deriving DecidableEq, Repr

/-- A JOIN to be answered by GRANT (R128). -/
structure JoinRx where
  cyc : BitVec 48
  result : Nat
  nuid : BitVec 64
deriving DecidableEq, Repr

/-- A node port beyond its registers. -/
structure Port where
  /-- The port has been CYCLIC since GIRTH started (R125). -/
  everCyclic : Bool := false
  /-- Violations of the history, by cycle, newest first (R123). -/
  hist : List (BitVec 48 × Nat) := []
  /-- The host wrote 1 to BLOCKED (R124). -/
  reenable : Bool := false
  seq : Nat := 0
  delaySeq : Nat := 0
  delayReq : Option DelayReq := none
  /-- The cycle from which the next DELAY-REQ is due (R89). -/
  delayDue : Option (BitVec 48) := none
  /-- A valid result not yet in use (R89). -/
  delayNew : Option Nat := none
  /-- A CYCLE-UP of this cycle passed steps 1–4 of R103. -/
  passed : Bool := false
  /-- A CYCLE-UP of this cycle was delivered, and it carried USEDB (R94). -/
  delivered : Bool := false
  usedB : Bool := false
  /-- A CYCLE-UP of this cycle was counted STALE. -/
  stale : Bool := false
  /-- The arrival event of this cycle is posted. -/
  arrived : Bool := false
  /-- A JOIN was received in this cycle (R128). -/
  joined : Bool := false
  join : Option JoinRx := none
  /-- The NUID a grant is held for, and the cycle from which it is in force. -/
  grant : Option (BitVec 64 × BitVec 48) := none
  mbxRx : Bool := false
  /-- The delivered blocks of each slot, the newest first, two at most (R121, R122). -/
  blocks : List (Nat × List UpBlock) := []
  /-- RUN of the page was cleared (R131), and a CUTOFF has sent its axes with REST since. -/
  stopping : Bool := false
  stopCut : Bool := false
  /-- The blocks of the downlink assembled at the last CUTOFF (R98). -/
  down : List Byte := []
  /-- CRC-32 of the blocks sent in a CYCLE-DOWN of this cycle (R377), and PINV of a frame sent in this cycle (R395). -/
  dcrc : Nat := 0
  pinv : Bool := false
deriving DecidableEq, Repr

/-! ### Axes -/

/-- Axis states (R20). -/
inductive AxState where
  | unmapped | stopped | starting | running | stopping | hold | rest
deriving DecidableEq, Repr

/-- Where an axis sits (R490). -/
inductive Place where
  | port (n : Nat) (slot : Nat)
  | lx (n : Nat)
  | ax (n : Nat)
deriving DecidableEq, Repr

/-- An entry of the active axis map (R490). -/
structure AxisMap where
  mode : Nat
  place : Place
  home : Nat
  rslot : Nat
  fb : Option Nat
  /-- IA, IB, IC, UDC analog channels. -/
  ain : List (Option Nat)
deriving DecidableEq, Repr

/-- An uplink block or local sample held back (R12): its 16 bytes, its cycle and its INFLAGS; `keepPos` where POS keeps its value
(R360). -/
structure HeldIn where
  keepPos : Bool := false
  /-- AGE as it stood before this update. -/
  ageBefore : Nat := 0
  bytes : Option (List Byte)
  cyc : BitVec 48
  inflags : Nat
deriving DecidableEq, Repr

/-- An axis: its map entry, its state (the network half's own, written to AXSTATE at each CUTOFF), what the network half
knows of its drive end, and the writes held back for it (R12). -/
structure Axis where
  map : Option AxisMap := none
  state : AxState := .unmapped
  /-- The state left on entry to HOLD is STOPPING. -/
  resume : Bool := false
  holdCnt : Nat := 0
  detLost : Bool := false
  age : Nat := 0
  /-- Delivered in the current cycle. -/
  fresh : Bool := false
  /-- STAT of the latest delivered block (R97). -/
  stat : Nat := 0
  /-- Record offset of the last uncorrectable word found (R505). -/
  eccOff : Option Nat := none
  /-- While started, since the last CUTOFF: an uncorrectable word was found (R504) or Cinch faulted (R130); and its port was blocked
  (R124) or its unit's trip latch set (R338). -/
  ownRest : Bool := false
  placeRest : Bool := false
  /-- The generator reported standstill (R307). -/
  standstill : Bool := false
  heldIn : Option HeldIn := none
  heldCmd : List HeldCmd := []
  /-- SP sections with their cycles, oldest first. -/
  heldSp : List (BitVec 48 × List Byte) := []
  /-- A CYCLIC task of the axis went LATE in the current cycle (R15, R177). -/
  late : Bool := false
  /-- The delivered positions of the last two cycles, newest first: the network half's copy (R312). -/
  posCopy : List (BitVec 48 × Word) := []
deriving DecidableEq, Repr

/-! ### Cinch -/

/-- A task descriptor as Cinch keeps it (R163). -/
structure Task where
  service : Bool
  prio : Nat
  home : Nat
  aff : Nat
  entry : Nat
  axis : Option Nat
  preds : List Nat
  deadline : Nat
  budget : Nat
  rper : Nat
  rphase : Nat
  arg : Nat
deriving DecidableEq, Repr

/-- A CYCLIC token (R166): the predecessors not yet satisfied, and where it runs. -/
structure Token where
  task : Nat
  cyc : BitVec 48
  axis : Option Nat
  waits : List Nat
  /-- A predecessor was satisfied by a skip (R179). -/
  tainted : Bool := false
  /-- Raw time at which it became ready. -/
  readyAt : Option (BitVec 64) := none
  /-- Awl and bank it runs in. -/
  on : Option (Nat × Nat) := none
  late : Bool := false
  posted : List Nat := []
deriving DecidableEq, Repr

/-- A SERVICE instance (R173).  `id` tells the instances of one task apart. -/
structure Svc where
  task : Nat
  id : Nat := 0
  /-- The cycle of its release (R164). -/
  cyc : BitVec 48
  waits : List Nat
  /-- Raw time at which it was queued: its predecessors are satisfied (R173, R174). -/
  queued : Option (BitVec 64) := none
  on : Option (Nat × Nat) := none
  preempted : Bool := false
deriving DecidableEq, Repr

/-- What Cinch keeps for one Awl: SERVICE use and debt in ns (R175), execution in the cycle (R188). -/
structure AwlUse where
  used : Nat := 0
  debt : Nat := 0
  busy : Nat := 0
  /-- Banks whose instance was counted over its budget (R163). -/
  overBanks : List Nat := []
deriving DecidableEq, Repr

/-- The ledger entry in the making (R189). -/
structure Ledger where
  done : Nat := 0
  late : Nat := 0
  skipped : Nat := 0
  app : Nat := 0
  rej : Nat := 0
  benchEnd : List (Nat × Nat) := []
  svcUsed : Nat := 0
  firstLate : Option Nat := none
  firstSkip : Option Nat := none
  events : Nat := 0
deriving DecidableEq, Repr

/-- Cinch (R162–R189). -/
structure Cinch where
  tasks : List Task := []
  tokens : List Token := []
  svcs : List Svc := []
  /-- The number of the next SERVICE instance. -/
  nextSvc : Nat := 0
  /-- Last Awl of each task (R171). -/
  lastAwl : List (Nat × Nat) := []
  /-- Predecessor codes satisfied in a cycle (R164). -/
  events : List (BitVec 48 × Nat) := []
  /-- AWLEN of each Bench as read at the last CWSTART (R170). -/
  awlen : List (Nat × Nat) := []
  use : List (Nat × AwlUse) := []
  ledger : Ledger := {}
  /-- The cycle of the last CWSTART. -/
  cwCyc : Option (BitVec 48) := none
  /-- The deadlines in ns whose tick has begun, with their cycle (R177). -/
  due : List (BitVec 48 × Nat) := []
  /-- The tick of the latest ENDT of an axis's tokens in cycles not yet resolved: axis, cycle, tick (R199). -/
  ends : List (Nat × BitVec 48 × Nat) := []
  /-- The STATUS the last served command took (R187); the model's own record. -/
  lastStatus : Nat := 0
deriving DecidableEq, Repr

/-! ### Awls -/

/-- The state of a Bench-queue entry (R212). -/
inductive QState where
  | free | pending | done
deriving DecidableEq, Repr

/-- Where the data of a queue load go at its WAITQ (R249). -/
inductive QDest where
  | reg (r : QReg)
  | block (addr : Nat) (n : Nat)
deriving DecidableEq, Repr

/-- A Bench-queue entry of a bank. -/
structure QEntry where
  st : QState := .free
  dest : Option QDest := none
  data : List Byte := []
  /-- The access of a completed load was good. -/
  ok : Bool := true
  /-- An error that no instruction has taken into SR.SQ yet (R537). -/
  err : Bool := false
deriving DecidableEq, Repr

/-- A posted access on the fabric, in issue order over both banks (R215). -/
structure QItem where
  bank : Nat
  q : Nat
  addr : Nat
  n : Nat
  block : Bool
  /-- The data of a store. -/
  data : Option (List Byte)
  task : Nat
  axis : Option Nat
  posted : BitVec 64
  /-- Its instance was abandoned (R178). -/
  orphan : Bool
deriving DecidableEq, Repr

/-- What an instruction writes: D, the chained and the ordinary view of E, the data and the address view of a control register,
the flags, SR whole, and a word of local memory (R209). -/
inductive Target where
  | d (n : Nat) | e (n : Nat) | ev (n : Nat) | cr (n : Nat) | av (n : Nat)
  | z | n | c | v | sv | sg | sq | sr
  | mem (a : Nat)
deriving DecidableEq, Repr

/-- A result in flight: the instructions still to issue before it is visible (R209, R265). -/
structure Flight where
  left : Nat
  tgt : Target
  val : Nat
deriving DecidableEq, Repr

/-- A register bank of an Awl (R206).  `cr` is the data view of the control registers of R248, `av` their view in address
formation, END tests and LOOP; `e` the accumulators as accumulations see them, `ev` as other reads see them (R209). -/
structure Bank where
  d : List (Nat × Word) := []
  e : List (Nat × BitVec 72) := []
  ev : List (Nat × BitVec 72) := []
  cr : List (Nat × Word) := []
  av : List (Nat × Word) := []
  sr : Word := 0
  ctx : Word := 0
  cycl : Word := 0
  pc : Nat := 0
  /-- A branch with delay slots still to issue: the slots, and the target if it is taken (R253). -/
  br : Option (Nat × Option Nat) := none
  /-- Repetitions left, the current one included (R263). -/
  redo : Nat := 0
  excm : Bool := false
  /-- The breakpoint already halted on does not match again at the next instruction (R271). -/
  bpSkip : Bool := false
  /-- The repeat-buffer tag, and the loop levels whose present pass has run whole and without a taken branch so far (R264). -/
  tag : Option (Nat × Nat) := none
  clean : List Nat := []
  /-- The loop levels in their first pass (R204). -/
  first : List Nat := []
  q : List (Nat × QEntry) := []
  /-- Results in flight, oldest first. -/
  flight : List Flight := []
deriving DecidableEq, Repr

/-- An Awl beyond its registers: the active bank, both banks, what the repeat buffer holds, the stall of R230, and its accesses on the
fabric. -/
structure Awl where
  bank : Nat := 0
  b0 : Bank := {}
  b1 : Bank := {}
  buf : Option (Nat × Nat) := none
  qwait : Bool := false
  /-- The n of the last BKPT, for the debugger (R251). -/
  bkpt : Option (BitVec 8) := none
  /-- A step of R272 is under way. -/
  stepping : Bool := false
  fifo : List QItem := []
deriving DecidableEq, Repr

/-! ### Latigo -/

/-- A port invalidated under R387: the axes whose copy is still to be installed, and the equal compared cycles since. -/
structure InvPort where
  port : Nat
  axes : List Nat
  equal : Nat
deriving DecidableEq, Repr

/-- A ring entry forwarded by the leader, not yet confirmed (R383): Bench, sequence, its APPLY, its 32 bytes. -/
structure FwdEntry where
  bench : Nat
  seq : Nat
  apply : Nat
  bytes : List Byte
deriving DecidableEq, Repr

/-- A copy held until its installation point (R388): the message it came in, as received. -/
structure CopyMsg where
  /-- 0 an axis, 1 a shared-block piece, 2 a group, 3 a virtual master. -/
  kind : Nat
  index : Nat
  cyc : BitVec 48
  bytes : List Byte
  image : GenImage
deriving DecidableEq, Repr

/-- Latigo beyond its registers (R375–R392). -/
structure Lat where
  /-- The servo of R381. -/
  freq : Int := 0
  stepped : Bool := false
  /-- TX and arrival of the twin's last TETHER-SYNC. -/
  rxTx : BitVec 64 := 0
  rxAt : BitVec 64 := 0
  /-- The fields of the twin's last TETHER-SYNC the later rules need: its PSTATE, Girth RUNNING, CYC48, I0T, SELFMAP, DCRCs. -/
  twinPstate : Nat := 0
  twinRunning : Bool := false
  twinCyc : BitVec 48 := 0
  twinI0 : BitVec 64 := 0
  /-- Consecutive measurements within and far outside the tolerance (R382). -/
  good : Nat := 0
  bad : Nat := 0
  /-- I0s since the last valid TETHER-SYNC, and the raw time of that TETHER-SYNC or of the decision of the roles. -/
  since : Nat := 0
  syncAt : BitVec 64 := 0
  /-- A new follower listens for the leader's TETHER-SYNC (R379). -/
  listen : Bool := false
  /-- Raw time of the start of LAT or of the last twin frame since (R393, CTL.SOLO). -/
  heardAt : BitVec 64 := 0
  /-- The tether is lost (R390). -/
  lost : Bool := false
  /-- COLDSTART is no longer sent: roles are decided and a twin frame was received. -/
  coldOff : Bool := false
  /-- A LAT stop of a follower with a RUNNING Girth: PINV until its Girth stops. -/
  left : Bool := false
  /-- The whole plane is invalid (R380, R387), and the equal compared cycles of each port since. -/
  plane : Bool := false
  planeEq : List (Nat × Nat) := []
  inv : List InvPort := []
  /-- Copies still to install of a whole-plane copy: kind and index (R387). -/
  want : List (Nat × Nat) := []
  held : List CopyMsg := []
  /-- Copies to send as source: kind, index (R388). -/
  give : List (Nat × Nat) := []
  /-- The ARRIVE maps of the cycle: the device's own and the twin's, with their cycles (R385). -/
  mine : Option (BitVec 48 × Nat) := none
  his : Option (BitVec 48 × Nat) := none
  /-- Axes whose block of the last CUTOFF was self-caused (R385). -/
  selfAxes : List Nat := []
  /-- The latest cycle of a self-caused block on each port: the device's own and the twin's. -/
  selfPorts : List (Nat × BitVec 48) := []
  twinPorts : List (Nat × BitVec 48) := []
  /-- Forwarding (R383, R384): per Bench the ring index of the next entry to forward and its sequence; the unconfirmed entries;
  per Bench the next sequence expected; after a handover, where the old leader's forwarding of each ring ends; the ring entries the twin
  has already (Bench, ring index). -/
  fwdNext : List (Nat × (Nat × Nat)) := []
  unacked : List FwdEntry := []
  expect : List (Nat × Nat) := []
  fwdEnd : List (Nat × Nat) := []
  fwdSkip : List (Nat × Nat) := []
  /-- Entries received out of sequence, not yet received in it: Bench, sequence, APPLY. -/
  gap : List (Nat × Nat × Nat) := []
  /-- The announced handover cycle (R392). -/
  hcyc : Option (BitVec 48) := none
  /-- The HOLDCYC count of this holdover. -/
  hold : Nat := 0
  /-- Every CYCLE-UP delivered in the last cycle had USEDB (R390). -/
  allB : Bool := false
deriving DecidableEq, Repr

/-! ### Stitch -/

/-- An edge set in force: RISE and FALL of legs A, B, C in ns, and the legs it forces off (R98, R330). -/
structure EdgeSet where
  rise : List Nat := []
  fall : List Nat := []
  off : Nat := 0
deriving DecidableEq, Repr

/-- What a CUTOFF gave a local output unit for the next I0 (R330, R364). -/
inductive Taken where
  | set (out : List Byte)
  | repeat
  | rest
deriving DecidableEq, Repr

/-- A Stitch unit beyond its registers (R329–R342). -/
structure Stitch where
  /-- The polarity latch, in the always-on domain (R329). -/
  polH : Bool := false
  polL : Bool := false
  taken : Taken := .rest
  /-- The set loaded last (AXIS). -/
  set : EdgeSet := {}
  /-- Sent with REST (AXIS). -/
  rest : Bool := true
  /-- The set loaded at this I0 was repeated. -/
  repeated : Bool := false
  /-- The ideal signals of legs A, B, C by their source, before refresh. -/
  h : Nat := 0
  /-- Legs whose h a refresh forces to 0 (R334). -/
  refresh : Nat := 0
  /-- Legs with h 1 since the period start, the same at the end of the last period, and the full periods of each leg in a row. -/
  full : Nat := 0
  fullEnd : Nat := 0
  fullCnt : List (Nat × Nat) := []
  /-- T64 of the running period's start. -/
  start : BitVec 64 := 0
  /-- T64 at which the unit froze (R340). -/
  frozenAt : BitVec 64 := 0
  /-- HALT_N has returned high since. -/
  thaw : Bool := false
  /-- TRIP0–TRIP7: the level of the last sample and how many equal samples came in a row (R335). -/
  trip : List (Nat × Bool × Nat) := []
  /-- Raw time of the last clear that was granted (R343). -/
  cleared : Option (BitVec 64) := none
  /-- Raw time of the last write of LEGA–LEGC (0–2) and of XCMP0–XCMP3 (3–6) (R333 rule 4). -/
  wrote : List (Nat × BitVec 64) := []
  /-- Raw time of the last PERIOD write, and the value in force at the tick before it (R332). -/
  perOld : Option (BitVec 64 × Nat) := none
  /-- Raw time at which an auxiliary channel last became active (R363). -/
  xOn : List (Nat × BitVec 64) := []
  /-- T64 at which the activity of an auxiliary channel in EDGE mode ends (R341). -/
  xEnd : List (Nat × BitVec 64) := []
deriving DecidableEq, Repr

/-! ### Feedback and analog channels -/

/-- An input pin behind the filter of R346: the level of the last samples and how many in a row, and the accepted level. -/
structure Line where
  lev : Bool := false
  run : Nat := 0
  filt : Bool := false
deriving DecidableEq, Repr

/-- A feedback channel beyond its registers (R346–R357). -/
structure Feed where
  /-- The input pins that have been sampled: 0 A or U, 1 B or V, 2 Z or W (R346). -/
  pins : List (Nat × Line) := []
  /-- The stored valid Hall code (0 before the first). -/
  hall : Nat := 0
  /-- A position was latched for the cycle. -/
  latched : Bool := false
  /-- Latched positions, newest first. -/
  hist : List Word := []
  /-- Illegal steps and bad Hall codes, by cycle, newest first (R351). -/
  ill : List (BitVec 48 × Nat) := []
  /-- A serial transfer is under way, and its clock went out: FBnB read 1 at the last sample before I0 (R355, R356). -/
  busy : Bool := false
  clocked : Bool := false
  /-- The raw value of the last passed transfer (R357). -/
  raw : Option Nat := none
  /-- Consecutive failed transfers (R356). -/
  fails : Nat := 0
deriving DecidableEq, Repr

/-- What an analog input channel converts (R361, R363). -/
inductive ConvKind where
  | i0 | cont | aux
deriving DecidableEq, Repr

/-- An analog channel beyond its registers (R361–R364). -/
structure Ana where
  conv : Option ConvKind := none
  /-- Raw time at which that conversion started, and of the latest auxiliary activation that started or was dropped (R363). -/
  convAt : BitVec 64 := 0
  xAt : Option (BitVec 64) := none
  /-- The raw code of the last conversion, and the code the array drives as an output, after the inverse correction (R365). -/
  rawLast : Nat := 0
  dac : Nat := 0
  taken : Taken := .rest
  /-- The code of the last command taken. -/
  code : Nat := 0
  /-- RESTCODE is driven for R339's demand (STOEN). -/
  sto : Bool := false
deriving DecidableEq, Repr

/-! ### Stamp -/

/-- A Stamp unit beyond its registers (R397–R409): the slot being filled and the trigger's memory. -/
structure Stamp where
  /-- Samples stored in the slot, before the trigger, and after it (the trigger sample included). -/
  stored : Nat := 0
  nb : Nat := 0
  np : Nat := 0
  /-- Cycle, T64 and cause of the trigger sample. -/
  tcyc : BitVec 48 := 0
  tt64 : BitVec 64 := 0
  cause : Nat := 0
  /-- Stored samples with a mask violation, by number. -/
  viols : List Nat := []
  seq : Nat := 0
  stopAfter : Bool := false
  force : Bool := false
  /-- The EDGE signal at the previous sample read since ARM. -/
  prev : Option Word := none
  /-- TT64 of the last accepted trigger, and the events still to consume (R406). -/
  lastTrig : Option (BitVec 64) := none
  evLeft : Nat := 0
  /-- The EXT input was active, and the time pins that fired, since the previous read (R405). -/
  extSeen : Bool := false
  tpSeen : Nat := 0
  /-- Writes of CTL, RELEASE and QUOTA that came within 40 ns before a sampling CUTOFF and act after it (R410). -/
  late : List (Nat × Word) := []
deriving DecidableEq, Repr

/-! ### Buckle and the field die -/

/-- A safety function beyond its registers (R420–R424, R428). -/
structure Sf where
  /-- Filtered levels of CH1 and CH2 (input on), and consecutive samples at the other level (R420). -/
  lvl1 : Bool := false
  lvl2 : Bool := false
  run1 : Nat := 0
  run2 : Nat := 0
  /-- Wire break of the latest judged sample, test-pulse error of the latest pulse, pulse in the present sample period. -/
  brk1 : Bool := false
  brk2 : Bool := false
  err1 : Bool := false
  err2 : Bool := false
  pulse1 : Bool := false
  pulse2 : Bool := false
  /-- The last evaluation saw an input fault. -/
  faulty : Bool := false
  /-- The two-hand count runs (R423). -/
  counting : Bool := false
  /-- The reset input: filtered level, samples at the other level, active evaluations, reported as stuck (R424). -/
  rlvl : Bool := false
  rrun : Nat := 0
  active : Nat := 0
  stuck : Bool := false
deriving DecidableEq, Repr

/-- A safety output beyond its registers (R429). -/
structure SafeOut where
  /-- Evaluations of the test pulse still to come. -/
  pulse : Nat := 0
  /-- The last readback disagreed with the commanded level. -/
  bad : Bool := false
deriving DecidableEq, Repr

/-- Buckle beyond its registers and its functions (R417–R429). -/
structure Buckle where
  outs : List (Nat × SafeOut) := []
  /-- OFLT bits that read 1 when they were written 1, since the last start (R439). -/
  oclr : Nat := 0
  /-- The STO word before the last evaluation, and the raw time of that evaluation (R426). -/
  before : Word := 0
  evalAt : BitVec 64 := 0
deriving DecidableEq, Repr

/-- A field input (R443, R444): the class kept (0 OFF, 1 ON, 2 BREAK), the class of the latest sample (3 TRANS), a sample since the
last evaluation, the run of samples at the other level, and the raw time of the newest sample. -/
structure FieldIn where
  cls : Nat := 0
  raw : Nat := 0
  fresh : Bool := false
  run : Nat := 0
  at_ : Option (BitVec 64) := none
deriving DecidableEq, Repr

/-- The field die (R441): what it holds itself, whatever becomes of the controller die.  Masks have a bit for each output. -/
structure Die where
  /-- The configuration that crossed last. -/
  cfg : DieCfg := {}
  /-- Outputs in their safe state (R448), and the levels in effect after claims and safe states. -/
  safe : Nat := 0
  cmd : Nat := 0
  /-- Readback levels; outputs in thermal shutdown, with EXTHIGH and with an open load (R446). -/
  rb : Nat := 0
  tsd : Nat := 0
  exth : Nat := 0
  openld : Nat := 0
  /-- The last measurement of the supply in mV and of the temperature in 1/16 K, undervoltage and overtemperature (R450). -/
  vfld : Nat := 0
  temp : Nat := 0
  uv : Bool := false
  ot : Bool := false
  /-- The last measurement of the supply has not yet reached the controller, which judges it against VLIM (R450). -/
  unjudged : Bool := false
deriving DecidableEq, Repr

/-- A field output (R445–R449): the level its coupler carried last and the one held since the safe state began, whether it has left its
safe state and still waits for a refresh, refreshes crossed in a row (100 at most), readbacks left of the suspension of R446, and
EXTHIGH's condition at the last readback. -/
structure FieldOut where
  level : Bool := false
  held : Bool := false
  waits : Bool := false
  seen : Nat := 0
  susp : Nat := 0
  high : Bool := false
deriving DecidableEq, Repr

/-! ### Host, boot, tack, clocks -/

/-- A DMA channel beyond its registers: the mailbox frame it offers to Girth, the port and the payload (R467). -/
structure Dma where
  offer : Option (Nat × List Byte) := none
deriving DecidableEq, Repr

/-- The boot loader (R485–R487): 0 slot A, 1 slot B, 2 waiting for a host load, 3 loading from the host, 4 done; a switch to request once
TACK runs; the OTP word being programmed and its bits. -/
structure Boot where
  phase : Nat := 0
  autotack : Bool := false
  otp : Option (Nat × Word) := none
deriving DecidableEq, Repr

/-- The tack engine (R492–R494): the set asked for, where it lies, its PWRDOM, the pages whose start is deferred, and the shared
blocks of the active set (R387): address and length. -/
structure Tack where
  set : Nat := 0
  base : Nat := 0
  len : Nat := 0
  pwrdom : Nat := 0
  deferred : List Nat := []
  /-- A start of this switch has failed (R494). -/
  failed : Bool := false
  /-- The pages whose last start was one of phase 5 (R494). -/
  starts : List Nat := []
  blocks : List (Nat × Nat) := []
deriving DecidableEq, Repr

/-- The clock monitor (R45): consecutive measurements outside the window, and whether the run has raised its fault. -/
structure ClkMon where
  out : Nat := 0
  raised : Bool := false
deriving DecidableEq, Repr

/-- The faults logged at one tick: its raw time and their number (R508). -/
structure LogRun where
  at_ : BitVec 64 := 0
  n : Nat := 0
deriving DecidableEq, Repr

/-- The state of the block. -/
structure State where
  /-- The host-visible registers. -/
  regs : List (Nat × Word) := []
  /-- Memory: fabric address and byte. -/
  mem : List Host.Cell := []
  /-- Inverted bits of stored code words, by word address (R39, R64). -/
  flips : List (Nat × BitVec 80) := []
  time : TimeBase := {}
  girth : Girth := {}
  ports : List (Nat × Port) := []
  axes : List (Nat × Axis) := []
  pgs : List (Nat × Pg) := []
  igrps : List (Nat × Igrp) := []
  vms : List (Nat × Vm) := []
  cinch : Cinch := {}
  awls : List (Nat × Awl) := []
  lat : Lat := {}
  stitches : List (Nat × Stitch) := []
  feeds : List (Nat × Feed) := []
  anas : List (Nat × Ana) := []
  stamps : List (Nat × Stamp) := []
  sfs : List (Nat × Sf) := []
  buckle : Buckle := {}
  fins : List (Nat × FieldIn) := []
  fouts : List (Nat × FieldOut) := []
  /-- The field die (R441). -/
  die : Die := {}
  /-- Consecutive management frames missing or failed (R440). -/
  linkMiss : Nat := 0
  /-- FLD has started and no management frame has crossed to the field die since (R449). -/
  fldNew : Bool := false
  /-- The Device ID of the PCIe function (R457). -/
  pciDevice : BitVec 16 := 0x0256
  dmas : List (Nat × Dma) := []
  /-- The page that holds each claimed resource (R78, R79). -/
  claims : List (Nat × Option Nat) := []
  /-- The shells whose calibration run is one of AUTO (R82): 32 * page + shell. -/
  autoRuns : List Nat := []
  boot : Boot := {}
  tack : Tack := {}
  clk : ClkMon := {}
  /-- The faults logged at the newest tick with one (R508). -/
  logRun : LogRun := {}
  /-- The temperature warning has been raised and is not re-armed (R507). -/
  tempFired : Bool := false
  /-- The word address the scrubber reads next (R41). -/
  scrub : Nat := 0
  /-- POR_N is low (R479). -/
  por : Bool := false
  /-- What left the block, oldest first. -/
  wire : List Tx := []
  /-- What the last access returned. -/
  reply : Reply := .none
  /-- How many free values were drawn: the model's own field (notes/assumptions/1.md). -/
  freeCtr : Nat := 0
  /-- Commands waiting, first in, first out. -/
  pending : List Instr := []
deriving DecidableEq, Repr

/-- The block right after power-on reset. -/
def State.reset : State := {}

/-- What a meaning answers. -/
abbrev Out := Host.Outcome State Fault Refusal

end Sys2Proof.Machine
end

