-- ==== Sys2Proof/Machine/Ops.lean ====
section
/-! DEFINITION. The operations every meaning is built from: registers and their fields, records, events and MSI-X messages, free
values, time, and the report of a fault (R499): capture, count, log, and the device-level reaction of its class. -/
namespace Sys2Proof.Machine

namespace State

/-! ### Registers -/

/-- The value of the register at an offset of a page. -/
def reg (s : State) (p off : Nat) : Word := Sp.get regReset s.regs (0x1000 * p + off)

/-- Set the register at an offset of a page. -/
def setReg (s : State) (p off : Nat) (w : Word) : State :=
  { s with regs := Sp.set regReset s.regs (0x1000 * p + off) w }

/-- The value of a field of a page. -/
def rd (s : State) (p : Nat) (f : Fld) : Nat := f.get (s.reg p f.off)

/-- Set a field of a page. -/
def wr (s : State) (p : Nat) (f : Fld) (v : Nat) : State := s.setReg p f.off (f.put v (s.reg p f.off))

/-- A one-bit field is 1. -/
def on (s : State) (p : Nat) (f : Fld) : Bool := s.rd p f != 0

/-- Two registers read as one 64-bit number. -/
def reg64 (s : State) (p lo : Nat) : BitVec 64 := s.reg p (lo + 4) ++ s.reg p lo

/-- Set two registers from one 64-bit number. -/
def setReg64 (s : State) (p lo : Nat) (v : BitVec 64) : State :=
  (s.setReg p lo (v.truncate 32)).setReg p (lo + 4) ((v >>> 32).truncate 32)

/-- The registers of a page return to their reset values. -/
def resetPage (s : State) (p : Nat) : State :=
  { s with regs := s.regs.filter fun e => e.1 / 0x1000 != p }

/-! ### Power domains and block states -/

/-- A switched domain is on and initialised (R59). -/
def domOn (s : State) (d : Nat) : Bool := bitOf (s.rd pgPWR PWR.STATUS_DOMAIN) d

/-- The page's domain is on; always-on pages are on. -/
def pageOn (s : State) (p : Nat) : Bool :=
  match pageDomain p with | some d => s.domOn d | none => true

/-- PSTAT.STATE of a page: OFF while its domain is off (R51). -/
def st (s : State) (p : Nat) : Nat := if s.pageOn p then s.rd p HDR.PSTAT_STATE else 0

/-- The page's block is RUNNING. -/
def running (s : State) (p : Nat) : Bool := s.st p == 3

/-- Set PSTAT.STATE. -/
def setSt (s : State) (p v : Nat) : State := s.wr p HDR.PSTAT_STATE v

/-- Set PSTAT.CFGREJ. -/
def cfgRej (s : State) (p : Nat) : State := s.wr p HDR.PSTAT_CFGREJ 1

/-! ### Records -/

def port (s : State) (n : Nat) : Port := Sp.get (fun _ => {}) s.ports n
def setPort (s : State) (n : Nat) (p : Port) : State := { s with ports := Sp.set (fun _ => {}) s.ports n p }
def modPort (s : State) (n : Nat) (f : Port → Port) : State := s.setPort n (f (s.port n))

def axis (s : State) (a : Nat) : Axis := Sp.get (fun _ => {}) s.axes a
def setAxis (s : State) (a : Nat) (x : Axis) : State := { s with axes := Sp.set (fun _ => {}) s.axes a x }
def modAxis (s : State) (a : Nat) (f : Axis → Axis) : State := s.setAxis a (f (s.axis a))

def pg (s : State) (a : Nat) : Pg := Sp.get (fun _ => {}) s.pgs a
def setPg (s : State) (a : Nat) (x : Pg) : State := { s with pgs := Sp.set (fun _ => {}) s.pgs a x }
def modPg (s : State) (a : Nat) (f : Pg → Pg) : State := s.setPg a (f (s.pg a))

def igrp (s : State) (g : Nat) : Igrp := Sp.get (fun _ => {}) s.igrps g
def setIgrp (s : State) (g : Nat) (x : Igrp) : State := { s with igrps := Sp.set (fun _ => {}) s.igrps g x }

def vm (s : State) (k : Nat) : Vm := Sp.get (fun _ => {}) s.vms k
def setVm (s : State) (k : Nat) (x : Vm) : State := { s with vms := Sp.set (fun _ => {}) s.vms k x }

def dma (s : State) (k : Nat) : Dma := Sp.get (fun _ => {}) s.dmas k
def setDma (s : State) (k : Nat) (x : Dma) : State := { s with dmas := Sp.set (fun _ => {}) s.dmas k x }

def stitch (s : State) (n : Nat) : Stitch := Sp.get (fun _ => {}) s.stitches n
def setStitch (s : State) (n : Nat) (x : Stitch) : State := { s with stitches := Sp.set (fun _ => {}) s.stitches n x }
def modStitch (s : State) (n : Nat) (f : Stitch → Stitch) : State := s.setStitch n (f (s.stitch n))

def feed (s : State) (n : Nat) : Feed := Sp.get (fun _ => {}) s.feeds n
def setFeed (s : State) (n : Nat) (x : Feed) : State := { s with feeds := Sp.set (fun _ => {}) s.feeds n x }
def modFeed (s : State) (n : Nat) (f : Feed → Feed) : State := s.setFeed n (f (s.feed n))

def ana (s : State) (n : Nat) : Ana := Sp.get (fun _ => {}) s.anas n
def setAna (s : State) (n : Nat) (x : Ana) : State := { s with anas := Sp.set (fun _ => {}) s.anas n x }
def modAna (s : State) (n : Nat) (f : Ana → Ana) : State := s.setAna n (f (s.ana n))

def stamp (s : State) (n : Nat) : Stamp := Sp.get (fun _ => {}) s.stamps n
def setStamp (s : State) (n : Nat) (x : Stamp) : State := { s with stamps := Sp.set (fun _ => {}) s.stamps n x }
def modStamp (s : State) (n : Nat) (f : Stamp → Stamp) : State := s.setStamp n (f (s.stamp n))

def sf (s : State) (k : Nat) : Sf := Sp.get (fun _ => {}) s.sfs k
def setSf (s : State) (k : Nat) (x : Sf) : State := { s with sfs := Sp.set (fun _ => {}) s.sfs k x }
def modSf (s : State) (k : Nat) (f : Sf → Sf) : State := s.setSf k (f (s.sf k))

def safeOut (s : State) (k : Nat) : SafeOut := Sp.get (fun _ => {}) s.buckle.outs k
def setSafeOut (s : State) (k : Nat) (x : SafeOut) : State :=
  { s with buckle := { s.buckle with outs := Sp.set (fun _ => {}) s.buckle.outs k x } }

def fin (s : State) (k : Nat) : FieldIn := Sp.get (fun _ => {}) s.fins k
def setFin (s : State) (k : Nat) (x : FieldIn) : State := { s with fins := Sp.set (fun _ => {}) s.fins k x }
def modFin (s : State) (k : Nat) (f : FieldIn → FieldIn) : State := s.setFin k (f (s.fin k))

def fout (s : State) (k : Nat) : FieldOut := Sp.get (fun _ => {}) s.fouts k
def setFout (s : State) (k : Nat) (x : FieldOut) : State := { s with fouts := Sp.set (fun _ => {}) s.fouts k x }
def modFout (s : State) (k : Nat) (f : FieldOut → FieldOut) : State := s.setFout k (f (s.fout k))

/-- The axes of the active map, in ascending index. -/
def mapped (s : State) : List (Nat × AxisMap) :=
  s.axes.filterMap fun e => e.2.map.map fun m => (e.1, m)

/-- Do something for each element of a list, in order. -/
def forEach {α : Type} (s : State) (l : List α) (f : State → α → State) : State := l.foldl f s

/-- While POR_N is low the whole die is in reset, and what happens has no effect (R479). -/
def live (s t : State) : State := if s.por then s else t

/-! ### Free values -/

/-- Draw a free value. -/
def draw (s : State) : BitVec 64 × State := (Config.freeValue s.freeCtr, { s with freeCtr := s.freeCtr + 1 })

/-! ### Transmissions -/

/-- The class-D fault has been seen (R502). -/
def fatal (s : State) : Bool := s.on pgFLT FLT.STAT_FATAL

/-- Append to the record of what left the block. -/
def emit (s : State) (t : Tx) : State := { s with wire := s.wire ++ [t] }

/-- Send on a node-port or tether transmitter: nothing leaves after a class-D fault (R502 step 2). -/
def send (s : State) (t : Tx) : State := if s.fatal then s else s.emit t

/-! ### Events and MSI-X -/

/-- The event request of a page is active (R75). -/
def evtReq (s : State) (p : Nat) : Bool := (s.reg p HDR.EVT &&& s.reg p HDR.EVTEN) != 0#32

/-- The map byte of a page (R474). -/
def mapByte (s : State) (p : Nat) : Nat := bitsOf (s.reg pgMSIX (0x400 + p / 4 * 4)).toNat (8 * (p % 4) + 7) (8 * (p % 4))

/-- The vector a page's request is routed to. -/
def pageVector (s : State) (p : Nat) : Option Nat :=
  if bitOf (s.mapByte p) 7 then some (s.mapByte p % 64) else none

/-- A vector's ARMED bit (R461). -/
def armed (s : State) (v : Nat) : Bool := bitOf (s.reg pgMSIX (MSIX.ARMED0 + 4 * (v / 32))).toNat (v % 32)

/-- Set a vector's ARMED bit. -/
def setArmed (s : State) (v : Nat) (b : Bool) : State :=
  let off := MSIX.ARMED0 + 4 * (v / 32)
  let w := (s.reg pgMSIX off).toNat
  s.setReg pgMSIX off (BitVec.ofNat 32 (if b then withBit w (v % 32) else withoutBit w (v % 32)))

/-- A vector's entry is masked (R460). -/
def masked (s : State) (v : Nat) : Bool := bitOf (s.reg pgMSIX (0x800 + 16 * v + 12)).toNat 0

/-- Every page number of the index of R65. -/
def allPages : List Nat := pageIndex.flatMap fun r => (List.range r.count).map (r.first + ·)

/-- A routed request of the vector is active. -/
def vecReq (s : State) (v : Nat) : Bool :=
  allPages.any fun p => s.evtReq p && decide (s.pageVector p = some v)

/-- R461: a vector sends its message when it is armed, a request routed to it is active and its entry is unmasked; sending
disarms it.  The MSIX page answers only while PD_HOST is on. -/
def vecTry (s : State) (v : Nat) : State :=
  if s.pageOn pgMSIX && s.armed v && !s.masked v && s.vecReq v then (s.setArmed v false).emit (.msix v) else s

/-- Judge the vector a page is routed to. -/
def msixPage (s : State) (p : Nat) : State :=
  if s.evtReq p then (match s.pageVector p with | some v => s.vecTry v | none => s) else s

/-- Set an EVT bit of a page and raise its event request (R75). -/
def evt (s : State) (p bit : Nat) : State :=
  (s.setReg p HDR.EVT (s.reg p HDR.EVT ||| BitVec.ofNat 32 (2 ^ bit))).msixPage p

/-! ### Counters -/

/-- Count one in a saturating counter (R33). -/
def bump (s : State) (p off : Nat) : State := s.setReg p off (satInc (s.reg p off))

/-- Count `n` in a saturating counter (R33). -/
def bumpBy (s : State) (p off n : Nat) : State := s.setReg p off (satAdd (s.reg p off) n)

/-- Count one, and set the page's 'a counter saturated' event when the counter reaches its end. -/
def bumpE (s : State) (p off bit : Nat) : State :=
  let s' := s.bump p off
  if s.reg p off ≠ 0xFFFFFFFF#32 ∧ s'.reg p off = 0xFFFFFFFF#32 then s'.evt p bit else s'

/-- Count `n`, with the page's 'a counter saturated' event. -/
def bumpByE (s : State) (p off n bit : Nat) : State :=
  let s' := s.bumpBy p off n
  if s.reg p off ≠ 0xFFFFFFFF#32 ∧ s'.reg p off = 0xFFFFFFFF#32 then s'.evt p bit else s'

/-! ### Time -/

/-- The rate term of R142 at a raw time: asr((raw − RREF) × RATE, 40), exact. -/
def rateTermAt (f : TimeFn) (raw : BitVec 64) : BitVec 64 :=
  BitVec.ofInt 64 (asrInt (((raw - f.rref).toNat : Int) * f.rate.toInt) 40)

/-- Corrected time at a raw time (R142). -/
def corrected (f : TimeFn) (raw : BitVec 64) : BitVec 64 := raw + f.offset + rateTermAt f raw

/-- What is in force at the present TCLK edge. -/
def timeFn (s : State) : TimeFn := ⟨s.time.offset, s.time.rref, s.time.rate⟩

/-- Corrected time at the present TCLK edge (R142, R143). -/
def t64 (s : State) : BitVec 64 := corrected s.timeFn s.time.raw

/-- Cycle length in ticks. -/
def tc (s : State) : Nat := s.rd pgGIRTH GIRTH.CYCLE_TC

/-- Cycles in a PWM period (R132): 1, 2 or 4. -/
def perdiv (s : State) : Nat := 2 ^ s.rd pgGIRTH GIRTH.CYCLE_PERDIV

/-- T64 of the ideal I0 of a cycle (R144). -/
def tI0 (s : State) (n : Nat) : BitVec 64 := s.girth.t0 + BitVec.ofNat 64 (n * s.tc * 64)

/-- Ticks since the last I0 (R149). -/
def phase (s : State) : Nat := (s.t64 - s.tI0 s.girth.cyc.toNat).toNat / 64

/-- CYC, 0 before network start. -/
def cyc (s : State) : Nat := s.girth.cyc.toNat

/-- GIRTH is RUNNING. -/
def girthOn (s : State) : Bool := s.running pgGIRTH

/-- GIRTH is STARTING, RUNNING or STOPPING (R146). -/
def girthBusy (s : State) : Bool := let g := s.st pgGIRTH; g == 2 || g == 3 || g == 4

end State

/-- `a ≥ b` of two T64 values (R142). -/
def geT64 (a b : BitVec 64) : Bool := decide ((a - b).toNat < 2 ^ 63)

namespace State

/-- T64 of a tick of the present cycle (R144). -/
def instant (s : State) (tick : Nat) : BitVec 64 := s.tI0 s.cyc + BitVec.ofNat 64 (64 * tick)

/-- The tick of the present cycle has come: T64 has reached its instant (R144). -/
def due (s : State) (tick : Nat) : Bool := geT64 s.t64 (s.instant tick)

end State

/-! ### Faults -/

/-- The fault classes of R499. -/
inductive FaultClass where
  | i | a | b | s | d
deriving DecidableEq, Repr

/-- The class of a fault code (R500); 0x0703 outside a started Axis Record. -/
def codeClass (c : Nat) : FaultClass :=
  if c % 256 ≥ 0xF0 then .i
  else if c = 0x0301 ∨ c = 0x0302 ∨ c = 0x0602 ∨ c = 0x0603 ∨ c = 0x0604 then .d
  else if c = 0x2001 ∨ c = 0x2101 ∨ c = 0x2104 ∨ c = 0x3002 ∨ c = 0x3003 ∨ c = 0x3004 ∨ c = 0x5002 ∨ c = 0x6001
    ∨ c = 0x6101 ∨ c = 0x6102 then .a
  else if (0x8002 ≤ c ∧ c ≤ 0x8006) ∨ (0x8101 ≤ c ∧ c ≤ 0x8103) ∨ c = 0x8201 ∨ c = 0x8202 then .s
  else if c = 0x0303 ∨ (0x0501 ≤ c ∧ c ≤ 0x0503) ∨ c = 0x0605 ∨ c = 0x0703 ∨ (0x2201 ≤ c ∧ c ≤ 0x2206) ∨ c = 0x4003
    ∨ c = 0x4004 ∨ c = 0x7001 ∨ c = 0x8001 ∨ (0x9001 ≤ c ∧ c ≤ 0x9003) ∨ c = 0xA001 ∨ c = 0xA002 ∨ c = 0xA301 then .b
  else .i

/-- The class counter of FLT (R512). -/
def FaultClass.counter : FaultClass → Nat
  | .d => FLT.CNTD | .s => FLT.CNTS | .a => FLT.CNTA | .b => FLT.CNTB | .i => FLT.CNTI

/-- The class's bit of FLT.EVT. -/
def FaultClass.bit : FaultClass → Nat
  | .d => 0 | .s => 1 | .a => 2 | .b => 3 | .i => 4

namespace State

/-- First-error capture (R76): only while ECAP0 reads 0. -/
def capture (s : State) (p code detail : Nat) : State :=
  if s.reg p HDR.ECAP0 = 0#32 then
    (s.setReg p HDR.ECAP0 (BitVec.ofNat 32 (0x10000 * code + s.cyc % 0x10000))).setReg p HDR.ECAP1 (BitVec.ofNat 32 detail)
  else s

/-- Move a log entry to the next place. -/
def logMove (s : State) (k : Nat) : State :=
  let j := (k + 1) % 32
  let s := s.setReg pgFLT (FLT.LOGA j) (s.reg pgFLT (FLT.LOGA k))
  let s := s.setReg pgFLT (FLT.LOGB j) (s.reg pgFLT (FLT.LOGB k))
  s.setReg pgFLT (FLT.LOGC j) (s.reg pgFLT (FLT.LOGC k))

/-- How many of the newest entries were logged at this tick. -/
def logNow (s : State) : Nat := if s.logRun.at_ = s.time.raw then s.logRun.n else 0

/-- The log entry of a fault, made while FLT is RUNNING (R499, R513); a full log loses its oldest entry, and the faults of one tick
stand in ascending code order (R508, notes/assumptions/85.md). -/
def logFault (s : State) (p code detail : Nat) : State :=
  let k := s.rd pgFLT FLT.LOGWR_INDEX
  let n := s.logNow
  let s := if s.rd pgFLT (FLT.LOGA_CODE k) ≠ 0 then (s.bumpE pgFLT FLT.LOGOVR 6).evt pgFLT 5 else s
  let j := ((List.range (min n 31)).takeWhile fun i => decide (code < s.rd pgFLT (FLT.LOGA_CODE ((k + 31 - i) % 32)))).length
  let s := s.forEach (List.range j) fun s i => s.logMove ((k + 31 - i) % 32)
  let k' := (k + 32 - j) % 32
  let s := s.setReg pgFLT (FLT.LOGA k') (BitVec.ofNat 32 (0x10000 * code + s.cyc % 0x10000))
  let s := s.setReg pgFLT (FLT.LOGB k') (BitVec.ofNat 32 detail)
  let s := s.setReg pgFLT (FLT.LOGC k') (BitVec.ofNat 32 p)
  { s.wr pgFLT FLT.LOGWR_INDEX (k + 1) with logRun := { at_ := s.time.raw, n := n + 1 } }

/-- Count one in a counter of FLT; its 'a counter saturated' event is set only while FLT is RUNNING. -/
def bumpFlt (s : State) (off : Nat) : State := if s.running pgFLT then s.bumpE pgFLT off 6 else s.bump pgFLT off

/-! ### Field outputs and their safe states -/

/-- BUCKLE holds its claims (R434). -/
def buckleHolds (s : State) : Bool := s.on pgBUCKLE HDR.CLAIM_HELD

/-- EN of OUTCFG for DOx, x = 12–15 (R439). -/
def safetyOutEn (s : State) (x : Nat) : Bool := bitOf (s.reg pgSTO STO.OUTCFG).toNat (8 * (x - 12) + 7)

/-- An enabled function names DOx as a test source in use (R428). -/
def testSource (s : State) (x : Nat) : Bool :=
  (List.range 16).any fun k =>
    let p := pgSF k
    s.on p SF.CFG_EN && ((s.on p SF.TEST_T1EN && s.rd p SF.TEST_T1SRC == x) || (s.on p SF.TEST_T2EN && s.rd p SF.TEST_T2SRC == x))

/-- BUCKLE claims output DOx (R428, R429, R434). -/
def buckleOut (s : State) (x : Nat) : Bool :=
  s.buckleHolds && if x < 12 then s.testSource x else s.safetyOutEn x

/-- DOx is a test source in its off pulse (R428). -/
def sourcePulsed (s : State) (x : Nat) : Bool :=
  (List.range 16).any fun k =>
    let p := pgSF k
    ((s.sf k).pulse1 && s.on p SF.TEST_T1EN && s.rd p SF.TEST_T1SRC == x) || ((s.sf k).pulse2 && s.on p SF.TEST_T2EN && s.rd p SF.TEST_T2SRC == x)

/-- The commanded level of DOx on the controller side (R445). -/
def outCmd (s : State) (x : Nat) : Bool :=
  if s.buckleOut x then (if x < 12 then !s.sourcePulsed x else bitOf (s.rd pgSTO STO.OUTSTAT_CMD) (x - 12))
  else s.running pgFLDDO && bitOf (s.rd pgFLDDO FLDDO.OUT_OUT) x

/-- DOx is in its safe state. -/
def safeAct (s : State) (x : Nat) : Bool := bitOf s.die.safe x

/-- The level DOx is commanded to at the field die, after claims and safe states (R447, R448): it acts on what has crossed its
couplers (R441).  An output that has left its safe state keeps the level of that state until its next refresh (R449). -/
def outWanted (s : State) (x : Nat) : Bool :=
  if s.safeAct x || (s.fout x).waits then
    !(decide (12 ≤ x) || bitOf s.die.cfg.forced x) && (let m := s.die.cfg.modes.getD x 0; m == 1 || (m == 2 && (s.fout x).held))
  else (s.fout x).level

/-- The field die has switched its outputs off (R450). -/
def fieldOff (s : State) : Bool := s.die.uv || s.die.ot

/-- Put the level in effect of DOx into force; a change to 0 suspends EXTHIGH for ten readbacks (R446). -/
def outSettle (s : State) (x : Nat) : State :=
  let v := s.outWanted x && !s.fieldOff
  let c := s.die.cmd
  let s := if bitOf c x && !v then s.modFout x fun o => { o with susp := 10, high := false } else s
  { s with die := { s.die with cmd := if v then withBit c x else withoutBit c x } }

/-- DOx enters its safe state; HOLD is the level last received (R447, R448). -/
def safeEnter (s : State) (x : Nat) : State :=
  if s.safeAct x then s
  else
    let s := s.modFout x fun o => { o with held := o.level, waits := false }
    { s with die := { s.die with safe := withBit s.die.safe x } }.outSettle x

/-- The outputs of a mask that were not in another. -/
def risen (old new : Nat) : List Nat := (List.range 16).filter fun x => bitOf new x && !bitOf old x

/-- SAFEACT and RB.CMD as the field die's diagnostics show them while the link is up (R440). -/
def safeShow (s : State) : State :=
  if !s.on pgFLD FLD.STAT_LINK then s
  else
    let up := risen (s.rd pgFLDDO FLDDO.SAFEACT_SAFE) s.die.safe
    let s := (s.wr pgFLDDO FLDDO.SAFEACT_SAFE s.die.safe).wr pgFLDDO FLDDO.RB_CMD s.die.cmd
    if up.isEmpty then s else s.evt pgFLDDO 3

/-- The safe-state command for every output, provided the link works (R448). -/
def safeCommand (s : State) : State :=
  if s.on pgFLD FLD.STAT_LINK then ((s.emit (.manage s.die.cfg (List.range 16))).forEach (List.range 16) safeEnter).safeShow else s

/-- The STO word takes a value; it stays 0 after a class-D fault (R502).  A change sets its event. -/
def setSto (s : State) (w : Word) : State :=
  let w := if s.fatal then 0 else w
  if s.reg pgSTO STO.WORD = w then s else (s.setReg pgSTO STO.WORD w).evt pgSTO 0

/-- A class-D fault abandons a tack switch; ACTIVE is unchanged (R508). -/
def tackAbandon (s : State) : State :=
  if s.on pgTACK TACK.STAT_BUSY then
    { ((s.wr pgTACK TACK.STAT_BUSY 0).wr pgTACK TACK.STAT_PHASE 0) with tack := { s.tack with deferred := [] } }
  else s

/-! ### The correction of an analog channel (R365) -/

/-- The trims in use: offset in 1/16 LSB, gain with 0x8000 = 1.0 (R81, R365). -/
def anaTrims (s : State) (n : Nat) : Int × Nat :=
  let p := pgAXCH n
  let t := s.on p (SHELL.CALCTL_USETRIM 0)
  let w (a b : Nat) : Nat := (s.reg p (if t then b else a)).toNat % 0x10000
  (toSigned 16 (w (SHELL.CALRES0 0) (SHELL.CALTRIM0 0)), w (SHELL.CALRES1 0) (SHELL.CALTRIM1 0))

/-- `x / d` rounded to the nearest integer; which way a tie rounds, and a quotient by 0, are free (notes/assumptions/35.md). -/
def roundQuot (s : State) (x : Int) (d : Nat) : Int × State :=
  let q := Int.fdiv x d
  let r := x - q * d
  if d = 0 then
    let (v, s) := s.draw
    (v.toInt, s)
  else if 2 * r = d then
    let (v, s) := s.draw
    (if v.getLsbD 0 then q + 1 else q, s)
  else (if 2 * r > d then q + 1 else q, s)

/-- The output code of channel `n`, and what the array drives for it: the inverse of the correction (R364, R365). -/
def setOut (s : State) (n code : Nat) : State :=
  let (off, gain) := s.anaTrims n
  let (q, s) := s.roundQuot (toSigned 12 code * 0x80000 + off * gain) (16 * gain)
  (s.wr (pgAXCH n) AXCH.OUTNOW_CODE code).modAna n fun a => { a with dac := ofSigned 12 (clampSigned 12 q) }

/-- The fail-silent sequence (R502) for a class-D fault: FATAL and its first code; the STO word 0 and the safety outputs off;
Stitch outputs off and analog outputs at RESTCODE; the safe-state command to the field die.  Step 2, the silence of the
transmitters, is in `send`. -/
def failSilent (s : State) (code : Nat) : State :=
  let s := if s.fatal then s else (s.wr pgFLT FLT.STAT_FATAL 1).wr pgFLT FLT.STAT_FATALCODE code
  let s := (s.setSto 0).wr pgSTO STO.OUTSTAT_CMD 0
  let s := s.forEach (List.range 8) fun s n => if s.pageOn (pgSTITCH n) then s.wr (pgSTITCH n) STITCH.OUTSTAT_OUT 0 else s
  let s := s.forEach (List.range 16) fun s n =>
    if s.pageOn (pgAXCH n) && s.on (pgAXCH n) AXCH.CFG_DIR then
      s.setOut n (s.rd (pgAXCH n) AXCH.OCFG_RESTCODE) else s
  s.tackAbandon.safeCommand

/-- The fault collector (R499): total and class count, the log and the class event while FLT is RUNNING, fail-silent for class D. -/
def collect (s : State) (p code detail : Nat) (c : FaultClass) : State :=
  let s := (s.bumpFlt FLT.TOTAL).bumpFlt c.counter
  let s := if s.running pgFLT then (s.logFault p code detail).evt pgFLT c.bit else s
  if c = .d then s.failSilent code else s

/-- A fault of a page's block with its detail word, in a given class: captured (R76) and passed to the collector (R499). -/
def faultIn (s : State) (p code detail : Nat) (c : FaultClass) : State := (s.capture p code detail).collect p code detail c

/-- A fault with the class R500 gives its code. -/
def fault (s : State) (p code detail : Nat) : State := s.faultIn p code detail (codeClass code)

/-- A fault for which the spec defines no detail word: the word is a free value (notes/assumptions/2.md). -/
def faultU (s : State) (p code : Nat) : State :=
  let (v, s) := s.draw
  s.fault p code (v.toNat % 2 ^ 32)

/-- FAULT_N is low (R503). -/
def faultNLow (s : State) : Bool :=
  !s.on pgBOOT BOOT.STAT_DONE || s.fatal ||
    (let c := s.rd pgFLT FLT.PINCFG_CLASS
     let e := (s.reg pgFLT HDR.EVT).toNat
     (bitOf c 3 && bitOf e 3) || (bitOf c 2 && bitOf e 2) || (bitOf c 1 && bitOf e 1) || (bitOf c 0 && bitOf e 4))

end State
end Sys2Proof.Machine
end

