-- ==== Sys2Proof/Machine/Memory.lean ====
section
/-! DEFINITION. Memory: the address map (R35), the code words and their correction (R39–R41, R64), the windows of a master's gate
(R468), and the checked accesses of the fixed-function masters (R536). -/
namespace Sys2Proof.Machine

/-- What a byte of memory that nothing has written reads as: 0 (R42, R479). -/
def memDefault (_ : Nat) : Byte := 0

/-- The form of memory: addresses strictly rising, no byte equal to what an unlisted address reads as. -/
abbrev Memory.wf (m : List Host.Cell) : Bool := Sp.wf memDefault m

/-- The power domain of a memory address (R35); none outside the memory regions. -/
def memDomain (a : Nat) : Option Nat :=
  if a < 0x01000000 then some (8 + a / 0x400000)
  else if a < 0x01800000 then some (a / 0x100000 % 16)
  else if 0x02000000 ≤ a ∧ a < 0x02200000 then some (a / 0x40000 % 8)
  else none

/-- The Awl whose local memory an address lies in. -/
def localAwl (a : Nat) : Option Nat :=
  if 0x02000000 ≤ a ∧ a < 0x02200000 then some (a / 0x8000 % 64) else none

/-- The base of an Awl's local memory (R35). -/
def localBase (n : Nat) : Nat := 0x02000000 + 0x8000 * n

/-- The base of an Axis Record (R23). -/
def recordBase (home slot : Nat) : Nat := 0x010F8000 + 0x100000 * home + 0x400 * slot

/-- The base of a mapped axis's record. -/
def AxisMap.base (m : AxisMap) : Nat := recordBase m.home m.rslot

/-- STARTING, RUNNING, STOPPING or HOLD: the axis is served. -/
def AxState.started : AxState → Bool
  | .starting | .running | .stopping | .hold => true
  | _ => false

/-- The code of an axis state (R20). -/
def AxState.code : AxState → Nat
  | .unmapped => 0 | .stopped => 1 | .starting => 2 | .running => 3 | .stopping => 4 | .hold => 5 | .rest => 6

/-- The master IDs of R536 that the model names. -/
def mHost : Nat := 64
def mGirth : Nat := 89
def mLatigo : Nat := 90
def mPg : Nat := 91
def mDebug : Nat := 92
def mBoot : Nat := 93
def mCinch : Nat := 94
def mScrub : Nat := 0x7F

namespace State

/-- The byte at an address. -/
def byte (s : State) (a : Nat) : Byte := Sp.get memDefault s.mem a

/-- The bytes `[a, a + n)` as stored. -/
def bytes (s : State) (a n : Nat) : List Byte := (List.range n).map fun i => s.byte (a + i)

/-- Store one byte. -/
def setByte (s : State) (a : Nat) (b : Byte) : State := { s with mem := Sp.set memDefault s.mem a b }

/-- Store bytes from an address on. -/
def setBytes (s : State) (a : Nat) : List Byte → State
  | [] => s
  | b :: bs => (s.setByte a b).setBytes (a + 1) bs

/-- The inverted bits of the code word at a word address. -/
def flip (s : State) (w : Nat) : BitVec 80 := Sp.get (fun _ => 0) s.flips w

/-- Set the inverted bits of a code word. -/
def setFlip (s : State) (w : Nat) (f : BitVec 80) : State := { s with flips := Sp.set (fun _ => 0) s.flips w f }

/-- The axis whose record an address lies in. -/
def axisAt (s : State) (a : Nat) : Option Nat :=
  (s.mapped.find? fun e => decide (e.2.base ≤ a) && decide (a < e.2.base + 0x400)).map (·.1)

/-- R39, R63: count and report a word found with `kind` errors (3: uncorrectable).  In the record of a started axis an
uncorrectable word is of class A and a cause of REST (R504); its offset is kept (R505). -/
def eccReport (s : State) (m w kind : Nat) : State :=
  let off := if kind = 1 then ECC.CORR1 else if kind = 2 then ECC.CORR2 else ECC.UNCORR
  let s := s.bump pgECC off
  let s := s.setReg pgECC ECC.LASTADDR (BitVec.ofNat 32 (w / 8 * 8))
  let s := s.setReg pgECC ECC.LASTINFO (BitVec.ofNat 32 (0x10000 * (m % 128) + (if m = mScrub then 0x100 else 0) + kind))
  let s := s.evt pgECC (kind - 1)
  if kind < 3 then s.faultU pgECC (0x0700 + kind)
  else
    let (v, s) := s.draw
    let d := v.toNat % 2 ^ 32
    match s.axisAt w with
    | none => s.faultIn pgECC 0x0703 d .b
    | some a =>
      let x := s.axis a
      let off := w - (match x.map with | some m => m.base | none => 0)
      let s := s.setAxis a { x with eccOff := some off, ownRest := x.ownRest || x.state.started }
      s.faultIn pgECC 0x0703 d (if x.state.started then .a else .b)

/-- A word of a block's own state is uncorrectable (R504): 0x0703 and the ECC page.  Its address is none of the fabric, and free; so is
the reader's ID where R536 names none (notes/assumptions/72.md). -/
def stateWord (s : State) (m : Option Nat) : State :=
  let (a, s) := s.draw
  let (i, s) := s.draw
  let s := (s.bump pgECC ECC.UNCORR).setReg pgECC ECC.LASTADDR (BitVec.ofNat 32 (a.toNat / 8 * 8))
  let s := (s.setReg pgECC ECC.LASTINFO (BitVec.ofNat 32 (0x10000 * (m.getD i.toNat % 128) + 3))).evt pgECC 2
  let (d, s) := s.draw
  s.faultIn pgECC 0x0703 (d.toNat % 2 ^ 32) .b

/-- R39: the read of one 64-bit word by a master: corrected and written back, or found uncorrectable (`false`).  Four and
more errors are outside the code's guarantee: what the word then reads as, and whether it is reported, is free. -/
def eccRead (s : State) (m w : Nat) : Bool × State :=
  let n := popCount 80 (s.flip w).toNat
  if n = 0 then (true, s)
  else if n ≤ 2 then (true, (s.setFlip w 0).eccReport m w n)
  else if n = 3 then (false, s.eccReport m w 3)
  else
    let (k, s) := s.draw
    let (v, s) := s.draw
    if k.toNat % 4 = 3 then (false, s.eccReport m w 3)
    else
      let s := (s.setFlip w 0).setBytes w (leBytes 8 v.toNat)
      (true, if k.toNat % 4 = 0 then s else s.eccReport m w (k.toNat % 4))

/-- The Bench whose memory an address lies in. -/
def benchOf (a : Nat) : Option Nat := if 0x01000000 ≤ a ∧ a < 0x01800000 then some (a / 0x100000 % 16) else none

/-- An access to a Bench memory by a master other than the Bench's Awls is counted while the BENCH page runs (R234). -/
def noteAccess (s : State) (m a : Nat) : State :=
  match benchOf a with
  | some b => if s.running (pgBENCH b) && !(decide (m < 64) && m / 8 == b) then s.bumpE (pgBENCH b) BENCH.EXTACC 0 else s
  | none => s

/-- The word addresses that `[a, a + n)` touches. -/
def wordsOf (a n : Nat) : List Nat :=
  if n = 0 then [] else (List.range ((a + n - 1) / 8 - a / 8 + 1)).map fun i => (a / 8 + i) * 8

/-- Read `n` bytes at `a` for master `m`; none if a word is uncorrectable. -/
def readMem (s : State) (m a n : Nat) : Option (List Byte) × State :=
  let r := (wordsOf a n).foldl (fun (r : Bool × State) w => let q := r.2.eccRead m w; (r.1 && q.1, q.2)) (true, s.noteAccess m a)
  (if r.1 then some (r.2.bytes a n) else none, r.2)

/-- R64: the code word is stored with the armed bits inverted, and ARM returns to 0. -/
def injectAt (s : State) (m w : Nat) : State :=
  if s.on pgECC ECC.INJCTL_ARM && decide (s.rd pgECC ECC.INJADDR_ADDR * 8 = w) && decide (m ≠ mScrub) then
    let n := s.rd pgECC ECC.INJCTL_COUNT
    let b (i f : Nat) : Nat := if i < n then 2 ^ f else 0
    let f := b 0 (s.rd pgECC ECC.INJCTL_BITA) ^^^ b 1 (s.rd pgECC ECC.INJCTL_BITB) ^^^ b 2 (s.rd pgECC ECC.INJCTL_BITC)
    (s.setFlip w (BitVec.ofNat 80 f)).wr pgECC ECC.INJCTL_ARM 0
  else s

/-- R40: the write of the part of `[a, a + bs.length)` that lies in word `w`: a whole word needs no read, a shorter one is a
read–modify–write and is not performed where its read is uncorrectable. -/
def writeWord (s : State) (m w a : Nat) (bs : List Byte) : Bool × State :=
  let lo := max a w
  let hi := min (a + bs.length) (w + 8)
  let part := (bs.drop (lo - a)).take (hi - lo)
  if lo = w ∧ hi = w + 8 then (true, ((s.setFlip w 0).setBytes lo part).injectAt m w)
  else
    let r := s.eccRead m w
    if r.1 then (true, (r.2.setBytes lo part).injectAt m w) else (false, r.2)

/-- The accesses of a block, one for each 8-byte word it touches (R249, R468). -/
def wordParts (a : Nat) (bs : List Byte) : List (Nat × List Byte) :=
  (wordsOf a bs.length).map fun w => let lo := max a w; (lo, (bs.drop (lo - a)).take (min (a + bs.length) (w + 8) - lo))

/-- Write bytes at `a` for master `m`, word by word in ascending order; a word that fails is left (R187 status 10). -/
def writeMem (s : State) (m a : Nat) (bs : List Byte) : Bool × State :=
  (wordsOf a bs.length).foldl (fun (r : Bool × State) w => let q := r.2.writeWord m w a bs; (r.1 && q.1, q.2)) (true, s.noteAccess m a)

/-! ### Gates -/

/-- Window `k` of master `m` covers `[a, a + n)` (R468). -/
def windowCovers (s : State) (m k a n : Nat) : Bool :=
  let p := pgGATE m
  let base := 0x1000 * s.rd p (GATE.WBASE_BASE k)
  s.on p (GATE.WCTL_EN k) && decide (base ≤ a) && decide (a + n ≤ base + 2 ^ s.rd p (GATE.WCTL_SZ k))

/-- Window `k` grants a read, a write, or a program-memory write (0, 1, 2). -/
def windowGrants (s : State) (m k acc : Nat) : Bool :=
  let p := pgGATE m
  if acc = 0 then s.on p (GATE.WCTL_R k)
  else if acc = 1 then s.on p (GATE.WCTL_W k)
  else s.on p (GATE.WCTL_W k) && s.on p (GATE.WCTL_X k)

/-- The debug lock is set, by the fuse or by the image (R483). -/
def debugLock (s : State) : Bool := s.on pgBOOT BOOT.STAT_DBGLOCK || bitOf (s.rd pgBOOT (BOOT.OTPRD_VALUE 8)) 1

/-- Windows of a master: none for master 95, and none for master 92 while the debug lock is set (R471, R483). -/
def windowsShut (s : State) (m : Nat) : Bool := m == 95 || (m == mDebug && s.debugLock)

/-- What the windows of master `m` say of an access of kind `acc` to `[a, a + n)`: none where granted, else 1 (no window) or
2 (right missing). -/
def windowKind (s : State) (m a n acc : Nat) : Option Nat :=
  let ws := if s.windowsShut m then [] else (List.range 8).filter fun k => s.windowCovers m k a n
  if ws.isEmpty then some 1 else if ws.any fun k => s.windowGrants m k acc then none else some 2

/-- The access kind of VINFO.ACC: 0 read, 1 write, 2 write of `[a, a + n)` with a byte in an Awl's program memory. -/
def accKind (a n : Nat) (write : Bool) : Nat :=
  match write, localAwl a with
  | false, _ => 0
  | true, some _ => if a % 0x8000 < 0x4000 ∨ 0x8000 < a % 0x8000 + n then 2 else 1
  | true, none => 1

/-- The power domains of the memory that `[a, a + n)` touches; no domain of memory is smaller than 0x40000 bytes (R35). -/
def domainsOf (a n : Nat) : List (Option Nat) :=
  (List.range ((a + n - 1) / 0x40000 - a / 0x40000 + 1)).map fun i => memDomain (max a ((a / 0x40000 + i) * 0x40000))

/-- The violation kind of an access (VINFO.KIND), none where it is permitted: reserved address, domain off, register width or
alignment, windows (R36, R66, R67, R468). -/
def gateKind (s : State) (m a n : Nat) (write : Bool) : Option Nat :=
  if 0x04000000 ≤ a ∧ a < 0x05000000 then
    if (pageRow (a / 0x1000 % 0x1000)).isNone then some 3
    else if n ≠ 4 ∨ a % 4 ≠ 0 then some 5
    else s.windowKind m a n (if write then 1 else 0)
  else
    let ds := domainsOf a n
    if ds.any (·.isNone) then some 3
    else if !ds.all fun d => match d with | some d => s.domOn d | none => false then some 4
    else s.windowKind m a n (accKind a n write)

/-- R469: the record of a violation on the master's gate page: VADDR and VINFO of the first, VCNT while the page is RUNNING, the
event and fault 0xA301 with the address. -/
def gateRecord (s : State) (m a : Nat) (acc kind : Nat) : State :=
  let p := pgGATE m
  let s := if s.on p GATE.STAT_VALID then s
    else ((s.setReg p GATE.VADDR (BitVec.ofNat 32 a)).setReg p GATE.VINFO
      (BitVec.ofNat 32 (0x10000 * (s.cyc % 0x10000) + 0x100 * acc + kind))).wr p GATE.STAT_VALID 1
  let s := if s.running p then s.bumpE p GATE.VCNT 1 else s
  (s.evt p 0).fault p 0xA301 a

/-- A read of a fixed-function master: suppressed on a violation (R469). -/
def fixRead (s : State) (m a n : Nat) : Option (List Byte) × State :=
  match s.gateKind m a n false with
  | some k => (none, s.gateRecord m a 0 k)
  | none => s.readMem m a n

/-- A block read by a fixed-function master, one 8-byte word at a time (R249, R468); none from the first word that cannot be read. -/
def blockRead (s : State) (m a n : Nat) : Option (List Byte) × State :=
  (wordsOf a n).foldl (fun (r : Option (List Byte) × State) w => match r.1 with
    | none => r
    | some bs =>
      let lo := max a w
      let (b, s) := r.2.fixRead m lo (min (a + n) (w + 8) - lo)
      (b.map (bs ++ ·), s)) (some [], s)

/-- A write of a fixed-function master: suppressed on a violation (R469). -/
def fixWrite (s : State) (m a : Nat) (bs : List Byte) : Bool × State :=
  match s.gateKind m a bs.length true with
  | some k => (false, s.gateRecord m a (accKind a bs.length true) k)
  | none => s.writeMem m a bs

/-- A write of a fixed-function master whose answer does not matter. -/
def fixPut (s : State) (m a : Nat) (bs : List Byte) : State := (s.fixWrite m a bs).2

/-- The address of a register. -/
def regAddr (p off : Nat) : Nat := 0x04000000 + 0x1000 * p + off

/-- A register write of the boot loader or the tack engine as master 93, whose effect is `f`: suppressed on a violation, which GATE93
records (R469, R536). -/
def bootAct (s : State) (p off : Nat) (f : State → State) : State :=
  match s.gateKind mBoot (regAddr p off) 4 true with
  | some k => s.gateRecord mBoot (regAddr p off) 1 k
  | none => f s

end State
end Sys2Proof.Machine
end

