-- ==== Sys2Proof/Machine/AwlBank.lean ====
section
/-! DEFINITION. The register banks of an Awl: the views of R209, results in flight (R209–R211), and what the data instructions
write (R237–R247). -/
namespace Sys2Proof.Machine

namespace Bank

def D (b : Bank) (r : Nat) : Word := Sp.get (fun _ => 0) b.d r
def putD (b : Bank) (r : Nat) (v : Word) : Bank := { b with d := Sp.set (fun _ => 0) b.d r v }
/-- A pair: D2k holds the high word (R206). -/
def D64 (b : Bank) (k : Nat) : BitVec 64 := b.D (2 * k) ++ b.D (2 * k + 1)
/-- An accumulator as accumulations see it. -/
def E (b : Bank) (a : Nat) : BitVec 72 := Sp.get (fun _ => 0) b.e a
/-- An accumulator as other reads see it. -/
def EV (b : Bank) (a : Nat) : BitVec 72 := Sp.get (fun _ => 0) b.ev a
/-- A control register as a data operand. -/
def CR (b : Bank) (r : Nat) : Word := Sp.get (fun _ => 0) b.cr r
/-- A control register in address formation, END tests and LOOP. -/
def AV (b : Bank) (r : Nat) : Word := Sp.get (fun _ => 0) b.av r
def putE (b : Bank) (a : Nat) (v : BitVec 72) : Bank := { b with e := Sp.set (fun _ => 0) b.e a v }
def putEV (b : Bank) (a : Nat) (v : BitVec 72) : Bank := { b with ev := Sp.set (fun _ => 0) b.ev a v }
def putCR (b : Bank) (r : Nat) (v : Word) : Bank := { b with cr := Sp.set (fun _ => 0) b.cr r v }
def putAV (b : Bank) (r : Nat) (v : Word) : Bank := { b with av := Sp.set (fun _ => 0) b.av r v }

/-- Set or clear a bit of SR. -/
def putFlag (b : Bank) (i : Nat) (v : Bool) : Bank :=
  { b with sr := BitVec.ofNat 32 (if v then withBit b.sr.toNat i else withoutBit b.sr.toNat i) }

def q1 (b : Bank) (k : Nat) : QEntry := Sp.get (fun _ => {}) b.q k
def putQ (b : Bank) (k : Nat) (e : QEntry) : Bank := { b with q := Sp.set (fun _ => {}) b.q k e }

/-- The hardware writes a control register: both views, and writes in flight to it are overtaken (R210). -/
def setCR (b : Bank) (r : Nat) (v : Word) : Bank :=
  { (b.putCR r v).putAV r v with flight := b.flight.filter fun f => f.tgt != .cr r && f.tgt != .av r }

/-- A result becomes visible. -/
def apply (b : Bank) (f : Flight) : Bank :=
  match f.tgt with
  | .d n => b.putD n (BitVec.ofNat 32 f.val)
  | .e n => b.putE n (BitVec.ofNat 72 f.val)
  | .ev n => b.putEV n (BitVec.ofNat 72 f.val)
  | .cr n => b.putCR n (BitVec.ofNat 32 f.val)
  | .av n => b.putAV n (BitVec.ofNat 32 f.val)
  | .z => b.putFlag 0 (f.val != 0)
  | .n => b.putFlag 1 (f.val != 0)
  | .c => b.putFlag 2 (f.val != 0)
  | .v => b.putFlag 3 (f.val != 0)
  | .sv => b.putFlag 4 true
  | .sg => b.putFlag 5 true
  | .sq => b.putFlag 6 true
  | .sr => { b with sr := BitVec.ofNat 32 f.val }
  | .mem _ => b

end Bank

/-- A later write to `f` stands over an older one to `g`; a write of SR stands over every older flag (R210, R211). -/
def overtakes (f g : Target) : Bool :=
  f == g || (f == .sr && (g == .z || g == .n || g == .c || g == .v || g == .sv || g == .sg || g == .sq))

/-- One instruction has issued (or, to drain, all results become visible): the bank, and the words stored. -/
def Bank.settle (b : Bank) (drain : Bool) : Bank × List (Nat × Nat) :=
  let r := b.flight.foldl (fun (r : Bank × List Flight × List (Nat × Nat)) f =>
    if drain || f.left ≤ 1 then
      (r.1.apply f, r.2.1.filter (fun g => !overtakes f.tgt g.tgt), match f.tgt with | .mem a => r.2.2 ++ [(a, f.val)] | _ => r.2.2)
    else (r.1, r.2.1 ++ [{ f with left := f.left - 1 }], r.2.2)) (b, [], [])
  ({ r.1 with flight := r.2.1 }, r.2.2)

/-- An address of local memory read or written by an instruction: the space (1 X, 2 Y, 0 P), the offset in local memory, bytes. -/
structure LocalRef where
  space : Nat
  off : Nat
  n : Nat
deriving DecidableEq, Repr

/-- The offset in a space of a local offset. -/
def LocalRef.inSpace (r : LocalRef) : Nat := if r.space = 0 then r.off else if r.space = 1 then r.off - 0x4000 else r.off - 0x6000

/-- A data access through A(ak). -/
def dataRef (ak : Nat) (ea : Word) (n : Nat) : LocalRef := ⟨if ak < 4 then 1 else 2, localAddr ak ea n, n⟩

namespace Bank

/-- A 64-bit result into a pair, visible after `k` instructions. -/
def pairFlights (k p : Nat) (v : BitVec 64) : List Flight :=
  [⟨k, .d (2 * p), (v >>> 32).toNat⟩, ⟨k, .d (2 * p + 1), v.toNat % 2 ^ 32⟩]

/-- The flags of an operation, visible after `k` instructions. -/
def flFlights (k : Nat) (f : Fl) : List Flight :=
  let one (t : Target) : Option Bool → List Flight
    | some b => [⟨k, t, if b then 1 else 0⟩]
    | none => []
  one .z f.z ++ one .n f.n ++ one .c f.c ++ one .v f.v ++ (if f.sv then [⟨k, .sv, 1⟩] else []) ++ (if f.sg then [⟨k, .sg, 1⟩] else [])

/-- A result in an accumulator: at once for accumulations, from i+3 for other reads (R209). -/
def accFlights (a : Nat) (v : BitVec 72) : List Flight := [⟨1, .e a, v.toNat⟩, ⟨3, .ev a, v.toNat⟩]

/-- A pointer written by post-modification: next address formation (R209). -/
def postFlights (r : Nat) (v : Word) : List Flight := [⟨1, .cr r, v.toNat⟩, ⟨1, .av r, v.toNat⟩]

/-- The circular post-modification of Ak (R258). -/
def postA (b : Bank) (k : Nat) (s : Int) : List Flight := postFlights k (circular (b.AV k) (b.AV (8 + k)) (b.AV (16 + k)) s)

/-- The step register of Ak. -/
def stepOf (b : Bank) (k : Nat) : Int := (b.AV (24 + k)).toInt

/-- The coefficient word through Cj. -/
def coefRef (b : Bank) (j : Nat) : LocalRef := ⟨0, (b.AV (32 + j)).toNat % 0x4000 / 4 * 4, 4⟩

/-- The advance of Cj (R259). -/
def coefPost (b : Bank) (j : Nat) : List Flight :=
  postFlights (32 + j) (circular (b.AV (32 + j)) (b.AV (34 + j)) (b.AV (36 + j)) 4)

/-! ### Parallel moves (R238) -/

/-- The address register of a move. -/
def moveA (y : Bool) (mv : Move) : Nat := mv.areg.val + if y then 4 else 0

/-- The word a move addresses. -/
def moveRef (b : Bank) (y : Bool) (mv : Move) : LocalRef :=
  dataRef (moveA y mv) (b.AV (moveA y mv)) (if mv.kind = .loadPair then 8 else 4)

/-- The register of a 32-bit move. -/
def moveD (y : Bool) (mv : Move) : Nat := mv.reg.val + if y then 12 else 8

/-- What a move writes; `m` reads local memory. -/
def moveFlights (b : Bank) (m : LocalRef → Nat) (y : Bool) (mv : Move) : List Flight :=
  let r := b.moveRef y mv
  (match mv.kind with
    | .load => [⟨2, .d (moveD y mv), m r⟩]
    | .store => [⟨4, .mem r.off, (b.D (moveD y mv)).toNat⟩]
    | .loadPair => pairFlights 2 (mv.reg.val + if y then 4 else 0) (BitVec.ofNat 64 (m r)))
  ++ b.postA (moveA y mv) (b.stepOf (moveA y mv))

/-- What both moves of a word write, Y standing over X (R210). -/
def movesFlights (b : Bank) (m : LocalRef → Nat) (mv : Moves) : List Flight :=
  (match mv.x with | some v => b.moveFlights m false v | none => [])
    ++ (match mv.y with | some v => b.moveFlights m true v | none => [])

/-- The words both moves read. -/
def movesRefs (b : Bank) (mv : Moves) : List LocalRef :=
  let one (y : Bool) : Option Move → List LocalRef
    | some v => if v.kind = .store then [] else [b.moveRef y v]
    | none => []
  one false mv.x ++ one true mv.y

/-! ### Second sources -/

/-- The pointer a second source reads through, if it is a coefficient. -/
def src2C : Src2 → Option Nat
  | .d _ => none
  | .coef => some 0

def mulC : MulSrc → Option Nat
  | .d _ => none
  | .k => some 0
  | .c j => some j.val

def coefRefs (b : Bank) : Option Nat → List LocalRef
  | some j => [b.coefRef j]
  | none => []

def coefPosts (b : Bank) : Option Nat → List Flight
  | some j => b.coefPost j
  | none => []

def src2V (b : Bank) (m : LocalRef → Nat) : Src2 → Word
  | .d r => b.D r.val
  | .coef => BitVec.ofNat 32 (m (b.coefRef 0))

def mulV (b : Bank) (m : LocalRef → Nat) : MulSrc → Word
  | .d r => b.D r.val
  | .k => BitVec.ofNat 32 (m (b.coefRef 0))
  | .c j => BitVec.ofNat 32 (m (b.coefRef j.val))

/-! ### Control registers -/

/-- The value MOVC reads (R248). -/
def readCR (b : Bank) (tnow : Word) (bank r : Nat) : Word :=
  if r = 38 then b.sr else if r = 39 then b.ctx else if r = 40 then b.cycl else if r = 41 then tnow
  else if r = 42 then BitVec.ofNat 32 bank else b.CR r

/-- What a MOVC write writes (R209, R248, R262). -/
def crFlights (r : Nat) (v : Word) : List Flight :=
  if r = 38 then [⟨1, .sr, (crValue r v).toNat⟩] else [⟨1, .cr r, (crValue r v).toNat⟩, ⟨4, .av r, (crValue r v).toNat⟩]

/-! ### Local loads and stores (R247) -/

/-- The access size of a D register or pair. -/
def regSize : DReg → Nat
  | .d _ => 4
  | .pair _ => 8

def memRef (b : Bank) (ak : Nat) (mode : MemMode) (n : Nat) : LocalRef :=
  match mode with
  | .index o => dataRef ak (b.AV ak + o.v) n
  | _ => dataRef ak (b.AV ak) n

def memPost (b : Bank) (ak : Nat) (mode : MemMode) (n : Nat) : List Flight :=
  match mode with
  | .incr => b.postA ak n
  | .step => b.postA ak (b.stepOf ak)
  | _ => []

/-- The local block of a GB word: the words of `n` 8-byte units from A(am) on, modulo 8 KB (R249). -/
def blockRefs (b : Bank) (am n : Nat) : List LocalRef :=
  (List.range n).map fun i => dataRef am (b.AV am + BitVec.ofNat 32 (8 * i)) 8

/-! ### The data instructions -/

/-- The words of local memory an instruction reads as data (R266). -/
def refs (b : Bank) (i : AwlIns) : List LocalRef :=
  match i with
  | .nopMoves mv => b.movesRefs mv
  | .bin _ _ _ s2 mv | .cmp _ s2 mv | .tst _ s2 mv | .movE _ _ s2 mv => b.coefRefs (src2C s2) ++ b.movesRefs mv
  | .una _ _ _ mv | .clr _ mv => b.movesRefs mv
  | .mul _ _ _ s2 mv | .cmul _ _ _ s2 mv => b.coefRefs (mulC s2) ++ b.movesRefs mv
  | .conv _ _ _ (some mv) | .cconv _ _ _ (some mv) => b.movesRefs mv
  | .ld dst ak mode => [b.memRef ak.val mode (regSize dst)]
  | .ldc _ j => [b.coefRef j.val]
  | .stqB _ am _ _ n => b.blockRefs am.val (n.val + 1)
  | _ => []

/-- The instruction reads a coefficient (R205). -/
def readsCoef : AwlIns → Bool
  | .bin _ _ _ s2 _ | .cmp _ s2 _ | .tst _ s2 _ | .movE _ _ s2 _ => (src2C s2).isSome
  | .mul _ _ _ s2 _ | .cmul _ _ _ s2 _ => (mulC s2).isSome
  | .ldc _ _ => true
  | _ => false

/-- RND and FM of SR (R207). -/
def rnd (b : Bank) : Bool := b.sr.getLsbD 9
def fm (b : Bank) : Bool := b.sr.getLsbD 8

/-- The moves of a conversion's P format. -/
def formMoves : Option Moves → Moves
  | some mv => mv
  | none => {}

/-- What a data instruction writes, as results in flight; `m` reads local memory. -/
def effects (b : Bank) (m : LocalRef → Nat) (tnow : Word) (bank : Nat) (i : AwlIns) : List Flight :=
  match i with
  | .nopMoves mv => b.movesFlights m mv
  | .bin op d s1 s2 mv =>
    let r := binOp op (b.D d.val) (b.D s1.val) (b.src2V m s2)
    [⟨1, .d d.val, r.1.toNat⟩] ++ flFlights 1 r.2 ++ b.coefPosts (src2C s2) ++ b.movesFlights m mv
  | .una op d s mv =>
    let r := unaOp op (b.D s.val)
    [⟨unaDelay op, .d d.val, r.1.toNat⟩] ++ flFlights 1 r.2 ++ b.movesFlights m mv
  | .cmp s1 s2 mv => flFlights 1 (cmpFl (b.D s1.val) (b.src2V m s2)) ++ b.coefPosts (src2C s2) ++ b.movesFlights m mv
  | .tst s1 s2 mv =>
    flFlights 1 (logic (b.D s1.val &&& b.src2V m s2)).2 ++ b.coefPosts (src2C s2) ++ b.movesFlights m mv
  | .mul op a s1 s2 mv =>
    let r := mulOp op b.fm (b.E a.val) (b.D s1.val) (b.mulV m s2)
    accFlights a.val r.1 ++ flFlights 3 r.2 ++ b.coefPosts (mulC s2) ++ b.movesFlights m mv
  | .cmul op a s1 s2 mv =>
    let r := cmulOp op (b.E (2 * a.val)) (b.E (2 * a.val + 1)) (b.D s1.val) (b.mulV m s2)
    accFlights (2 * a.val) r.1 ++ accFlights (2 * a.val + 1) r.2.1 ++ flFlights 3 r.2.2 ++ b.coefPosts (mulC s2)
      ++ b.movesFlights m mv
  | .clr a mv => accFlights a.val 0 ++ b.movesFlights m mv
  | .movE a s1 s2 mv =>
    accFlights a.val ((b.D s1.val ++ b.src2V m s2).signExtend 72) ++ b.coefPosts (src2C s2) ++ b.movesFlights m mv
  | .conv (.d d) a k f =>
    let r := convTo 32 b.rnd (b.EV a.val) k.val
    [⟨1, .d d.val, r.1.toNat⟩] ++ flFlights 1 r.2 ++ b.movesFlights m (formMoves f)
  | .conv (.pair p) a k f =>
    let r := convTo 64 b.rnd (b.EV a.val) k.val
    pairFlights 1 p.val r.1 ++ flFlights 1 r.2 ++ b.movesFlights m (formMoves f)
  | .cconv d a k f =>
    let r := convPacked b.rnd (b.EV (2 * a.val)) (b.EV (2 * a.val + 1)) k.val
    [⟨1, .d d.val, r.1.toNat⟩] ++ flFlights 1 r.2 ++ b.movesFlights m (formMoves f)
  | .binI op d s v =>
    let r := binOp op (b.D d.val) (b.D s.val) v.v
    [⟨1, .d d.val, r.1.toNat⟩] ++ flFlights 1 r.2
  | .ldi d v => [⟨1, .d d.val, v.v.toNat⟩]
  | .cmpi s v => flFlights 1 (cmpFl (b.D s.val) v.v)
  | .tsti s v => flFlights 1 (logic (b.D s.val &&& v.v)).2
  | .shiftI op d s n =>
    let r := binOp op (b.D d.val) (b.D s.val) (BitVec.ofNat 32 n.val)
    [⟨1, .d d.val, r.1.toNat⟩] ++ flFlights 1 r.2
  | .normE d a => [⟨1, .d d.val, redundant (b.EV a.val)⟩]
  | .movgRead d a => [⟨1, .d d.val, (((b.EV a.val).extractLsb' 64 8).signExtend 32).toNat⟩]
  | .movgWrite a g s => accFlights a.val ((b.D g.val).truncate 8 ++ b.D64 s.val)
  | .wide op d s1 s2 =>
    let r := wideOp op (b.D64 s1.val) (b.D64 s2.val)
    pairFlights 1 d.val r.1 ++ flFlights 1 r.2
  | .mov64 d s => pairFlights 1 d.val (b.D64 s.val)
  | .cmp64 s1 s2 => flFlights 1 (cmpFl (b.D64 s1.val) (b.D64 s2.val))
  | .movcRead d cr => [⟨1, .d d.val, (b.readCR tnow bank cr.val).toNat⟩]
  | .movcWrite cr (.d s) => crFlights cr.val (b.D s.val)
  | .movcWrite cr (.imm v) => crFlights cr.val v.v
  | .ld (.d d) ak mode =>
    [⟨2, .d d.val, m (b.memRef ak.val mode 4)⟩] ++ b.memPost ak.val mode 4
  | .ld (.pair p) ak mode =>
    pairFlights 2 p.val (BitVec.ofNat 64 (m (b.memRef ak.val mode 8))) ++ b.memPost ak.val mode 8
  | .st (.d d) ak mode =>
    [⟨4, .mem (b.memRef ak.val mode 4).off, (b.D d.val).toNat⟩] ++ b.memPost ak.val mode 4
  | .st (.pair p) ak mode =>
    let r := b.memRef ak.val mode 8
    [⟨4, .mem r.off, (b.D (2 * p.val + 1)).toNat⟩, ⟨4, .mem (r.off + 4), (b.D (2 * p.val)).toNat⟩] ++ b.memPost ak.val mode 8
  | .ldc d j => [⟨2, .d d.val, m (b.coefRef j.val)⟩] ++ b.coefPost j.val
  | _ => []

/-! ### Loops (R260–R263) -/

def lsp (b : Bank) : Nat := (b.AV 43).toNat
def lsStart (b : Bank) (l : Nat) : Nat := (b.AV (44 + l)).toNat
def lsEnd (b : Bank) (l : Nat) : Nat := (b.AV (48 + l)).toNat
def lsCount (b : Bank) (l : Nat) : Nat := (b.AV (52 + l)).toNat

/-- One of the words at `[a, a + len)` is END of the top level (R261). -/
def atEnd (b : Bank) (a len : Nat) : Bool :=
  b.lsp != 0 && (b.lsEnd (b.lsp - 1) == a || (len == 8 && b.lsEnd (b.lsp - 1) == (a + 4) % 0x4000))

/-- The body of level `l` as the repeat buffer can hold it (R264): its present pass is whole, without a taken branch, and it has 32 words
at most. -/
def passBody (b : Bank) (l : Nat) : Option (Nat × Nat) :=
  let s := b.lsStart l
  let e := b.lsEnd l
  if b.clean.contains l && decide (s ≤ e) && decide (e - s < 128) then some (s, e) else none

/-- The END test of R261 from the top level down: the next PC, the bank, and the body captured by the pass that closed last (R264). -/
def endTest (b : Bank) (endNext : Nat) : Nat → Option (Nat × Nat) → Nat × Bank × Option (Nat × Nat)
  | 0, cap => (endNext, b, cap)
  | top + 1, cap =>
    let cap := (b.passBody top).or cap
    let n := (b.lsCount top + 0xFFFF) % 0x10000
    let b := b.setCR (52 + top) (BitVec.ofNat 32 n)
    if n ≠ 0 then (b.lsStart top, { b with clean := top :: b.clean.filter (· ≠ top), first := b.first.filter (· ≠ top) }, cap)
    else
      let b : Bank := { b.setCR 43 (BitVec.ofNat 32 top) with clean := b.clean.filter (· ≠ top) }
      if top = 0 ∨ b.lsEnd (top - 1) ≠ b.lsEnd top then (endNext, b, cap) else b.endTest endNext top cap

end Bank
end Sys2Proof.Machine
end

