-- ==== Sys2Proof/Machine/Motion.lean ====
section
/-! DEFINITION. The profile generators (R298–R318, R323): the planner, the engine's work at CWSTART, the immediate stop, the SP
section, and the profile generator commands with their refusals. -/
namespace Sys2Proof.Machine

/-! ### The planner (R302) -/

/-- The integer square root, one bit of the root at a time. -/
def isqrt (bits n : Nat) : Nat :=
  (List.range bits).reverse.foldl (fun r i => if (r + 2 ^ i) * (r + 2 ^ i) ≤ n then r + 2 ^ i else r) 0

/-- The largest U ≥ 0 with U·(U + A) ≤ 2·A·|d| (R302). -/
def brakeSpeed (a d : Nat) : Nat := (isqrt 66 (a * a + 8 * a * d) - a) / 2

/-- Clip to [−b, b]. -/
def clipTo (b : Int) (x : Int) : Int := max (-b) (min b x)

/-- The signed distance of two wrapping positions. -/
def sub64 (a b : BitVec 64) : Int := (a - b).toInt

/-- The output stage: the moving sum of the last M inner velocities with its carried remainder. -/
def Plan.output (p : Plan) (m : Nat) (w : Int) (q : BitVec 64) : Plan :=
  let hist := (w :: p.hist).take m
  let t := hist.foldl (· + ·) 0 + p.r
  let inc := Int.fdiv t m
  { q := q, w := w, hist := hist, r := t - inc * m, pout := p.pout + BitVec.ofInt 64 inc, vff := inc, aff := inc - p.vff }

/-- A step toward a wanted velocity under the acceleration limit. -/
def Plan.toward (p : Plan) (a : Int) (m : Nat) (vt : Int) : Plan :=
  let w := p.w + clipTo a (vt - p.w)
  p.output m w (p.q + BitVec.ofInt 64 w)

/-- A step toward a target that moved by `gs` in this step; whether it ended with the landing, and whether it passed the target. -/
def Plan.seek (p : Plan) (v a : Int) (m : Nat) (tgt : BitVec 64) (gs : Int) : Plan × Bool × Bool :=
  let d := sub64 tgt p.q
  let u : Int := brakeSpeed a.toNat d.natAbs
  let vt := clipTo v (gs + d.sign * u)
  let w1 := p.w + clipTo a (vt - p.w)
  let land := decide (d * w1 ≥ 0) && decide (d.natAbs ≤ w1.natAbs) && decide ((d - p.w).natAbs ≤ a.natAbs)
  let w := if land then d else w1
  (p.output m w (p.q + BitVec.ofInt 64 w), land, decide (d * (d - w) < 0) || (decide (d = 0) && decide (w ≠ 0)))

/-- ATREST: w = 0 and the window holds only zeros. -/
def Plan.atRest (p : Plan) : Bool := p.w == 0 && p.hist.all (· == 0)

/-- Stop where the output stands: q := p_out, w := 0, window and r cleared. -/
def Plan.halted (p : Plan) : Plan := { p with q := p.pout, w := 0, hist := [], r := 0 }

/-- Stand at a position: q := p_out := position, w := 0, window and r cleared. -/
def Plan.at (x : BitVec 64) : Plan := { q := x, pout := x }

/-- A cam table's header as read from memory (R315). -/
structure CamHead where
  base : Nat
  mstep : Nat
  n : Nat
  rise : Int
deriving DecidableEq, Repr

/-- The master period in units of 2^-32 counts. -/
def CamHead.period (h : CamHead) : Int := ((2 ^ 32 * (h.n * h.mstep) : Nat) : Int)

/-- The cubic Hermite curve of R316 at phase `t` of an interval of `mstep` counts, exact and rounded half up. -/
def hermite (mstep : Nat) (t y0 s0 y1 s1 : Int) : Int :=
  let d : Int := ((2 ^ 32 * mstep : Nat) : Int)
  let num := (2 * t ^ 3 - 3 * t ^ 2 * d + d ^ 3) * y0 + (t ^ 3 - 2 * t ^ 2 * d + t * d ^ 2) * mstep * s0
    + (3 * t ^ 2 * d - 2 * t ^ 3) * y1 + (t ^ 3 - t ^ 2 * d) * mstep * s1
  Int.fdiv (2 * num + d ^ 3) (2 * d ^ 3)

namespace State

/-! ### Limits and pages -/

/-- The slot's JN; the generator takes 64 where SETSTOP left the 6-bit field 0 (R304). -/
def jn (v : Nat) : Nat := if v = 0 then 64 else v

def slotV (s : State) (m : AxisMap) : Int := (s.reg64 (pgPGB m.home) (PGB.VLIMLO m.rslot)).toNat
def slotA (s : State) (m : AxisMap) : Int := (s.reg64 (pgPGB m.home) (PGB.ALIMLO m.rslot)).toNat
def slotDstop (s : State) (m : AxisMap) : Int := (s.reg64 (pgPGB m.home) (PGB.DSTOPLO m.rslot)).toNat
def slotM (s : State) (m : AxisMap) : Nat := jn (s.rd (pgPGB m.home) (PGB.SCFG_JN m.rslot))
def slotKind (s : State) (m : AxisMap) : Nat := s.rd (pgPGB m.home) (PGB.SCFG_MKIND m.rslot)
def slotIdx (s : State) (m : AxisMap) : Nat := s.rd (pgPGB m.home) (PGB.SCFG_MIDX m.rslot)

def grpV (s : State) (g : Nat) : Int := (s.reg64 (pgIGRP g) IGRP.VLIMLO).toNat
def grpA (s : State) (g : Nat) : Int := (s.reg64 (pgIGRP g) IGRP.ALIMLO).toNat
def grpDstop (s : State) (g : Nat) : Int := (s.reg64 (pgIGRP g) IGRP.DSTOPLO).toNat
def grpM (s : State) (g : Nat) : Nat := jn (s.rd (pgIGRP g) IGRP.GCFG_JN)

/-- The member axes of a group, in MEM order (R308). -/
def members (s : State) (g : Nat) : List Nat :=
  (List.range (s.rd (pgIGRP g) IGRP.GCFG_CNT)).map fun i =>
    bitsOf (s.reg (pgIGRP g) (IGRP.MEM0 + i / 4 * 4)).toNat (8 * (i % 4) + 7) (8 * (i % 4))

/-- Group STATE: 0 IDLE, 1 MOVING, 2 HALTING. -/
def grpState (s : State) (g : Nat) : Nat := s.rd (pgIGRP g) IGRP.GSTAT_STATE

/-- A page is RUNNING or STOPPING. -/
def active (s : State) (p : Nat) : Bool := s.st p == 3 || s.st p == 4

/-- R298: the generator of a mapped axis takes a step. -/
def pgSteps (s : State) (a : Nat) (m : AxisMap) : Bool :=
  (s.axis a).state.started && s.active pgPG && s.active (pgPGB m.home)

/-- The group the axis is a member of: the IGRP page that runs and names it in MEM (R308). -/
def groupOf (s : State) (a : Nat) : Option Nat :=
  (List.range 32).find? fun g => s.active (pgIGRP g) && (s.members g).contains a

/-- The group whose path the generator takes part in: that of the last IGSTART, while its page runs and names the axis (R309). -/
def rides (s : State) (a : Nat) : Option Nat :=
  (s.pg a).group.filter fun g => s.active (pgIGRP g) && (s.members g).contains a

/-- The axis is a member of a group that is not IDLE. -/
def inGroup (s : State) (a : Nat) : Bool :=
  match s.groupOf a with | some g => s.grpState g != 0 | none => false

/-- The generator is moved by the path of a group that is not IDLE. -/
def riding (s : State) (a : Nat) : Bool :=
  match s.rides a with | some g => s.grpState g != 0 | none => false

/-- The generator is at rest; one on the path of a group rests with its group. -/
def pgAtRest (s : State) (a : Nat) : Bool :=
  match s.rides a with
  | some g => (s.igrp g).plan.atRest
  | none => (s.pg a).plan.atRest

/-! ### Immediate stop (R307) -/

/-- Stop one generator at once: MODE IDLE, ABORT set. -/
def pgAbort (s : State) (a : Nat) : State :=
  let g := s.pg a
  let s := s.setPg a { g with plan := g.plan.halted, mode := .idle, sync := 0, group := none, camNext := none, abort := true }
  match (s.axis a).map with | some m => s.evt (pgPGB m.home) 1 | none => s

/-- The axis enters REST: its generator stops at once, and with it every member of the group it moves in. -/
def immediateStop (s : State) (a : Nat) : State :=
  match (s.groupOf a).filter fun g => s.grpState g != 0 with
  | none => s.pgAbort a
  | some g =>
    let s := (s.members g).foldl pgAbort s
    let s := s.setIgrp g { s.igrp g with plan := (s.igrp g).plan.halted }
    ((s.wr (pgIGRP g) IGRP.GSTAT_STATE 0).wr (pgIGRP g) IGRP.GSTAT_ABORT 1).evt (pgIGRP g) 1

/-! ### Cam tables (R315–R317) -/

/-- The base of cam table `k`. -/
def camBase (s : State) (k : Nat) : Nat := s.rd pgPG (PG.CAMBASE_ADDR k) * 32

/-- The header of cam table `k`, read by the profile generators; none where it is uncorrectable. -/
def camHead (s : State) (k : Nat) : Option CamHead × State :=
  let r := s.fixRead mPg (s.camBase k) 32
  (r.1.map fun b => { base := s.camBase k, mstep := fieldAt b 0 4, n := fieldAt b 4 2, rise := toSigned 64 (fieldAt b 8 8) }, r.2)

/-- The follower position at phase `x` of a table; none where a point is uncorrectable. -/
def camY (s : State) (h : CamHead) (x : Int) : Option Int × State :=
  let d := 2 ^ 32 * h.mstep
  let i := x.toNat / d
  let r := s.fixRead mPg (h.base + 32 + 16 * i) 32
  (r.1.map fun b => hermite h.mstep (x - ((i * d : Nat) : Int)) (toSigned 64 (fieldAt b 0 8)) (toSigned 64 (fieldAt b 8 8))
    (toSigned 64 (fieldAt b 16 8)) (toSigned 64 (fieldAt b 24 8)), r.2)

/-- R504: an uncorrectable cam table puts every follower of it into HALT with DSTOP. -/
def camLost (s : State) (k : Nat) : State :=
  s.forEach s.mapped fun s e =>
    let g := s.pg e.1
    if g.mode = .cam ∧ g.camTab = k then s.setPg e.1 { g with mode := .halt, haltDstop := true, sync := 0, camNext := none } else s

/-- The advance of a cam follower whose master moved by `dm` (R316, R317): the new phase, the step of its target, and the
table switched to, if any; none where the table is uncorrectable. -/
def camStep (s : State) (g : Pg) (dm : Int) : Option (Int × Int × Option Nat) × State :=
  let (h, s) := s.camHead g.camTab
  match h with
  | none => (none, s)
  | some h =>
    let raw := g.x + dm
    let x := raw % h.period
    let c : Int := if raw ≥ h.period then 1 else if raw < 0 then -1 else 0
    let (yp, s) := s.camY h g.x
    match g.camNext, c with
    | some k, Int.ofNat 1 =>
      let (h', s) := s.camHead k
      let (y0, s) := s.camY h 0
      match h', yp, y0 with
      | some h', some yp, some y0 =>
        let (yn, s) := s.camY h' x
        let (z, s) := s.camY h' 0
        (match yn, z with | some yn, some z => some (x, (y0 + h.rise - yp) + (yn - z), some k) | _, _ => none, s)
      | _, _, _ => (none, s)
    | some k, Int.negSucc 0 =>
      let (h', s) := s.camHead k
      let (y0, s) := s.camY h 0
      match h', yp, y0 with
      | some h', some yp, some y0 =>
        let (yn, s) := s.camY h' x
        let (z, s) := s.camY h' 0
        (match yn, z with | some yn, some z => some (x, (y0 - yp) + (yn - z - h'.rise), some k) | _, _ => none, s)
      | _, _, _ => (none, s)
    | _, _ =>
      let (yn, s) := s.camY h x
      (match yn, yp with | some yn, some yp => some (x, yn - yp + c * h.rise, none) | _, _ => none, s)

/-! ### Masters (R312) -/

/-- The master's present position and whether its measured sample is missing this cycle. -/
def masterPos (s : State) (m : AxisMap) : BitVec 64 × Bool :=
  let i := s.slotIdx m
  match s.slotKind m with
  | 1 => ((s.pg i).plan.pout, false)
  | 2 => ((s.pg i).latch, (s.pg i).latchBad)
  | 3 => ((s.vm i).plan.pout, false)
  | _ => (0, false)

/-- A position of 32-bit counts as 32.32. -/
def pos32 (w : Word) : BitVec 64 := w ++ 0#32

/-- R299 step 2: latch every measured position from the block delivered for the previous cycle. -/
def latchMasters (s : State) : State :=
  s.forEach s.mapped fun s e =>
    let g := s.pg e.1
    match (s.axis e.1).posCopy.find? (fun c => c.1 = s.girth.cyc - 1) with
    | some c => s.setPg e.1 { g with latch := pos32 c.2, latchBad := false }
    | none => s.setPg e.1 { g with latchBad := true }

/-! ### The SP section (R301) -/

def pgModeCode : PgMode → Nat
  | .idle => 0 | .move => 1 | .velocity => 2 | .gear => 3 | .cam => 4 | .group => 5 | .stop => 6 | .halt => 7

/-- INPOS of a generator: target reached and ATREST, in MOVE or GROUP. -/
def pgInpos (s : State) (a : Nat) : Bool :=
  let g := s.pg a
  match g.mode with
  | .move => g.plan.atRest && g.plan.q == g.tgt
  | .group => s.pgAtRest a && g.plan.pout == g.start + BitVec.ofInt 64 g.dist
  | _ => false

/-- A flag as a number. -/
def b2n (b : Bool) (i : Nat) : Nat := if b then 2 ^ i else 0

/-- PGSTATE of an axis. -/
def pgStateWord (s : State) (a : Nat) : Nat :=
  let g := s.pg a
  (if g.mode = .group then 0x10000 * g.group.getD 0 else 0) + b2n g.abort 15 + b2n g.camNext.isSome 14 + b2n g.masterBad 13
    + b2n g.stall 12 + b2n g.overshoot 11 + b2n g.overlim 10 + b2n (s.pgInpos a) 9 + b2n (s.pgAtRest a) 8
    + g.sync * 16 + pgModeCode g.mode

/-- The interval of a table in units of 2^-32 counts, as stored. -/
def slotCamStep (s : State) (k : Nat) : Nat := 2 ^ 32 * leToNat (s.bytes (s.camBase k) 4)

/-- The SP section and the region reserved for the profile generators, offsets 0x040–0x07F. -/
def spBytes (s : State) (a : Nat) : List Byte :=
  let g := s.pg a
  let tgt : Nat := match g.mode with
    | .move => g.tgt.toNat
    | .gear | .cam => g.g.toNat
    | .group => (g.start + BitVec.ofInt 64 g.dist).toNat
    | _ => 0
  let mpos : Nat := match g.mode, s.rides a with
    | .gear, _ | .cam, _ => g.mlast.toNat
    | .group, some k => (s.igrp k).plan.pout.toNat
    | _, _ => 0
  let cami : Nat := if g.mode = .cam then
      (let d := s.slotCamStep g.camTab; if d = 0 then 0 else (g.x.toNat / d) % 0x2000) + 0x10000 * g.camTab else 0
  leBytes 8 g.plan.pout.toNat ++ leBytes 8 (ofSigned 64 g.plan.vff) ++ leBytes 8 (ofSigned 64 g.plan.aff)
    ++ leBytes 4 (s.pgStateWord a) ++ leBytes 4 g.spCyc.toNat ++ leBytes 8 tgt ++ leBytes 8 mpos
    ++ leBytes 8 (ofSigned 64 g.plan.w) ++ leBytes 4 cami ++ leBytes 4 0

/-! ### The engine (R299) -/

/-- A token of the axis of a cycle before `c` is unresolved: the writes of cycle `c` are held back (R12, R29), be it running or still to
be dispatched (notes/assumptions/114.md); a copy that waits for such a token (R388) is among them. -/
def heldBack (s : State) (a : Nat) (c : BitVec 48) : Bool :=
  s.cinch.tokens.any fun t => t.axis == some a && decide (t.cyc.toNat < c.toNat)

/-- The VM status and output registers show the virtual master (R326). -/
def showVm (s : State) (k : Nat) : State :=
  let v := s.vm k
  let s := s.setReg64 pgPG (PG.VMPOSLO k) v.plan.pout
  let s := s.setReg64 pgPG (PG.VMVELLO k) (BitVec.ofInt 64 v.plan.vff)
  let s := s.wr pgPG (PG.VMSTAT_ATREST k) (b2n v.plan.atRest 0)
  let s := s.wr pgPG (PG.VMSTAT_SETPEND k) (b2n v.setPend.isSome 0)
  s.wr pgPG (PG.VMSTAT_VELPEND k) (b2n v.velPend.isSome 0)

/-- R318: a pending VMSET or VMVEL takes effect in the first cycle whose ideal I0 reaches TSTART. -/
def vmPending (s : State) (k : Nat) : State :=
  let now := s.tI0 s.cyc
  let v := s.vm k
  let s := match v.setPend with
    | some (t, p) =>
      if geT64 now t then
        if v.plan.atRest then s.setVm k { v with plan := Plan.at p, setPend := none }
        else ((s.setVm k { v with setPend := none }).wr pgPG (PG.VMSTAT_DISC k) 1).evt pgPG 3
      else s
    | none => s
  let v := s.vm k
  let s := match v.velPend with
    | some (t, w) => if geT64 now t then s.setVm k { v with vcmd := w.toInt, velPend := none } else s
    | none => s
  s.showVm k

/-- A step of a virtual master: R302 in VELOCITY mode with VMA; it decelerates while PG is STOPPING (R307). -/
def vmStep (s : State) (k : Nat) : State :=
  let s := s.vmPending k
  let v := s.vm k
  let a : Int := (s.reg64 pgPG (PG.VMALO k)).toNat
  let vt := if s.st pgPG = 4 then 0 else clipTo (2 ^ 63 - 1) v.vcmd
  (s.setVm k { v with plan := v.plan.toward a (jn (s.rd pgPG (PG.VMCFG_JN k))) vt }).showVm k

/-- The generator of an axis that stops is IDLE: it reports standstill, once (R307). -/
def reportRest (s : State) (a : Nat) (m : AxisMap) : State :=
  let x := s.axis a
  if (s.pg a).mode = .idle ∧ ¬ x.standstill ∧ (x.state = .stopping ∨ (x.state = .hold ∧ x.resume)) then
    (s.modAxis a fun y => { y with standstill := true }).evt (pgPGB m.home) 0
  else s

/-- What a generator on its group's path receives from the path parameter (R309); a member started since IGSTART takes its own steps
(R298, R307).  In STOP or HALT it is IDLE once its group is at rest (R307). -/
def memberStep (s : State) (g : Nat) (a : Nat) : State :=
  match (s.axis a).map with
  | none => s
  | some m =>
    if !s.pgSteps a m || s.rides a != some g then s else
    let x := s.pg a
    let gr := s.igrp g
    let out := x.start + BitVec.ofInt 64 (Int.fdiv (gr.plan.pout.toInt * x.dist) gr.dlead)
    let inc := sub64 out x.plan.pout
    let s := s.setPg a { x with
      plan := { x.plan with q := out, pout := out, w := 0, hist := [], r := 0, vff := inc, aff := inc - x.plan.vff }
      overlim := false
      masterBad := false
      mode := if (x.mode == .stop || x.mode == .halt) && gr.plan.atRest then .idle else x.mode
      spCyc := s.girth.cyc }
    let s := s.reportRest a m
    s.modPg a fun y => { y with sp := some (s.spBytes a) }

/-- A step of an interpolation group: one planner on the path parameter, then every member (R309, R310). -/
def grpStep (s : State) (g : Nat) : State :=
  let st := s.grpState g
  if st = 0 ∨ ¬ s.active (pgIGRP g) then s else
  let p := pgIGRP g
  let gr := s.igrp g
  let tgt := BitVec.ofInt 64 gr.dlead
  let plan := if st = 1 then (gr.plan.seek (s.grpV g) (s.grpA g) (s.grpM g) tgt 0).1
    else gr.plan.toward (if gr.dstop then s.grpDstop g else s.grpA g) (s.grpM g) 0
  let s := s.setIgrp g { gr with plan := plan }
  let s := s.setReg64 p IGRP.SIGMALO plan.pout
  let ended := plan.atRest && (st == 2 || plan.q == tgt)
  let s := if ended && plan.q == tgt then s.wr p IGRP.GSTAT_INPOS 1 else s
  let s := s.forEach (s.members g) fun s a => s.memberStep g a
  if ended then
    let s := s.wr p IGRP.GSTAT_STATE 0
    if plan.q == tgt then s.evt p 0 else s
  else s

/-- R323: the generator of a STEP axis reads STALLW; on STALL it stops at once. -/
def stallRead (s : State) (a : Nat) (m : AxisMap) : State :=
  if m.mode = 4 ∧ s.on (pgPGB m.home) (PGB.SCFG_STEPSTALL m.rslot) ∧ ¬ (s.pg a).stall then
    let (b, s) := s.fixRead mPg (m.base + 0x228) 4
    if (match b with | some b => leToNat b % 2 == 1 | none => false) then
      let g := s.pg a
      let s := s.setPg a { g with plan := g.plan.halted, mode := .idle, sync := 0, camNext := none, stall := true }
      ((s.evt pgPG 1).fault pgPG 0x5002 a).bumpE pgPG PG.STALLS 4
    else s
  else s

/-- The step of a follower whose master stands at `mp`, or delivered no sample where `bad` (R313, R314, R316). -/
def followStep (s : State) (a : Nat) (m : AxisMap) (mp : BitVec 64) (bad : Bool) : State :=
  let g := s.pg a
  let v := s.slotV m
  let acc := s.slotA m
  let dm := if bad then 0 else sub64 mp g.mlast
  let (r, s) : Option (Int × Int × Option Nat × Int) × State :=
    if g.mode = .gear then
      let t := dm * g.num + g.grem
      let gs := Int.fdiv t g.den
      (some (g.x, gs, none, t - gs * g.den), s)
    else
      let (c, s) := s.camStep g dm
      (c.map fun c => (c.1, c.2.1, c.2.2, g.grem), s)
  match r with
  | none =>
    let s := (s.camLost g.camTab)
    let g := s.pg a
    s.setPg a { g with plan := g.plan.toward (s.slotDstop m) (s.slotM m) 0, overlim := false, masterBad := false }
  | some (x, gs, tab, grem) =>
    let s := if tab.isSome then s.evt pgPG 2 else s
    let tgt := g.g + BitVec.ofInt 64 gs
    let g := { g with g := tgt, x := x, grem := grem, mlast := if bad then g.mlast else mp, masterBad := bad,
                      camNext := if tab.isSome then none else g.camNext, camTab := tab.getD g.camTab }
    if g.sync = 2 then
      let plan := g.plan.output (s.slotM m) gs (g.plan.q + BitVec.ofInt 64 gs)
      s.setPg a { g with plan := plan, overlim := decide (plan.vff.natAbs > v.natAbs) || decide (plan.aff.natAbs > acc.natAbs) }
    else
      let (plan, land, past) := g.plan.seek v acc (s.slotM m) tgt gs
      let n := if land then g.landings + 1 else 0
      s.setPg a { g with plan := plan, overshoot := g.overshoot || past, overlim := false,
                         landings := n, sync := if n ≥ 2 then 2 else 1 }

/-- The step of a generator by its mode (R302). -/
def modeStep (s : State) (a : Nat) (m : AxisMap) (mp : BitVec 64) (bad : Bool) : State :=
  let g := s.pg a
  let v := s.slotV m
  let acc := s.slotA m
  let n := s.slotM m
  let s' := match g.mode with
    | .move =>
      let (plan, _, past) := g.plan.seek v acc n g.tgt 0
      s.setPg a { g with plan := plan, overshoot := g.overshoot || past }
    | .velocity => s.setPg a { g with plan := g.plan.toward acc n (clipTo v g.vcmd) }
    | .halt =>
      let plan := g.plan.toward (if g.haltDstop then s.slotDstop m else acc) n 0
      s.setPg a { g with plan := plan, mode := if plan.atRest then .idle else .halt }
    | .stop =>
      let plan := g.plan.toward (s.slotDstop m) n 0
      s.setPg a { g with plan := plan, mode := if plan.atRest then .idle else .stop }
    | .gear | .cam => s.followStep a m mp bad
    | .idle | .group => s.setPg a { g with plan := g.plan.toward acc n 0 }
  if g.mode = .gear ∨ g.mode = .cam then s' else s'.modPg a fun g => { g with overlim := false, masterBad := false }

/-- One generator's step of cycle `n`, with its SP section. -/
def pgStep (s : State) (a : Nat) (m : AxisMap) (n : BitVec 48) (mp : BitVec 64) (bad : Bool) : State :=
  let s := (s.stallRead a m).modeStep a m mp bad
  let s := (s.reportRest a m).modPg a fun g => { g with spCyc := n }
  s.modPg a fun g => { g with sp := some (s.spBytes a) }

/-- The step of cycle `n` of a STEP axis waits for its own instance: one of an earlier cycle has not ended (R323). -/
def stallWaits (s : State) (a : Nat) (m : AxisMap) (n : BitVec 48) : Bool :=
  decide (m.mode = 4) && s.on (pgPGB m.home) (PGB.SCFG_STEPSTALL m.rslot)
    && s.heldBack a n

/-- R323: the step of cycle `n` waits for the axis's own instance, or the axis follows one whose step waits; the chain of set-point
masters has at most 256 axes. -/
def pgWaits (s : State) (a : Nat) (m : AxisMap) (n : BitVec 48) : Nat → Bool
  | 0 => false
  | fuel + 1 =>
    s.stallWaits a m n || ((s.pg a).sync != 0 && s.slotKind m == 1 &&
      (match (s.axis (s.slotIdx m)).map with
       | some k => s.pgSteps (s.slotIdx m) k && s.pgWaits (s.slotIdx m) k n fuel
       | none => false))

/-- The step of a follower that waits, with what it needs of its master: a set-point master whose own step waits gives its position
later (`tellFollowers`). -/
def pgWaiting (s : State) (n : BitVec 48) (m : AxisMap) : PgWait :=
  let (mp, bad) := s.masterPos m
  ⟨n, if s.slotKind m = 1 ∧ (s.pg (s.slotIdx m)).waiting ≠ [] then none else some mp, bad⟩

/-- R299: the engine's work at CWSTART: virtual masters, master latches, groups, then all other generators; a step that must wait, or
stands behind one that waits, is kept for its instance (R323). -/
def engineRun (s : State) : State :=
  if !s.active pgPG then s else
  let s := s.forEach (List.range 4) vmStep
  let s := s.latchMasters
  let grouped := s.mapped.filter (fun e => s.riding e.1) |>.map (·.1)
  let s := s.forEach (List.range 32) grpStep
  s.forEach s.mapped fun s e =>
    let n := s.girth.cyc
    let (mp, bad) := s.masterPos e.2
    if grouped.contains e.1 || !s.pgSteps e.1 e.2 then s
    else if !(s.pg e.1).waiting.isEmpty || s.pgWaits e.1 e.2 n 256 then
      let w := s.pgWaiting n e.2
      s.modPg e.1 fun g => { g with waiting := g.waiting ++ [w] }
    else s.pgStep e.1 e.2 n mp bad

/-- Write an axis's SP section of cycle `spCyc`, or hold it back (R12, R301). -/
def spWrite (s : State) (a : Nat) (m : AxisMap) : State :=
  let g := s.pg a
  match g.sp with
  | none => s
  | some b =>
    let s := s.modPg a fun g => { g with sp := none }
    let x := s.axis a
    let before (c : BitVec 48) : Bool := decide (c.toNat ≤ g.spCyc.toNat)
    if s.heldBack a g.spCyc || x.heldIn.any (fun h => before h.cyc) || x.heldCmd.any (fun h => before h.cyc) || x.heldSp.any (fun h => before h.1) then
      s.modAxis a fun x => { x with heldSp := x.heldSp.filter (fun h => h.1 != g.spCyc) ++ [(g.spCyc, b)] }
    else s.fixPut mPg (m.base + 0x40) b

/-- Axis `k` has taken its step of cycle `n` late: the waiting steps of its followers that need its position of that cycle have it now,
those of cycle `n` behind it in the order of R299 and those of cycle `n` + 1 before it. -/
def tellFollowers (s : State) (k : Nat) (n : BitVec 48) : State :=
  let x := (s.pg k).plan.pout
  s.forEach s.mapped fun s e =>
    if s.slotKind e.2 = 1 ∧ s.slotIdx e.2 = k then
      s.modPg e.1 fun g => { g with waiting := g.waiting.map fun w =>
        if w.mpos.isNone && w.cyc == (if k < e.1 then n else n + 1) then { w with mpos := some x } else w }
    else s

/-- The waiting step of cycle `n` of a generator: taken once nothing holds it any longer; one that no longer steps drops it (R298). -/
def pgResume (s : State) (n : BitVec 48) (a : Nat) (m : AxisMap) : State :=
  match (s.pg a).waiting with
  | [] => s
  | w :: ws =>
    let s' := s.modPg a fun g => { g with waiting := ws }
    if w.cyc ≠ n then s
    else if !s.pgSteps a m then s'.tellFollowers a n
    else if s.pgWaits a m n 256 then s
    else ((s'.pgStep a m n (w.mpos.getD (s.masterPos m).1) w.bad).spWrite a m).tellFollowers a n

/-! ### Commands (R305, R306) -/

/-- The motion commands of R305. -/
def isMotion (op : Nat) : Bool := [0x10, 0x11, 0x12, 0x13, 0x18, 0x19, 0x1A, 0x20, 0x21].contains op

/-- The profile generator commands of R305. -/
def isPgOp (op : Nat) : Bool :=
  (0x10 ≤ op && op ≤ 0x1C) || (0x20 ≤ op && op ≤ 0x22) || (0x30 ≤ op && op ≤ 0x37)

/-- A VMSET or VMVEL command. -/
def isVmOp (op : Nat) : Bool := 0x30 ≤ op && op ≤ 0x37

/-- A distance no command may set (R304). -/
def tooFar (d : Int) : Bool := decide (d ≥ 2 ^ 63) || decide (d ≤ -(2 ^ 63))

/-- A limit outside R304's range of 1 to `hi`. -/
def outside (x hi : Nat) : Bool := x == 0 || x > hi

/-- The distance a member's pending target draws (R309). -/
def lineOf (s : State) (a : Nat) : Int := match (s.pg a).pend with | some t => sub64 t (s.pg a).plan.pout | none => 0

/-- Reason 3 of R306: an operand out of range. -/
def pgOperandBad (s : State) (op a : Nat) (sel : Nat) (d : List Byte) : Bool :=
  let g := s.pg a
  let x := toSigned 64 (fieldAt d 0 8)
  let y := fieldAt d 8 8
  let top := 2 ^ 63 - 1
  match op with
  | 0x10 => sel ≠ 0 || tooFar (sub64 (BitVec.ofNat 64 (fieldAt d 0 8)) g.plan.q)
  | 0x11 => sel ≠ 0 || tooFar ((if g.mode = .move then sub64 g.tgt g.plan.q else 0) + x)
  | 0x12 | 0x13 | 0x14 => sel ≠ 0
  | 0x15 => sel ≠ 0 || outside (fieldAt d 0 8) top || outside y (fieldAt d 0 8)
  | 0x16 => sel > 64 || outside (fieldAt d 0 8) top
  | 0x17 => sel > 3 || (sel = 3 && fieldAt d 0 1 > 3)
  | 0x18 => sel ≠ 0 || fieldAt d 4 4 = 0 || tooFar (toSigned 64 y)
  | 0x19 => sel > 15 || tooFar (toSigned 64 y)
  | 0x1A => sel ≠ 0 || tooFar (sub64 g.g g.plan.q + x)
  | 0x1B => sel > 1
  | 0x1C => sel > 15
  | 0x20 => sel ≠ 0 || tooFar (sub64 (BitVec.ofNat 64 (fieldAt d 0 8)) g.plan.pout)
  | 0x21 => sel > 31 || !(s.members sel).contains a || (s.members sel).any fun i => tooFar (s.lineOf i)
  | 0x22 => sel > 31 || !(s.members sel).contains a
  | _ => false

/-- Reason 4 of R306: mode conflict. -/
def pgConflict (s : State) (op a : Nat) (m : AxisMap) (sel : Nat) : Bool :=
  let g := s.pg a
  let follows := g.mode == .gear || g.mode == .cam
  (isMotion op && op ≠ 0x21 && s.inGroup a)
    || ((op == 0x18 || op == 0x19) && s.slotKind m == 0)
    || (op == 0x17 && follows)
    || ((op == 0x1A || op == 0x1B) && !follows)
    || (op == 0x1C && g.mode != .cam)
    || (op == 0x21 && (s.grpState sel != 0 || (s.members sel).any fun i => !s.pgAtRest i))
    || (op == 0x16 && sel != 0 && !s.pgAtRest a)

/-- Reason 5 of R306: the cam table is not enabled, or has another master length than the one in use. -/
def pgCamBad (s : State) (op a sel : Nat) : Bool × State :=
  if op = 0x19 then (!s.on pgPG (PG.CAMBASE_EN sel), s)
  else if op = 0x1C then
    if !s.on pgPG (PG.CAMBASE_EN sel) then (true, s) else
    let (h, s) := s.camHead (s.pg a).camTab
    let (h', s) := s.camHead sel
    ((match h, h' with | some h, some h' => h.n * h.mstep ≠ h'.n * h'.mstep | _, _ => True), s)
  else (false, s)

/-- The reason of R306 a command is refused for, the lowest that holds; 0 where it is accepted (notes/assumptions/21.md). -/
def pgReason (s : State) (op a : Nat) (m : AxisMap) (sel : Nat) (d : List Byte) : Nat × State :=
  let x := s.axis a
  if !s.running pgPG || !s.running (pgPGB m.home) || ((op == 0x21 || op == 0x22) && sel ≤ 31 && !s.running (pgIGRP sel)) then (1, s)
  else if (isMotion op && !(x.state == .starting || x.state == .running || (x.state == .hold && !x.resume)))
      || (op == 0x14 && x.state != .stopped) then (2, s)
  else if s.pgOperandBad op a sel d then (3, s)
  else if s.pgConflict op a m sel then (4, s)
  else
    let (bad, s) := s.pgCamBad op a sel
    if bad then (5, s) else if isMotion op && (s.pg a).stall then (7, s) else (0, s)

/-- R306: a refused command is counted and recorded, and raises EVT[0]. -/
def pgRefuse (s : State) (op a reason : Nat) : State :=
  let s := s.bumpE pgPG PG.REFUSED 4
  (s.setReg pgPG PG.LASTREF (BitVec.ofNat 32 (0x1000000 * op + 0x10000 * reason + a % 0x10000))).evt pgPG 0

/-- IGSTART (R309): every member's start and distance, the lead, and the planner at σ = 0. -/
def grpStart (s : State) (g : Nat) : State :=
  let ms := s.members g
  let lead := ms.foldl (fun l a => max l (s.lineOf a).natAbs) 0
  let li := (ms.findIdx? fun a => (s.lineOf a).natAbs = lead).getD 0
  let moving := decide (lead ≠ 0)
  let p := pgIGRP g
  let s := s.forEach ms fun s a =>
    let x := s.pg a
    s.setPg a { x with start := x.plan.pout, dist := s.lineOf a, overlim := false, masterBad := false,
                       pend := none, mode := .group, group := some g, sync := 0, camNext := none, abort := false, overshoot := false }
  let s := s.setIgrp g { plan := {}, dlead := lead, dstop := false }
  let s := s.setReg64 p IGRP.DLEADLO (BitVec.ofNat 64 lead)
  let s := s.setReg64 p IGRP.SIGMALO 0
  let s := s.wr p IGRP.GSTAT_LEAD li
  let s := s.wr p IGRP.GSTAT_STATE (if moving then 1 else 0)
  let s := s.wr p IGRP.GSTAT_INPOS (if moving then 0 else 1)
  if moving then s else s.evt p 0

/-- A group halts along its path (R305, R307). -/
def grpHalt (s : State) (g : Nat) (dstop : Bool) : State :=
  if s.grpState g = 0 then s
  else (s.setIgrp g { s.igrp g with dstop := dstop || (s.igrp g).dstop }).wr (pgIGRP g) IGRP.GSTAT_STATE 2

/-- What an accepted command does (R305). -/
def pgAct (s : State) (op a : Nat) (m : AxisMap) (sel : Nat) (d : List Byte) : State :=
  let g0 := s.pg a
  let g := if isMotion op then { g0 with abort := false, overshoot := false, haltDstop := false, group := none } else g0
  let v64 := BitVec.ofNat 64 (fieldAt d 0 8)
  let free := { g with sync := 0, landings := 0, camNext := none }
  let pb := pgPGB m.home
  match op with
  | 0x10 => s.setPg a { free with mode := .move, tgt := v64 }
  | 0x11 => s.setPg a { free with mode := .move, tgt := (if g.mode = .move then g.tgt else g.plan.q) + v64 }
  | 0x12 => s.setPg a { free with mode := .velocity, vcmd := v64.toInt }
  | 0x13 => s.setPg a { free with mode := .halt }
  | 0x14 => s.setPg a { g with plan := { Plan.at v64 with vff := g.plan.vff, aff := g.plan.aff } }
  | 0x15 => (s.setReg64 pb (PGB.VLIMLO m.rslot) v64).setReg64 pb (PGB.ALIMLO m.rslot) (BitVec.ofNat 64 (fieldAt d 8 8))
  | 0x16 =>
    let s := s.setReg64 pb (PGB.DSTOPLO m.rslot) v64
    if sel = 0 then s else s.wr pb (PGB.SCFG_JN m.rslot) sel
  | 0x17 => (s.wr pb (PGB.SCFG_MKIND m.rslot) sel).wr pb (PGB.SCFG_MIDX m.rslot) (fieldAt d 0 1)
  | 0x18 =>
    s.setPg a { free with mode := .gear, sync := 1, g := g.plan.q + BitVec.ofNat 64 (fieldAt d 8 8), grem := 0,
                          num := toSigned 32 (fieldAt d 0 4), den := fieldAt d 4 4, mlast := (s.masterPos m).1 }
  | 0x19 =>
    let (h, s) := s.camHead sel
    let period := match h with | some h => h.period | none => 0
    let mp := (s.masterPos m).1
    let x := if period = 0 then 0 else (mp - v64).toInt % period
    s.setPg a { free with mode := .cam, sync := 1, g := g.plan.q + BitVec.ofNat 64 (fieldAt d 8 8), camTab := sel, x := x, mlast := mp }
  | 0x1A => s.setPg a { g with g := g.g + v64, sync := 1, landings := 0 }
  | 0x1B => s.setPg a (if sel = 0 then { free with mode := .halt } else { free with mode := .velocity, vcmd := g.plan.w })
  | 0x1C => s.setPg a { g with camNext := some sel }
  | 0x20 => s.setPg a { g0 with pend := some v64, abort := false, overshoot := false }
  | 0x21 => s.grpStart sel
  | 0x22 => s.grpHalt sel false
  | _ => s

/-- VMSET k and VMVEL k (R318): the pending command; a TSTART already passed acts at once and sets LATE. -/
def vmCommand (s : State) (op : Nat) (d : List Byte) : State :=
  let k := op % 4
  let t := BitVec.ofNat 64 (fieldAt d 0 8)
  let x := BitVec.ofNat 64 (fieldAt d 8 8)
  let v := s.vm k
  let s := s.setVm k (if op < 0x34 then { v with setPend := some (t, x) } else { v with velPend := some (t, x) })
  let late := decide (t ≠ s.tI0 s.cyc) && geT64 (s.tI0 s.cyc) t
  let s := if late then (s.wr pgPG (PG.VMSTAT_LATE k) 1).evt pgPG 3 else s
  if late then s.vmPending k else s.showVm k

/-- A profile generator command: STATUS 1 or 8 (R187), with the refusal recorded. -/
def pgCommand (s : State) (op a : Nat) (sel : Nat) (d : List Byte) : Nat × State :=
  if isVmOp op then
    if !s.running pgPG then (8, s.pgRefuse op a 1)
    else if sel ≠ 0 then (8, s.pgRefuse op a 3)
    else (1, s.vmCommand op d)
  else
    match (s.axis a).map with
    | none => (2, s)
    | some m =>
      let (r, s) := s.pgReason op a m sel d
      if r = 0 then (1, s.pgAct op a m sel d) else (8, s.pgRefuse op a r)

/-- START's effect on the generator (R307); `false` where it is refused, reason 6. -/
def pgStart (s : State) (a : Nat) (m : AxisMap) : Bool × State :=
  let g := s.pg a
  let idle (plan : Plan) : Pg :=
    { g with plan := { plan with w := 0, hist := [], r := 0, vff := 0, aff := 0 }, mode := .idle, sync := 0, group := none,
             camNext := none, haltDstop := false, stall := false }
  if s.on (pgPGB m.home) (PGB.SCFG_STARTSRC m.rslot) then (true, s.setPg a (idle { g.plan with q := g.plan.pout }))
  else
    match (s.axis a).posCopy.find? (fun c => c.1 = s.girth.cyc - 1) with
    | some c => (true, s.setPg a (idle { g.plan with q := pos32 c.2, pout := pos32 c.2 }))
    | none => (false, s.pgRefuse 0x01 a 6)

/-- STOP's effect on the generator (R307): a follower decouples, a group member halts its whole group. -/
def pgStop (s : State) (a : Nat) : State :=
  let g := s.pg a
  let s := match s.groupOf a with | some k => s.grpHalt k true | none => s
  s.setPg a { g with mode := .stop, sync := 0, camNext := none }

/-- Every generator a stopping PG or PGB page affects enters HALT with DSTOP; a moving group halts along its path (R307). -/
def pgPageStop (s : State) (home : Option Nat) : State :=
  s.forEach s.mapped fun s e =>
    if (match home with | some h => e.2.home == h | none => true) && s.pgSteps e.1 e.2 then
      let g := s.pg e.1
      let s := match s.groupOf e.1 with | some k => s.grpHalt k true | none => s
      if g.mode = .stop then s
      else s.setPg e.1 { g with mode := .halt, haltDstop := true, sync := 0, camNext := none }
    else s

/-- Every affected generator is at rest, and the virtual masters for the PG page. -/
def pgPageAtRest (s : State) (home : Option Nat) : Bool :=
  (s.mapped.all fun e => !((match home with | some h => decide (e.2.home = h) | none => true) && s.pgSteps e.1 e.2) || s.pgAtRest e.1)
    && (home.isSome || (List.range 4).all fun k => (s.vm k).plan.atRest)

end State
end Sys2Proof.Machine
end

