-- ==== Sys2Proof/Machine/Axes.lean ====
section
/-! DEFINITION. Axes: their record's IN section and flags (R24–R28), the hold of writes (R12, R13), the state transitions (R20–R22),
the decision at CUTOFF (R14, R15) and the host commands on an axis (R21, R187). -/
namespace Sys2Proof.Machine

/-- Why an axis's inputs of a cycle are as they are (R26). -/
inductive InKind where
  | delivered | stale | missing
deriving DecidableEq, Repr

namespace State

/-- HOLDMAX of an axis's place (R21, R330, R364). -/
def holdMax (s : State) (m : AxisMap) : Nat :=
  match m.place with
  | .port n _ => s.rd (pgNPORT n) NPORT.PORTCFG_HOLDMAX
  | .lx n => s.rd (pgSTITCH n) STITCH.UCFG_HOLDMAX
  | .ax n => s.rd (pgAXCH n) AXCH.OCFG_HOLDMAX

/-- INFLAGS.SOURCE of an axis (R26). -/
def source (m : AxisMap) : Nat := match m.place with | .port _ _ => 0 | .lx _ => 1 | .ax _ => 2

/-- The AXSTATE word of an axis (R28). -/
def axStateWord (x : Axis) (m : AxisMap) : Nat :=
  b2n x.detLost 16 + b2n x.resume 12 + 0x100 * x.holdCnt + 0x10 * m.mode + x.state.code

/-- The network half writes AXSTATE. -/
def putAxState (s : State) (a : Nat) (m : AxisMap) : State :=
  s.fixPut mGirth (m.base + 0x9C) (leBytes 4 (axStateWord (s.axis a) m))

/-- Cinch sets AXSTATE.DETLOST (R28, R536). -/
def setDetLost (s : State) (a : Nat) : State :=
  match (s.axis a).map with
  | some m => (s.modAxis a fun x => { x with detLost := true }).fixPut mCinch (m.base + 0x9E) [1]
  | none => s

/-- Cinch writes OUTFLAGS.LATE (R27, R177): a partial write that leaves the other bits. -/
def setLate (s : State) (a : Nat) (v : Bool) : State :=
  match (s.axis a).map with
  | some m =>
    let s := s.modAxis a fun x => { x with late := v }
    let (b, s) := s.fixRead mCinch (m.base + 0x94) 1
    (match b with
     | some [b] => s.fixPut mCinch (m.base + 0x94) [if v then b ||| 8 else b &&& 0xF7]
     | _ => s)
  | none => s

/-! ### The IN section -/

/-- A block of a node port counts once the port has been CYCLIC (R125); `off` is its counter. -/
def countBlock (s : State) (m : AxisMap) (off : Nat) : State :=
  match m.place with | .port n _ => if (s.port n).everCyclic then s.bumpE (pgNPORT n) off 4 else s | _ => s

/-- Write an update of the IN section into the record; a delivered block of a node port counts DELIV when it is written. -/
def putIn (s : State) (m : AxisMap) (h : HeldIn) : State :=
  match h.bytes with
  | some b =>
    let rest := leBytes 4 h.cyc.toNat ++ leBytes 4 h.inflags ++ List.replicate 40 0
    let s := if h.keepPos then (s.fixPut mGirth m.base (slice b 0 8)).fixPut mGirth (m.base + 12) (slice b 12 4 ++ rest)
      else s.fixPut mGirth m.base (b ++ rest)
    s.countBlock m NPORT.DELIV
  | none => s.fixPut mGirth (m.base + 0x14) (leBytes 4 h.inflags)

/-- The inputs of the present cycle for one axis: a block, or none and why; a local axis without a latched position still gives the
other fields of its block (R360).  The write is held back while a token of an earlier cycle is unresolved (R12); a block held from the
cycle before is then discarded and counted STALE (R13), and AGE counts its cycle among those without a fresh input.  STALE and MISSING
tell of the present cycle's own block alone (notes/assumptions/95.md). -/
def inputs (s : State) (a : Nat) (m : AxisMap) (k : InKind) (bytes : List Byte) (plane : Nat) : State :=
  let x := s.axis a
  let lost := x.heldIn.filter fun h => h.bytes.isSome && !h.keepPos
  let aged := match lost with | some h => min 0xFFFF (h.ageBefore + 1) | none => x.age
  let age := if k = InKind.delivered then 0 else min 0xFFFF (aged + 1)
  let flags := 0x10000 * age + 0x10 * source m + b2n (decide (k = InKind.missing)) 3 + plane % 2 * 4 + b2n (decide (k = InKind.stale)) 1 + b2n (decide (k = InKind.delivered)) 0
  let h : HeldIn := { keepPos := decide (k ≠ InKind.delivered), ageBefore := aged,
                      bytes := if k = InKind.delivered ∨ bytes ≠ [] then some bytes else none, cyc := s.girth.cyc, inflags := flags }
  let pos := (s.girth.cyc, BitVec.ofNat 32 (fieldAt bytes 8 4))
  let x := { x with age := age, fresh := decide (k = InKind.delivered) }
  let x := if h.bytes.isSome then { x with stat := fieldAt bytes 12 2 } else x
  let x := if k = InKind.delivered then { x with posCopy := (pos :: x.posCopy).take 2 } else x
  let s := if lost.isSome then s.countBlock m NPORT.STALE else s
  if s.heldBack a s.girth.cyc || x.heldIn.isSome || !x.heldCmd.isEmpty || !x.heldSp.isEmpty then s.setAxis a { x with heldIn := some h }
  else (s.setAxis a x).putIn m h

/-! ### Transitions (R21) -/

/-- Enter STOPPED: DETLOST is cleared only here (R28). -/
def enterStopped (s : State) (a : Nat) : State :=
  s.modAxis a fun x => { x with state := .stopped, resume := false, holdCnt := 0, detLost := false, standstill := false }

/-- Enter REST: the generator stops at once (R307). -/
def enterRest (s : State) (a : Nat) : State :=
  (s.modAxis a fun x => { x with state := .rest, holdCnt := 0, standstill := false }).immediateStop a

/-- The trip latch of the Stitch unit of a local axis is set (R338). -/
def lxTripped (s : State) (m : AxisMap) : Bool :=
  match m.place with | .lx n => s.on (pgSTITCH n) STITCH.TRIPSTAT_LATCH | _ => false

/-- The axis's port is BLOCKED. -/
def portBlocked (s : State) (m : AxisMap) : Bool :=
  match m.place with | .port n _ => s.on (pgNPORT n) NPORT.SCHSTAT_BLOCKED | _ => false

/-- A port was blocked or a trip latch set: the started axes there have a cause of REST until their CUTOFF, whatever becomes of it
before (R21, R338). -/
def markRest (s : State) (here : AxisMap → Bool) : State :=
  s.forEach s.mapped fun s e =>
    if here e.2 && (s.axis e.1).state.started then s.modAxis e.1 fun x => { x with placeRest := true } else s

/-- A cause that sends a started axis to REST at this CUTOFF (R21): its port blocked or stopping (R124, R131), a local trip or
Rest reported in STAT (R97), the Stitch trip latch (R338), the control half faulted (R130), an uncorrectable word in its record
(R504), or the stop of the network (R131); a block, a trip, a fault or a word that came and went since the last CUTOFF counts. -/
def restCause (s : State) (a : Nat) (m : AxisMap) : Bool :=
  let x := s.axis a
  s.portBlocked m || (match m.place with | .port n _ => (s.port n).stopping | _ => false)
    || bitOf x.stat 1 || bitOf x.stat 2 || s.lxTripped m || s.st pgCINCH == 5 || s.girth.disagree || x.ownRest || x.placeRest
    || s.st pgGIRTH == 4

/-- What is sent for an axis at CUTOFF (R20). -/
inductive Sent where
  | output | hold | rest
deriving DecidableEq, Repr

/-- The decision for one axis at CUTOFF from the snapshot of its OUT section (R14, R15, R20–R22).  The first event in the order of R22
decides.  An uncorrectable word of the snapshot is a cause of REST through `ownRest`; a snapshot that the gate suppressed (its Bench
is off) is merely not ready. -/
def decideAxis (s : State) (a : Nat) (m : AxisMap) (out : Option (List Byte)) (valid : Bool) : Sent × State :=
  let x := s.axis a
  let ready := match out with
    | some b => bitOf (fieldAt b 20 4) 0 && decide (fieldAt b 24 4 = s.cyc % 2 ^ 32) && !x.late
    | none => false
  match x.state with
  | .unmapped | .stopped | .rest => (.rest, s)
  | .starting =>
    if s.restCause a m then (.rest, s.enterRest a)
    else if ready && valid then (.output, s.modAxis a fun x => { x with state := .running })
    else (.rest, s)
  | .running | .stopping | .hold =>
    if s.restCause a m then (.rest, s.enterRest a)
    else if x.standstill && (x.state == .stopping || (x.state == .hold && x.resume)) then (.rest, s.enterStopped a)
    else if ready then
      (.output, if x.state = .hold then
          s.modAxis a fun x => { x with state := if x.resume then .stopping else .running, holdCnt := 0 } else s)
    else if x.state ≠ .hold then
      (.hold, s.modAxis a fun x => { x with state := .hold, holdCnt := 1, resume := decide (x.state = .stopping) })
    else if x.holdCnt < s.holdMax m then (.hold, s.modAxis a fun x => { x with holdCnt := x.holdCnt + 1 })
    else (.rest, s.enterRest a)

/-- CUTOFF for one axis: the snapshot of its OUT section and INFLAGS, the decision, READY cleared and HOLD and REST shown in OUTFLAGS, and
AXSTATE written.  Answers what is sent and the snapshot.  An uncorrectable word of the OUT section acts at this CUTOFF, one that only the
read of INFLAGS finds at the next (R504). -/
def cutoffAxis (s : State) (a : Nat) (m : AxisMap) : Sent × Option (List Byte) × State :=
  let (out, s) := s.fixRead mGirth (m.base + 0x80) 0x20
  let was := (s.axis a).ownRest
  let (inf, s) := s.fixRead mGirth (m.base + 0x14) 4
  let next := (s.axis a).ownRest && !was
  let s := s.modAxis a fun x => { x with ownRest := was }
  let valid := match inf with | some b => bitOf (leToNat b) 0 | none => false
  let (sent, s) := s.decideAxis a m out valid
  let s := s.modAxis a fun x => { x with ownRest := next, placeRest := false, fresh := false }
  let flags := b2n (s.axis a).late 3 + (match sent with | .rest => 4 | .hold => 2 | .output => 0)
  let s := s.fixPut mGirth (m.base + 0x94) [BitVec.ofNat 8 flags]
  (sent, out, s.putAxState a m)

/-! ### Host commands on an axis (R21, R187) -/

/-- The domains an axis needs to leave STOPPED are on (R52). -/
def domainsOn (s : State) (m : AxisMap) : Bool :=
  s.domOn 8 && s.domOn m.home && (match m.place with | .port _ _ => s.domOn 12 | .lx _ => s.domOn 17 | .ax _ => s.domOn 16 && s.domOn 17)

/-- The word of R505 is still uncorrectable, judged by a read of Cinch; a read the gate suppresses finds nothing. -/
def eccPresent (s : State) (a : Nat) (m : AxisMap) : Bool × State :=
  match (s.axis a).eccOff with
  | none => (false, s)
  | some off =>
    let w := m.base + off / 8 * 8
    let r := s.fixRead mCinch w 8
    (r.1.isNone && (s.gateKind mCinch w 8 false).isNone, r.2)

/-- The record fields at the STOPPED→STARTING transition (R26–R28). -/
def startFields (s : State) (a : Nat) (m : AxisMap) : State :=
  let s := s.fixPut mGirth (m.base + 0x14) (leBytes 4 (0x10 * source m))
  let s := s.fixPut mGirth (m.base + 0x94) (leBytes 4 0)
  s.putAxState a m

/-- START (R21, R187): STATUS and the state. -/
def cmdStart (s : State) (a : Nat) (m : AxisMap) : Nat × State :=
  if (s.axis a).state ≠ .stopped then (3, s)
  else if !s.domainsOn m then (4, s)
  else
    let (bad, s) := s.eccPresent a m
    if bad then (9, s) else
    let (ok, s) := s.pgStart a m
    if !ok then (8, s)
    else (1, s.modAxis a fun x =>
      { x with state := .starting, resume := false, holdCnt := 0, detLost := false, late := false, age := 0, standstill := false,
               ownRest := false, placeRest := false })

/-- STOP (R21, R22): RUNNING to STOPPING; in HOLD it sets RESUME. -/
def cmdStop (s : State) (a : Nat) : Nat × State :=
  match (s.axis a).state with
  | .running => (1, (s.modAxis a fun x => { x with state := .stopping }).pgStop a)
  | .hold => (1, (s.modAxis a fun x => { x with resume := true }).pgStop a)
  | _ => (3, s)

/-- AXRESET (R21): judged on every REST cause present. -/
def cmdReset (s : State) (a : Nat) (m : AxisMap) : Nat × State :=
  if (s.axis a).state ≠ .rest then (3, s)
  else
    let (bad, s) := s.eccPresent a m
    if s.portBlocked m || bitOf (s.axis a).stat 1 || s.lxTripped m || s.st pgCINCH == 5 || bad then (6, s)
    else (1, s.enterStopped a)

/-- PARWRITE's operands are in range (R187 status 5). -/
def parOk (e : Entry) : Bool :=
  (e.len == 4 || e.len == 8 || e.len == 12 || e.len == 16) && 0xC0 ≤ e.offset && e.offset ≤ 0x1FC && e.offset % 4 == 0
    && e.offset + e.len ≤ 0x200

/-- PARWRITE (R187): status 10 where a word could not be written. -/
def cmdPar (s : State) (m : AxisMap) (e : Entry) : Nat × State :=
  let (ok, s) := s.fixWrite mCinch (m.base + e.offset) (slice e.data 0 e.len)
  (if ok then 1 else 10, s)

/-- The part of a command that acts at its CWSTART (R300): its status, and whether its record writes are still to be made. -/
def cmdApply (s : State) (bench : Nat) (e : Entry) : Nat × State :=
  if !(decide (1 ≤ e.op ∧ e.op ≤ 4) || isPgOp e.op) then (7, s)
  else if e.rsvd ≠ 0 || (isPgOp e.op && e.offset ≠ 0) then (5, s)
  else if isVmOp e.op then s.pgCommand e.op e.axis e.len e.data
  else
    match (s.axis e.axis).map with
    | none => (2, s)
    | some m =>
      if m.home ≠ bench then (2, s)
      else match e.op with
        | 1 => s.cmdStart e.axis m
        | 2 => s.cmdStop e.axis
        | 3 => s.cmdReset e.axis m
        | 4 => if parOk e then (1, s) else (5, s)
        | _ => s.pgCommand e.op e.axis e.len e.data

/-- The part of a command that writes the Axis Record: START's fields, PARWRITE's data (R186). -/
def cmdRecord (s : State) (e : Entry) (status : Nat) : Nat × State :=
  match (s.axis e.axis).map with
  | none => (status, s)
  | some m =>
    if status = 1 ∧ e.op = 1 then (1, s.startFields e.axis m)
    else if status = 1 ∧ e.op = 4 then s.cmdPar m e
    else (status, s)

/-- Count a served command (R187): CMDAPP, or CMDREJ with the refusal event; the ledger counts it too (R189). -/
def cmdCount (s : State) (bench status : Nat) : State :=
  let c := s.cinch
  let l := c.ledger
  let s := { s with cinch := { c with lastStatus := status,
                                      ledger := if status = 1 then { l with app := l.app + 1 } else { l with rej := l.rej + 1 } } }
  if status = 1 then s.bumpE (pgCINCHB bench) CINCHB.CMDAPP 1
  else (s.bumpE (pgCINCHB bench) CINCHB.CMDREJ 1).evt (pgCINCHB bench) 0

/-- Write back STATUS and APPLY of a ring entry (R186): the CYC of the CWSTART that served it. -/
def cmdBack (s : State) (addr : Nat) (status : Nat) (cyc : BitVec 48) : State :=
  let s := s.fixPut mCinch (addr + 4) (leBytes 6 cyc.toNat)
  s.fixPut mCinch (addr + 1) [BitVec.ofNat 8 status]

/-- The part of a command that R12 may hold back: its record writes, the write-backs of its ring entry, and its count. -/
def cmdFinish (s : State) (h : HeldCmd) : State :=
  let (st, s) := s.cmdRecord h.entry h.status
  let s := match h.addr with | some a => s.cmdBack a st h.cyc | none => s
  s.cmdCount h.bench st

/-- A write of the axis for cycle `c` or an earlier one is still held back, or its generator's step of it waits (R12, R323). -/
def held (s : State) (a : Nat) (c : BitVec 48) : Bool :=
  let x := s.axis a
  let before (d : BitVec 48) : Bool := decide (d.toNat ≤ c.toNat)
  x.heldIn.any (fun h => before h.cyc) || x.heldCmd.any (fun h => before h.cyc) || x.heldSp.any (fun h => before h.1)
    || (s.pg a).waiting.any fun w => before w.cyc

/-- A command is taken in turn at the CWSTART of cycle `n` (R186): what acts at once acts, and the rest is done now, or with the writes
of the axis that R12 holds back.  `addr` is the entry in its ring. -/
def cmdTake (s : State) (bench : Nat) (addr : Option Nat) (n : BitVec 48) (e : Entry) : State :=
  let (st, s) := s.cmdApply bench e
  let h : HeldCmd := { bench := bench, addr := addr, cyc := n, entry := e, status := st }
  let back := match (s.axis e.axis).map with
    | some m => decide (m.home = bench) && (s.heldBack e.axis n || s.held e.axis n) && st != 7 && !isVmOp e.op
    | none => false
  if back then s.modAxis e.axis fun x => { x with heldCmd := x.heldCmd ++ [h] } else s.cmdFinish h

/-- A command outside a ring: what the command rows of the table do. -/
def cmdRow (s : State) (bench : Nat) (e : Entry) : State := s.cmdTake bench none s.girth.cinchCyc e

/-- The writes of an axis are released (R12): IN, commands, SP, in that order, each once no token of a cycle before its own is
unresolved; a command also waits for the SP sections of the cycles before its own (R323). -/
def releaseHeld (s : State) (a : Nat) : State :=
  match (s.axis a).map with
  | none => s
  | some m =>
    let x := s.axis a
    let free (c : BitVec 48) : Bool := !s.heldBack a c
    let inNow := x.heldIn.filter fun h => free h.cyc
    let cmds := x.heldCmd.filter fun h => free h.cyc && !(s.pg a).waiting.any fun w => decide (w.cyc.toNat < h.cyc.toNat)
    let sps := x.heldSp.filter fun h => free h.1
    let s := s.setAxis a { x with heldIn := if inNow.isSome then none else x.heldIn, heldCmd := x.heldCmd.filter fun h => !cmds.contains h,
                                  heldSp := x.heldSp.filter fun h => !free h.1 }
    let s := match inNow with | some h => s.putIn m h | none => s
    let s := s.forEach cmds cmdFinish
    s.forEach sps fun s b => s.fixPut mPg (m.base + 0x40) b.2

end State
end Sys2Proof.Machine
end

