-- ==== Sys2Proof/Machine/Copies.lean ====
section
/-! DEFINITION. The installation of state copies (R388): at the end of the sink's own cycle c, before any write of cycle c + 1. -/
namespace Sys2Proof.Machine
namespace State

/-- No token of the cycle or before is unresolved for the axis. -/
def axisResolved (s : State) (a : Nat) (c : BitVec 48) : Bool :=
  s.cinch.tokens.all fun t => !(t.axis == some a && decide (t.cyc.toNat ≤ c.toNat))

/-- No token of the cycle or before is unresolved. -/
def allResolved (s : State) (c : BitVec 48) : Bool := s.cinch.tokens.all fun t => decide (c.toNat < t.cyc.toNat)

/-- R388: the sink's last token of the copy's cycle c for the axis (a shared block: every token) has resolved, be it after the next
CWSTART; a group and a virtual master take their image in cycle c itself. -/
def copyReady (s : State) (m : CopyMsg) : Bool :=
  match s.girth.cw with
  | none => false
  | some c =>
    match m.kind with
    | 0 => decide (m.cyc.toNat ≤ c.toNat) && s.axisResolved m.index m.cyc && (s.pg m.index).waiting.isEmpty
    | 1 => decide (m.cyc.toNat ≤ c.toNat) && s.allResolved m.cyc
    | _ => decide (c = m.cyc)

/-- The generator of an axis takes the step of the present cycle again, on an image of the cycle before. -/
def pgAgain (s : State) (a : Nat) : State :=
  match (s.axis a).map with
  | some m => if s.active pgPG && s.pgSteps a m then (s.pgStep a m s.cyc (s.masterPos m).1 (s.masterPos m).2).spWrite a m else s
  | none => s

/-- The last Awl of every task of the axis is cleared: 64 is no Awl (R388, R171). -/
def clearLast (s : State) (a : Nat) : State :=
  let ids := (List.range s.cinch.tasks.length).filter fun i => match s.cinch.tasks[i]? with
    | some d => d.axis == some a
    | none => false
  { s with cinch := { s.cinch with lastAwl := ids.map (fun i => (i, 64)) ++ s.cinch.lastAwl.filter fun e => !ids.contains e.1 } }

/-- The part of a shared-block piece that lies in a declared block. -/
def pieceBytes (s : State) (addr : Nat) (bytes : List Byte) : List Byte :=
  match s.tack.blocks.find? fun b => decide (b.1 ≤ addr) && decide (addr < b.1 + b.2) with
  | some b => bytes.take (b.1 + b.2 - addr)
  | none => []

/-- Install a copy: it counts in COPIES and is no longer wanted. -/
def copyPut (s : State) (m : CopyMsg) : State :=
  let s := match m.kind, m.image with
    | 0, .pg g =>
      (match (s.axis m.index).map with
       | some x => ((s.fixPut mLatigo (x.base + 0x80) m.bytes).setPg m.index { g with sp := none, waiting := [] }).clearLast m.index
       | none => s)
    | 1, _ => s.fixPut mLatigo m.index (s.pieceBytes m.index m.bytes)
    | 2, .group g => s.setIgrp m.index g
    | 3, .vm v => s.setVm m.index v
    | _, _ => s
  let s := s.bumpE pgLAT LAT.COPIES 8
  { s with lat := { s.lat with
      want := s.lat.want.filter fun w => w != (m.kind, m.index)
      inv := s.lat.inv.map fun p => if m.kind = 0 then { p with axes := p.axes.filter (· ≠ m.index) } else p
      held := s.lat.held.filter fun h => !(h.kind == m.kind && h.index == m.index) } }

/-- Install a copy at its moment; where that lies after the next CWSTART, the generator's step of the new cycle follows. -/
def copyTake (s : State) (m : CopyMsg) : State :=
  let late := m.kind == 0 && decide (s.girth.cw ≠ some m.cyc)
  let s := s.copyPut m
  if late then s.pgAgain m.index else s

/-- Install every held copy the filter takes whose moment has come. -/
def copiesInstall (s : State) (f : CopyMsg → Bool) : State :=
  s.forEach (s.lat.held.filter f) fun s m => if s.copyReady m then s.copyTake m else s

end State
end Sys2Proof.Machine
end

