-- ==== Sys2Proof/Machine/Cinch.lean ====
section
/-! DEFINITION. Cinch (R162–R199): the task graph, tokens and readiness, dispatch and bank switches, SERVICE instances and budgets,
deadlines, skips and the loss of an Awl, the command rings and the ledger. -/
namespace Sys2Proof.Machine

/-- Insert into a list sorted by a key. -/
def insertBy {α : Type} (le : α → α → Bool) (x : α) : List α → List α
  | [] => [x]
  | y :: ys => if le x y then x :: y :: ys else y :: insertBy le x ys

/-- A list in the order of `le`. -/
def sortBy {α : Type} (le : α → α → Bool) (l : List α) : List α := l.foldr (insertBy le) []

/-- The event codes of R164. -/
def evPort (p : Nat) : Nat := 0x8000 + p
def evLocal : Nat := 0x8100
def evPg : Nat := 0x8200
def evCmd : Nat := 0x8300
/-- The codes an ENDT of task `t` satisfies: the task and its four stages. -/
def taskCodes (t : Nat) : List Nat := [t, 0x4000 + t, 0x5000 + t, 0x6000 + t, 0x7000 + t]

/-- The Awl's active bank. -/
def Awl.act (w : Awl) : Bank := if w.bank = 0 then w.b0 else w.b1
/-- Bank `k` of an Awl. -/
def Awl.get (w : Awl) (k : Nat) : Bank := if k = 0 then w.b0 else w.b1
/-- Set bank `k` of an Awl. -/
def Awl.put (w : Awl) (k : Nat) (b : Bank) : Awl := if k = 0 then { w with b0 := b } else { w with b1 := b }

namespace State

/-! ### Records -/

def awl (s : State) (n : Nat) : Awl := Sp.get (fun _ => {}) s.awls n
def setAwl (s : State) (n : Nat) (w : Awl) : State := { s with awls := Sp.set (fun _ => {}) s.awls n w }
def modAwl (s : State) (n : Nat) (f : Awl → Awl) : State := s.setAwl n (f (s.awl n))
/-- The active bank of Awl `n`. -/
def act (s : State) (n : Nat) : Bank := (s.awl n).act
/-- Set the active bank of Awl `n`. -/
def setAct (s : State) (n : Nat) (b : Bank) : State := s.modAwl n fun w => w.put w.bank b
/-- Change Cinch. -/
def modC (s : State) (f : Cinch → Cinch) : State := { s with cinch := f s.cinch }
/-- Change the ledger entry in the making. -/
def modLedger (s : State) (f : Ledger → Ledger) : State := s.modC fun c => { c with ledger := f c.ledger }

/-- The descriptor of a task. -/
def task (s : State) (t : Nat) : Option Task := s.cinch.tasks[t]?
/-- The home Bench of a task. -/
def homeOf (s : State) (t : Nat) : Nat := match s.task t with | some d => d.home | none => 0
/-- The deadline of a task in ns (R163). -/
def deadlineOf (s : State) (t : Nat) : Nat := match s.task t with | some d => d.deadline | none => 0
/-- The last Awl of a task (R171). -/
def lastAwl (s : State) (t : Nat) : Nat :=
  match s.cinch.lastAwl.find? (·.1 = t), s.task t with
  | some e, _ => e.2
  | none, some d => 8 * d.home + d.aff
  | none, none => 0

/-- The CYCLIC token that runs in a bank. -/
def tokenAt (s : State) (n k : Nat) : Option Token := s.cinch.tokens.find? fun t => t.on == some (n, k)
/-- The SERVICE instance that runs or is held in a bank. -/
def svcAt (s : State) (n k : Nat) : Option Svc := s.cinch.svcs.find? fun v => v.on == some (n, k)
/-- A bank holds an instance. -/
def bankBusy (s : State) (n k : Nat) : Bool := (s.tokenAt n k).isSome || (s.svcAt n k).isSome
/-- The Awl executes an instance in its active bank. -/
def awlBusy (s : State) (n : Nat) : Bool := s.bankBusy n (s.awl n).bank
/-- The other bank holds an instance (a preempted SERVICE instance). -/
def otherBusy (s : State) (n : Nat) : Bool := s.bankBusy n (1 - (s.awl n).bank)
/-- The Awl is halted (R271). -/
def halted (s : State) (n : Nat) : Bool := s.on (pgAWL n) AWL.DBGSTAT_HALTED

/-- CTX of the instance in a bank: the task, and its axis. -/
def instOf (s : State) (n k : Nat) : Option (Nat × Option Nat) :=
  match s.tokenAt n k, s.svcAt n k with
  | some t, _ => some (t.task, t.axis)
  | none, some v => some (v.task, (s.task v.task).bind (·.axis))
  | none, none => none

/-! ### Visible effects of an Awl -/

/-- Store the words an Awl's results in flight write into its local memory; both halves of an 8-byte word are one write (R40). -/
def storeWords (s : State) (n : Nat) : List (Nat × Nat) → State
  | [] => s
  | [w] => (s.writeMem n (localBase n + w.1) (leBytes 4 w.2)).2
  | w :: v :: ws =>
    if w.1 % 8 = 0 ∧ v.1 = w.1 + 4 then
      ((s.writeMem n (localBase n + w.1) (leBytes 4 w.2 ++ leBytes 4 v.2)).2).storeWords n ws
    else ((s.writeMem n (localBase n + w.1) (leBytes 4 w.2)).2).storeWords n (v :: ws)

/-- Results in flight of bank `k` move on by one instruction, or all become visible. -/
def settleBank (s : State) (n k : Nat) (drain : Bool) : State :=
  let r := ((s.awl n).get k).settle drain
  (s.modAwl n fun w => w.put k r.1).storeWords n r.2

/-! ### The task graph (R162–R165) -/

/-- A descriptor's fields as stored (R163). -/
def descTask (cutoff : Nat) (b : List Byte) : Task :=
  let c := fieldAt b 0 1
  let ax := fieldAt b 6 2
  let d := fieldAt b 16 4
  { service := bitOf c 0, prio := bitsOf c 6 4, home := fieldAt b 1 1, aff := fieldAt b 2 1, entry := fieldAt b 4 2,
    axis := if ax = 0xFFFF then none else some ax,
    preds := ((List.range 4).map fun i => fieldAt b (8 + 2 * i) 2).filter (· ≠ 0xFFFF),
    deadline := if bitOf c 0 = false ∧ d = 0 then 4 * cutoff else d, budget := fieldAt b 20 4,
    rper := fieldAt b 24 2, rphase := fieldAt b 26 2, arg := fieldAt b 28 4 }

/-- The task a predecessor code names. -/
def predTask (c : Nat) : Option Nat := if c < 0x1000 then some c else if 0x4000 ≤ c ∧ c < 0x8000 then some (c % 0x1000) else none

/-- The code is one of R164's. -/
def predListed (c : Nat) : Bool :=
  c < 0x1000 || (0x4000 ≤ c && c < 0x8000) || (0x8000 ≤ c && c ≤ 0x801F) || c == evLocal || c == evPg || c == evCmd

/-- The tasks and events that precede a task at any depth: a search over codes. -/
def ancestors (ts : List Task) : Nat → List Nat → List Nat → List Nat
  | 0, _, seen => seen
  | _ + 1, [], seen => seen
  | fuel + 1, c :: work, seen =>
    let next := match predTask c with
      | some t => (match ts[t]? with | some d => d.preds | none => [])
      | none => []
    let new := next.foldl (fun l x => if seen.contains x || l.contains x then l else l ++ [x]) []
    ancestors ts fuel (work ++ new) (seen ++ new)

/-- Every code that precedes a task. -/
def allPreds (ts : List Task) (d : Task) : List Nat := ancestors ts (5 * ts.length + 40) d.preds d.preds

/-- The reason of R165 for which descriptor `i` fails, the lowest first. -/
def descReason (s : State) (ts : List Task) (i : Nat) (b : List Byte) (d : Task) : Option Nat :=
  let c := fieldAt b 0 1
  let cut := 4 * s.rd pgGIRTH GIRTH.CWIN_CUTOFF
  let raw := fieldAt b 16 4
  let dup := (List.range d.preds.length).any fun j => (d.preds.take j).contains (d.preds.getD j 0)
  let before := allPreds ts d
  let arrival (ax : Nat) : Bool :=
    match (s.axis ax).map with
    | some m => (match m.place with | .port p _ => before.contains (evPort p) | _ => before.contains evLocal)
    | none => false
  let unfed : Bool := match d.axis with | some a => !arrival a | none => false
  if bitsOf c 3 1 ≠ 0 ∨ bitOf c 7 ∨ fieldAt b 3 1 ≠ 0 ∨ (d.service = false ∧ d.prio ≠ 0) then some 2
  else if d.home > 7 ∨ d.aff > 7 ∨ d.entry % 4 ≠ 0 ∨ d.entry ≥ 0x4000 then some 3
  else if (match d.axis with | none => false | some a => (match (s.axis a).map with | some m => decide (m.home ≠ d.home) | none => true)) then some 4
  else if dup ∨ d.preds.any (fun c => !predListed c || (match predTask c with | some t => t ≥ ts.length || t == i | none => false)
      || (0x8000 ≤ c && c ≤ 0x801F && s.rd (pgNPORT (c % 0x20)) NPORT.PORTCFG_AXCNT == 0)) then some 5
  else if d.service = false ∧ d.preds.any (fun c => match predTask c with
      | some t => (match ts[t]? with | some e => e.service | none => false) | none => false) then some 6
  else if before.any (fun c => predTask c == some i) then some 7
  else if (if d.service then decide (raw ≠ 0) || (decide (d.rper = 0) && decide (d.rphase ≠ 0)) || (decide (d.rper > 0) && decide (d.rphase ≥ d.rper))
      else decide (raw % 4 ≠ 0) || decide (raw > cut) || decide (d.rper ≠ 0) || decide (d.rphase ≠ 0)) then some 8
  else if !d.service && unfed then some 9
  else none

/-- R165: read and check the whole graph; the tasks, or the failing task and reason. -/
def graphLoad (s : State) : Except (Nat × Nat) (List Task) × State :=
  let n := s.rd pgCINCH CINCH.GRAPHCFG_TASKCNT
  let base := s.rd pgCINCH CINCH.GBASE_ADDR * 32
  if n > 4096 then (.error (0, 1), s)
  else
    let inside (i : Nat) : Bool :=
      let a := base + 32 * i
      a + 32 ≤ 0x01000000 && (match memDomain a with | some d => s.domOn d | none => false)
    match (List.range n).find? fun i => !inside i with
    | some i => (.error (i, 1), s)
    | none =>
      let r := (List.range n).foldl (fun (r : List (Option (List Byte)) × State) i =>
        let (b, s) := r.2.fixRead mCinch (base + 32 * i) 32
        (r.1 ++ [b], s)) ([], s)
      let s := r.2
      match r.1.findIdx? (·.isNone) with
      | some i => (.error (i, 1), s)
      | none =>
        let bs := r.1.filterMap id
        let ts := bs.map (descTask (s.rd pgGIRTH GIRTH.CWIN_CUTOFF))
        match (List.range n).findSome? fun i =>
            match ts[i]?, bs[i]? with | some d, some b => (s.descReason ts i b d).map fun r => (i, r) | _, _ => none with
        | some e => (.error e, s)
        | none => (.ok ts, s)

/-! ### Held writes and waiting generators (R12, R323) -/

/-- The generators that waited for an instance take their steps, cycle by cycle in the order of R299; their SP sections, and what was
held behind them, are written. -/
def pgWake (s : State) : State :=
  let cs := (s.pgs.flatMap fun e => e.2.waiting.map fun w => w.cyc.toNat).eraseDups
  s.forEach (sortBy (· ≤ ·) cs) fun s c => s.forEach s.mapped fun s e => (s.pgResume (BitVec.ofNat 48 c) e.1 e.2).releaseHeld e.1

/-- A token of the axis was resolved: a copy for the axis is installed (R388), the writes it held back are made, and generators that
waited for it step. -/
def release (s : State) (a : Nat) : State := ((s.copiesInstall fun m => m.kind == 0 && m.index == a).releaseHeld a).pgWake

/-- Change one SERVICE instance. -/
def modSvc (s : State) (v : Svc) (f : Svc → Svc) : State :=
  s.modC fun c => { c with svcs := c.svcs.map fun u => if u.id = v.id then f u else u }

/-- A SERVICE instance leaves the list. -/
def dropSvc (s : State) (v : Svc) : State := s.modC fun c => { c with svcs := c.svcs.filter fun u => u.id ≠ v.id }

/-! ### Readiness (R164, R167) -/

/-- R167: the token is ready. -/
def tokenReady (s : State) (t : Token) : Bool :=
  t.waits.isEmpty && (match t.axis with | some a => !s.heldBack a t.cyc && !s.held a t.cyc | none => true)

/-- Judge every token and SERVICE instance: a token that became ready takes its ready time (and DETLOST where a predecessor was
skipped, R179); a SERVICE instance whose predecessors are satisfied is queued. -/
def readyScan (s : State) : State :=
  let s := s.forEach s.cinch.tokens fun s t =>
    if t.on.isNone && t.readyAt.isNone && s.tokenReady t then
      let s := s.modC fun c => { c with tokens := c.tokens.map fun u =>
        if u.task = t.task ∧ u.cyc = t.cyc then { u with readyAt := some s.time.raw } else u }
      (match t.tainted, t.axis with | true, some a => s.setDetLost a | _, _ => s)
    else s
  s.forEach s.cinch.svcs fun s v =>
    if v.queued.isNone && v.waits.isEmpty then s.modSvc v fun u => { u with queued := some s.time.raw } else s

/-- Codes of R164 are satisfied in a cycle. -/
def satisfy (s : State) (cyc : BitVec 48) (codes : List Nat) (taint : Bool) : State :=
  (s.modC fun c => { c with
    events := c.events ++ codes.map fun x => (cyc, x)
    tokens := c.tokens.map fun t =>
      if t.cyc = cyc then { t with waits := t.waits.filter (fun w => !codes.contains w), tainted := t.tainted || (taint && t.waits.any codes.contains) }
      else t
    svcs := c.svcs.map fun v => if v.cyc = cyc then { v with waits := v.waits.filter fun w => !codes.contains w } else v }).readyScan

/-- Cinch takes part: RUNNING or STOPPING. -/
def cinchActive (s : State) : Bool := s.active pgCINCH

/-! ### Abandonment and skips (R178, R179) -/

/-- The instance in a bank executes no further instruction: its posted accesses stay on the fabric, its entries are dropped. -/
def abandonBank (s : State) (n k : Nat) : State :=
  s.modAwl n fun w =>
    let b := w.get k
    let w := w.put k { b with q := [], br := none, redo := 0, excm := false, bpSkip := false }
    { w with fifo := w.fifo.map fun i => if i.bank = k then { i with orphan := true } else i,
             qwait := w.qwait && decide (w.bank ≠ k) }

/-- Forget that a bank's instance was counted over its budget. -/
def forgetOver (s : State) (n k : Nat) : State :=
  s.modC fun c => { c with use := c.use.map fun e => if e.1 = n then (n, { e.2 with overBanks := e.2.overBanks.filter (· ≠ k) }) else e }

/-- R199: once no token of the axis is left in the cycle, the cycle is resolved and the tick of its last ENDT is shown. -/
def noteCompletion (s : State) (a : Nat) (c : BitVec 48) : State :=
  match (s.axis a).map, s.cinch.ends.find? fun e => e.1 == a && e.2.1 == c with
  | some m, some e =>
    if s.cinch.tokens.any fun u => u.axis == some a && u.cyc == c then s
    else
      let p := pgCINCHB m.home
      let s := s.modC fun k => { k with ends := k.ends.filter fun e => !(e.1 == a && e.2.1 == c) }
      let s := s.wr p (CINCHB.COMPLAST_TICK m.rslot) e.2.2
      s.wr p (CINCHB.COMPMAX_TICK m.rslot) (max e.2.2 (s.rd p (CINCHB.COMPMAX_TICK m.rslot)))
  | _, _ => s

/-- A token leaves the list of unresolved tokens. -/
def dropToken (s : State) (t : Token) : State :=
  let s := s.modC fun c => { c with tokens := c.tokens.filter fun u => !(u.task == t.task && u.cyc == t.cyc) }
  match t.axis with | some a => s.noteCompletion a t.cyc | none => s

/-- After a token of an axis was resolved: the axis's held writes. -/
def afterToken (s : State) (t : Token) : State :=
  let s := match t.axis with | some a => s.release a | none => s
  s.readyScan

/-- R178: a token is SKIPPED. -/
def skipToken (s : State) (t : Token) : State :=
  let s := s.dropToken t
  let s := match t.on with | some (n, k) => (s.abandonBank n k).forgetOver n k | none => s
  let s := s.bumpE pgCINCH CINCH.SKIPPED 4
  let s := (s.faultU pgCINCH 0x3002).evt pgCINCH 1
  let s := match t.axis with | some a => s.setDetLost a | none => s
  let s := s.modLedger fun l => { l with skipped := l.skipped + 1, firstSkip := some (l.firstSkip.getD (t.axis.getD 0xFFFF)) }
  (s.satisfy t.cyc (taskCodes t.task) true).afterToken t

/-- Skip several tokens, in ascending task ID. -/
def skipAll (s : State) (ts : List Token) : State :=
  s.forEach (sortBy (fun x y => x.task ≤ y.task) ts) fun s t => s.skipToken t

/-- R178, at the arrival event of an axis's source: tokens of cycle n + 1 are SKIPPED while one of cycle n is unresolved. -/
def skipAxis (s : State) (a : Nat) : State :=
  let n := s.girth.cyc
  if s.cinch.tokens.any fun t => t.axis == some a && t.cyc.toNat + 2 == n.toNat then
    s.skipAll (s.cinch.tokens.filter fun t => t.axis == some a && t.cyc == n - 1)
  else s

/-- An event of the present cycle that finds Cinch neither RUNNING nor STOPPING is recorded all the same: a Cinch that enters RUNNING
in this cycle finds it (R164, R166; notes/assumptions/107.md). -/
def recordEvent (s : State) (code : Nat) : State :=
  let n := s.girth.cyc
  s.modC fun c => { c with events := (n, code) :: c.events.filter fun e => e.1 == n && e.2 != code }

/-- An arrival event (R118, R168): posted once, with the skips of R178. -/
def arrival (s : State) (code : Nat) (axes : List Nat) : State :=
  if s.cinchActive then (s.forEach axes skipAxis).satisfy s.girth.cyc [code] false else s.recordEvent code

/-! ### Eligibility and dispatch (R169–R172) -/

/-- R170: RUNNING, and its bit in AWLEN as read at CWSTART. -/
def eligible (s : State) (n : Nat) : Bool :=
  let en := match s.cinch.awlen.find? (·.1 = n / 8) with
    | some e => e.2
    | none => s.rd (pgCINCHB (n / 8)) CINCHB.AWLEN_EN
  decide (n < 64) && s.running (pgAWL n) && bitOf en (n % 8)

/-- R170: available to a CYCLIC token. -/
def available (s : State) (n : Nat) : Bool :=
  s.eligible n && !s.halted n
    && (!s.awlBusy n || ((s.svcAt n (s.awl n).bank).isSome && !s.otherBusy n))

/-- R178: an access of an abandoned instance of the same axis, or without an axis of the same task, is still on the fabric. -/
def drains (s : State) (t : Nat) (ax : Option Nat) : Bool :=
  s.awls.any fun w => w.2.fifo.any fun i => i.orphan && (match ax with | some a => i.axis == some a | none => i.axis.isNone && i.task == t)

/-- The fabric address of an axis's record, 0 without an axis. -/
def recordOf (s : State) (ax : Option Nat) : Nat :=
  match ax.bind fun a => (s.axis a).map with | some m => m.base | none => 0

/-- CTX at dispatch (R169). -/
def ctxWord (mig svc : Bool) (n t : Nat) (ax : Option Nat) : Word :=
  BitVec.ofNat 32 (b2n mig 31 + b2n svc 30 + 2 ^ 24 * (n % 64) + 2 ^ 16 * (ax.getD 0 % 256) + b2n ax.isNone 15 + t % 0x1000)

/-- R169, R206: preload a bank of an Awl and switch to it; a running SERVICE instance is preempted.  Answers the bank. -/
def loadBank (s : State) (n t : Nat) (cyc : BitVec 48) (svc : Bool) (ax : Option Nat) : Nat × State :=
  let cur := (s.awl n).bank
  let k := if s.otherBusy n then cur else 1 - cur
  let s := s.settleBank n k true
  let mig := decide (s.lastAwl t ≠ n)
  let d := s.task t
  let entry := match d with | some d => d.entry | none => 0
  let arg := match d with | some d => d.arg | none => 0
  let s := s.modC fun c => { c with svcs := c.svcs.map fun v => if v.on = some (n, cur) then { v with preempted := true } else v }
  let rec14 := BitVec.ofNat 32 (s.recordOf ax)
  (k, s.modAwl n fun w =>
    let b := w.get k
    let b := (b.putD 14 rec14).putD 15 (BitVec.ofNat 32 arg)
    let b := b.setCR 43 0
    { w.put k { b with sr := 0, ctx := ctxWord mig svc n t ax, cycl := BitVec.ofNat 32 cyc.toNat, pc := entry % 0x4000,
                       br := none, redo := 0, excm := false, bpSkip := false, tag := none, clean := [], first := [], q := [] } with
      bank := k, qwait := false })

/-- The task's last Awl becomes `n`. -/
def setLast (s : State) (t n : Nat) : State :=
  s.modC fun c => { c with lastAwl := (t, n) :: c.lastAwl.filter fun e => e.1 ≠ t }

/-- The wait time of a Bench in ns (R172, R196). -/
def noteWait (s : State) (b ns : Nat) : State :=
  let p := pgCINCHB b
  let v := min 0xFFFF ns
  let s := s.wr p CINCHB.WAITLAST_NS v
  let s := s.wr p CINCHB.WAITMIN_NS (min v (s.rd p CINCHB.WAITMIN_NS))
  s.wr p CINCHB.WAITMAX_NS (max v (s.rd p CINCHB.WAITMAX_NS))

/-- Nanoseconds since a raw time. -/
def nsSince (s : State) (t : BitVec 64) : Nat := (s.time.raw - t).toNat / 16

/-- Dispatch a CYCLIC token to an Awl (R171). -/
def dispatch (s : State) (t : Token) (n : Nat) : State :=
  let (k, s) := s.loadBank n t.task t.cyc false t.axis
  let s := s.modC fun c => { c with tokens := c.tokens.map fun u =>
    if u.task = t.task ∧ u.cyc = t.cyc then { u with on := some (n, k) } else u }
  let s := (s.setLast t.task n).forgetOver n k
  match t.readyAt with | some r => s.noteWait (n / 8) (s.nsSince r) | none => s

/-- The ready CYCLIC tokens of a Bench not dispatched (R196). -/
def waitingTokens (s : State) (b : Nat) : List Token :=
  s.cinch.tokens.filter fun t => t.on.isNone && t.readyAt.isSome && s.homeOf t.task == b

/-- The tokens of a Bench that may be dispatched now, in ascending (deadline, task ID) (R171, R178). -/
def readyTokens (s : State) (b : Nat) : List Token :=
  sortBy (fun x y => s.deadlineOf x.task < s.deadlineOf y.task || (s.deadlineOf x.task == s.deadlineOf y.task && x.task ≤ y.task))
    ((s.waitingTokens b).filter fun t => !s.drains t.task t.axis)

/-- The Awl the migration pass takes: idle before preemptable, then the lowest engine (R171). -/
def migrationAwl (s : State) (b : Nat) : Option Nat :=
  let l := ((List.range 8).map (8 * b + ·)).filter s.available
  match l.find? fun n => !s.awlBusy n with
  | some n => some n
  | none => l.head?

/-- The token may go to another Awl than its last one (R171). -/
def migratable (s : State) (t : Token) : Bool :=
  !s.eligible (s.lastAwl t.task)
    || (match t.readyAt with | some r => s.rd pgCINCH CINCH.SCHCFG_AFFWAIT ≤ s.nsSince r | none => false)

/-- R171: both passes of a Bench. -/
def dispatchPasses (s : State) (b : Nat) : State :=
  if !s.running pgCINCH then s else
  let s := s.forEach (s.readyTokens b) fun s t => let n := s.lastAwl t.task; if s.available n then s.dispatch t n else s
  s.forEach (s.readyTokens b) fun s t =>
    if s.migratable t then (match s.migrationAwl b with | some n => s.dispatch t n | none => s) else s

/-! ### SERVICE instances (R173–R176) -/

/-- What Cinch keeps for an Awl. -/
def useOf (s : State) (n : Nat) : AwlUse := match s.cinch.use.find? (·.1 = n) with | some e => e.2 | none => {}
/-- Set what Cinch keeps for an Awl. -/
def setUse (s : State) (n : Nat) (u : AwlUse) : State :=
  s.modC fun c => { c with use := (n, u) :: c.use.filter fun e => e.1 ≠ n }

/-- R175: debt + used < BUDGET. -/
def budgetOk (s : State) (n : Nat) : Bool :=
  (s.useOf n).debt + (s.useOf n).used < s.rd (pgCINCHB (n / 8)) (CINCHB.BUDGET_NS (n % 8))

/-- A ready CYCLIC token for this Awl waits. -/
def tokenFor (s : State) (n : Nat) : Bool := (s.readyTokens (n / 8)).any fun t => s.lastAwl t.task == n || s.migratable t

/-- R174: the Awl can take a SERVICE instance: idle, with no preempted instance in its other bank, which resumes first
(notes/assumptions/115.md). -/
def canServe (s : State) (n : Nat) : Bool :=
  s.eligible n && !s.halted n && !s.awlBusy n && !s.otherBusy n && !s.tokenFor n && s.budgetOk n

/-- R174: the order of two queued SERVICE instances: priority, then the one queued first, and those queued at one time by task ID. -/
def svcBefore (s : State) (x y : Svc) : Bool :=
  let prio (v : Svc) : Nat := match s.task v.task with | some d => d.prio | none => 0
  let since (v : Svc) : Nat := match v.queued with | some r => (s.time.raw - r).toNat | none => 0
  if prio x ≠ prio y then prio x < prio y
  else if since x ≠ since y then since y < since x
  else if x.task ≠ y.task then x.task < y.task
  else x.id ≤ y.id

/-- The queued SERVICE instances of a Bench in that order. -/
def svcQueue (s : State) (b : Nat) : List Svc :=
  sortBy s.svcBefore (s.cinch.svcs.filter fun v => v.on.isNone && v.queued.isSome && s.homeOf v.task == b)

/-- R174: dispatch the queued SERVICE instances of a Bench that an Awl can take. -/
def serviceDispatch (s : State) (b : Nat) : State :=
  if !s.running pgCINCH then s else
  s.forEach (s.svcQueue b) fun s v =>
    let ax := (s.task v.task).bind (·.axis)
    if s.drains v.task ax then s else
    let l := ((List.range 8).map (8 * b + ·)).filter s.canServe
    match (if l.contains (s.lastAwl v.task) then some (s.lastAwl v.task) else l.head?) with
    | none => s
    | some n =>
      let (k, s) := s.loadBank n v.task v.cyc true ax
      ((s.modSvc v fun u => { u with on := some (n, k) }).setLast v.task n).forgetOver n k

/-- R174, R183: a preempted SERVICE instance resumes on its own Awl when that Awl has no CYCLIC token to run; while Cinch is
STOPPING without regard to its budget. -/
def serviceResume (s : State) (n : Nat) : State :=
  let k := 1 - (s.awl n).bank
  match s.svcAt n k with
  | none => s
  | some v =>
    if s.running (pgAWL n) && !s.halted n && !s.awlBusy n && !s.tokenFor n
        && (s.st pgCINCH == 4 || (s.running pgCINCH && s.eligible n && s.budgetOk n)) then
      (s.modAwl n fun w => { w with bank := k, qwait := false }).modSvc v fun u => { u with preempted := false }
    else s

/-- R173: release a SERVICE task; merged where an instance of it is queued or running, not where one still waits for its
predecessors. -/
def releaseSvc (s : State) (t : Nat) : State :=
  match s.task t with
  | none => s
  | some d =>
    if s.cinch.svcs.any fun v => v.task == t && (v.queued.isSome || v.on.isSome) then s.bumpE (pgCINCHB d.home) CINCHB.SVCMERGE 1
    else
      let done := (s.cinch.events.filter fun e => e.1 = s.girth.cyc).map (·.2)
      (s.modC fun c => { c with
        svcs := c.svcs ++ [{ task := t, id := c.nextSvc, cyc := s.girth.cyc, waits := d.preds.filter fun p => !done.contains p }]
        nextSvc := c.nextSvc + 1 }).readyScan

/-- A write of SVCTRIG (R173). -/
def svcTrigger (s : State) (t : Nat) : State :=
  match s.task t with
  | some d => if s.running pgCINCH && d.service && decide (t < s.rd pgCINCH CINCH.GRAPHCFG_TASKCNT) then s.releaseSvc t
      else s.bumpE pgCINCH CINCH.TRIGREJ 4
  | none => s.bumpE pgCINCH CINCH.TRIGREJ 4

/-- An abandoned SERVICE instance is counted in SVCABORT of its Awl (R180). -/
def abortSvc (s : State) (v : Svc) : State :=
  let s := s.dropSvc v
  match v.on with
  | some (n, k) => ((s.abandonBank n k).forgetOver n k).bumpE (pgCINCHB (n / 8)) (CINCHB.SVCABORT (n % 8)) 1
  | none => s.bumpE pgCINCH CINCH.SVCDROP 4

/-- R175, R188: at every I0 Cinch settles the budget and the execution time of each Awl of a powered Bench. -/
def settleUse (s : State) : State :=
  s.forEach ((List.range 64).filter fun n => s.pageOn (pgCINCHB (n / 8))) fun s n =>
    let p := pgCINCHB (n / 8)
    let e := n % 8
    let u := s.useOf n
    let budget := s.rd p (CINCHB.BUDGET_NS e)
    let spent := min budget (u.debt + u.used)
    let debt := u.debt + u.used - spent
    let s := s.setUse n { u with used := 0, debt := debt, busy := 0 }
    let s := s.modLedger fun l => { l with svcUsed := l.svcUsed + spent }
    let s := s.bumpByE p (CINCHB.SVCUSED e) spent 1
    let s := s.bumpByE p (CINCHB.SVCLAPSED e) (budget - spent) 1
    let s := s.wr p (CINCHB.DEBT_NS e) (min 0xFFFFF debt)
    let last := min 0xFFFFF u.busy
    let s := s.wr p (CINCHB.BUSYLAST_NS e) last
    let s := s.wr p (CINCHB.BUSYMAX_NS e) (max last (s.rd p (CINCHB.BUSYMAX_NS e)))
    let avg : Int := s.rd p (CINCHB.BUSYAVG_NS e)
    s.wr p (CINCHB.BUSYAVG_NS e) (avg + asrInt ((last : Int) - avg) 4).toNat

/-! ### ENDT, POST and deadlines (R164, R177) -/

/-- Ticks since the I0 of a cycle. -/
def ticksSince (s : State) (c : BitVec 48) : Nat := (s.t64 - s.tI0 c.toNat).toNat / 64

/-- A CYCLIC token of an axis executed ENDT at this tick: the latest of its cycle so far (R188, R199). -/
def noteEnd (s : State) (t : Token) : State :=
  match t.axis with
  | none => s
  | some a => s.modC fun c => { c with
      ends := (a, t.cyc, min 0x3FFFF (s.ticksSince t.cyc)) :: c.ends.filter fun e => !(e.1 == a && e.2.1 == t.cyc) }

/-- A CYCLIC token executed ENDT: DONE or LATE (R177). -/
def endToken (s : State) (t : Token) : State :=
  let s := (s.noteEnd t).dropToken t
  let s := match t.on with | some (n, k) => s.forgetOver n k | none => s
  let s := s.bumpE pgCINCH (if t.late then CINCH.LATE else CINCH.DONE) 4
  let b := s.homeOf t.task
  let tick := min 0xFFFF (s.ticksSince t.cyc)
  let s := s.modLedger fun l =>
    let l := if t.late then { l with late := l.late + 1, firstLate := some (l.firstLate.getD (t.axis.getD 0xFFFF)) } else { l with done := l.done + 1 }
    if some t.cyc = s.cinch.cwCyc then { l with benchEnd := (b, tick) :: l.benchEnd.filter fun e => e.1 ≠ b } else l
  (s.satisfy t.cyc (taskCodes t.task) false).afterToken t

/-- The instance in a bank of an Awl executed ENDT. -/
def endInstance (s : State) (n k : Nat) : State :=
  match s.tokenAt n k, s.svcAt n k with
  | some t, _ => s.endToken t
  | none, some v =>
    ((s.dropSvc v).forgetOver n k).satisfy v.cyc (taskCodes v.task) false
  | none, none => s

/-- The instance in a bank signals stage `j` (R164); a stage already posted has no further effect. -/
def postStage (s : State) (n k j : Nat) : State :=
  match s.tokenAt n k, s.svcAt n k with
  | some t, _ =>
    if t.posted.contains j then s
    else (s.modC fun c => { c with tokens := c.tokens.map fun u =>
        if u.task = t.task ∧ u.cyc = t.cyc then { u with posted := j :: u.posted } else u }).satisfy t.cyc [0x4000 + 0x1000 * j + t.task] false
  | none, some v => s.satisfy v.cyc [0x4000 + 0x1000 * j + v.task] false
  | none, none => s

/-- Tokens go LATE (R177): EVT[0] for each, and OUTFLAGS.LATE of its axis. -/
def goLate (s : State) (ts : List Token) : State :=
  s.forEach ts fun s t =>
    let s := s.modC fun c => { c with tokens := c.tokens.map fun u => if u.task = t.task ∧ u.cyc = t.cyc then { u with late := true } else u }
    let s := s.evt pgCINCH 0
    match t.axis with | some a => s.setLate a true | none => s

/-- R177: the deadline `d` ns of the present cycle begins: every token of it without ENDT goes LATE, and one created later in the cycle
will be LATE from its creation. -/
def deadline (s : State) (d : Nat) : State :=
  if !s.due (d / 4) then s else
  let n := s.girth.cyc
  (s.modC fun c => { c with due := (n, d) :: c.due.filter fun e => e.1 == n && e.2 != d }).goLate
    (if s.cinchActive then s.cinch.tokens.filter fun t => t.cyc == n && !t.late && s.deadlineOf t.task == d else [])

/-- R163: the instance in the active bank passes its BUDGET; counted once. -/
def budgetPassed (s : State) (n : Nat) : State :=
  let k := (s.awl n).bank
  match (s.instOf n k).bind fun i => s.task i.1 with
  | some d =>
    let u := s.useOf n
    if d.budget ≠ 0 ∧ ¬ u.overBanks.contains k then
      (s.setUse n { u with overBanks := k :: u.overBanks }).bumpE (pgCINCHB (n / 8)) (CINCHB.OVERBUD (n % 8)) 1
    else s
  | none => s

/-! ### Losing an Awl, stopping and faulting (R180–R183) -/

/-- R180: Awl `n` has left RUNNING. -/
def awlLost (s : State) (n : Nat) : State :=
  if !s.cinchActive then s else
  let toks := s.cinch.tokens.filter fun t => match t.on with | some (m, _) => m == n | none => false
  let svcs := s.cinch.svcs.filter fun v => match v.on with | some (m, _) => m == n | none => false
  let s := s.skipAll toks
  let s := s.forEach svcs fun s v => s.abortSvc v
  if s.running pgCINCH then
    ((s.faultU pgCINCH 0x3003).evt pgCINCH 2).modLedger fun l => { l with events := l.events ||| 1 }
  else s

/-- SERVICE instances released and not dispatched are dropped (R183). -/
def dropQueued (s : State) : State := s.forEach (s.cinch.svcs.filter fun v => v.on.isNone) fun s v => s.abortSvc v

/-- R183: Cinch enters FAULTED; every started axis has a cause of REST at the next CUTOFF (R21). -/
def cinchFault (s : State) : State :=
  let s := s.forEach s.mapped fun s e => if (s.axis e.1).state.started then s.modAxis e.1 fun x => { x with ownRest := true } else s
  let s := s.skipAll s.cinch.tokens
  let s := s.forEach (s.cinch.svcs.filter fun v => v.on.isSome) fun s v => s.abortSvc v
  (s.dropQueued).setSt pgCINCH 5

/-- R183: RUN of CINCH is cleared. -/
def cinchStop (s : State) : State := (s.skipAll (s.cinch.tokens.filter fun t => t.on.isNone)).dropQueued

/-- R183: no Awl runs a Cinch task. -/
def cinchIdle (s : State) : Bool := s.cinch.tokens.isEmpty && s.cinch.svcs.isEmpty

/-- Cinch starts with a graph (R162, R171): its last Awls are the affinity Awls again.  LEDWR goes on where it stands, be the ring
smaller now (notes/assumptions/116.md). -/
def cinchBegin (s : State) (ts : List Task) : State :=
  { s with cinch := { s.cinch with tasks := ts, tokens := [], svcs := [], lastAwl := [], awlen := [], ledger := {}, cwCyc := none,
                                   ends := [] },
           girth := { s.girth with cinchCyc := s.girth.cyc } }

/-! ### CWSTART (R11, R166) -/

/-- The fields of a ring entry's 32 bytes (R185). -/
def entryOf (d : List Byte) : Entry :=
  { op := fieldAt d 0 1, status := fieldAt d 1 1, axis := fieldAt d 2 2, apply := fieldAt d 4 6, offset := fieldAt d 10 2,
    len := fieldAt d 12 1, rsvd := fieldAt d 13 3, data := slice d 16 16 }

/-- Look at the entry at the head of a ring (R186): false where the ring is empty or its head waits for its APPLY.  An entry that cannot
be read is discarded and counted (R504). -/
def serveEntry (s : State) (b : Nat) : Bool × State :=
  let p := pgCINCHB b
  let head := s.rd p CINCHB.CMDHEAD_INDEX
  if head = s.rd p CINCHB.CMDTAIL_INDEX then (false, s)
  else
    let addr := s.rd p CINCHB.CMDBASE_ADDR * 32 + 32 * head
    let n := s.girth.cinchCyc
    let (bytes, s) := s.fixRead mCinch addr 32
    let advance (s : State) : State := s.wr p CINCHB.CMDHEAD_INDEX ((head + 1) % 2 ^ s.rd p CINCHB.CMDCFG_RINGLOG2)
    match bytes with
    | none => (true, (advance s).cmdCount b 0)
    | some d =>
      let e := entryOf d
      if e.apply ≠ 0 ∧ e.apply > n.toNat then (false, s) else (true, (advance s).cmdTake b (some addr) n e)

/-- Serve at most `k` entries of a Bench's ring (R186). -/
def serveRing (s : State) (b : Nat) : Nat → State
  | 0 => s
  | k + 1 => match s.serveEntry b with | (true, s) => s.serveRing b k | (false, s) => s

/-- R189: the ledger entry of the last cycle. -/
def ledgerEntry (s : State) : State :=
  let l := s.cinch.ledger
  match s.cinch.cwCyc with
  | none => s
  | some c =>
    if !s.on pgCINCH CINCH.LEDCFG_EN then s else
    let bench (b : Nat) : Nat := match l.benchEnd.find? (·.1 = b) with | some e => e.2 | none => 0xFFFF
    let busy (b : Nat) : Nat := min 0xFFFF ((List.range 8).foldl (fun m e => max m (s.rd (pgCINCHB b) (CINCHB.BUSYLAST_NS e) / 4)) 0)
    let i := s.rd pgCINCH CINCH.LEDWR_INDEX
    let bytes := leBytes 6 c.toNat ++ leBytes 2 0 ++ leBytes 2 (min 0xFFFF l.done) ++ leBytes 2 (min 0xFFFF l.late)
      ++ leBytes 2 (min 0xFFFF l.skipped) ++ leBytes 1 (min 255 l.app) ++ leBytes 1 (min 255 l.rej)
      ++ (List.range 8).flatMap (fun b => leBytes 2 (bench b)) ++ (List.range 8).flatMap (fun b => leBytes 2 (busy b))
      ++ leBytes 4 l.svcUsed ++ leBytes 2 (l.firstLate.getD 0xFFFF) ++ leBytes 2 (l.firstSkip.getD 0xFFFF)
      ++ leBytes 4 l.events ++ leBytes 4 0
    (s.fixPut mCinch (s.rd pgCINCH CINCH.LEDBASE_ADDR * 64 + 64 * i) bytes).wr pgCINCH CINCH.LEDWR_INDEX
      ((i + 1) % 2 ^ s.rd pgCINCH CINCH.LEDCFG_SIZE)

/-- R166 step 3: the tokens of the cycle; one whose deadline has already begun is LATE (R177). -/
def createTokens (s : State) : State :=
  let n := s.girth.cinchCyc
  let done := (s.cinch.events.filter fun e => e.1 = n).map (·.2)
  let ids := (List.range s.cinch.tasks.length).filter fun i =>
    match s.task i with
    | some d => !d.service && s.running (pgCINCHB d.home)
        && (match d.axis with | some a => (s.axis a).state.started | none => true)
    | none => false
  let tok (i : Nat) : Token :=
    let d := s.task i
    { task := i, cyc := n, axis := d.bind (·.axis),
      waits := (evPg :: ((match d with | some d => d.preds | none => []).filter (· ≠ evPg))).filter fun p => !done.contains p }
  let new := ids.map tok
  (s.modC fun c => { c with tokens := c.tokens ++ new }).goLate (new.filter fun t => s.cinch.due.contains (n, s.deadlineOf t.task))

/-- R182: a Bench with started axes and no eligible Awl. -/
def benchLost (s : State) : State :=
  s.forEach (List.range 8) fun s b =>
    if (s.mapped.any fun e => e.2.home == b && (s.axis e.1).state.started) && !((List.range 8).any fun e => s.eligible (8 * b + e)) then
      (s.faultU pgCINCH 0x3004).modLedger fun l => { l with events := l.events ||| 2 }
    else s

/-- R178: a task without an axis whose token of two cycles ago is unresolved loses its token of the last cycle. -/
def finishTokens (s : State) : State :=
  let n := s.girth.cinchCyc
  s.skipAll (s.cinch.tokens.filter fun t => t.axis.isNone && t.cyc == n - 1
    && s.cinch.tokens.any fun u => u.task == t.task && u.cyc.toNat + 2 == n.toNat)

/-- What Cinch does at CWSTART while it is RUNNING (R166). -/
def cinchCwstart (s : State) : State :=
  let n := s.girth.cinchCyc
  let s := (s.finishTokens).ledgerEntry
  let s := s.modC fun c => { c with ledger := {}, cwCyc := some n, events := c.events.filter fun e => n.toNat ≤ e.1.toNat,
                                    awlen := (List.range 8).map fun b => (b, s.rd (pgCINCHB b) CINCHB.AWLEN_EN) }
  let s := s.forEach s.mapped fun s e => if (s.axis e.1).late then s.setLate e.1 false else s
  let s := s.forEach (List.range 8) fun s b =>
    if s.running (pgCINCHB b) then s.serveRing b (s.rd (pgCINCHB b) CINCHB.CMDCFG_CMDMAX) else s
  let s := s.satisfy n [evCmd] false
  let s := s.createTokens
  let s := s.forEach ((List.range s.cinch.tasks.length).filter fun i =>
      match s.task i with | some d => d.service && d.rper > 0 && n.toNat % d.rper == d.rphase | none => false) releaseSvc
  let s := (s.benchLost).readyScan
  { s.wr pgGIRTH GIRTH.CTLSTAT_REPORT 1 with girth := { s.girth with report := some n } }

/-- CWSTART: Cinch's part while it is RUNNING, then the engine, started by Girth's schedule whatever the state of Cinch. -/
def cwstart (s : State) : State :=
  let s := s.copiesInstall fun _ => true
  let s := { s.wr pgGIRTH GIRTH.CTLSTAT_REPORT 0 with girth := { s.girth with report := none, cw := some s.girth.cyc } }
  let s := if s.running pgCINCH then s.cinchCwstart else s
  s.engineRun

/-- The engine has ended its work of the cycle: the SP sections are written and predecessor 0x8200 is satisfied (R299). -/
def engineDone (s : State) (ticks : Nat) : State :=
  let s := s.forEach s.mapped fun s e => s.spWrite e.1 e.2
  let s := if s.active pgPG then (s.wr pgPG PG.PGTIME_LAST (min 0xFFFF ticks)).wr pgPG PG.PGTIME_MAX
      (max (min 0xFFFF ticks) (s.rd pgPG PG.PGTIME_MAX)) else s
  if s.cinchActive then s.satisfy s.girth.cyc [evPg] false else s.recordEvent evPg

end State
end Sys2Proof.Machine
end

