-- ==== Sys2Proof/Machine/Awls.lean ====
section
/-! DEFINITION. The issue of one Awl instruction: the checks in the order of R266, stalls and the Bench queue (R212–R217, R537),
effects and visibility (R209–R211), branches, loops and repeats (R252–R264), exceptions (R266–R270) and debug (R271–R273). -/
namespace Sys2Proof.Machine

/-- EDETAIL of a data or fetch error: the space and the local byte address (R268). -/
def localDetail (r : LocalRef) : Nat := 2 ^ 30 * r.space + r.inSpace

/-- The index of the active bank's exception area in X memory (R268). -/
def excArea (k : Nat) : Nat := 0x1F00 + 0x80 * k

/-- The instruction at the PC issues from the repeat buffer (R204, R264): the buffer still holds the body of the bank's tag, the PC lies
in it, and the bank repeats it, as a loop body from its second pass on or by a REDO. -/
def inBuffer (w : Awl) (b : Bank) : Bool :=
  match b.tag with
  | some (x, y) =>
    w.buf == some (x, y) && decide (x ≤ b.pc) && decide (b.pc ≤ y)
      && (b.redo != 0 || (List.range b.lsp).any fun l => b.lsStart l == x && b.lsEnd l == y && !b.first.contains l)
  | none => false

/-- Bank `k` captures a body: it replaces the contents and its tag, and a pass of the other bank is whole no more, unless it is still to
begin (R204, R264). -/
def Awl.capture (w : Awl) (k : Nat) (body : Option (Nat × Nat)) : Awl :=
  match body with
  | none => w
  | some r =>
    let o := w.get (1 - k)
    let w := w.put k { w.get k with tag := some r }
    if w.buf = some r then w else { w.put (1 - k) { o with clean := o.clean.filter fun l => o.lsStart l == o.pc } with buf := some r }

namespace State

/-! ### Local memory and fetch -/

/-- A word of an Awl's local memory as stored. -/
def localWord (s : State) (n off : Nat) : Word := BitVec.ofNat 32 (leToNat (s.bytes (localBase n + off % 0x8000 / 4 * 4) 4))

/-- The value of a local reference as stored. -/
def localVal (s : State) (n : Nat) (r : LocalRef) : Nat := leToNat (s.bytes (localBase n + r.off) r.n)

/-- The length of the instruction at a program address (R235). -/
def lenAt (s : State) (n a : Nat) : Nat := awlLen (s.localWord n (a % 0x4000 / 4 * 4))

/-- Read local words on the Awl's own buses (R39): the first reference with an uncorrectable word. -/
def checkRefs (s : State) (n : Nat) (rs : List LocalRef) : Option LocalRef × State :=
  rs.foldl (fun (r : Option LocalRef × State) x =>
    match r.1 with
    | some _ => r
    | none => let (b, s) := r.2.readMem n (localBase n + x.off) x.n; (if b.isSome then none else some x, s)) (none, s)

/-- The words of the instruction at the PC, fetched unless they issue from the repeat buffer (R204, R266). -/
def fetchCheck (s : State) (n len : Nat) : Option LocalRef × State :=
  let b := s.act n
  if inBuffer (s.awl n) b then (none, s)
  else s.checkRefs n (((List.range (len / 4)).map fun i => ⟨0, (b.pc + 4 * i) % 0x4000 / 4 * 4, 4⟩))

/-! ### Halt and freeze (R271, R340) -/

/-- HALT_N is low: some Awl is halted. -/
def haltLow (s : State) : Bool := (List.range 64).any s.halted

/-- A running Stitch unit with HALTFRZ freezes where it stands (R340). -/
def freezeUnit (s : State) (n : Nat) : State :=
  let p := pgSTITCH n
  if s.running p && s.on p STITCH.UCFG_HALTFRZ && !s.on p STITCH.OUTSTAT_FROZEN then
    ((s.wr p STITCH.OUTSTAT_FROZEN 1).modStitch n fun u => { u with frozenAt := s.t64, thaw := false }).evt p 2
  else s.modStitch n fun u => { u with thaw := false }

/-- HALT_N falls: every unit that is to freeze does. -/
def haltFreeze (s : State) : State := s.forEach (List.range 8) freezeUnit

/-- The Awl halts at an instruction boundary with a reason: it drains, and HALT_N is low (R271). -/
def halt (s : State) (n reason : Nat) : State :=
  let p := pgAWL n
  let s := s.settleBank n (s.awl n).bank true
  let s := s.wr p AWL.DBGSTAT_HALTED 1
  let s := s.wr p AWL.DBGSTAT_REASON reason
  (s.evt p 4).haltFreeze

/-- Writing HALT = 0 resumes a halted Awl; the instruction it halted on executes once without matching again (R271). -/
def unhalt (s : State) (n : Nat) : State :=
  let p := pgAWL n
  if s.halted n then
    let r := s.rd p AWL.DBGSTAT_REASON
    let s := s.wr p AWL.DBGSTAT_HALTED 0
    s.setAct n { s.act n with bpSkip := r == 3 || r == 4 }
  else s

/-- The armed breakpoint that matches the PC, if debug halts are enabled (R271, R277). -/
def breakHit (s : State) (n : Nat) : Option Nat :=
  let p := pgAWL n
  let pc := (s.act n).pc / 4
  if !s.on p AWL.DBGCTL_BKEN || (s.act n).bpSkip then none
  else if s.on p AWL.BP0_EN && s.rd p AWL.BP0_ADDR / 4 == pc then some 3
  else if s.on p AWL.BP1_EN && s.rd p AWL.BP1_ADDR / 4 == pc then some 4
  else none

/-- The Awl can issue: its page is RUNNING, it is not halted and an instance executes in its active bank. -/
def issues (s : State) (n : Nat) : Bool := s.running (pgAWL n) && !s.halted n && s.awlBusy n

/-! ### Exceptions (R266–R270) -/

/-- The Awl leaves RUNNING for another state (R180): its instances are abandoned and Cinch reacts. -/
def awlLeave (s : State) (n st : Nat) : State :=
  let s := (s.setSt (pgAWL n) st).wr (pgAWL n) AWL.DBGSTAT_HALTED 0
  let s := s.modAwl n fun w => { w with stepping := false }
  ((s.abandonBank n 0).abandonBank n 1).awlLost n

/-- R270: no entry; the Awl is FAULTED and its tasks move (R180). -/
def awlFault (s : State) (n cause : Nat) (second : Bool) (a : Nat) : State :=
  ((s.setSt (pgAWL n) 5).fault (pgAWL n) 0x4003 (0x10000 * (a % 0x4000) + b2n second 8 + cause)).awlLeave n 5

/-- Exception entry (R267): `a` is the address of the instruction, `epc` the return address, `arg` the number of TRAP or BKPT.  EBR tells of a
branch that is taken; in a slot of one that is not, it is 0, and after RTE what is left is no delay slot (notes/assumptions/122.md). -/
def exception (s : State) (n cause a epc arg detail : Nat) : State :=
  let p := pgAWL n
  let k := (s.awl n).bank
  let s := if cause = 6 then s.fault p 0x4004 detail else s
  let b := s.act n
  if !s.on p AWL.EXCCFG_EN || b.excm then s.awlFault n cause b.excm a
  else
    let s := s.settleBank n k true
    let b := s.act n
    let ebr := match b.br with | some (slots, some t) => 2 ^ 31 + 0x10000 * (slots % 4) + t | _ => 0
    let words := [epc % 0x4000, b.sr.toNat, 0x100 * arg + cause, detail, b.lsp % 8 + 0x10000 * b.redo, ebr, (b.CR 3).toNat, 0]
    let s := (s.writeMem n (localBase n + 0x4000 + excArea k) (words.flatMap (leBytes 4))).2
    let b := (b.setCR 3 (BitVec.ofNat 32 (excArea k))).setCR 43 0
    let s := s.setAct n { b with redo := 0, br := none, tag := none, clean := [], excm := true, bpSkip := false,
                                 pc := s.rd p AWL.EXCCFG_ENTRY / 4 * 4 }
    let s := s.modAwl n fun w => { w with qwait := false }
    let s := (s.bumpE p AWL.EXCCNT 2).wr p AWL.EXCSTAT_LAST cause
    let s := s.evt p 3
    if s.on p AWL.DBGCTL_EXCHALT then s.halt n 6 else s

/-- A cause of R266 that the instruction at the PC raises before any effect, with its detail; data errors come later.  An END in a delay
slot of a taken branch is LOOPSTR whatever its format (R261). -/
def earlyCause (s : State) (n : Nat) (i : AwlIns) : Option (Nat × Nat) :=
  let b := s.act n
  let word := (s.localWord n b.pc).toNat
  let len := insLen i
  if unencodable i then some (1, word)
  else if b.br.isSome && ((insIsB i && (match i with | .nop | .bkpt _ => false | _ => true)) || (match i with | .waitq _ => true | _ => false)) then
    some (1, word)
  else if i == .rte && !b.excm then some (1, word)
  else match i with
  | .loop _ e =>
    match loopEnd b.pc e with
    | none => some (1, word)
    | some last =>
      if b.lsp = 4 then some (2, 0)
      else if b.lsp > 0 ∧ last > b.lsEnd (b.lsp - 1) then some (3, 0)
      else if b.redo ≠ 0 ∨ b.atEnd b.pc len then some (3, 0) else none
  | _ =>
    if b.redo != 0 && (insIsB i || (match i with | .waitq _ => true | _ => false)) then some (3, 0)
    else if b.atEnd b.pc len && ((insIsB i && (match i with | .nop | .post _ => false | _ => true))
        || (match b.br with | some (_, some _) => true | _ => false)) then some (3, 0)
    else none

/-! ### The Bench queue (R212–R217) -/

/-- An entry of the bank is PENDING. -/
def anyPending (b : Bank) (mask : Nat) : Bool := (List.range 16).any fun k => bitOf mask k && (b.q1 k).st == .pending

/-- The instruction stalls (R213, R214, R216). -/
def stalls (s : State) (n : Nat) (i : AwlIns) : Bool :=
  let b := s.act n
  match i with
  | .ldq q _ _ _ | .stq q _ _ _ | .ldqB q _ _ _ _ | .stqB q _ _ _ _ => (b.q1 q.val).st == .pending
  | .waitq m => anyPending b m.toNat
  | .post _ | .endt => anyPending b 0xFFFF
  | _ => false

/-- R537: errors of the named entries enter SQ as an effect of this instruction. -/
def takeErrors (b : Bank) (mask : Nat) : Bank :=
  let hit := (List.range 16).filter fun k => bitOf mask k && (b.q1 k).err
  let b := hit.foldl (fun b k => b.putQ k { b.q1 k with err := false }) b
  if hit.isEmpty then b else { b with flight := b.flight ++ [⟨1, .sq, 1⟩] }

/-- A violation of its gate freezes an Awl that is STARTING, RUNNING or STOPPING (R70, R469): its instances are abandoned and its tasks move
(R180), unless it has left RUNNING before. -/
def awlFreeze (s : State) (n : Nat) : State :=
  let frozen := s.wr (pgGATE n) GATE.STAT_FROZEN 1
  match s.st (pgAWL n) with
  | 3 => frozen.awlLeave n 6
  | 2 | 4 => frozen.setSt (pgAWL n) 6
  | _ => s

/-- The first 8-byte word of a block, or the whole of a register-form access, that violates the gate (R468): its place and kind. -/
def firstViolation (s : State) (m addr len : Nat) (block write : Bool) : Option (Nat × Nat) :=
  if block then (List.range (len / 8)).findSome? fun i => (s.gateKind m (addr + 8 * i) 8 write).map fun k => (8 * i, k)
  else (s.gateKind m addr len write).map fun k => (0, k)

/-- Post an access to entry `q` (R213, R249): a repost of an uncommitted load discards it, sets SQ and reports 0x4002. -/
def postQueue (s : State) (n q addr len : Nat) (block : Bool) (dest : Option QDest) (data : Option (List Byte)) : State :=
  let p := pgAWL n
  let k := (s.awl n).bank
  let b := takeErrors (s.act n) (2 ^ q)
  let redo := (b.q1 q).st == .done
  let b := if redo then { b with flight := b.flight ++ [⟨1, .sq, 1⟩] } else b
  let s := s.setAct n (b.putQ q { st := .pending, dest := dest })
  let s := if redo then (s.evt p 1).fault p 0x4002 (0x10000 * q + 0x1000 * k) else s
  let (t, ax) := (s.instOf n k).getD (0, none)
  let item : QItem := { bank := k, q := q, addr := addr, n := len, block := block, data := data, task := t, axis := ax,
                        posted := s.time.raw, orphan := false }
  match s.firstViolation n addr len block data.isSome with
  | none => s.modAwl n fun w => { w with fifo := w.fifo ++ [item] }
  | some (off, kind) =>
    let s := if off = 0 then s else s.modAwl n fun w =>
      { w with fifo := w.fifo ++ [{ item with n := off, data := data.map fun d => d.take off }] }
    (s.gateRecord n (addr + off) (accKind (addr + off) (if block then 8 else len) data.isSome) kind).awlFreeze n

/-- The fabric address of a queue instruction (R212, R249): bits below the access width are ignored. -/
def queueAddr (b : Bank) (ak : Fin 8) (off : Imm) (w : Nat) : Nat := (b.AV ak.val + off.v).toNat / w * w

/-- The store data of a register-form STQ (R249). -/
def storeData (b : Bank) : QReg → List Byte
  | .w16 r => leBytes 2 (b.D r.val).toNat
  | .w32 r => leBytes 4 (b.D r.val).toNat
  | .w64 p => leBytes 8 (b.D64 p.val).toNat

/-- The width of a register-form access in bytes. -/
def qWidth : QReg → Nat
  | .w16 _ => 2 | .w32 _ => 4 | .w64 _ => 8

/-- R214: commit one named DONE entry. -/
def commitEntry (s : State) (n k q : Nat) : State :=
  let b := (s.awl n).get k
  let e := b.q1 q
  if e.st ≠ .done then s
  else
    let v := leToNat e.data
    let fl : List Flight := if !e.ok then [] else match e.dest with
      | some (.reg (.w16 r)) => [⟨1, .d r.val, ofSigned 32 (toSigned 16 v)⟩]
      | some (.reg (.w32 r)) => [⟨1, .d r.val, v⟩]
      | some (.reg (.w64 p)) => Bank.pairFlights 1 p.val (BitVec.ofNat 64 v)
      | some (.block a len) =>
        (List.range (len / 4)).map fun i => ⟨1, .mem (0x2000 * (a / 0x2000) + (a + 4 * i) % 0x2000), fieldAt e.data (4 * i) 4⟩
      | none => []
    s.modAwl n fun w => w.put k { (b.putQ q {}) with flight := b.flight ++ fl }

/-- Complete the named entries of a bank's WAITQ (R214). -/
def commit (s : State) (n k mask : Nat) : State :=
  s.forEach ((List.range 16).filter fun q => bitOf mask q) fun s q => s.commitEntry n k q

/-! ### The next instruction (R252–R263) -/

/-- The address after the instruction that occupies a body's last word, walking from its first (R260 step 3). -/
def afterBody (s : State) (n last : Nat) : Nat → Nat → Nat
  | 0, _ => (last + 4) % 0x4000
  | fuel + 1, a =>
    let len := s.lenAt n a
    if a = last ∨ (len = 8 ∧ (a + 4) % 0x4000 = last) then (a + len) % 0x4000 else s.afterBody n last fuel ((a + len) % 0x4000)

/-- A repeat count read at issue (R255). -/
def countOf (b : Bank) : Count → Nat
  | .imm n => n.toNat
  | .reg r => (b.D r.val).toNat % 0x10000

/-- The PC and the flow state after an instruction has issued at `a` with length `len`: repetition, END test, delay slots. -/
def advance (s : State) (n a len : Nat) (i : AwlIns) : State :=
  let w := s.awl n
  let b := w.act
  let next := (a + len) % 0x4000
  let flow : Nat × Nat × Nat × Bank := match i with
    | .loop c e =>
      let last := (loopEnd a e).getD a
      let cnt := countOf b c
      if cnt = 0 then (s.afterBody n last 4096 next, a, len, b)
      else
        let l := b.lsp
        let b := (((b.setCR (44 + l) (BitVec.ofNat 32 next)).setCR (48 + l) (BitVec.ofNat 32 last)).setCR (52 + l)
          (BitVec.ofNat 32 cnt)).setCR 43 (BitVec.ofNat 32 (l + 1))
        (next, a, len, { b with clean := l :: b.clean.filter (· ≠ l), first := l :: b.first.filter (· ≠ l) })
    | .redo c =>
      let cnt := countOf b c
      if cnt = 0 then
        let l2 := s.lenAt n next
        ((next + l2) % 0x4000, next, l2, b)
      else (next, a, len, { b with redo := cnt })
    | _ => (next, a, len, b)
  let (next, ta, tlen, b) := flow
  let rep := w.act.redo ≠ 0
  let taken := match w.act.br with | some (_, some _) => true | _ => false
  let own := if rep ∧ ¬ inBuffer w w.act then some (a, (a + len - 4) % 0x4000) else none
  let b : Bank := { b with redo := if rep then b.redo - 1 else b.redo, clean := if taken then [] else b.clean }
  let (next, b, cap) :=
    if rep ∧ b.redo ≠ 0 then (a, b, own)
    else if w.act.atEnd ta tlen then b.endTest next b.lsp own else (next, b, own)
  let (next, b) := match w.act.br with
    | some (slots, t) =>
      if slots ≤ 1 then
        (match t with | some t => (t, { b with br := none, clean := [] }) | none => (next, { b with br := none }))
      else (next, { b with br := some (slots - 1, t) })
    | none => (next, b)
  s.modAwl n fun w => (w.put w.bank { b with pc := next }).capture w.bank cap

/-- The branch an instruction sets up (R252, R253). -/
def branchOf (b : Bank) (a : Nat) : AwlIns → Option (Nat × Option Nat)
  | .br c off => some (2, if condTrue c b.sr then some (((a : Int) + 4 * toSigned 13 off.toNat) % 16384).toNat else none)
  | .call _ off => some (2, some (((a : Int) + 4 * toSigned 13 off.toNat) % 16384).toNat)
  | .jmp c d => some (2, if condTrue c b.sr then some ((b.D d.val).toNat % 0x4000 / 4 * 4) else none)
  | _ => none

/-- The result of CALL: the address after its second delay slot (R253). -/
def linkOf (s : State) (n a : Nat) : Nat :=
  let s1 := (a + 4) % 0x4000
  let s2 := (s1 + s.lenAt n s1) % 0x4000
  (s2 + s.lenAt n s2) % 0x4000

/-! ### ENDT and RTE -/

/-- ENDT (R216, R231, R251, R269): the instance ends and the bank returns to Cinch. -/
def endt (s : State) (n : Nat) : State :=
  let p := pgAWL n
  let k := (s.awl n).bank
  let s := (s.setAct n (takeErrors (s.act n) 0xFFFF)).settleBank n k true
  let b := s.act n
  let s := s.setAct n { b with q := [], excm := false, br := none, redo := 0 }
  let s := s.setReg p AWL.ENDSR b.sr
  let s := s.setReg p AWL.ENDCTX b.ctx
  let s := s.setReg p AWL.STICKY (s.reg p AWL.STICKY ||| ((b.sr >>> 4) &&& 7))
  s.endInstance n k

/-- RTE (R269): the state of the frame as it stands in memory. -/
def rte (s : State) (n : Nat) : State :=
  let k := (s.awl n).bank
  let area := 0x4000 + excArea k
  let s := s.settleBank n k true
  let a := (s.act n).pc
  let (bad, s) := s.checkRefs n ((List.range 7).map fun i => ⟨1, area + 4 * i, 4⟩)
  match bad with
  | some r => s.exception n 6 a a 0 (localDetail r)
  | none =>
    let f (i : Nat) : Word := s.localWord n (area + 4 * i)
    let ebr := (f 5).toNat
    let slots := bitsOf ebr 17 16
    let b := s.act n
    let b := (b.setCR 43 (crValue 43 (f 4 &&& 7))).setCR 3 (f 6)
    s.setAct n { b with sr := f 1 &&& srMask, pc := (f 0).toNat % 0x4000, redo := bitsOf (f 4).toNat 31 16,
                        br := if bitOf ebr 31 ∧ slots ≠ 0 then some (slots, some (ebr % 0x4000)) else none,
                        excm := false, tag := none, clean := [] }

/-! ### Issue -/

/-- Post, then move on; a frozen Awl issues no more. -/
def postThen (s : State) (n a : Nat) (i : AwlIns) (q addr width : Nat) (block : Bool) (dest : Option QDest)
    (data : Option (List Byte)) : State :=
  let s := s.postQueue n q addr width block dest data
  if s.running (pgAWL n) then (s.advance n a (insLen i) i).settleBank n (s.awl n).bank false else s

/-- The effects of an instruction that neither stalls nor raises an exception before its data are read. -/
def perform (s : State) (n : Nat) (i : AwlIns) : State :=
  let p := pgAWL n
  let w := s.awl n
  let k := w.bank
  let b := w.act
  let a := b.pc
  let len := insLen i
  let next := (a + len) % 0x4000
  let (bad, s) := s.checkRefs n (b.refs i)
  match bad with
  | some r => s.exception n 6 a a 0 (localDetail r)
  | none =>
    let inBuf := inBuffer w b
    let s := s.bumpE p AWL.INSTR 2
    let s := if Bank.readsCoef i && !inBuf then s.bumpE p AWL.COEFSTALL 2 else s
    let s := (s.modAwl n fun w => { w with qwait := false }).setAct n { s.act n with bpSkip := false }
    let fl := b.effects (s.localVal n) (s.t64.truncate 32) k i
    let put (s : State) (fl : List Flight) : State := s.setAct n { s.act n with flight := (s.act n).flight ++ fl }
    match i with
    | .endt => s.endt n
    | .rte => s.rte n
    | .trap x => (s.settleBank n k false).exception n 4 a next x.toNat 0
    | .bkpt x =>
      let s := ((s.modAwl n fun w => { w with bkpt := some x }).advance n a len i).settleBank n k false
      if s.on p AWL.DBGCTL_BKEN then s.halt n 2 else s.exception n 5 a (s.act n).pc x.toNat 0
    | .br _ _ | .jmp _ _ =>
      let br := branchOf b a i
      let s := (s.advance n a len i).settleBank n k false
      s.setAct n { s.act n with br := br }
    | .call d _ =>
      let br := branchOf b a i
      let s := ((put s [⟨1, .d d.val, s.linkOf n a⟩]).advance n a len i).settleBank n k false
      s.setAct n { s.act n with br := br }
    | .post j =>
      let s := ((s.setAct n (takeErrors (s.act n) 0xFFFF)).advance n a len i).settleBank n k false
      s.postStage n k j.val
    | .waitq m =>
      let s := (s.setAct n (takeErrors (s.act n) m.toNat)).commit n k m.toNat
      (s.advance n a len i).settleBank n k false
    | .ldq q r ak off =>
      s.postThen n a i q.val (queueAddr b ak off (qWidth r)) (qWidth r) false (some (.reg r)) none
    | .stq q r ak off =>
      s.postThen n a i q.val (queueAddr b ak off (qWidth r)) (qWidth r) false none (some (storeData b r))
    | .ldqB q am ak off m =>
      s.postThen n a i q.val (queueAddr b ak off 8) (8 * (m.val + 1)) true
        (some (.block (localAddr am.val (b.AV am.val) 8) (8 * (m.val + 1)))) none
    | .stqB q am ak off m =>
      s.postThen n a i q.val (queueAddr b ak off 8) (8 * (m.val + 1)) true none
        (some ((b.blockRefs am.val (m.val + 1)).flatMap fun r => leBytes 8 (s.localVal n r)))
    | _ => ((put s fl).advance n a len i).settleBank n k false

/-- Issue an instruction at the PC of an Awl: fetch, the causes of R266, the stall, then its effects. -/
def issueIns (s : State) (n : Nat) (i : AwlIns) : State :=
  if !s.issues n then s
  else match s.breakHit n with
  | some r => s.halt n r
  | none =>
    let a := (s.act n).pc
    let (bad, s) := s.fetchCheck n (insLen i)
    match bad with
    | some r => s.exception n 6 a a 0 (localDetail r)
    | none =>
      match s.earlyCause n i with
      | some (c, d) => s.exception n c a a 0 d
      | none => if s.stalls n i then s.modAwl n fun w => { w with qwait := true } else s.perform n i

/-- A step that has issued halts again, with REASON 5 (R272). -/
def stepEnd (s : State) (n : Nat) : State :=
  let w := s.awl n
  if w.stepping && !w.qwait then
    let s := s.modAwl n fun w => { w with stepping := false }
    if s.halted n then s.wr (pgAWL n) AWL.DBGSTAT_REASON 5 else if s.running (pgAWL n) then s.halt n 5 else s
  else s

/-- Issue an instruction, and end the step it may be. -/
def issue (s : State) (n : Nat) (i : AwlIns) : State := (s.issueIns n i).stepEnd n

/-- A reserved encoding is issued: the illegal-instruction exception, unless its fetch fails first (R257, R266). -/
def issueReserved (s : State) (n : Nat) (w : Word) : State :=
  (if !s.issues n then s
  else match s.breakHit n with
  | some r => s.halt n r
  | none =>
    let a := (s.act n).pc
    let (bad, s) := s.fetchCheck n (awlLen w)
    match bad with
    | some r => s.exception n 6 a a 0 (localDetail r)
    | none => s.exception n 1 a a 0 w.toNat).stepEnd n

/-- Issue whatever word stands at the PC. -/
def issueWord (s : State) (n : Nat) (w ext : Word) : State :=
  match awlDecode w ext with
  | some i => s.issue n i
  | none => s.issueReserved n w

/-- The row ILLEGAL_INSTRUCTION: a word that is reserved where it stands (R257). -/
def illegalWord (s : State) (n : Nat) (w ext : Word) : State :=
  match awlDecode w ext with
  | none => s.issueReserved n w
  | some (.loop _ e) => if (loopEnd (s.act n).pc e).isNone then s.issueReserved n w else s
  | some _ => s

/-! ### Debug (R271–R273) -/

/-- A step (R272): one instruction of a halted Awl, then a halt with reason 5. -/
def debugStep (s : State) (n : Nat) : State :=
  let p := pgAWL n
  if !s.halted n || !s.running p then s
  else
    let pc := (s.act n).pc
    let w := s.localWord n pc
    let x := s.localWord n ((pc + 4) % 0x4000)
    let s := (s.wr p AWL.DBGSTAT_HALTED 0).modAwl n fun w => { w with stepping := true }
    (s.setAct n { s.act n with bpSkip := true }).issueWord n w x

/-- A word of an accumulator for the debugger (R273). -/
def accWord (e : BitVec 72) (i : Nat) : Word :=
  match i with | 0 => e.extractLsb' 0 32 | 1 => e.extractLsb' 32 32 | _ => (e.extractLsb' 64 8).zeroExtend 32

/-- The accumulator with one of its words replaced. -/
def accPut (e : BitVec 72) (i : Nat) (v : Word) : BitVec 72 :=
  match i with
  | 0 => e.extractLsb' 32 40 ++ v
  | 1 => e.extractLsb' 64 8 ++ v ++ e.extractLsb' 0 32
  | _ => v.truncate 8 ++ e.extractLsb' 0 64

/-- The register DBGRSEL selects (R273); 0 while the Awl is not halted. -/
def debugRead (s : State) (n : Nat) : Word :=
  let p := pgAWL n
  if !s.halted n then 0
  else
    let k := s.rd p AWL.DBGRSEL_BANK
    let r := s.rd p AWL.DBGRSEL_REG
    let b := (s.awl n).get k
    if r ≤ 55 then b.readCR (s.t64.truncate 32) (s.awl n).bank r
    else if 64 ≤ r ∧ r ≤ 79 then b.D (r - 64)
    else if 80 ≤ r ∧ r ≤ 91 then accWord (b.EV ((r - 80) / 3)) ((r - 80) % 3)
    else if r = 92 then BitVec.ofNat 32 b.pc
    else if r = 93 then BitVec.ofNat 32 (b2n b.excm 0)
    else 0

/-- A write of DBGRDATA (R273): refused while the Awl is not halted. -/
def debugWrite (s : State) (n : Nat) (v : Word) : State :=
  let p := pgAWL n
  if !s.halted n then s.cfgRej p
  else
    let k := s.rd p AWL.DBGRSEL_BANK
    let r := s.rd p AWL.DBGRSEL_REG
    let set (f : Bank → Bank) : State := s.modAwl n fun w => w.put k (f (w.get k))
    if r = 38 then set fun b => { b with sr := v &&& srMask }
    else if crReadOnly r then s
    else if r ≤ 55 then set fun b => b.setCR r (crValue r v)
    else if 64 ≤ r ∧ r ≤ 79 then set fun b => b.putD (r - 64) v
    else if 80 ≤ r ∧ r ≤ 91 then
      set fun b =>
        let a := (r - 80) / 3
        (b.putE a (accPut (b.EV a) ((r - 80) % 3) v)).putEV a (accPut (b.EV a) ((r - 80) % 3) v)
    else if r = 92 then set fun b => { b with pc := v.toNat % 0x4000 }
    else if r = 93 then set fun b => { b with excm := v.getLsbD 0 }
    else s

end State
end Sys2Proof.Machine
end

