-- ==== Sys2Proof/Machine/Stitch.lean ====
section
/-! DEFINITION. Stitch units (R329–R345): edge sources, dead time, periods and compares, refresh, trips, safe torque off, the debug
freeze and the auxiliary compare channels.  The commands that name an instant of the unit's period (a compare time, the end of a dead
time) come at that instant. -/
namespace Sys2Proof.Machine

/-- The state R99 gives a switch at period time `t`. -/
def edgeState (rise fall t : Nat) : Bool :=
  if rise < fall then decide (rise ≤ t) && decide (t < fall) else if rise > fall then decide (t < fall) || decide (rise ≤ t) else false

/-- The set an EDGESET spells; byte 13 bits [4:2] are OFFC, OFFB, OFFA (R98). -/
def edgeSet (o : List Byte) : EdgeSet :=
  { rise := (List.range 3).map fun i => fieldAt o (4 * i) 2, fall := (List.range 3).map fun i => fieldAt o (4 * i + 2) 2,
    off := bitsOf (fieldAt o 13 1) 4 2 }

namespace State

def freeMode (s : State) (n : Nat) : Bool := s.on (pgSTITCH n) STITCH.UCFG_MODE
def frozen (s : State) (n : Nat) : Bool := s.on (pgSTITCH n) STITCH.OUTSTAT_FROZEN

/-- The set whose edges the unit follows: LEGA–LEGC and LEGOFF in FREE mode, the loaded set in AXIS mode. -/
def edgesOf (s : State) (n : Nat) : EdgeSet :=
  let p := pgSTITCH n
  if s.freeMode n then
    { rise := [s.rd p STITCH.LEGA_RISE, s.rd p STITCH.LEGB_RISE, s.rd p STITCH.LEGC_RISE],
      fall := [s.rd p STITCH.LEGA_FALL, s.rd p STITCH.LEGB_FALL, s.rd p STITCH.LEGC_FALL], off := s.rd p STITCH.LEGOFF_OFF }
  else (s.stitch n).set

/-- The ideal signals at period time `t` under R99. -/
def idealAt (s : State) (n t : Nat) : Nat :=
  let e := s.edgesOf n
  (List.range 3).foldl (fun h x => h + b2n (edgeState (e.rise.getD x 0) (e.fall.getD x 0) t) x) 0

/-- Leg `x` is forced off: not RUNNING, not enabled, the fail-silent sequence, the trip latch, R339, REST, or its OFF bit. -/
def legOff (s : State) (n x : Nat) : Bool :=
  let p := pgSTITCH n
  !s.running p || s.fatal || !bitOf (s.rd p STITCH.UCFG_LEGEN) x || s.on p STITCH.OUTSTAT_TRIPOFF || s.on p STITCH.OUTSTAT_STOOFF
    || (!s.freeMode n && (s.stitch n).rest) || bitOf (s.edgesOf n).off x

/-- The signal of leg `x` with refresh. -/
def legH (s : State) (n x : Nat) : Bool := bitOf (s.stitch n).h x && !bitOf (s.stitch n).refresh x

/-- The levels of a leg's outputs after a change of its signal or of a cause that forces it off (R331): the switch against the
signal goes off at once, the other turns on at once only without dead time. -/
def legLevels (s : State) (n x out : Nat) : Nat :=
  let dt0 := decide (s.rd (pgSTITCH n) STITCH.DT_NS = 0)
  if s.legOff n x then 0
  else if s.legH n x then b2n (bitOf out (2 * x) || dt0) (2 * x)
  else b2n (bitOf out (2 * x + 1) || dt0) (2 * x + 1)

/-- The outputs follow; a frozen unit holds its levels, but for the trip path and R339 (R335, R340). -/
def settleOut (s : State) (n : Nat) : State :=
  let p := pgSTITCH n
  let out := s.rd p STITCH.OUTSTAT_OUT
  let keep := s.frozen n && s.running p && !s.fatal && !s.on p STITCH.OUTSTAT_TRIPOFF && !s.on p STITCH.OUTSTAT_STOOFF
  let s := if keep then s else s.wr p STITCH.OUTSTAT_OUT ((List.range 3).foldl (fun o x => o + s.legLevels n x out) 0)
  s.modStitch n fun u => { u with full := (List.range 3).foldl (fun m x => if s.legOff n x || !s.legH n x then withoutBit m x else m) u.full }

/-- The channel is RUNNING as an input. -/
def anaIn (s : State) (n : Nat) : Bool := s.running (pgAXCH n) && !s.on (pgAXCH n) AXCH.CFG_DIR

/-- A conversion starts. -/
def beginConv (s : State) (n : Nat) (k : ConvKind) : State := s.modAna n fun a => { a with conv := some k, convAt := s.time.raw }

/-- The auxiliary channel that analog channel `n` names by XUNIT and XSEL became active at this tick, and the channel has not met that
activation yet (R363). -/
def auxDue (s : State) (n : Nat) : Bool :=
  let p := pgAXCH n
  let k := s.rd p AXCH.CFG_XSEL
  s.anaIn n && k != 0 && (s.stitch (s.rd p AXCH.CFG_XUNIT)).xOn.contains (k - 1, s.time.raw)
    && s.on (pgSTITCH (s.rd p AXCH.CFG_XUNIT)) (STITCH.XSTAT_ACTIVE (k - 1)) && (s.ana n).xAt != some s.time.raw

/-- AUXILIARY_CONVERSION (R363): an activation starts a conversion, or is dropped while any conversion runs; it takes the place of a
continuous slot of its tick. -/
def auxConversion (s : State) (n : Nat) : State :=
  let p := pgAXCH n
  if !s.auxDue n then s
  else
    let s := s.modAna n fun a => { a with xAt := some s.time.raw }
    let a := s.ana n
    if a.conv.isSome && !(decide (a.conv = some .cont) && decide (a.convAt = s.time.raw)) then (s.bumpE p AXCH.XDROP 2).evt p 1
    else s.beginConv n .aux

/-- Auxiliary channel `k` becomes active at this tick, unless it was: the analog channels that name it convert (R363). -/
def auxActivate (s : State) (unit k : Nat) : State :=
  let p := pgSTITCH unit
  if s.on p (STITCH.XSTAT_ACTIVE k) then s
  else
    let s := (s.wr p (STITCH.XSTAT_ACTIVE k) 1).modStitch unit fun u => { u with xOn := (k, s.time.raw) :: u.xOn.filter (·.1 ≠ k) }
    s.forEach (List.range 16) auxConversion

/-- An auxiliary compare channel is active: a Stamp unit that names it has seen it (R405). -/
def noteAux (s : State) (unit k : Nat) : State :=
  s.forEach (List.range 16) fun s n =>
    let p := pgSTAMP n
    if s.running p && s.rd p STAMP.EXTCFG_XKIND == 2 && s.rd p STAMP.EXTCFG_XIDX == 4 * unit + k then
      s.modStamp n fun u => { u with extSeen := true } else s

/-- The unit's signals change at T64 `t`: an EDGE channel that watches a leg whose h changed is active for XLEN ns from there (R341),
and the outputs follow. -/
def moveLegs (s : State) (n : Nat) (t : BitVec 64) (f : Stitch → Stitch) : State :=
  let p := pgSTITCH n
  let s' := s.modStitch n f
  let moved := (List.range 3).foldl (fun m x => m + b2n (s.legH n x != s'.legH n x) x) 0
  let s := s'.forEach (List.range 4) fun s k =>
    let len := s.rd p (STITCH.XLEN_NS k)
    if s.running p && s.on p (STITCH.XCFG_XMODE k) && decide (len ≠ 0) && decide (s.rd p (STITCH.XCFG_XLEGS k) &&& moved ≠ 0) then
      ((s.modStitch n fun u => { u with xEnd := (k, t + BitVec.ofNat 64 (16 * len)) :: u.xEnd.filter (·.1 ≠ k) }).auxActivate n k).noteAux n k
    else s
  s.settleOut n

/-- The length of the running period in ns. -/
def periodNs (s : State) (n : Nat) : Nat := s.rd (pgSTITCH n) STITCH.PERNOW_TICKS * 4

/-! ### Trips and auxiliary channels (R335–R338, R341) -/

/-- Blanking applies: the channel TRIPCFG.BLANK names is active. -/
def blanked (s : State) (n : Nat) : Bool :=
  let b := s.rd (pgSTITCH n) STITCH.TRIPCFG_BLANK
  1 ≤ b && b ≤ 4 && s.on (pgSTITCH n) (STITCH.XSTAT_ACTIVE (b - 1))

/-- The trip latch of the unit is set: its started axis has a cause of REST (R338). -/
def latchTrip (s : State) (n : Nat) : State :=
  (s.wr (pgSTITCH n) STITCH.TRIPSTAT_LATCH 1).markRest fun m => match m.place with | .lx k => k == n | _ => false

/-- The trip latch is set where a selected filtered input is active and unblanked. -/
def tripJudge (s : State) (n : Nat) : State :=
  let p := pgSTITCH n
  let live := s.rd p STITCH.TRIPSTAT_LIVE
  if live = 0 || s.blanked n || s.on p STITCH.TRIPSTAT_LATCH then s
  else
    let s := (s.latchTrip n).wr p STITCH.TRIPSTAT_SRC live
    let s := (s.wr p STITCH.OUTSTAT_TRIPOFF 1).settleOut n
    ((s.bumpE p STITCH.TRIPS 3).fault p 0x6001 live).evt p 0

/-- The filtered selected inputs that are active (R335): FILT + 1 samples in a row at the level ACTHI names. -/
def tripLive (s : State) (n : Nat) : Nat :=
  let p := pgSTITCH n
  let active (i : Nat) : Bool := match (s.stitch n).trip.find? (·.1 = i) with
    | some (_, lev, run) => lev == bitOf (s.rd p STITCH.TRIPCFG_ACTHI) i && decide (s.rd p STITCH.TRIPCFG_FILT < run)
    | none => false
  (List.range 8).foldl (fun m i => m + b2n (active i) i) 0 &&& s.rd p STITCH.TRIPCFG_SEL

/-- A clear request is refused (R337). -/
def clearRefuse (s : State) (n : Nat) : State :=
  let p := pgSTITCH n
  let s := (s.wr p STITCH.TRIPSTAT_TRIPACT 1).bumpE p STITCH.CLRREF 3
  (s.fault p 0x6002 (s.rd p STITCH.TRIPSTAT_LIVE)).evt p 1

/-- The inputs are judged: LIVE follows, and the latch.  An input that becomes active in the tick of a granted clear makes it a refused
one (R343). -/
def tripEval (s : State) (n : Nat) : State :=
  let p := pgSTITCH n
  let live := s.tripLive n
  let s := s.wr p STITCH.TRIPSTAT_LIVE live
  if live ≠ 0 ∧ (s.stitch n).cleared = some s.time.raw then
    (((s.latchTrip n).wr p STITCH.OUTSTAT_TRIPOFF 1).modStitch n fun u => { u with cleared := none }).settleOut n
      |>.clearRefuse n
  else s.tripJudge n

/-- TRIP_INPUT: `k` further TCLK samples of the pins TRIP0–TRIP7 at these levels (R335). -/
def tripInput (s : State) (n levels k : Nat) : State :=
  if !s.pageOn (pgSTITCH n) then s
  else
    let sample (u : Stitch) (i : Nat) : Nat × Bool × Nat :=
      match u.trip.find? (·.1 = i) with
      | some (_, lev, run) => (i, bitOf levels i, if lev == bitOf levels i then min 256 (run + k) else min 256 k)
      | none => (i, bitOf levels i, min 256 k)
    (s.modStitch n fun u => { u with trip := (List.range 8).map (sample u) }).tripEval n

/-- Channel `k` becomes active or inactive; where the blanking channel becomes inactive the inputs are judged (R336). -/
def setAux (s : State) (n k : Nat) (active : Bool) : State :=
  let p := pgSTITCH n
  if active then (s.auxActivate n k).noteAux n k
  else
    let s := s.wr p (STITCH.XSTAT_ACTIVE k) 0
    if s.rd p STITCH.TRIPCFG_BLANK == k + 1 then s.tripJudge n else s

/-- AUX_CHANNEL_ACTIVATE: the period time reaches `t` ns.  In FIXED mode START makes the channel active and END inactive, by the rules of
R333; in EDGE mode it becomes inactive once its XLEN ns have passed (R341). -/
def auxChannel (s : State) (n k t : Nat) : State :=
  let p := pgSTITCH n
  let u := s.stitch n
  if !s.running p || s.frozen n || k ≥ 4 then s
  else if s.on p (STITCH.XCFG_XMODE k) then
    match u.xEnd.find? (·.1 = k) with
    | some e => if s.on p (STITCH.XSTAT_ACTIVE k) && geT64 (s.t64 + 63) e.2 then s.setAux n k false else s
    | none => s
  else if t ≥ 4 * s.rd p STITCH.PERNOW_TICKS || u.wrote.contains (3 + k, s.time.raw) then s
  else if s.rd p (STITCH.XCMP_END k) = t then s.setAux n k false
  else if s.rd p (STITCH.XCMP_START k) = t then s.setAux n k true
  else s

/-- BLANK_WINDOW_END: the blanking channel's time is over (R336). -/
def blankEnd (s : State) (n : Nat) : State :=
  let b := s.rd (pgSTITCH n) STITCH.TRIPCFG_BLANK
  if 1 ≤ b ∧ b ≤ 4 then s.auxChannel n (b - 1) (s.rd (pgSTITCH n) (STITCH.XCMP_END (b - 1))) else s

/-- TRIP_CLEAR: a clear request, judged on the filtered inputs without blanking (R337). -/
def tripClear (s : State) (n : Nat) : State :=
  let p := pgSTITCH n
  if !s.on p STITCH.TRIPSTAT_LATCH then s
  else if s.rd p STITCH.TRIPSTAT_LIVE = 0 then
    (s.wr p STITCH.TRIPSTAT_LATCH 0).modStitch n fun u => { u with cleared := some s.time.raw }
  else s.clearRefuse n

/-! ### Periods, compares, dead time -/

/-- Count the full periods of each leg and insert a refresh where N is reached (R334). -/
def refreshLegs (s : State) (n full : Nat) : State :=
  let p := pgSTITCH n
  let lim := s.rd p STITCH.REFRESH_N
  let onW := decide (lim ≠ 0) && decide (s.rd p STITCH.REFRESH_W ≠ 0)
  s.forEach (List.range 3) fun s x =>
    let u := s.stitch n
    let c := if bitOf full x && onW then (match u.fullCnt.find? (·.1 = x) with | some e => e.2 | none => 0) + 1 else 0
    let ins := onW && decide (lim ≤ c)
    let s := s.setStitch n { u with fullCnt := (x, if ins then 0 else c) :: u.fullCnt.filter (·.1 ≠ x),
                                    refresh := if ins then withBit u.refresh x else withoutBit u.refresh x }
    if ins then s.bumpE p STITCH.REFRESHES 3 else s

/-- The STO group bit of the unit demands torque off (R339). -/
def stoDemand (s : State) (n : Nat) : Bool :=
  let p := pgSTITCH n
  s.on p STITCH.UCFG_STOEN && !bitOf (s.reg pgSTO STO.SENT).toNat (s.rd p STITCH.UCFG_STOGRP)

/-- PERIOD as the period that begins now takes it: the value in force at the tick before (R332). -/
def periodTaken (s : State) (n : Nat) : Nat :=
  match (s.stitch n).perOld with
  | some (r, v) => if r = s.time.raw then v else s.rd (pgSTITCH n) STITCH.PERIOD_TICKS
  | none => s.rd (pgSTITCH n) STITCH.PERIOD_TICKS

/-- The auxiliary channels in FIXED mode at a period start (R341). -/
def auxPeriod (s : State) (n : Nat) : State :=
  let p := pgSTITCH n
  s.forEach ((List.range 4).filter fun k => !s.on p (STITCH.XCFG_XMODE k)) fun s k =>
    s.setAux n k (edgeState (s.rd p (STITCH.XCMP_START k)) (s.rd p (STITCH.XCMP_END k)) 0)

/-- A period begins (R330, R332, R333 rule 1, R334): its length, the leg signals, releases after a trip, R339 and a freeze. -/
def beginPeriod (s : State) (n : Nat) : State :=
  let p := pgSTITCH n
  if s.frozen n && !((s.stitch n).thaw && !s.haltLow) then s
  else
    let free := s.freeMode n
    let s := s.wr p STITCH.OUTSTAT_FROZEN 0
    let full := if free then (s.stitch n).full else (s.stitch n).fullEnd
    let s := s.wr p STITCH.PERNOW_TICKS (if free then s.periodTaken n else s.perdiv * s.tc)
    let s := if s.on p STITCH.TRIPSTAT_LATCH then s else s.wr p STITCH.OUTSTAT_TRIPOFF 0
    let s := s.wr p STITCH.OUTSTAT_STOOFF (if s.stoDemand n then 1 else 0)
    let start := if free then s.t64 else s.tI0 s.cyc
    let was := s.stitch n
    let s := s.modStitch n fun u => { u with thaw := false, start := start }
    let s := s.refreshLegs n full
    let new := s.stitch n
    let s := s.setStitch n { new with refresh := was.refresh }
    let s := s.moveLegs n start fun u => { u with h := if free then s.idealAt n 0 else u.h, refresh := new.refresh }
    let s := s.modStitch n fun u => { u with full := 7 }
    (s.settleOut n).auxPeriod n

/-- PERIOD_START: of a RUNNING unit; in AXIS mode only at an I0 whose CYC is a multiple of PERDIV. -/
def periodStart (s : State) (n : Nat) : State :=
  if s.running (pgSTITCH n) && (s.freeMode n || decide (s.cyc % s.perdiv = 0)) then s.beginPeriod n else s

/-- COMPARE_MATCH: the period time reaches `t` ns (R99, R333): RISE sets the signal, FALL clears it; a refresh ends at W.  A compare
written in this tick does not fire in it. -/
def compareMatch (s : State) (n t : Nat) : State :=
  let p := pgSTITCH n
  if !s.running p || s.frozen n || t ≥ s.periodNs n then s
  else
    let e := s.edgesOf n
    let u := s.stitch n
    let late (x : Nat) : Bool := s.freeMode n && u.wrote.contains (x, s.time.raw)
    s.moveLegs n (u.start + BitVec.ofNat 64 (16 * t)) fun u => { u with
      h := (List.range 3).foldl (fun h x =>
        if late x then h else if e.fall.getD x 0 = t then withoutBit h x else if e.rise.getD x 0 = t then withBit h x else h) u.h,
      refresh := if s.rd p STITCH.REFRESH_W ≤ t then 0 else u.refresh }

/-- DEAD_TIME_END: the signal of leg `x` has been steady for DT, and its switch turns on (R331). -/
def deadTimeEnd (s : State) (n x : Nat) : State :=
  let p := pgSTITCH n
  if x ≥ 3 || s.legOff n x || s.frozen n then s
  else s.wr p STITCH.OUTSTAT_OUT (withBit (s.rd p STITCH.OUTSTAT_OUT) (if s.legH n x then 2 * x else 2 * x + 1))

/-- The unit's part of I0 in AXIS mode: load, repeat or rest (R330), at the load instant of R99; a frozen unit loads only at the period
start that ends its freeze (R340). -/
def loadSet (s : State) (n : Nat) : State :=
  if !s.running (pgSTITCH n) || s.freeMode n || (s.frozen n && !((s.stitch n).thaw && !s.haltLow && decide (s.cyc % s.perdiv = 0))) then s
  else
    let u := s.stitch n
    let u := { u with fullEnd := u.full }
    let u := match u.taken with
      | .set o => { u with set := edgeSet o, rest := false, repeated := false }
      | .repeat => { u with repeated := true }
      | .rest => { u with rest := true, repeated := false }
    let s := s.setStitch n u
    s.moveLegs n (s.tI0 s.cyc) fun u => { u with h := s.idealAt n ((s.cyc % s.perdiv) * s.tc * 4) }

/-- The unit's part of CUTOFF: what it takes for the next I0, and R339 by the safety word of the cycle. -/
def stitchCutoff (s : State) (n : Nat) (t : Taken) : State :=
  let p := pgSTITCH n
  let s := s.modStitch n fun u => { u with taken := t }
  if s.running p && s.stoDemand n then (s.wr p STITCH.OUTSTAT_STOOFF 1).settleOut n else s

/-! ### Register writes of FREE mode (R332, R333), and HALT_N -/

/-- PERIOD_WRITE: 250–16,383 ticks, otherwise ignored with CFGREJ (R344). -/
def periodWrite (s : State) (n : Nat) (v : Word) : State :=
  let p := pgSTITCH n
  let t := v.toNat % 0x4000
  if 250 ≤ t then
    let old := (s.time.raw, s.periodTaken n)
    (s.wr p STITCH.PERIOD_TICKS t).modStitch n fun u => { u with perOld := some old }
  else s.cfgRej p

/-- Compare register `i` is written in this tick. -/
def wroteNow (s : State) (n i : Nat) : State :=
  s.modStitch n fun u => { u with wrote := (i, s.time.raw) :: u.wrote.filter (·.1 ≠ i) }

/-- COMPARE_WRITE: RISE and FALL of a leg change together and are not re-evaluated (R333 rule 4). -/
def compareWrite (s : State) (n x : Nat) (v : Word) : State :=
  (s.setReg (pgSTITCH n) (STITCH.LEGA + 4 * (x % 3)) v).wroteNow n (x % 3)

/-- A write of XCMPk: START and END change together, by the same rule (R341). -/
def xcmpWrite (s : State) (n k : Nat) (v : Word) : State := (s.setReg (pgSTITCH n) (STITCH.XCMP k) v).wroteNow n (3 + k)

/-- LEGOFF_WRITE (R333 rule 5). -/
def legoffWrite (s : State) (n : Nat) (v : Word) : State :=
  (s.wr (pgSTITCH n) STITCH.LEGOFF_OFF (v.toNat % 8)).settleOut n

/-- HALT_N_RISE: HALT_N is high again; frozen units resume at their next period start (R340). -/
def haltRise (s : State) : State :=
  if s.haltLow then s
  else s.forEach (List.range 8) fun s n => if s.frozen n then s.modStitch n fun u => { u with thaw := true } else s

/-- Outputs and auxiliary channels of a unit that leaves RUNNING; the end of its blanking window judges the inputs (R336). -/
def stitchOff (s : State) (n : Nat) : State :=
  let p := pgSTITCH n
  let s := (s.wr p STITCH.OUTSTAT_OUT 0).wr p STITCH.OUTSTAT_FROZEN 0
  (s.forEach (List.range 4) fun s k => s.wr p (STITCH.XSTAT_ACTIVE k) 0).tripJudge n

/-- The unit starts: its polarity is latched (R329). -/
def stitchStart (s : State) (n : Nat) : State :=
  s.modStitch n fun u => { polH := s.on (pgSTITCH n) STITCH.UCFG_POLH, polL := s.on (pgSTITCH n) STITCH.UCFG_POLL, taken := u.taken, trip := u.trip }

/-- The unit enters RUNNING (R330, R332): its first period begins, unless it is to freeze because HALT_N is low (R340). -/
def stitchRun (s : State) (n : Nat) : State :=
  let p := pgSTITCH n
  let s := s.setSt p 3
  if s.haltLow && s.on p STITCH.UCFG_HALTFRZ then
    ((s.wr p STITCH.OUTSTAT_STOOFF (if s.stoDemand n then 1 else 0)).modStitch n fun u => { u with start := s.t64 }).freezeUnit n
  else (s.loadSet n).beginPeriod n

/-- The unit can enter RUNNING: GIRTH is RUNNING, in AXIS mode at an I0 whose CYC is a multiple of PERDIV. -/
def stitchReady (s : State) (n : Nat) : Bool := s.girthOn && (s.freeMode n || decide (s.cyc % s.perdiv = 0))

/-- The level of pin `i` of a unit: 0 AH, 1 AL, ..., 5 CL (R329). -/
def stitchPin (s : State) (n i : Nat) : Bool :=
  let p := pgSTITCH n
  let u := s.stitch n
  let lev := s.pageOn p && s.running p && bitOf (s.rd p STITCH.OUTSTAT_OUT) i
  lev != (if i % 2 = 0 then u.polH else u.polL)

/-- STAT of a local axis (R338). -/
def lxStat (s : State) (n : Nat) : Nat :=
  let p := pgSTITCH n
  let latch := s.on p STITCH.TRIPSTAT_LATCH
  b2n (s.running p && !latch) 0 + b2n latch 1 + b2n (s.running p && (s.stitch n).repeated) 3 + b2n (s.on p STITCH.OUTSTAT_STOOFF) 4

/-- OUTSTAT.PHASE: ns into the running period. -/
def stitchPhase (s : State) (n : Nat) : Nat :=
  if !s.running (pgSTITCH n) then 0
  else min 0xFFFF (((if s.frozen n then (s.stitch n).frozenAt else s.t64) - (s.stitch n).start).toNat / 16)

end State
end Sys2Proof.Machine
end

