-- ==== Sys2Proof/Machine/Feedback.lean ====
section
/-! DEFINITION. Local feedback channels (R346–R357), the local arrival (R358–R360), analog channels (R361–R364) and the monitors of ANA
(R366). -/
namespace Sys2Proof.Machine

/-- The place of (A, B), coded 2·A + B, in the forward sequence 00, 10, 11, 01 (R348). -/
def quadIndex (ab : Nat) : Nat := match ab with | 0 => 0 | 2 => 1 | 3 => 2 | _ => 3

/-- The place of a valid Hall code in the forward sequence 1, 3, 2, 6, 4, 5 (R349). -/
def hallIndex (c : Nat) : Nat := match c with | 1 => 0 | 3 => 1 | 2 => 2 | 6 => 3 | 4 => 4 | _ => 5

/-- One bit through a CRC of `n` bits with the polynomial's low bits (R356). -/
def serCrcBit (n poly c : Nat) (b : Bool) : Nat :=
  let top := bitOf c (n - 1) != b
  (c * 2 % 2 ^ n) ^^^ (if top then poly % 2 ^ n else 0)

/-- The CRC of the low `k` bits of `v`, the most significant first (R356). -/
def serCrc (n poly v k : Nat) : Nat := (List.range k).foldl (fun c i => serCrcBit n poly c (bitOf v (k - 1 - i))) 0

/-- An integer saturated to 12 bits. -/
def sat12 (i : Int) : Int := clampSigned 12 i

/-- `k` further samples of a pin at level `v` (R346): the pin after them, and the sample in which a new level is accepted, after
`filt` + 1 samples in a row at it. -/
def Line.take (l : Line) (filt : Nat) (v : Bool) (k : Nat) : Line × Option Nat :=
  let had := if l.lev == v then l.run else 0
  let l' := { l with lev := v, run := min 64 (had + k) }
  let at' := max 1 (filt + 1 - had)
  if l.filt == v || k < at' then (l', none) else ({ l' with filt := v }, some at')

namespace State

/-! ### Counting (R348–R352) -/

/-- Illegal events of the window (R351). -/
def illCount (s : State) (n : Nat) : Nat :=
  let w := s.rd (pgFBCH n) FBCH.ILLCFG_ILLWIN
  ((s.feed n).ill.filter fun e => decide ((s.girth.cyc - e.1).toNat < w)).foldl (fun k e => k + e.2) 0

/-- The channel leaves service: FAULTED. -/
def feedFault (s : State) (n code detail : Nat) : State :=
  ((s.fault (pgFBCH n) code detail).setSt (pgFBCH n) 5).modFeed n fun f => { f with latched := false, busy := false, clocked := false }

/-- R351: the window has reached ILLMAX. -/
def illDue (s : State) (n : Nat) : Bool :=
  let m := s.rd (pgFBCH n) FBCH.ILLCFG_ILLMAX
  s.running (pgFBCH n) && m != 0 && decide (m ≤ s.illCount n)

/-- ILLEGAL_STEP_FAULT: fault 0x6101 where the window has reached ILLMAX. -/
def illFault (s : State) (n : Nat) : State :=
  if s.illDue n then s.feedFault n 0x6101 (min 0xFFFF (s.illCount n)) else s

/-- Enter an illegal event of this cycle in the window. -/
def noteIll (s : State) (n : Nat) : State :=
  let f := s.feed n
  let c := s.girth.cyc
  let ill := match f.ill with
    | (d, k) :: r => if d = c then (d, k + 1) :: r else (c, 1) :: f.ill
    | [] => [(c, 1)]
  (s.setFeed n { f with ill := ill }).illFault n

/-- A step forward or backward (R350). -/
def feedStep (s : State) (n : Nat) (back : Bool) : State :=
  let p := pgFBCH n
  if s.on p FBCH.STAT_DIR == back then
    s.setReg p FBCH.COUNT (if back then s.reg p FBCH.COUNT - 1 else s.reg p FBCH.COUNT + 1)
  else (s.wr p FBCH.STAT_DIR (if back then 1 else 0)).bumpE p FBCH.ABSORB 4

/-- An illegal step (R348). -/
def illegalStep (s : State) (n : Nat) : State :=
  let p := pgFBCH n
  (((s.bumpE p FBCH.ILLEGAL 4).wr p FBCH.STAT_ILLS 1).evt p 0).noteIll n

/-- The channel counts in a mode. -/
def feedCounts (s : State) (n mode : Nat) : Bool := s.running (pgFBCH n) && s.rd (pgFBCH n) FBCH.CFG_MODE == mode

/-- A sample of the filtered levels of A and B, coded 2·A + B, after `old` (R348). -/
def quadStep (s : State) (n old ab : Nat) : State :=
  if !s.feedCounts n 0 then s
  else match (quadIndex ab + 4 - quadIndex old) % 4 with
    | 0 => s
    | 2 => s.illegalStep n
    | d => s.feedStep n ((d == 3) != s.on (pgFBCH n) FBCH.CFG_REV)

/-- The filtered code U·4 + V·2 + W becomes `c` (R349).  The stored valid code follows the pins in every state (notes/assumptions/99.md). -/
def hallStep (s : State) (n c : Nat) : State :=
  let p := pgFBCH n
  let old := (s.feed n).hall
  if c = 0 ∨ c = 7 then
    (if s.feedCounts n 1 then (((s.bumpE p FBCH.HALLBAD 4).wr p FBCH.STAT_HALLS 1).evt p 1).noteIll n else s)
  else
    let s := s.modFeed n fun f => { f with hall := c }
    if !s.feedCounts n 1 || old == 0 then s
    else match (hallIndex c + 6 - hallIndex old) % 6 with
      | 0 => s
      | 1 => s.feedStep n (s.on p FBCH.CFG_REV)
      | 5 => s.feedStep n (!s.on p FBCH.CFG_REV)
      | _ => s.illegalStep n

/-- ZCAP takes the counter (R354). -/
def zCapture (s : State) (n : Nat) : State :=
  let p := pgFBCH n
  if s.feedCounts n 0 && s.on p FBCH.CFG_ZEN then
    ((s.setReg p FBCH.ZCAP (s.reg p FBCH.COUNT)).wr p FBCH.STAT_ZSEEN 1).evt p 2
  else s

/-- An input pin of the channel; one that was never sampled is low (notes/assumptions/99.md). -/
def pin (s : State) (n i : Nat) : Line := match (s.feed n).pins.find? (·.1 = i) with | some e => e.2 | none => {}

/-- The filtered levels of A (U), B (V) and Z (W), as 4·A + 2·B + Z. -/
def pinCode (s : State) (n : Nat) : Nat := b2n (s.pin n 0).filt 2 + b2n (s.pin n 1).filt 1 + b2n (s.pin n 2).filt 0

/-- What the channel decodes from one sample: a step, the Hall code, then the index of that sample. -/
def decodeSample (s : State) (n old new : Nat) : State :=
  let s := s.wr (pgFBCH n) FBCH.STAT_HALL new
  let s := if old = new then s else s.hallStep n new
  let s := s.quadStep n (old / 2) (new / 2)
  if new % 2 = 1 ∧ old % 2 = 0 then s.zCapture n else s

/-- `k` further PCLK samples of the pins named with the levels given (R346): each sample in which a pin's new level is accepted is
decoded, in their order. -/
def pinSamples (s : State) (n : Nat) (levels : List (Nat × Bool)) (k : Nat) : State :=
  if !s.pageOn (pgFBCH n) then s
  else
    let filt := s.rd (pgFBCH n) FBCH.CFG_FILT
    let took := levels.map fun e => (e.1, (s.pin n e.1).take filt e.2 k)
    let old := s.pinCode n
    let codeAt (j : Nat) : Nat := took.foldl (fun c e => match e.2.2 with
      | some i => if i ≤ j then (if e.2.1.filt then withBit c (2 - e.1) else withoutBit c (2 - e.1)) else c
      | none => c) old
    let s := s.modFeed n fun f => { f with pins := took.map (fun e => (e.1, e.2.1)) ++ f.pins.filter fun q => !(took.map (·.1)).contains q.1 }
    s.forEach ((List.range 65).filter fun j => (took.map (·.2.2)).contains (some j)) fun s j => s.decodeSample n (codeAt (j - 1)) (codeAt j)

/-- QUADRATURE_STEP: `k` samples of A and B. -/
def quadPins (s : State) (n : Nat) (a b : Bool) (k : Nat) : State := s.pinSamples n [(0, a), (1, b)] k

/-- HALL_CODE_CHANGE: `k` samples of U, V and W. -/
def hallPins (s : State) (n code k : Nat) : State := s.pinSamples n [(0, bitOf code 2), (1, bitOf code 1), (2, bitOf code 0)] k

/-- INDEX_CAPTURE: `k` samples of Z. -/
def indexPin (s : State) (n : Nat) (z : Bool) (k : Nat) : State := s.pinSamples n [(2, z)] k

/-! ### Position latch, speed and serial transfers (R347, R353–R357) -/

/-- Take a position of the cycle into the history and form SPEED (R353). -/
def feedHistory (s : State) (n : Nat) (pos : Word) : State :=
  let p := pgFBCH n
  let w := s.rd p FBCH.CFG_SPDWIN + 1
  let h := (s.feed n).hist
  let h := if h.isEmpty then List.replicate 17 pos else (pos :: h).take 17
  let s := s.modFeed n fun f => { f with hist := h }
  (s.setReg p FBCH.POS pos).setReg p FBCH.SPEED (pos - h.getD w pos)

/-- NBITS and the clock period T in PCLK cycles (R355). -/
def serBits (s : State) (n : Nat) : Nat :=
  s.rd (pgFBCH n) FBCH.SERCFG_PBITS + s.rd (pgFBCH n) FBCH.SERCFG_EEN + s.rd (pgFBCH n) FBCH.SERCFG_CBITS
def serPeriod (s : State) (n : Nat) : Nat := 2 * (s.rd (pgFBCH n) FBCH.SERCFG_CLKDIV + 1)

/-- FEEDBACK_POS_LATCH and SERIAL_TRANSFER_START within I0 (R347, R355); `idle`: FBnB read 1 at the last sample before it.  The clock of a
transfer begins at the latch instant, NBITS + 1 periods, unless FBnB read 0 (R356). -/
def feedI0 (s : State) (n : Nat) (idle : Bool) : State :=
  let p := pgFBCH n
  if !s.running p then s.modFeed n fun f => { f with latched := false }
  else
    let w := s.rd p FBCH.ILLCFG_ILLWIN
    let s := s.modFeed n fun f => { f with ill := f.ill.filter fun e => decide ((s.girth.cyc - e.1).toNat < w) }
    if s.rd p FBCH.CFG_MODE = 2 then
      let s := s.modFeed n fun f => { f with latched := false, busy := true, clocked := idle }
      if idle then s.emit (.serialClock n (s.serBits n + 1) (s.serPeriod n)) else s
    else (s.feedHistory n (s.reg p FBCH.COUNT)).modFeed n fun f => { f with latched := true }

/-- R356: SERMAX consecutive failures are reached. -/
def serDue (s : State) (n : Nat) : Bool :=
  let m := s.rd (pgFBCH n) FBCH.SERPOLY_SERMAX
  s.running (pgFBCH n) && m != 0 && decide (m ≤ (s.feed n).fails)

/-- SERIAL_FAULT: fault 0x6102 with STAT bits 5:3 where SERMAX is reached. -/
def serFault (s : State) (n : Nat) : State :=
  if s.serDue n then s.feedFault n 0x6102 (bitsOf (s.reg (pgFBCH n) FBCH.STAT).toNat 5 3) else s

/-- A failed transfer (R353, R356): the sticky bit of its check, and the previous position in the history. -/
def serFail (s : State) (n : Nat) (f : Fld) : State :=
  let p := pgFBCH n
  let s := ((s.wr p f 1).bumpE p FBCH.SERERR 4).evt p 3
  let s := if (s.feed n).hist.isEmpty then s else s.feedHistory n (s.reg p FBCH.POS)
  (s.modFeed n fun f => { f with fails := f.fails + 1 }).serFault n

/-- The error bit and the CRC bits of a transfer are good (R356): the sticky bit of the first failed check. -/
def serCheck (s : State) (n bits : Nat) : Option Fld :=
  let p := pgFBCH n
  let een := s.rd p FBCH.SERCFG_EEN
  let cb := s.rd p FBCH.SERCFG_CBITS
  let body := bits / 2 ^ cb
  let crc := serCrc cb (s.rd p FBCH.SERPOLY_POLY) body (s.rd p FBCH.SERCFG_PBITS + een)
  let crc := if s.on p FBCH.SERCFG_CINV then 2 ^ cb - 1 - crc else crc
  if cb ≠ 0 ∧ crc ≠ bits % 2 ^ cb then some FBCH.STAT_CRCS
  else if een = 1 ∧ body % 2 = s.rd p FBCH.SERCFG_EPOL then some FBCH.STAT_ENCS
  else none

/-- A passed transfer (R357). -/
def serPass (s : State) (n bits : Nat) : State :=
  let p := pgFBCH n
  let pb := s.rd p FBCH.SERCFG_PBITS
  let r := bits / 2 ^ (s.rd p FBCH.SERCFG_CBITS + s.rd p FBCH.SERCFG_EEN) % 2 ^ pb
  let cnt := match (s.feed n).raw with
    | none => BitVec.ofNat 32 r
    | some q => s.reg p FBCH.COUNT + BitVec.ofInt 32 (toSigned pb (r + 2 ^ pb - q))
  let s := s.setReg p FBCH.COUNT cnt
  let s := s.modFeed n fun f => { f with raw := some r, fails := 0, latched := true }
  s.feedHistory n cnt

/-- SERIAL_TRANSFER_DONE: whether FBnB read 1 at the last sample before I0, as I0 was told too, and the NBITS received, the first the most
significant (R355, R356). -/
def serDone (s : State) (n : Nat) (idle : Bool) (bits : Nat) : State :=
  if !s.feedCounts n 2 || !(s.feed n).busy then s
  else
    let timely := idle && (s.feed n).clocked
    let s := s.modFeed n fun f => { f with busy := false, clocked := false }
    if !timely then s.serFail n FBCH.STAT_TOUTS
    else match s.serCheck n bits with
      | some f => s.serFail n f
      | none => s.serPass n bits

/-- The completion bound of a serial channel in ticks (R358). -/
def serBound (s : State) (n : Nat) : Nat :=
  let t := s.serPeriod n * 10
  let fe := s.serBits n * t + t / 2 + s.rd (pgFBCH n) FBCH.SERCFG_SDLY * 10
  (fe + 3) / 4 + 12

/-- STAT.BOUND: 0 outside serial mode. -/
def feedBound (s : State) (n : Nat) : Nat := if s.rd (pgFBCH n) FBCH.CFG_MODE = 2 then s.serBound n else 0

/-- The tick of the local arrival (R358). -/
def arrivalTick (s : State) : Nat :=
  (List.range 16).foldl (fun t n =>
    if s.feedCounts n 2 && s.on (pgFBCH n) FBCH.ROUTE_EN then max t (s.serBound n) else t) 100

/-! ### Analog channels (R361–R364) -/

/-- The corrected code of a raw one before saturation (R365). -/
def anaCorrect (s : State) (n : Nat) (raw : Int) : Int × State :=
  let (off, gain) := s.anaTrims n
  s.roundQuot ((raw * 16 - off) * gain) 0x80000

/-- CONVERSION_DONE: the raw 12-bit code of the conversion in progress (R362, R363). -/
def conversionDone (s : State) (n : Nat) (raw : BitVec 12) : State :=
  let p := pgAXCH n
  match (s.ana n).conv with
  | none => s
  | some k =>
    let s := s.modAna n fun a => { a with conv := none, rawLast := raw.toNat }
    let (c, s) := s.anaCorrect n raw.toInt
    let range := decide (raw.toInt = -2048) || decide (raw.toInt = 2047) || decide (sat12 c ≠ c)
    let word := ofSigned 12 (sat12 c) * 16 + b2n range 1 + b2n (s.running p) 0
    let s := s.wr p AXCH.SAMP_LAST word
    let s := match k with | .i0 => s.wr p AXCH.SAMP_I0 word | .aux => s.wr p AXCH.XSAMP_WORD word | .cont => s
    if range then (s.bumpE p AXCH.RANGE 2).evt p 0 else s

/-- CONTINUOUS_SLOT (R363): on the grid of 64·(RDIV + 1) ticks from I0, started unless it would not complete by the next I0 or the array
is busy. -/
def contSlot (s : State) (n : Nat) : State :=
  if s.anaIn n && s.on (pgAXCH n) AXCH.CFG_CONT && (s.ana n).conv.isNone && decide (s.phase + 64 ≤ s.tc)
      && decide (s.phase % (64 * (s.rd (pgAXCH n) AXCH.RDIV_RDIV + 1)) = 0) then s.beginConv n .cont
  else s

/-- The code of a command word (R364). -/
def cmdCode (cmd : Nat) : Nat := ofSigned 12 (min 2047 (asrInt (toSigned 32 cmd + 2 ^ 19) 20))

/-- The STO group bit of the channel demands RESTCODE (R364). -/
def anaDemand (s : State) (n : Nat) : Bool :=
  let p := pgAXCH n
  s.on p AXCH.OCFG_STOEN && !bitOf (s.reg pgSTO STO.SENT).toNat (s.rd p AXCH.OCFG_STOGRP)

/-- Drive a code, or RESTCODE outside RUNNING, under STO and after a class-D fault. -/
def driveAna (s : State) (n code : Nat) : State :=
  let p := pgAXCH n
  s.setOut n (if !s.running p || (s.ana n).sto || s.fatal then s.rd p AXCH.OCFG_RESTCODE else code)

/-- The channel is RUNNING as an output. -/
def anaOut (s : State) (n : Nat) : Bool := s.running (pgAXCH n) && s.on (pgAXCH n) AXCH.CFG_DIR

/-- CUTOFF for an output channel: what it takes, and R364's STO case by the safety word of the cycle. -/
def anaCutoff (s : State) (n : Nat) (t : Taken) : State :=
  let s := s.modAna n fun a => { a with taken := t, sto := a.sto || s.anaDemand n }
  if s.anaOut n && (s.ana n).sto then s.driveAna n 0 else s

/-- I0 for a channel: the I0 conversion of an input (R361), the new code of an output (R364).  A conversion that runs is abandoned; an
auxiliary activation of this very tick is dropped (R363). -/
def anaI0 (s : State) (n : Nat) : State :=
  let p := pgAXCH n
  if s.anaIn n then
    let a := s.ana n
    let s := if a.conv = some .aux then
      let s := s.bumpE p AXCH.XDROP 2
      if a.convAt = s.time.raw then s.evt p 1 else s
    else s
    s.beginConv n .i0
  else if s.anaOut n then
    let a := s.ana n
    let code := match a.taken with
      | .set o => cmdCode (fieldAt o 0x10 4)
      | .repeat => a.code
      | .rest => s.rd p AXCH.OCFG_RESTCODE
    let s := s.setAna n { a with code := code, sto := s.anaDemand n }
    s.driveAna n (if s.on p AXCH.OCFG_FREE then s.rd p AXCH.OUTVAL_CODE else code)
  else s

/-- OUTVAL_WRITE (R364). -/
def outvalWrite (s : State) (n : Nat) (v : Word) : State :=
  let p := pgAXCH n
  let s := s.wr p AXCH.OUTVAL_CODE v.toNat
  if s.anaOut n && s.on p AXCH.OCFG_FREE then s.driveAna n (v.toNat % 0x1000) else s

/-- Outside RUNNING an output drives RESTCODE (R364): so after a write of its configuration too.  It is the code in force that a Hold flag
repeats at the first I0. -/
def anaIdle (s : State) (n : Nat) : State :=
  if !s.running (pgAXCH n) && s.on (pgAXCH n) AXCH.CFG_DIR then
    let c := s.rd (pgAXCH n) AXCH.OCFG_RESTCODE
    (s.setOut n c).modAna n fun a => { a with code := c }
  else s

/-- A channel leaves RUNNING: the conversion is abandoned, an output drives RESTCODE. -/
def anaOff (s : State) (n : Nat) : State :=
  (s.modAna n fun a => { rawLast := a.rawLast, dac := a.dac }).anaIdle n

/-! ### The local arrival (R358–R360) -/

/-- The feedback channel routed to an axis: the one that runs, or else one that does not (R360). -/
def feedFor (s : State) (a : Nat) : Option Nat :=
  let fed := (List.range 16).filter fun n =>
    s.pageOn (pgFBCH n) && s.on (pgFBCH n) FBCH.ROUTE_EN && s.rd (pgFBCH n) FBCH.ROUTE_AXIS == a
  match fed.find? fun n => s.running (pgFBCH n) with | some n => some n | none => fed.head?

/-- The sample word of one field of an axis (R359). -/
def sampleFor (s : State) (a field : Nat) : Nat :=
  match (List.range 16).find? fun n => s.anaIn n && s.on (pgAXCH n) AXCH.CFG_REN && s.rd (pgAXCH n) AXCH.CFG_AXIS == a
      && s.rd (pgAXCH n) AXCH.CFG_FIELD == field with
  | some n => s.rd (pgAXCH n) AXCH.SAMP_I0
  | none => 8

/-- AUX of a feedback channel (R353, R359). -/
def feedAux (s : State) (n : Nat) : Nat :=
  let p := pgFBCH n
  match s.rd p FBCH.CFG_AUXSEL with
  | 0 => ofSigned 16 (clampSigned 16 (s.reg p FBCH.SPEED).toInt)
  | 1 => (s.reg p FBCH.ZCAP).toNat % 0x10000
  | _ => s.rd p FBCH.STAT_HALL

/-- The local sample of one axis. -/
def localSample (s : State) (a : Nat) (m : AxisMap) : State :=
  let f := s.feedFor a
  let stat := match m.place with
    | .lx n => s.lxStat n
    | .ax n => b2n (s.anaOut n) 0
    | .port _ _ => 0
  let pos := match f with | some n => (s.reg (pgFBCH n) FBCH.POS).toNat | none => 0
  let aux := match f with | some n => s.feedAux n | none => 0
  let b := (List.range 4).flatMap (fun k => leBytes 2 (s.sampleFor a k)) ++ leBytes 4 pos ++ leBytes 2 stat ++ leBytes 2 aux
  let good := match f with | some n => s.running (pgFBCH n) && (s.feed n).latched | none => false
  s.inputs a m (if good then .delivered else .missing) b 0

/-- LOCAL_ARRIVAL, at its tick: the IN sections of the local and ANALOG axes, then the local arrival event. -/
def localArrival (s : State) : State :=
  if !s.active pgGIRTH || !s.due s.arrivalTick then s
  else
    let ax := s.mapped.filter fun e => match e.2.place with | .port _ _ => false | _ => true
    let s := s.forEach ax fun s e => s.localSample e.1 e.2
    s.arrival evLocal (ax.map (·.1))

/-! ### Monitors (R366, R372) -/

/-- MONITOR_CONVERSION: channel `k` of ANA. -/
def monitorConv (s : State) (k v : Nat) : State :=
  let p := pgANA
  if !s.running p || k ≥ 8 then s
  else
    let s := s.wr p (ANA.MONVAL_VALUE k) v
    let v := v % 0x10000
    let hi := s.rd p (ANA.MONLIM_HI k)
    let lo := s.rd p (ANA.MONLIM_LO k)
    if hi ≠ 0xFFFF ∧ v > hi then ((s.wr p ANA.MONSTAT_ABOVE (withBit (s.rd p ANA.MONSTAT_ABOVE) k)).fault p 0x6201 (0x100 + k)).evt p 0
    else if lo ≠ 0 ∧ v < lo then ((s.wr p ANA.MONSTAT_BELOW (withBit (s.rd p ANA.MONSTAT_BELOW) k)).fault p 0x6201 k).evt p 0
    else s

end State
end Sys2Proof.Machine
end

