-- ==== Sys2Proof/Machine/Crc.lean ====
section
/-! DEFINITION. The check codes the chapters name: the CRC-16 of R98, and the CRC-32 of the frame check sequence (R90, R377, R432). -/
namespace Sys2Proof.Machine

/-- One byte through the CRC-16 of R98: polynomial 0x1021, no reflection. -/
def crc16Byte (c : BitVec 16) (b : Byte) : BitVec 16 :=
  (List.range 8).foldl (fun c _ => if c.msb then (c <<< 1) ^^^ 0x1021 else c <<< 1) (c ^^^ (b ++ 0#8))

/-- CRC-16 with initial value 0xFFFF and no final XOR (R98). -/
def crc16 (bs : List Byte) : BitVec 16 := bs.foldl crc16Byte 0xFFFF#16

/-- One byte through the reflected CRC-32 of IEEE 802.3. -/
def crc32Byte (c : BitVec 32) (b : Byte) : BitVec 32 :=
  (List.range 8).foldl (fun c _ => if c.getLsbD 0 then (c >>> 1) ^^^ 0xEDB88320 else c >>> 1) (c ^^^ b.zeroExtend 32)

/-- The CRC-32 of the frame check sequence. -/
def crc32 (bs : List Byte) : BitVec 32 := ~~~(bs.foldl crc32Byte 0xFFFFFFFF#32)

end Sys2Proof.Machine
end

