-- ==== Sys2Proof/Machine/Buckles.lean ====
section
/-! DEFINITION. Buckle (chapter 17): the evaluation of the safety functions, the reset edge, the STO word, the safety outputs with
their readback and test pulses, the diagnostics of R417, and the safety configuration with its CRC.  The field link is FieldIo's. -/
namespace Sys2Proof.Machine

/-- Function states of R421. -/
def sfDISABLED : Nat := 0
def sfDEMAND : Nat := 1
def sfREADY : Nat := 2
def sfPERMIT : Nat := 3
def sfLOCKED : Nat := 4
def sfRELEASE : Nat := 5

/-- What an evaluation makes of a function: its state, DCNT, RSTREQ, and whether the discrepancy locked it. -/
structure SfNext where
  st : Nat
  dcnt : Nat
  rstreq : Bool
  disc : Bool := false
deriving DecidableEq, Repr

/-- R422 up to the reset edge, for types 0, 1 and 3. -/
def sfStep (st dcnt : Nat) (rstreq a b fault : Bool) (disc : Nat) (auto : Bool) : SfNext :=
  let x : SfNext :=
    if fault then ⟨sfLOCKED, 0, true, false⟩
    else if a != b then
      let d := min 0xFFFF (dcnt + 1)
      if disc ≤ d ∧ st ≠ sfLOCKED then ⟨sfLOCKED, d, true, true⟩ else ⟨st, d, rstreq, false⟩
    else ⟨st, 0, rstreq, false⟩
  if x.st = sfLOCKED then (if !a && !b && !fault then { x with st := sfDEMAND } else x)
  else if !a || !b then { x with st := sfDEMAND }
  else if x.st = sfDEMAND then { x with st := if auto && !x.rstreq then sfPERMIT else sfREADY }
  else x

/-- R423: state, count and whether it runs, after an evaluation with hands `l` and `r`. -/
def twoHandStep (st cnt : Nat) (counting l r fault : Bool) : Nat × Nat × Bool :=
  if fault then (sfRELEASE, cnt, false)
  else if st = sfDEMAND then
    if l && r then
      let c := if counting then cnt + 1 else 0
      (if c < 4000 then sfPERMIT else sfRELEASE, c, false)
    else if l || r then
      let c := if counting then cnt + 1 else 0
      if c < 4000 then (sfDEMAND, c, true) else (sfRELEASE, c, false)
    else (sfDEMAND, 0, false)
  else if st = sfPERMIT then (if l && r then (sfPERMIT, cnt, false) else (sfRELEASE, cnt, false))
  else if !l && !r then (sfDEMAND, 0, false)
  else (st, cnt, false)

/-- A filtered level and its run after a sample, with filter length `n` (R420, R424). -/
def filterStep (lvl : Bool) (run n : Nat) (x : Bool) : Bool × Nat :=
  if x == lvl then (lvl, 0) else if n ≤ run + 1 then (x, 0) else (lvl, run + 1)

namespace State

/-- STATE of a function. -/
def sfSt (s : State) (k : Nat) : Nat := s.rd (pgSF k) SF.STAT_STATE

/-- SFk is an enabled function. -/
def sfOn (s : State) (k : Nat) : Bool := s.on (pgSF k) SF.CFG_EN

/-- SFk is a two-hand function. -/
def sfTwo (s : State) (k : Nat) : Bool := s.rd (pgSF k) SF.CFG_TYPE == 2

/-- The inputs of a function: CH1, CH2, and RST where its type has one. -/
def sfInputs (s : State) (k : Nat) : List Nat :=
  let p := pgSF k
  [s.rd p SF.INPUT_CH1, s.rd p SF.INPUT_CH2] ++ (if s.sfTwo k then [] else [s.rd p SF.INPUT_RST])

/-- BUCKLE claims input DIk (R434). -/
def buckleIn (s : State) (i : Nat) : Bool :=
  s.buckleHolds && (List.range 16).any fun k => s.sfOn k && (s.sfInputs k).contains i

/-- A function takes a state: PERMIT with it, and the events and counters of the change (R437, R438).  DEMANDS counts the removal of
READY or PERMIT by a channel at safe level. -/
def setSfSt (s : State) (k v : Nat) : State :=
  let p := pgSF k
  let old := s.sfSt k
  let s := (s.wr p SF.STAT_STATE v).wr p SF.STAT_PERMIT (if v = sfPERMIT then 1 else 0)
  let s := if old = sfPERMIT ∧ v ≠ sfPERMIT then s.evt p 0 else s
  let s := if (v = sfDEMAND ∧ (old = sfREADY ∨ old = sfPERMIT)) ∨ (v = sfRELEASE ∧ old = sfPERMIT) then s.bumpE p SF.DEMANDS 3 else s
  if v = sfLOCKED ∧ old ≠ sfLOCKED then (s.bumpE p SF.LOCKS 3).evt p 1 else s

/-- The discrepancy lock of R422: DISCLK and fault 0x8101. -/
def discLock (s : State) (k : Nat) : State :=
  let p := pgSF k
  let s := (s.setSfSt k sfLOCKED).wr p SF.STAT_RSTREQ 1
  (s.wr p SF.STAT_DISCLK 1).faultU p 0x8101

/-- The test-pulse sample of a channel: an error where the input reads on (R428). -/
def pulseSample (s : State) (k i : Nat) : Bool × State :=
  if (s.fin i).raw = 1 then (true, s.bumpE (pgSF k) SF.TESTERR 3) else (false, s)

/-- The samples of a function's channels for one evaluation: pulse samples are excluded and judged, the others filtered (R420,
R422, R428). -/
def sfSamples (s : State) (k : Nat) : State :=
  let p := pgSF k
  let n := s.rd p SF.CFG_FILT
  let i1 := s.rd p SF.INPUT_CH1
  let i2 := s.rd p SF.INPUT_CH2
  let s :=
    if (s.sf k).pulse1 then
      let r := s.pulseSample k i1
      r.2.modSf k fun f => { f with err1 := r.1, pulse1 := false }
    else
      let c := (s.fin i1).cls
      s.modSf k fun f => let r := filterStep f.lvl1 f.run1 n (c == 1); { f with lvl1 := r.1, run1 := r.2, brk1 := c == 2 }
  if (s.sf k).pulse2 then
    let r := s.pulseSample k i2
    r.2.modSf k fun f => { f with err2 := r.1, pulse2 := false }
  else
    let c := (s.fin i2).cls
    s.modSf k fun f => let r := filterStep f.lvl2 f.run2 n (c == 1); { f with lvl2 := r.1, run2 := r.2, brk2 := c == 2 }

/-- An input fault of a function, reported in the evaluation that first sees it: INFLT and fault 0x8102 with the input and the
test-pulse mark (SF fault codes). -/
def sfInputFault (s : State) (k : Nat) : State :=
  let p := pgSF k
  let f := s.sf k
  let now := f.brk1 || f.brk2 || f.err1 || f.err2
  let s' := s.setSf k { f with faulty := now }
  if now && !f.faulty then
    let d := if f.brk1 then s.rd p SF.INPUT_CH1 else if f.err1 then s.rd p SF.INPUT_CH1 + 0x100
      else if f.brk2 then s.rd p SF.INPUT_CH2 else s.rd p SF.INPUT_CH2 + 0x100
    (s'.wr p SF.STAT_INFLT 1).fault p 0x8102 d
  else s'

/-- A reset input at 24,001 active evaluations is stuck (R424). -/
def resetStuck (s : State) (k : Nat) : State :=
  let f := s.sf k
  if 24001 ≤ f.active ∧ !f.stuck then
    ((s.setSf k { f with stuck := true }).wr (pgSF k) SF.STAT_RSTSTK 1).faultU (pgSF k) 0x8103
  else s

/-- A refused reset (R424). -/
def resetRefused (s : State) (k : Nat) : State := (s.bumpE (pgSF k) SF.RSTREF 3).evt (pgSF k) 2

/-- The reset input of a function for one evaluation, and the judgement of its falling edge (R424). -/
def sfReset (s : State) (k : Nat) : State :=
  let p := pgSF k
  let c := (s.fin (s.rd p SF.INPUT_RST)).cls
  let f := s.sf k
  let r := filterStep f.rlvl f.rrun 2 (c == 1)
  let fell := f.rlvl && !r.1
  let s := s.setSf k { f with rlvl := r.1, rrun := r.2, active := if r.1 then f.active + 1 else 0, stuck := r.1 && f.stuck }
  let s := s.resetStuck k
  if !fell then s
  else if 24001 ≤ f.active then s.bumpE p SF.RSTLONG 3
  else if f.active < 400 ∨ s.sfSt k ≠ sfREADY ∨ c = 2 then s.resetRefused k
  else ((s.setSfSt k sfPERMIT).wr p SF.STAT_RSTREQ 0).bumpE p SF.RESETS 3

/-- One evaluation of one function (R422, R423, R424); the channels are taken before the reset (R431). -/
def sfEval (s : State) (k : Nat) : State :=
  if !s.sfOn k then s
  else
    let p := pgSF k
    let s := (s.sfSamples k).sfInputFault k
    let f := s.sf k
    if s.sfTwo k then
      let r := twoHandStep (s.sfSt k) (s.rd p SF.STAT_DCNT) f.counting f.lvl1 f.lvl2 f.faulty
      ((s.setSf k { f with counting := r.2.2 }).wr p SF.STAT_DCNT r.2.1).setSfSt k r.1
    else
      let b := f.lvl2 != s.on p SF.CFG_ANTIV
      let r := sfStep (s.sfSt k) (s.rd p SF.STAT_DCNT) (s.on p SF.STAT_RSTREQ) f.lvl1 b f.faulty (s.rd p SF.CFG_DISC)
        (s.on p SF.CFG_AUTORST)
      let s := if r.disc then s.discLock k else s
      let s := (s.wr p SF.STAT_DCNT r.dcnt).wr p SF.STAT_RSTREQ (if r.rstreq then 1 else 0)
      (s.setSfSt k r.st).sfReset k

/-- The STO word of R425. -/
def stoWord (s : State) : Word :=
  BitVec.ofNat 32 ((List.range 32).foldl (fun w g =>
    if !bitOf (s.reg pgSTO STO.GRPEN).toNat g
      || (List.range 16).all fun k => !(s.sfOn k && bitOf (s.reg (pgSF k) SF.GROUPS).toNat g) || s.on (pgSF k) SF.STAT_PERMIT
    then withBit w g else w) 0)

/-- The group DOx follows (R439). -/
def outGroup (s : State) (x : Nat) : Nat := let b := 8 * (x - 12); bitsOf (s.reg pgSTO STO.OUTCFG).toNat (b + 4) b

/-- OFLT of DOx. -/
def outLatched (s : State) (x : Nat) : Bool := bitOf (s.rd pgSTO STO.OUTSTAT_OFLT) (x - 12)

/-- A safety output fault: OFLT latched, counted and reported (R429). -/
def outFault (s : State) (x code : Nat) : State :=
  let s := s.wr pgSTO STO.OUTSTAT_OFLT (withBit (s.rd pgSTO STO.OUTSTAT_OFLT) (x - 12))
  ((s.bumpE pgSTO STO.OFAULT 2).evt pgSTO 1).fault pgSTO code (x - 12)

/-- Set the commanded level of DOx. -/
def setOutCmd (s : State) (x : Nat) (v : Bool) : State :=
  let c := s.rd pgSTO STO.OUTSTAT_CMD
  s.wr pgSTO STO.OUTSTAT_CMD (if v then withBit c (x - 12) else withoutBit c (x - 12))

/-- The readback of DOx against the level commanded since the last evaluation (R429), then its level for the next: an output off
and high is 0x8202, two disagreeing readbacks in a row are 0x8201; a group bit that falls ends a test pulse unchecked (R431). -/
def outEval (s : State) (x : Nat) : State :=
  if !s.safetyOutEn x then s
  else
    let o := s.safeOut x
    let bit := bitOf (s.reg pgSTO STO.WORD).toNat (s.outGroup x)
    let cmd := bitOf (s.rd pgSTO STO.OUTSTAT_CMD) (x - 12)
    let rb := bitOf (s.rd pgFLDDO FLDDO.RB_RB) x
    let judged := (s.fout x).susp == 0 && !s.outLatched x && !(o.pulse != 0 && !bit)
    let disagree := judged && cmd != rb
    let s := if disagree && !cmd && o.pulse == 0 then s.outFault x 0x8202
      else if disagree && o.bad then s.outFault x 0x8201 else s
    let left := if bit then o.pulse - 1 else 0
    let s := s.setSafeOut x ⟨left, disagree⟩
    s.setOutCmd x (bit && !s.outLatched x && left == 0)

/-- BUCKLE enters FAULTED (R417, R419): sticky bit, event, STO word 0, safety outputs off, the fault. -/
def buckleFault (s : State) (code : Nat) (f : Fld) : State :=
  let st := s.st pgBUCKLE
  if st = 2 ∨ st = 3 ∨ st = 4 then
    let s := ((s.setSt pgBUCKLE 5).wr pgBUCKLE f 1).evt pgBUCKLE 0
    ((s.setSto 0).wr pgSTO STO.OUTSTAT_CMD 0).faultU pgBUCKLE code
  else s

/-- The field inputs BUCKLE claims. -/
def buckleInputs (s : State) : List Nat := (List.range 24).filter s.buckleIn

/-- An evaluation (R418, R422–R425, R429, R431); `upset`: it meets an uncorrectable word of safety state (R417). -/
def evaluation (s : State) (upset : Bool) : State :=
  if !s.running pgBUCKLE then s
  else if upset then (s.stateWord none).buckleFault 0x8005 BUCKLE.STAT_ECC
  else if s.buckleInputs.any fun i => !(s.fin i).fresh then s.buckleFault 0x8006 BUCKLE.STAT_FIELD
  else
    let s := s.forEach (List.range 16) sfEval
    let s := s.forEach s.buckleInputs fun s i => s.modFin i fun x => { x with fresh := false }
    let s := { s with buckle := { s.buckle with before := s.reg pgSTO STO.WORD, evalAt := s.time.raw } }.setSto s.stoWord
    let s := s.wr pgSTO STO.OUTSTAT_RB (s.rd pgFLDDO FLDDO.RB_RB / 4096)
    let s := s.forEach [12, 13, 14, 15] outEval
    s.bumpE pgBUCKLE BUCKLE.EVAL 1

/-- BUCKLE enters RUNNING at its first evaluation, and every function starts (R421); the clears of OFLT take effect (R439).  The
filtered levels start off. -/
def buckleBegin (s : State) : State :=
  let s := s.setSt pgBUCKLE 3
  let s := s.forEach (List.range 16) fun s k =>
    let p := pgSF k
    let v := if !s.sfOn k then sfDISABLED else if s.sfTwo k then sfRELEASE else sfDEMAND
    let s := s.setSf k { lvl2 := s.on p SF.CFG_ANTIV }
    (((s.wr p SF.STAT_STATE v).wr p SF.STAT_PERMIT 0).wr p SF.STAT_DCNT 0).wr p SF.STAT_RSTREQ 1
  let s := s.forEach (List.range 24) fun s i => s.modFin i fun x => { x with fresh := false }
  let o := s.rd pgSTO STO.OUTSTAT_OFLT
  let s := s.wr pgSTO STO.OUTSTAT_OFLT (o - (o &&& s.buckle.oclr))
  let s := { s with buckle := { before := s.reg pgSTO STO.WORD, evalAt := s.time.raw } }.setSto s.stoWord
  s.forEach [12, 13, 14, 15] fun s x =>
    s.setOutCmd x (s.safetyOutEn x && bitOf (s.reg pgSTO STO.WORD).toNat (s.outGroup x) && !s.outLatched x)

/-- BUCKLE leaves STARTING or RUNNING: the STO word is 0 and the claimed safety outputs are off (R419). -/
def buckleHalt (s : State) : State := (s.setSto 0).wr pgSTO STO.OUTSTAT_CMD 0

/-- The 268 bytes of the safety configuration (R432). -/
def safetyImage (s : State) : List Byte :=
  let w (p off : Nat) : List Byte := leBytes 4 (s.reg p off).toNat
  w pgBUCKLE BUCKLE.CFG
    ++ (List.range 16).flatMap (fun k => w (pgSF k) SF.CFG ++ w (pgSF k) SF.INPUT ++ w (pgSF k) SF.TEST ++ w (pgSF k) SF.GROUPS)
    ++ w pgSTO STO.GRPEN ++ w pgSTO STO.OUTCFG

/-- Compute the CRC of the safety configuration into SCRCNOW (R432); true where it is SCRCEXP. -/
def safetyCrc (s : State) : Bool × State :=
  let c := crc32 s.safetyImage
  (decide (s.reg pgBUCKLE BUCKLE.SCRCEXP = c), s.setReg pgBUCKLE BUCKLE.SCRCNOW c)

/-- One pass of the configuration check (R417). -/
def crcPass (s : State) : State :=
  if !s.running pgBUCKLE then s
  else let r := s.safetyCrc; if r.1 then r.2 else r.2.buckleFault 0x8002 BUCKLE.STAT_CRCRUN

/-- One run of the self-test vectors (R417). -/
def selfTest (s : State) (pass : Bool) : State :=
  if !s.running pgBUCKLE then s
  else if pass then s.bumpE pgBUCKLE BUCKLE.STPASS 1 else s.buckleFault 0x8003 BUCKLE.STAT_SELFTEST

/-- The off pulse of the test source of a function's channel begins: the next sample of every channel fed from that output is the
pulse's (R428). -/
def inputPulse (s : State) (k : Nat) (ch2 : Bool) : State :=
  let p := pgSF k
  if s.running pgBUCKLE && s.sfOn k && s.on p (if ch2 then SF.TEST_T2EN else SF.TEST_T1EN) then
    let x := s.rd p (if ch2 then SF.TEST_T2SRC else SF.TEST_T1SRC)
    s.forEach ((List.range 16).filter s.sfOn) fun s j =>
      let fed1 := s.on (pgSF j) SF.TEST_T1EN && s.rd (pgSF j) SF.TEST_T1SRC == x
      let fed2 := s.on (pgSF j) SF.TEST_T2EN && s.rd (pgSF j) SF.TEST_T2SRC == x
      s.modSf j fun f => { f with pulse1 := f.pulse1 || fed1, pulse2 := f.pulse2 || fed2 }
  else s

/-- The STO word of the latest evaluation completed at least 2 ticks before this CUTOFF (R426). -/
def stoTaken (s : State) : Word :=
  if s.running pgBUCKLE && !s.fatal && decide ((s.time.raw - s.buckle.evalAt).toNat < 128) then s.buckle.before else s.reg pgSTO STO.WORD

/-- The test pulse of a safety output that is on begins (R429). -/
def outputPulse (s : State) (x : Nat) : State :=
  if s.running pgBUCKLE && s.safetyOutEn x && bitOf (s.rd pgSTO STO.OUTSTAT_CMD) (x - 12) then
    ((s.setSafeOut x { s.safeOut x with pulse := 2 }).setOutCmd x false).bumpE pgSTO STO.OTEST 2
  else s

/-- The function whose DCNT has reached DISC is locked (R422). -/
def discrepancyLock (s : State) (k : Nat) : State :=
  let p := pgSF k
  if s.running pgBUCKLE && s.sfOn k && !s.sfTwo k && decide (s.rd p SF.CFG_DISC ≤ s.rd p SF.STAT_DCNT) && s.sfSt k != sfLOCKED
  then s.discLock k else s

/-- The two-hand count has reached 4,000 (R423). -/
def twoHandTimeout (s : State) (k : Nat) : State :=
  if s.running pgBUCKLE && s.sfOn k && s.sfTwo k && s.sfSt k == sfDEMAND && (s.sf k).counting
    && decide (4000 ≤ s.rd (pgSF k) SF.STAT_DCNT)
  then (s.modSf k fun f => { f with counting := false }).setSfSt k sfRELEASE else s

/-- A reset input is reported stuck (R424). -/
def resetStuckRow (s : State) (k : Nat) : State :=
  if s.running pgBUCKLE && s.sfOn k && !s.sfTwo k then s.resetStuck k else s

end State
end Sys2Proof.Machine
end

