-- ==== Sys2Proof/Machine/Girth.lean ====
section
/-! DEFINITION. Girth's node ports: cycle marks and frames sent (R87–R102, R120–R122), reception windows and checks (R103, R114–R118),
containment (R123, R124), port states (R125), join (R127, R128) and link delay (R89, R100). -/
namespace Sys2Proof.Machine

/-- What R116 says of a frame. -/
inductive Timing where
  | early | late | trunc | inside
deriving DecidableEq, Repr

/-- The classes R93 reserves to Girth and Latigo on a node port (R88). -/
def forbiddenClass (c : Nat) : Bool := [1, 3, 6, 7, 0xB].contains c

namespace State

/-! ### Views of a port -/

def portSt (s : State) (p : Nat) : Nat := s.rd (pgNPORT p) NPORT.SCHSTAT_PORTST
def setPortSt (s : State) (p v : Nat) : State := s.wr (pgNPORT p) NPORT.SCHSTAT_PORTST v
/-- The lane holds SYNC (R86). -/
def sync (s : State) (p : Nat) : Bool := s.on (pgNPORT p) NPORT.LINKSTAT_SYNC
/-- Ticks per byte (R84). -/
def byteTicks (s : State) (p : Nat) : Nat := if s.on (pgNPORT p) NPORT.LINKSTAT_RATE then 2 else 1
def ldValid (s : State) (p : Nat) : Bool := s.on (pgNPORT p) NPORT.LINKSTAT_LDVALID
def axcnt (s : State) (p : Nat) : Nat := s.rd (pgNPORT p) NPORT.PORTCFG_AXCNT
/-- The wire length of an uplink of the port in bytes (R136). -/
def upLen (s : State) (p : Nat) : Nat := max 72 (42 + 16 * s.axcnt p)
/-- The wire length of a downlink of the port in bytes (R136). -/
def dnLen (s : State) (p : Nat) : Nat := max 72 (50 + 16 * s.axcnt p)
/-- The wire length of the port's RELAY frame in bytes (R115). -/
def relayLen (s : State) (p : Nat) : Nat := max 72 (46 + 8 * s.rd (pgNPORT p) NPORT.RELAYCFG_COUNT)
/-- The axes mapped on a port. -/
def portAxes (s : State) (p : Nat) : List (Nat × AxisMap) :=
  s.mapped.filter fun e => match e.2.place with | .port q _ => q == p | _ => false
/-- The slot of an axis on its port. -/
def slotOf (m : AxisMap) : Nat := match m.place with | .port _ k => k | _ => 0
/-- The port has a join window (R137). -/
def hasJoinWindow (s : State) (p : Nat) : Bool := s.reg (pgNPORT p) NPORT.JOINWIN != 0#32
/-- A grant of the port is in force (R128). -/
def granted (s : State) (p : Nat) : Bool := s.on (pgNPORT p) NPORT.SCHSTAT_GRANTED
/-- Girth sends marks and serves its ports: RUNNING, or STOPPING until its last I0 (R131). -/
def girthServes (s : State) : Bool := s.active pgGIRTH

/-- The mark lead MT (R87, R89). -/
def markLead (s : State) (p : Nat) : Nat :=
  let ld := s.rd (pgNPORT p) NPORT.LDELAY_VALUE
  if !s.ldValid p then s.rd (pgNPORT p) NPORT.LDCFG_LDMAX
  else if s.byteTicks p = 2 then 2 * ((ld + 127) / 128) else (ld + 63) / 64

/-- T64 at the TCLK edge of a raw time: by what was in force at that edge (R142, R151). -/
def t64At (s : State) (raw : BitVec 64) : BitVec 64 :=
  corrected (s.time.past.foldl (fun f e => if raw.toNat < e.1.toNat then e.2 else f) s.timeFn) raw

/-- The T64 of a frame start at the TCLK edge of a raw time, `bit` bit times after it, on a lane of a rate (R150, R151): 6.4 units a bit
at 2.5 Gbaud, 12.8 at 1.25. -/
def bitStamp (s : State) (raw : BitVec 64) (bit byteTicks : Nat) : BitVec 64 := s.t64At raw + BitVec.ofNat 64 (bit * 32 * byteTicks / 5)

/-- The stamp of a received frame of a node port (R151). -/
def frameStart (s : State) (p : Nat) (f : RxFrame) : BitVec 64 := s.bitStamp f.edge f.bit (s.byteTicks p)

/-- The raw time of the first TCLK edge, from the present one on, at which T64 reaches `t` (R144): how many edges lie before it is found
bit by bit. -/
def edgeFor (s : State) (t : BitVec 64) : BitVec 64 :=
  let at' (k : Nat) : BitVec 64 := s.time.raw + BitVec.ofNat 64 (64 * k)
  at' ((List.range 20).foldl (fun k i => let k' := k + 2 ^ (19 - i); if geT64 (s.t64At (at' (k' - 1))) t then k else k') 0)

/-- The stamp of a frame sent at tick `t` of the present cycle: the T64 of the edge that acts for the tick (R144, R151). -/
def sendStamp (s : State) (p t : Nat) : BitVec 64 := s.bitStamp (s.edgeFor (s.instant t)) 0 (s.byteTicks p)

/-! ### The pair's part in a downlink (R94, R375, R382, R387, R390) -/

/-- Latigo's page is RUNNING or STOPPING with EN set. -/
def latLive (s : State) : Bool := s.active pgLAT && s.on pgLAT LAT.PCFG_EN
/-- Latigo takes part: its page is RUNNING with EN set. -/
def latOn (s : State) : Bool := s.running pgLAT && s.on pgLAT LAT.PCFG_EN
def latPstate (s : State) : Nat := s.rd pgLAT LAT.STAT_PSTATE
def latRole (s : State) : Nat := s.rd pgLAT LAT.STAT_ROLE
/-- PLANE of FLAGS: 0 in a single device. -/
def planeBit (s : State) : Nat := if s.pageOn pgLAT && s.on pgLAT LAT.PCFG_EN then s.rd pgLAT LAT.PCFG_PLANE else 0
/-- A silent follower's node ports send idle code groups only (R390). -/
def silent (s : State) : Bool := s.latOn && s.latPstate == 5
/-- The device declares its plane invalid on every port, also while LAT is STOPPING (R382). -/
def planeInvalid (s : State) : Bool :=
  s.lat.left || (s.latLive && (s.lat.plane || (s.latRole == 2 && !s.on pgLAT LAT.STAT_LOCKED && s.girthOn)))
/-- PINV on a port beside R385. -/
def portInvalid (s : State) (p : Nat) : Bool := s.planeInvalid || (s.latLive && s.lat.inv.any fun i => i.port == p)

/-- The 16 bytes of the Glifen header (R91, R92). -/
def glifenHeader (f : Frame) : List Byte :=
  [BitVec.ofNat 8 f.ver, BitVec.ofNat 8 f.cls, BitVec.ofNat 8 f.port, BitVec.ofNat 8 f.node] ++ leBytes 4 f.cyc.toNat
    ++ leBytes 2 f.flags ++ leBytes 2 f.len ++ [BitVec.ofNat 8 f.axcnt, BitVec.ofNat 8 f.markadj, BitVec.ofNat 8 f.holdmax, 0]

/-- The MAC frame of a Glifen frame sent by this device (R90): destination, source with PAIRID and the port number, EtherType with its
most significant byte first, header, payload, pad to 64 bytes, FCS.  A tether lane has no port number: the header's PORT stands in its
place (notes/assumptions/119.md). -/
def macFrame (s : State) (f : Frame) : List Byte :=
  let body := List.replicate 6 0xFF ++ [2, 0, 0, 0, BitVec.ofNat 8 (s.rd pgGLOB GLOB.STRAP_PAIRID), BitVec.ofNat 8 f.port]
    ++ (leBytes 2 f.etype).reverse ++ glifenHeader f ++ f.payload
  let body := body ++ List.replicate (60 - body.length) 0
  body ++ leBytes 4 (crc32 body).toNat

/-- Send a frame on a node port; PORTINV will show its PINV (R395). -/
def sendFrame (s : State) (p : Nat) (f : Frame) : State :=
  (s.modPort p fun q => { q with pinv := q.pinv || bitOf f.flags 1 }).send (.frame p f (s.macFrame f))

/-- Send on a node port of a device that is not silent. -/
def sendPort (s : State) (p : Nat) (f : Frame) : State := if s.silent then s else s.sendFrame p f

/-- A downlink frame of a port (R92, R94). -/
def downFrame (s : State) (p cls axcnt : Nat) (pinv : Bool) (payload : List Byte) : Frame :=
  { etype := s.rd (pgNPORT p) NPORT.LINKCFG_ETYPE, ver := 1, cls := cls, port := p, node := s.rd (pgNPORT p) NPORT.NODEID_NODE,
    cyc := s.girth.cyc.truncate 32, flags := s.planeBit + b2n pinv 1, len := payload.length, axcnt := axcnt,
    markadj := s.rd (pgNPORT p) NPORT.LDELAY_MARKADJ, holdmax := s.rd (pgNPORT p) NPORT.PORTCFG_HOLDMAX, payload := payload }

/-! ### The cycle mark (R87) -/

/-- Girth sends the mark of the next I0, MT ticks before it, on a port that is not IDLE. -/
def markSend (s : State) (p : Nat) : State :=
  if s.girthServes && s.portSt p != 0 && !s.silent && s.due (s.tc - s.markLead p) then s.send (.mark p ((s.cyc + 1) % 256) (s.markLead p)) else s

/-! ### Downlinks (R98, R99) -/

/-- PIDX of the block that takes effect at the I0 of cycle `m` (R99). -/
def pidx (s : State) (m : Nat) : Nat := m / s.perdiv % 256

/-- The downlink block of an axis (R98): what is sent, and the snapshot of its OUT section. -/
def downBlock (mode : Nat) (sent : Sent) (out : Option (List Byte)) (pidx : Nat) : List Byte :=
  let o := out.getD []
  let give := decide (sent = .output)
  let flags := b2n (decide (sent = .hold)) 0 + b2n (decide (sent = .rest)) 1
  if mode = 0 ∨ mode = 4 then
    (if give then slice o 0 12 else List.replicate 12 0)
      ++ [BitVec.ofNat 8 pidx, BitVec.ofNat 8 (flags + fieldAt o 13 1 / 4 % 8 * 4), 0, 0]
  else (if give then slice o 0x10 4 else List.replicate 4 0) ++ List.replicate 8 0 ++ [BitVec.ofNat 8 pidx, BitVec.ofNat 8 flags, 0, 0]

/-- A block with REST set in place of what it carries (R124). -/
def restBlock (b : List Byte) : List Byte :=
  List.replicate 12 0 ++ [b.getD 12 0, ((b.getD 13 0) &&& 0x1C) ||| 2, 0, 0]

/-- The block of a slot no axis is mapped to (R98). -/
def emptyBlock (pidx : Nat) : List Byte := List.replicate 12 0 ++ [BitVec.ofNat 8 pidx, 2, 0, 0]

/-- A port's blocks at CUTOFF, from the blocks of its axes by slot. -/
def assemble (s : State) (p : Nat) (blocks : List (Nat × List Byte)) : State :=
  let x := s.pidx (s.cyc + 1)
  s.modPort p fun q => { q with
    down := (List.range (s.axcnt p)).flatMap fun k =>
      match blocks.find? (·.1 = k) with | some b => b.2 | none => emptyBlock x }

/-- The safety word (R98). -/
def safetyWord (s : State) (p : Nat) : List Byte :=
  let b := leBytes 4 (s.reg pgSTO STO.SENT).toNat ++ leBytes 2 (s.port p).seq
  b ++ leBytes 2 (crc16 (b ++ [BitVec.ofNat 8 p, BitVec.ofNat 8 (s.rd (pgNPORT p) NPORT.NODEID_NODE)]
    ++ leBytes 4 s.girth.cyc.toNat)).toNat

/-- A self-caused block stands on the port in this cycle (R385). -/
def selfCaused (s : State) (p : Nat) : Bool := s.lat.selfPorts.any fun e => e.1 == p && e.2 == s.girth.cyc

/-- R385: PINV for a self-caused block while the twin is ACTIVE; a leader that has lost the tether sets none (R390). -/
def selfPinv (s : State) (p : Nat) : Bool :=
  s.latLive && s.latPstate != 0 && !(s.lat.lost && s.latRole == 1) && s.selfCaused p && s.lat.twinPstate == 3

/-- The states in which a port sends CYCLE-DOWN (R125). -/
def sendsDown (s : State) (p : Nat) : Bool :=
  match s.portSt p with
  | 3 => !s.hasJoinWindow p || s.granted p
  | 4 | 5 => true
  | _ => false

/-- The CYCLE-DOWN of a port is due: DLSTART has come, and the port's state sends it. -/
def downDue (s : State) (p : Nat) : Bool :=
  s.girthServes && s.sendsDown p && !s.silent && s.due (s.rd (pgNPORT p) NPORT.DLWIN_DLSTART)

/-- Girth sends the CYCLE-DOWN of a port at DLSTART. -/
def downlinkSend (s : State) (p : Nat) : State :=
  if s.downDue p then
    let q := s.port p
    let blocks := if s.portSt p = 5 then (List.range (s.axcnt p)).flatMap fun k => restBlock (slice q.down (16 * k) 16) else q.down
    let pinv := s.portInvalid p || s.selfPinv p
    let f := s.downFrame p 1 (s.axcnt p) pinv (s.safetyWord p ++ blocks)
    let s := if s.selfPinv p then s.bumpE pgLAT LAT.SELFINV 8 else s
    let s := s.setPort p { q with seq := (q.seq + 1) % 0x10000, dcrc := (crc32 blocks).toNat }
    s.sendFrame p f
  else s

/-! ### Relay (R121, R122) -/

/-- The word, and the SAGE field, of a relay entry. -/
def relayEntry (s : State) (p k : Nat) : List Byte :=
  let g := pgNPORT p
  let sport := s.rd g (NPORT.RELAY_SPORT k)
  let slot := s.rd g (NPORT.RELAY_SSLOT k)
  let off := 4 * s.rd g (NPORT.RELAY_SWORD k)
  let sage := s.rd g (NPORT.RELAY_SAGE k)
  let bs := match (s.port sport).blocks.find? (·.1 = slot) with | some b => b.2 | none => []
  let (v, age) : Nat × Nat :=
    match bs.find? fun b => b.cyc = s.girth.cyc - BitVec.ofNat 48 sage with
    | some b => (fieldAt b.bytes off 4, sage)
    | none => match bs.head? with
      | some b => (fieldAt b.bytes off 4, min 255 (s.girth.cyc - b.cyc).toNat)
      | none => (0, 255)
  [BitVec.ofNat 8 sport, BitVec.ofNat 8 slot, BitVec.ofNat 8 off, BitVec.ofNat 8 age] ++ leBytes 4 v

/-- Girth sends the RELAY frame of a CYCLIC port at RLYSTART. -/
def relaySend (s : State) (p : Nat) : State :=
  let n := s.rd (pgNPORT p) NPORT.RELAYCFG_COUNT
  if s.girthServes && s.portSt p == 4 && n != 0 && s.due (s.rd (pgNPORT p) NPORT.RELAYCFG_RLYSTART) then
    s.sendPort p (s.downFrame p 3 0 (s.portInvalid p)
      ([BitVec.ofNat 8 n, 0, 0, 0] ++ (List.range n).flatMap fun k => s.relayEntry p k))
  else s

/-! ### Acyclic frames (R89, R100, R102, R120, R128) -/

/-- The payload of COLDSTART (R102). -/
def coldPayload (s : State) (next : BitVec 48) : List Byte :=
  leBytes 6 next.toNat ++ leBytes 2 0 ++ leBytes 4 s.tc ++ leBytes 1 s.perdiv ++ leBytes 3 0

/-- A DELAY-REQ is due on the port (R89, R125). -/
def delayDue (s : State) (p : Nat) : Bool :=
  let st := s.portSt p
  st == 1 || st == 2 || ((st == 3 || st == 4) && (match (s.port p).delayDue with | some c => decide (c.toNat ≤ s.cyc) | none => false))

/-- Where an acyclic frame of `bytes` on the wire would start and end, after the frames already placed (R120). -/
def acyFits (s : State) (p start bytes : Nat) : Bool := decide (start + bytes * s.byteTicks p ≤ s.rd (pgNPORT p) NPORT.ACYWIN_END)

/-- The tick at which the next frame may start after one of `bytes` at `start` (R120). -/
def acyNext (s : State) (p start bytes : Nat) : Nat := start + (bytes + 12) * s.byteTicks p

/-- Send the DELAY-REQ of a port at tick `start` (R100): T1 is the T64 of its own start. -/
def delayReqSend (s : State) (p start : Nat) : State :=
  let q := s.port p
  let t1 := s.sendStamp p start
  let per := s.rd (pgNPORT p) NPORT.LDCFG_DLYPER
  let due := match q.delayDue with
    | some c => if c.toNat ≤ s.cyc then (if per = 0 then none else some (c + BitVec.ofNat 48 (((s.cyc - c.toNat) / per + 1) * per))) else some c
    | none => none
  let s := s.setPort p { q with delaySeq := (q.delaySeq + 1) % 0x10000, delayReq := some { seq := q.delaySeq, t1 := t1, cyc := s.girth.cyc },
                                delayDue := due }
  s.sendPort p (s.downFrame p 7 0 (s.portInvalid p) (leBytes 2 q.delaySeq ++ leBytes 2 0 ++ leBytes 8 t1.toNat))

/-- The payload of GRANT (R102, R128): the window as NODEWIN shows it. -/
def grantPayload (s : State) (p : Nat) (j : JoinRx) : List Byte :=
  let mt := s.markLead p
  let v := s.ldValid p
  let g := pgNPORT p
  [BitVec.ofNat 8 j.result, BitVec.ofNat 8 (s.rd g NPORT.NODEID_NODE), BitVec.ofNat 8 (s.axcnt p), 0]
    ++ leBytes 2 (if v then s.rd g NPORT.UPWIN_OPEN - mt else 0) ++ leBytes 2 (if v then s.rd g NPORT.UPWIN_CLOSE - mt else 0)
    ++ leBytes 8 j.nuid.toNat

/-- COLDSTART, DELAY-REQ and GRANT of a port in its acyclic window; the tick at which a MAILBOX may start (R120). -/
def acyclicHead (s : State) (p : Nat) : Nat × State :=
  let st := s.portSt p
  let t := s.rd (pgNPORT p) NPORT.ACYWIN_START
  let cold := st == 1 || st == 2 || st == 3
  let req := s.delayDue p
  let both := s.acyFits p (s.acyNext p t 72) 72
  let sendCold := cold && s.acyFits p t 72 && (!req || both)
  let s := if sendCold then s.sendPort p (s.downFrame p 0xB 0 (s.portInvalid p) (s.coldPayload (s.girth.cyc + 1))) else s
  let t := if sendCold then s.acyNext p t 72 else t
  let sendReq := req && s.acyFits p t 72
  let s := if sendReq then s.delayReqSend p t else s
  let t := if sendReq then s.acyNext p t 72 else t
  match (s.port p).join with
  | some j =>
    if (st == 3 || st == 4) && decide (j.cyc.toNat < s.cyc) && s.acyFits p t 72 then
      let s := s.sendPort p (s.downFrame p 6 0 (s.portInvalid p) (s.grantPayload p j))
      (s.acyNext p t 72, s.modPort p fun q => { q with join := none })
    else (t, s)
  | none => (t, s)

/-! ### Containment (R123, R124) -/

/-- The port is blocked: fault 0x2104, BLOCKED, its state, and a cause of REST for its started axes (R21). -/
def blockPort (s : State) (p : Nat) : State :=
  let g := pgNPORT p
  let s := s.markRest fun m => match m.place with | .port q _ => q == p | _ => false
  ((s.wr g NPORT.SCHSTAT_BLOCKED 1).setPortSt p 5 |>.faultU g 0x2104).evt g 5

/-- Violations in the history. -/
def histSum (q : Port) : Nat := q.hist.foldl (fun n e => n + e.2) 0

/-- The history has reached BABN. -/
def blockDue (s : State) (p : Nat) : Bool :=
  decide (s.rd (pgNPORT p) NPORT.BABCFG_BABN ≤ histSum (s.port p)) && decide (histSum (s.port p) ≠ 0) && s.portSt p != 0 && s.portSt p != 5

/-- The port is blocked if its history has reached BABN. -/
def blockIfDue (s : State) (p : Nat) : State := if s.blockDue p then s.blockPort p else s

/-- One violation (R123): counted, entered in the history, and the port blocked when the history reaches BABN. -/
def violation (s : State) (p : Nat) : State :=
  let g := pgNPORT p
  let s := s.bump g NPORT.VIOL
  let q := s.port p
  if q.reenable then s
  else
    let n := s.girth.cyc
    let hist := match q.hist with
      | (c, k) :: r => if c = n then (c, k + 1) :: r else (n, 1) :: q.hist
      | [] => [(n, 1)]
    let s := s.setPort p { q with hist := hist }
    (s.wr g NPORT.SCHSTAT_HIST (min 0xFFFF (histSum { q with hist := hist }))).blockIfDue p

/-! ### Reception (R103, R114–R117) -/

/-- Girth listens on the port: it is not IDLE and its lane holds SYNC. -/
def listens (s : State) (p : Nat) : Bool := s.girthServes && s.portSt p != 0 && s.sync p

/-- The window of a class on a port (R116). -/
def window (s : State) (p cls : Nat) : Option (Int × Int) :=
  let g := pgNPORT p
  match cls with
  | 2 => some ((s.rd g NPORT.UPWIN_OPEN : Int) - s.rd g NPORT.PORTCFG_GUARD, (s.rd g NPORT.UPWIN_CLOSE : Int) + s.rd g NPORT.PORTCFG_GUARD)
  | 5 => if s.hasJoinWindow p then some (s.rd g NPORT.JOINWIN_OPEN, s.rd g NPORT.JOINWIN_CLOSE) else none
  | 4 => some (s.rd g NPORT.ACYWIN_START, s.rd g NPORT.ACYWIN_END)
  | 8 => some (s.rd g NPORT.ACYWIN_START, (s.tc : Int) - 1)
  | _ => none

/-- The start of a frame in ticks after I0 (R114). -/
def startTick (s : State) (p : Nat) (f : RxFrame) : Int := Int.fdiv (s.frameStart p f - s.tI0 s.cyc).toInt 64

/-- R116. -/
def timing (s : State) (p : Nat) (f : RxFrame) : Timing :=
  match s.window p f.frame.cls with
  | none => .late
  | some (w0, w1) =>
    let t := s.startTick p f
    if t < w0 then .early else if t > w1 then .late
    else if t + f.wire * s.byteTicks p > w1 then .trunc else .inside

/-- A frame cut at W1 (R117); a MAILBOX cut at ACYEND is dropped (R101). -/
def truncate (s : State) (p : Nat) (f : RxFrame) : State :=
  let g := pgNPORT p
  let s := s.bump g NPORT.TRUNC
  (if f.frame.cls = 4 then s.bumpE g NPORT.MBXDROP 4 else s).violation p

/-- Code-group errors inside a frame are counted (R84, R112). -/
def countCg (s : State) (p n : Nat) : State := if n = 0 then s else s.bumpByE (pgNPORT p) NPORT.CGERR n 4

/-- Steps 1–3 of R103 for an uplink class; the counter of the failed step.  A frame with an uncorrectable word in the frame buffer is
discarded as FCSERR (R504). -/
def rxCheck (s : State) (p : Nat) (f : RxFrame) : Option Nat :=
  let g := pgNPORT p
  let h := f.frame
  let len (lo hi : Nat) : Bool := lo ≤ h.len && h.len ≤ hi
  let lenOk : Bool := match h.cls with
    | 2 => h.len == 16 * s.axcnt p && h.axcnt == s.axcnt p
    | 4 => len 4 1024
    | 5 => len 16 16
    | 8 => len 20 20
    | _ => false
  let n := h.payload.length
  let body := n == h.len || (n == 30 && h.len ≤ 30 && (h.payload.drop h.len).all (· == 0))
  if f.cgErr ≠ 0 ∨ f.vErr ∨ ¬f.fcsOk ∨ f.upset then some NPORT.FCSERR
  else if h.etype ≠ s.rd g NPORT.LINKCFG_ETYPE ∨ h.ver ≠ 1 ∨ h.port ≠ p ∨ (h.cls ≠ 5 ∧ h.node ≠ s.rd g NPORT.NODEID_NODE) then some NPORT.HDRERR
  else if h.len = 0xFFFF ∨ h.axcnt = 0xFF ∨ lenOk = false ∨ body = false then some NPORT.LENERR
  else none

/-- An uplink frame up to R103 step 3 (R116 first); a blocked port ignores it, and between the re-enable and its I0 only its
violation is counted (R124). -/
def receive (s : State) (p : Nat) (f : RxFrame) (good : State → State) : State :=
  let g := pgNPORT p
  if !s.listens p then s
  else if s.portSt p = 5 then
    (if (s.port p).reenable && s.timing p f != .inside then s.violation p else s)
  else
    let s := s.countCg p f.cgErr
    match s.timing p f with
    | .early => (s.bump g NPORT.EARLY).violation p
    | .late => (s.bump g NPORT.LATE).violation p
    | .trunc => s.truncate p f
    | .inside =>
      let s := if f.upset then s.stateWord (some mGirth) else s
      match s.rxCheck p f with
      | some c => s.bumpE g c 4
      | none => good s

/-- The row WINDOW_TRUNCATION: a frame still arriving at W1. -/
def windowTruncation (s : State) (p : Nat) (f : RxFrame) : State :=
  if s.listens p && s.timing p f == .trunc && !forbiddenClass f.frame.cls then
    (if s.portSt p = 5 then (if (s.port p).reenable then s.violation p else s) else (s.countCg p f.cgErr).truncate p f)
  else s

/-! ### CYCLE-UP (R95, R103, R118, R125) -/

/-- The port's arrival event (R118). -/
def portArrival (s : State) (p : Nat) : State :=
  (s.modPort p fun q => { q with arrived := true }).arrival (evPort p) ((s.portAxes p).map (·.1))

/-- Keep the delivered block of a slot: the newest two (R122). -/
def keepBlock (q : Port) (slot : Nat) (b : UpBlock) : Port :=
  let old := match q.blocks.find? (·.1 = slot) with | some e => e.2 | none => []
  { q with blocks := (slot, (b :: old).take 2) :: q.blocks.filter (·.1 ≠ slot) }

/-- Deliver a CYCLE-UP: CYCLIC from ALIGN, the blocks, and the arrival event of a CYCLIC port (R118, R168). -/
def deliver (s : State) (p : Nat) (f : Frame) : State :=
  let s := if s.portSt p = 3 then (s.setPortSt p 4).modPort p fun q => { q with everCyclic := true } else s
  let s := s.modPort p fun q => { q with delivered := true, usedB := bitOf f.flags 3 }
  let s := s.modPort p fun q => (List.range (s.axcnt p)).foldl (fun q k =>
    keepBlock q k { cyc := s.girth.cyc, bytes := slice f.payload (16 * k) 16 }) q
  let s := s.forEach (s.portAxes p) fun s e => s.inputs e.1 e.2 .delivered (slice f.payload (16 * slotOf e.2) 16) f.flags
  if s.portSt p = 4 then s.portArrival p else s

/-- The expected blocks of a port are counted, once the port has been CYCLIC (R32, R125). -/
def countExpected (s : State) (p off : Nat) : State :=
  if (s.port p).everCyclic then s.bumpByE (pgNPORT p) off (s.portAxes p).length 4 else s

/-- A CYCLE-UP that passed steps 1–3: steps 4 and 5, and its delivery with FLAGS.SYNC = 1 (R125).  The blocks of an older frame are
counted STALE at the discard, once in a cycle (notes/assumptions/94.md). -/
def cycleUpGood (s : State) (p : Nat) (f : RxFrame) : State :=
  let g := pgNPORT p
  let h := f.frame
  let d := (s.girth.cyc.truncate 32 - h.cyc).toNat
  if 1 ≤ d ∧ d ≤ 2 ^ 31 then
    (if (s.port p).stale then s else (s.countExpected p NPORT.STALE).modPort p fun q => { q with stale := true })
  else if d ≠ 0 then s.bumpE g NPORT.HDRERR 4
  else if (s.port p).passed then s.bumpE g NPORT.HDRERR 4
  else
    let s := s.modPort p fun q => { q with passed := true }
    if bitOf h.flags 2 then s.deliver p h else s

/-- The row CYCLE_UP: any frame of a class that has no row of its own. -/
def cycleUp (s : State) (p : Nat) (f : RxFrame) : State :=
  if forbiddenClass f.frame.cls || [4, 5, 8].contains f.frame.cls then s else s.receive p f fun s => s.cycleUpGood p f

/-- The row ARRIVAL_TIMEOUT: the tick of R118 of a port with AXCNT > 0 whose arrival event of the cycle is not posted, once T64 has
reached it (R144), whatever the port's state: Cinch takes the event of a port that is neither CYCLIC nor BLOCKED (R168).  Where no frame was delivered, every expected
block not counted STALE is counted MISSING (R103), and INFLAGS follows (R26, notes/assumptions/95.md). -/
def arrivalTimeout (s : State) (p : Nat) : State :=
  let q := s.port p
  let tick := s.rd (pgNPORT p) NPORT.UPWIN_CLOSE + s.rd (pgNPORT p) NPORT.PORTCFG_GUARD + 24
  if !s.girthServes || s.axcnt p == 0 || q.arrived || !s.due tick then s
  else if q.delivered then s.portArrival p
  else
    let s := if q.stale then s else s.countExpected p NPORT.MISSING
    let s := s.forEach (s.portAxes p) fun s e => s.inputs e.1 e.2 (if q.stale then .stale else .missing) [] 0
    s.portArrival p

/-! ### Sync, link delay, join (R86, R89, R100, R127) -/

/-- The port enters NOSYNC, or COLD where its lane holds SYNC; LDVALID is cleared on entry to NOSYNC (R125). -/
def enterNosync (s : State) (p : Nat) : State :=
  let s := s.wr (pgNPORT p) NPORT.LINKSTAT_LDVALID 0
  let s := s.modPort p fun q => { q with delayNew := none, delayReq := none, delayDue := some s.girth.cyc }
  s.setPortSt p (if s.sync p then 2 else 1)

/-- PORT_SYNC_GAIN. -/
def syncGain (s : State) (p : Nat) : State :=
  if !s.pageOn (pgNPORT p) || s.sync p then s
  else
    let s := s.wr (pgNPORT p) NPORT.LINKSTAT_SYNC 1
    let s := s.modPort p fun q => { q with delayDue := some s.girth.cyc }
    if s.portSt p = 1 then s.setPortSt p 2 else s

/-- PORT_SYNC_LOSS. -/
def syncLoss (s : State) (p : Nat) : State :=
  let g := pgNPORT p
  if !s.pageOn g || !s.sync p then s
  else
    let s := s.wr g NPORT.LINKSTAT_SYNC 0
    let s := ((s.wr g NPORT.LINKSTAT_SYNCLOSS 1).faultU g 0x2101).evt g 0
    if s.portSt p = 0 ∨ s.portSt p = 5 then s else s.enterNosync p

/-- A DELAY-RESP that passed steps 1–3 (R89, R100). -/
def delayRespGood (s : State) (p : Nat) (f : RxFrame) : State :=
  let g := pgNPORT p
  let b := f.frame.payload
  match (s.port p).delayReq with
  | some r =>
    if r.cyc = s.girth.cyc ∧ fieldAt b 0 2 = r.seq ∧ fieldAt b 4 8 = r.t1.toNat then
      let s := s.modPort p fun q => { q with delayReq := none }
      let trip := (s.frameStart p f - r.t1).toInt
      let turn : Int := fieldAt b 12 4
      let ld := Int.fdiv (trip - turn) 2
      if turn ≥ trip then s
      else if ld > s.rd g NPORT.LDCFG_LDMAX * 64 then ((s.wr g NPORT.LINKSTAT_LDOVER 1).faultU g 0x2102).evt g 2
      else s.modPort p fun q => { q with delayNew := some ld.toNat }
    else s.bumpE g NPORT.HDRERR 4
  | none => s.bumpE g NPORT.HDRERR 4

/-- The row DELAY_RESP. -/
def delayResp (s : State) (p : Nat) (f : RxFrame) : State :=
  if f.frame.cls = 8 then s.receive p f fun s => s.delayRespGood p f else s

/-- RESULT of a JOIN (R127). -/
def joinResult (s : State) (p : Nat) (b : List Byte) : Nat :=
  let g := pgNPORT p
  let nuid := BitVec.ofNat 64 (fieldAt b 8 8)
  if !s.hasJoinWindow p || (match (s.port p).grant with | some x => x.1 != nuid | none => false) then 1
  else if fieldAt b 0 2 ≠ s.rd g NPORT.PORTCFG_NCLASS then 2
  else if fieldAt b 4 2 ≠ s.upLen p ∨ fieldAt b 6 2 ≠ s.dnLen p then 3
  else if fieldAt b 2 1 ≠ s.axcnt p then 4 else 0

/-- A JOIN that passed steps 1–3 (R127, R128): a second one in a cycle is HDRERR; its answer takes the place of a GRANT that still waits
(notes/assumptions/120.md). -/
def joinGood (s : State) (p : Nat) (f : RxFrame) : State :=
  let g := pgNPORT p
  if (s.port p).joined then s.bumpE g NPORT.HDRERR 4
  else
    let b := f.frame.payload
    let nuid := BitVec.ofNat 64 (fieldAt b 8 8)
    let r := s.joinResult p b
    let s := s.modPort p fun q => { q with
      joined := true, join := some { cyc := s.girth.cyc, result := r, nuid := nuid },
      grant := if r = 0 ∧ q.grant.isNone then some (nuid, s.girth.cyc + 2) else q.grant }
    (if r = 0 then s else s.bump g NPORT.JOINREJ).evt g 6

/-- The row JOIN. -/
def join (s : State) (p : Nat) (f : RxFrame) : State :=
  if f.frame.cls = 5 then s.receive p f fun s => s.joinGood p f else s

/-- R88: a K28.1, or a frame of a class reserved to Girth. -/
def forbidden (s : State) (p : Nat) (k : Forbidden) : State :=
  let g := pgNPORT p
  let bad : Bool := match k with | .mark => true | .frame c => forbiddenClass c
  if !s.listens p || !bad then s
  else if s.portSt p = 5 then (if (s.port p).reenable then s.violation p else s)
  else (((s.wr g NPORT.LINKSTAT_BABMARK 1).faultU g 0x2103).evt g 3).violation p

/-- CODE_GROUP_ERROR: an error outside a frame on a port that is neither IDLE nor BLOCKED. -/
def codeGroupError (s : State) (p : Nat) : State :=
  let st := s.portSt p
  if s.girthServes && st != 0 && st != 5 then s.bumpE (pgNPORT p) NPORT.CGERR 4 else s

/-- The host's write of 1 to SCHSTAT.BLOCKED (R124). -/
def blockedWrite (s : State) (p m : Nat) : State :=
  if m ≠ mHost then s.cfgRej (pgNPORT p)
  else if s.portSt p = 5 then s.modPort p fun q => { q with reenable := true } else s

/-! ### The port's part of I0 (R89, R123–R126, R128, R131) -/

/-- The port falls idle: its grant and history are cleared (R131). -/
def portIdle (s : State) (p : Nat) : State :=
  let g := pgNPORT p
  let s := s.setPortSt p 0
  let s := ((s.wr g NPORT.SCHSTAT_GRANTED 0).wr g NPORT.SCHSTAT_HIST 0).wr g NPORT.SCHSTAT_BLOCKED 0
  let s := s.setReg g NPORT.GRANTUID 0
  s.modPort p fun q => { q with hist := [], grant := none, join := none, reenable := false, stopping := false, stopCut := false,
                                delayReq := none, delayNew := none, down := [] }

/-- A new link delay comes into use (R89). -/
def useDelay (s : State) (p : Nat) : State :=
  let g := pgNPORT p
  match (s.port p).delayNew with
  | none => s
  | some ld =>
    let was := s.ldValid p
    let s := (s.wr g NPORT.LDELAY_VALUE ld).wr g NPORT.LINKSTAT_LDVALID 1
    let s := s.wr g NPORT.LDELAY_MARKADJ (64 * s.markLead p - ld)
    let s := s.modPort p fun q => { q with delayNew := none }
    if was then s else s.evt g 1

/-- The grant of a JOIN is in force from its cycle (R128). -/
def useGrant (s : State) (p : Nat) : State :=
  match (s.port p).grant with
  | some (u, c) => if c = s.girth.cyc then (s.wr (pgNPORT p) NPORT.SCHSTAT_GRANTED 1).setReg (pgNPORT p) NPORT.GRANTUID (u.truncate 32) else s
  | none => s

/-- A re-enabled port empties its history and enters NOSYNC, or COLD while its lane holds SYNC: COLD keeps LDVALID (R124, R125). -/
def reenablePort (s : State) (p : Nat) : State :=
  let g := pgNPORT p
  if (s.port p).reenable then
    let s := (s.wr g NPORT.SCHSTAT_BLOCKED 0).wr g NPORT.SCHSTAT_HIST 0
    let s := s.modPort p fun q => { q with reenable := false, hist := [] }
    if s.sync p then s.setPortSt p 2 else s.enterNosync p
  else s

/-- A port at I0; CYC is already that of the new cycle. -/
def portI0 (s : State) (p : Nat) : State :=
  let g := pgNPORT p
  let s := s.modPort p fun q => { q with passed := false, delivered := false, usedB := false, stale := false, arrived := false, joined := false,
                                         mbxRx := false, delayReq := none, dcrc := 0, pinv := false }
  if !s.pageOn g then s
  else if s.portSt p = 0 then
    (if s.running g && decide (s.axcnt p ≠ 0) then s.enterNosync p else s)
  else
    let s := s.useDelay p
    let s := s.useGrant p
    let s := s.reenablePort p
    let s := if s.portSt p = 2 && s.ldValid p then s.setPortSt p 3 else s
    let m := s.rd g NPORT.BABCFG_BABM
    let s := s.modPort p fun q => { q with hist := q.hist.filter fun e => decide ((s.girth.cyc - e.1).toNat < m) }
    s.wr g NPORT.SCHSTAT_HIST (min 0xFFFF (histSum (s.port p)))

end State
end Sys2Proof.Machine
end

