-- ==== Sys2Proof/Machine/Stamps.lean ====
section
/-! DEFINITION. Stamp units (R397–R416): signals, trigger conditions, the sample of a CUTOFF, records, and the control writes. -/
namespace Sys2Proof.Machine

/-- Acquisition states (R404). -/
def acqIDLE : Nat := 0
def acqQWAIT : Nat := 1
def acqFILL : Nat := 2
def acqARMED : Nat := 3
def acqPOST : Nat := 4
def acqDONE : Nat := 5

/-- The master ID of a Stamp unit. -/
def mStamp (n : Nat) : Nat := 73 + n

/-- A signal as compared in tests: signed or unsigned (R398). -/
def sigInt (signed : Bool) (v : Word) : Int := if signed then v.toInt else v.toNat

namespace State

def acq (s : State) (n : Nat) : Nat := s.rd (pgSTAMP n) STAMP.STAT_ACQ
def setAcq (s : State) (n v : Nat) : State := s.wr (pgSTAMP n) STAMP.STAT_ACQ v
/-- A slot is in progress. -/
def filling (s : State) (n : Nat) : Bool := let a := s.acq n; a == 2 || a == 3 || a == 4

/-! ### Layout (R398, R399) -/

def sigEn (s : State) (n k : Nat) : Bool := s.on (pgSTAMP n) (STAMP.SIG_EN k)
/-- The enabled signal slots. -/
def sigs (s : State) (n : Nat) : List Nat := (List.range 8).filter fun k => s.sigEn n k
def ssize (s : State) (n : Nat) : Nat := 4 * (s.sigs n).length
def rlen (s : State) (n : Nat) : Nat := s.rd (pgSTAMP n) STAMP.ACQCFG_RLEN
def slotSize (s : State) (n : Nat) : Nat := 32 + s.rlen n * s.ssize n
def maskBytes (s : State) (n : Nat) : Nat :=
  if s.on (pgSTAMP n) STAMP.MASKCFG_MEN then 8 * s.rd (pgSTAMP n) STAMP.MASKCFG_MLEN else 0
def regionSize (s : State) (n : Nat) : Nat := 65536 * s.rd (pgSTAMP n) STAMP.REGION_NGRAN
def regionBase (s : State) (n : Nat) : Nat := 65536 * s.rd (pgSTAMP n) STAMP.REGION_BASE
/-- NSLOT (R399). -/
def nslot (s : State) (n : Nat) : Nat := min 65535 ((s.regionSize n - s.maskBytes n) / s.slotSize n)
def slotAddr (s : State) (n k : Nat) : Nat := s.regionBase n + k * s.slotSize n

/-- USE (R402). -/
def putUse (s : State) (n : Nat) : State :=
  let h := s.rd (pgSTAMP n) STAMP.HELD_HELD
  s.wr (pgSTAMP n) STAMP.USE_BYTES (s.slotSize n * (if s.filling n then h + 1 else h))

/-- A slot is released unfilled, if one is in progress (R408). -/
def unfilled (s : State) (n acq : Nat) : State :=
  let s := if s.filling n then s.bumpE (pgSTAMP n) STAMP.UNFILLED 4 else s
  (s.setAcq n acq).putUse n

/-- Enter DONE. -/
def stampDone (s : State) (n : Nat) : State := (s.unfilled n acqDONE).evt (pgSTAMP n) 2

/-- The unit is frozen by a violation of its gate (R469). -/
def stampFreeze (s : State) (n : Nat) : State :=
  ((s.unfilled n acqIDLE).setSt (pgSTAMP n) 6).wr (pgGATE (mStamp n)) GATE.STAT_FROZEN 1

/-- R408: an error response to an access. -/
def stampError (s : State) (n a : Nat) : State := (s.fault (pgSTAMP n) 0x7001 a).stampDone n

/-- A write of the unit; `false` where it failed, with its reaction taken. -/
def stampPut (s : State) (n a : Nat) (bs : List Byte) : Bool × State :=
  let m := mStamp n
  match s.gateKind m a bs.length true with
  | some k => (false, (s.gateRecord m a (accKind a bs.length true) k).stampFreeze n)
  | none => let (ok, s) := s.writeMem m a bs; (ok, if ok then s else s.stampError n a)

/-- A read of the unit; none where it failed, with its reaction taken. -/
def stampGet (s : State) (n a len : Nat) : Option (List Byte) × State :=
  let m := mStamp n
  match s.gateKind m a len false with
  | some k => (none, (s.gateRecord m a 0 k).stampFreeze n)
  | none => let (b, s) := s.readMem m a len; (b, if b.isSome then s else s.stampError n a)

/-! ### Signals (R398) -/

/-- OUTSTAT of a Stitch unit as it reads. -/
def outstat (s : State) (n : Nat) : Word :=
  BitVec.ofNat 32 ((s.reg (pgSTITCH n) STITCH.OUTSTAT).toNat % 0x10000 + 0x10000 * s.stitchPhase n)

/-- The 16- or 32-bit value of a source other than an Axis Record. -/
def sourceVal (s : State) (kind i trip : Nat) : Nat :=
  let src (p : Nat) (v : Nat) : Nat := if s.running p then v else 0
  match kind with
  | 1 => src (pgFBCH i) (s.reg (pgFBCH i) FBCH.COUNT).toNat
  | 2 => src (pgAXCH i) (s.rd (pgAXCH i) AXCH.SAMP_LAST)
  | 3 => src (pgSTITCH i) (s.outstat i).toNat
  | 4 => src pgFLDDI (s.rd pgFLDDI FLDDI.LEVEL_LEVEL)
  | 5 => (if s.domOn 17 then trip % 256 else 0) + src pgTPIN ((List.range 8).foldl (fun v k => v + b2n (s.on pgTPIN (TPIN.STAT_ACTIVE k)) (8 + k)) 0)
  | 6 => s.cyc % 2 ^ 32
  | _ => 0

/-- A field of an Axis Record in the snapshot of R14, read by the frame engine (R40, R536): 0 where the record's domain is off; for an
uncorrectable word the spec gives no value, so it is free. -/
def snapField (s : State) (a n : Nat) : Nat × State :=
  if (memDomain a).any fun d => !s.domOn d then (0, s)
  else match s.readMem mGirth a n with
    | (some b, s) => (leToNat b, s)
    | (none, s) => let (v, s) := s.draw; (v.toNat % 256 ^ n, s)

/-- One signal slot, extended to 32 bits. -/
def readSig (s : State) (n k trip : Nat) : Word × State :=
  let p := pgSTAMP n
  let kind := s.rd p (STAMP.SIG_KIND k)
  let i := s.rd p (STAMP.SIG_INDEX k)
  let wide := if kind = 0 then s.on p (STAMP.SIG_W32 k) else !(kind == 2 || kind == 5)
  let ext (v : Nat) : Word :=
    if wide then BitVec.ofNat 32 v else if s.on p (STAMP.SIG_SIGNED k) then BitVec.ofInt 32 (toSigned 16 v) else BitVec.ofNat 32 (v % 0x10000)
  if kind = 0 then
    match (s.axis i).map with
    | none => (0, s)
    | some m =>
      let (v, s) := s.snapField (m.base + s.rd p (STAMP.SIG_OFFSET k)) (if wide then 4 else 2)
      (ext v, s)
  else (ext (s.sourceVal kind i trip), s)

/-- The sample: the enabled slots in ascending number. -/
def readSample (s : State) (n trip : Nat) : List (Nat × Word) × State :=
  (s.sigs n).foldl (fun (r : List (Nat × Word) × State) k =>
    let (v, s) := r.2.readSig n k trip
    (r.1 ++ [(k, v)], s)) ([], s)

/-- The value of a signal slot in a sample, as compared. -/
def sigOf (s : State) (n : Nat) (l : List (Nat × Word)) (k : Nat) : Int :=
  match l.find? (·.1 = k) with | some e => sigInt (s.on (pgSTAMP n) (STAMP.SIG_SIGNED k)) e.2 | none => 0

/-! ### Conditions (R405, R407) -/

/-- A threshold register, compared as the signal is. -/
def thr (s : State) (n off sig : Nat) : Int := sigInt (s.on (pgSTAMP n) (STAMP.SIG_SIGNED sig)) (s.reg (pgSTAMP n) off)

/-- The CAUSE bits of the enabled conditions that are true of a sample; `v` is the mask violation. -/
def conditions (s : State) (n : Nat) (l : List (Nat × Word)) (v : Bool) : Nat :=
  let p := pgSTAMP n
  let u := s.stamp n
  let ls := s.rd p STAMP.CONDCFG_LSIG
  let es := s.rd p STAMP.CONDCFG_ESIG
  let ws := s.rd p STAMP.CONDCFG_WSIG
  let x := s.sigOf n l ls
  let level := if s.on p STAMP.CONDCFG_LABOVE then decide (x > s.thr n STAMP.LVLTHR ls) else decide (x < s.thr n STAMP.LVLTHR ls)
  let t := s.thr n STAMP.EDGETHR es
  let e := s.sigOf n l es
  let dir := s.rd p STAMP.CONDCFG_EDIR
  let edge : Bool := match u.prev with
    | none => false
    | some w =>
      let q := sigInt (s.on p (STAMP.SIG_SIGNED es)) w
      (bitOf dir 0 && decide (q < t) && decide (t ≤ e)) || (bitOf dir 1 && decide (q ≥ t) && decide (t > e))
  let w := s.sigOf n l ws
  let inside := decide (s.thr n STAMP.WINLO ws ≤ w) && decide (w ≤ s.thr n STAMP.WINHI ws)
  let window := inside != s.on p STAMP.CONDCFG_WOUT
  let tp := decide (u.tpSeen &&& s.rd p STAMP.EXTCFG_TPSEL ≠ 0)
  ((b2n level 0 + b2n edge 1 + b2n window 2 + b2n v 3 + b2n u.extSeen 4 + b2n tp 5) &&& s.rd p STAMP.CONDCFG_TRIGEN) + b2n u.force 6

/-- The mask test of a sample (R407); none where the entry could not be read. -/
def maskTest (s : State) (n : Nat) (l : List (Nat × Word)) : Option Bool × State :=
  let p := pgSTAMP n
  if !s.on p STAMP.MASKCFG_MEN then (some false, s)
  else
    let sig := s.rd p STAMP.MASKCFG_MSIG
    let j := s.cyc / s.rd p STAMP.ACQCFG_SDIV % s.rd p STAMP.MASKCFG_MLEN
    let (b, s) := s.stampGet n (s.regionBase n + s.regionSize n - s.maskBytes n + 8 * j) 8
    match b with
    | none => (none, s)
    | some b =>
      let sg := s.on p (STAMP.SIG_SIGNED sig)
      let x := s.sigOf n l sig
      let v := decide (x < sigInt sg (BitVec.ofNat 32 (fieldAt b 0 4))) || decide (x > sigInt sg (BitVec.ofNat 32 (fieldAt b 4 4)))
      (some v, if v then (s.bumpE p STAMP.VIOL 4).evt p 3 else s)

/-- Hold-off is over (R406). -/
def holdoffOver (s : State) (n : Nat) : Bool :=
  let p := pgSTAMP n
  let u := s.stamp n
  if s.on p STAMP.HOLDCFG_MODE then u.evLeft == 0
  else match u.lastTrig with
    | none => true
    | some t => geT64 s.t64 (t + BitVec.ofNat 64 (16 * (s.reg p STAMP.HOLDOFF).toNat))

/-! ### Records (R400, R401, R408, R409) -/

/-- A slot can be taken (R402). -/
def slotFree (s : State) (n : Nat) : Bool :=
  let p := pgSTAMP n
  let h := s.rd p STAMP.HELD_HELD
  decide (h < s.nslot n) && decide (s.slotSize n * h + s.slotSize n ≤ s.rd p STAMP.QUOTA_BYTES)

/-- Take the slot at IDX.WR: STATUS := 0 first (R401).  Where that write fails the slot has been taken and ends unfilled (R408). -/
def takeSlot (s : State) (n : Nat) : Bool × State :=
  let p := pgSTAMP n
  let s := s.modStamp n fun u => { u with stored := 0, nb := 0, np := 0, viols := [], stopAfter := false }
  let s := (s.setAcq n (if s.rd p STAMP.SEGCFG_PRE = 0 then acqARMED else acqFILL)).putUse n
  s.stampPut n (s.slotAddr n (s.rd p STAMP.IDX_WR) + 6) [0, 0]

/-- Store a sample at the next position, modulo RLEN. -/
def storeSample (s : State) (n : Nat) (l : List (Nat × Word)) (v : Bool) : Bool × State :=
  let u := s.stamp n
  let a := s.slotAddr n (s.rd (pgSTAMP n) STAMP.IDX_WR) + 32 + u.stored % s.rlen n * s.ssize n
  let (ok, s) := s.stampPut n a (l.flatMap fun e => leBytes 4 e.2.toNat)
  (ok, if ok then s.modStamp n fun u => { u with stored := u.stored + 1, viols := if v then u.stored :: u.viols else u.viols } else s)

/-- R409: the record is complete: the header, its first word last, then HELD and IDX.WR. -/
def complete (s : State) (n : Nat) : State :=
  let p := pgSTAMP n
  let u := s.stamp n
  let r := s.rlen n
  let wr := s.rd p STAMP.IDX_WR
  let a := s.slotAddr n wr
  let left := s.rd p STAMP.SEGLEFT_COUNT - 1
  let last := decide (left = 0) || u.stopAfter
  let viol := u.viols.any fun k => decide (u.stored ≤ k + r)
  let status := 1 + b2n viol 1 + b2n last 2 + b2n u.stopAfter 3
  let body := leBytes 8 u.tt64.toNat ++ leBytes 4 u.seq ++ leBytes 2 u.cause ++ leBytes 2 r ++ leBytes 2 (u.stored % r)
    ++ leBytes 2 (s.rd p STAMP.SEGCFG_PRE) ++ leBytes 2 (s.ssize n) ++ leBytes 2 0
  let (ok, s) := s.stampPut n (a + 8) body
  if !ok then s else
  let (ok, s) := s.stampPut n a (leBytes 6 u.tcyc.toNat ++ leBytes 2 status)
  if !ok then s else
  let s := (s.bumpE p STAMP.FILLED 4).evt p 1
  let s := s.wr p STAMP.HELD_HELD (s.rd p STAMP.HELD_HELD + 1)
  let s := s.wr p STAMP.IDX_WR ((wr + 1) % s.nslot n)
  let s := s.wr p STAMP.SEGLEFT_COUNT left
  let s := s.modStamp n fun u => { u with seq := u.seq + 1 }
  let s := (s.setAcq n (if last then acqDONE else acqQWAIT)).putUse n
  if last then s.evt p 2 else s

/-- A condition that is not accepted: TRIGIGN and a hold-off event (R406, R408). -/
def ignoreTrigger (s : State) (n : Nat) : State :=
  let p := pgSTAMP n
  (s.bumpE p STAMP.TRIGIGN 4).modStamp n fun u => { u with evLeft := if s.on p STAMP.HOLDCFG_MODE then u.evLeft - 1 else u.evLeft }

/-- The part of R408 after the sample is stored. -/
def afterStore (s : State) (n c : Nat) (v : Bool) : State :=
  let p := pgSTAMP n
  let pre := s.rd p STAMP.SEGCFG_PRE
  let mstop := v && s.on p STAMP.MASKCFG_MSTOP
  let s :=
    if s.acq n = acqPOST then s
    else if c ≠ 0 && decide (pre ≤ (s.stamp n).nb) && s.holdoffOver n then
      let s := s.modStamp n fun u => { u with cause := c, np := 0, force := false, tcyc := s.girth.cyc, tt64 := s.t64, lastTrig := some s.t64,
                                              evLeft := (s.reg p STAMP.HOLDOFF).toNat }
      (s.setAcq n acqPOST).evt p 0
    else
      let s := if c ≠ 0 then s.ignoreTrigger n else s
      let s := s.modStamp n fun u => { u with nb := u.nb + 1 }
      if pre ≤ (s.stamp n).nb then s.setAcq n acqARMED else s
  if s.acq n = acqPOST then
    let s := s.modStamp n fun u => { u with np := u.np + 1, stopAfter := u.stopAfter || mstop }
    if (s.stamp n).np = s.rlen n - pre then s.complete n else s
  else if mstop then s.stampDone n else s

/-- R408: one sample of a unit; `ext`: the EXT input stays active after this read (R405). -/
def stampStep (s : State) (n trip : Nat) (ext : Bool) : State :=
  let p := pgSTAMP n
  let (l, s) := s.readSample n trip
  let (v, s) := s.maskTest n l
  match v with
  | none => s
  | some v =>
    let c := s.conditions n l v
    let es := s.rd p STAMP.CONDCFG_ESIG
    let s := s.modStamp n fun u => { u with prev := (l.find? (·.1 = es)).map (·.2), extSeen := ext, tpSeen := 0 }
    let (ok, s) :=
      if s.acq n = acqQWAIT then
        (if s.slotFree n then s.takeSlot n else (true, s.bumpE p STAMP.NOSLOT 4))
      else (true, s)
    if !ok then s
    else if s.filling n then
      let (ok, s) := s.storeSample n l v
      if ok then s.afterStore n c v else s
    else if v && s.on p STAMP.MASKCFG_MSTOP then s.stampDone n else s

/-! ### Control (R402, R404) -/

/-- CTL.ARM. -/
def stampArm (s : State) (n : Nat) : State :=
  let p := pgSTAMP n
  if s.running p && (s.acq n == acqIDLE || s.acq n == acqDONE) then
    let s := s.wr p STAMP.SEGLEFT_COUNT (s.rd p STAMP.SEGCFG_NSEG)
    let s := s.modStamp n fun u => { u with seq := 0, force := false, prev := none, lastTrig := none, evLeft := 0 }
    s.setAcq n acqQWAIT
  else s.cfgRej p

/-- CTL.FORCE. -/
def stampForce (s : State) (n : Nat) : State :=
  let a := s.acq n
  if a = acqQWAIT ∨ a = acqFILL ∨ a = acqARMED then s.modStamp n fun u => { u with force := true } else s

/-- CTL.ABORT. -/
def stampAbort (s : State) (n : Nat) : State := s.unfilled n acqIDLE

/-- RELEASE. -/
def stampRelease (s : State) (n c : Nat) : State :=
  let p := pgSTAMP n
  let h := s.rd p STAMP.HELD_HELD
  if h < c then s.cfgRej p
  else if c = 0 then s
  else
    let s := s.wr p STAMP.HELD_HELD (h - c)
    let s := s.wr p STAMP.IDX_RD ((s.rd p STAMP.IDX_RD + c) % s.nslot n)
    s.putUse n

/-- QUOTA. -/
def stampQuota (s : State) (n v : Nat) : State :=
  let p := pgSTAMP n
  if v % 2 ^ 25 > 16777216 then s.cfgRej p else s.wr p STAMP.QUOTA_BYTES v

/-- A write of CTL: ABORT, then ARM, then FORCE (R404). -/
def stampCtl (s : State) (n : Nat) (v : Word) : State :=
  let s := if STAMP.CTL_ABORT.get v = 1 then s.stampAbort n else s
  let s := if STAMP.CTL_ARM.get v = 1 then s.stampArm n else s
  if STAMP.CTL_FORCE.get v = 1 then s.stampForce n else s

/-- A write of CTL, RELEASE or QUOTA acts. -/
def stampAct (s : State) (n : Nat) (e : Nat × Word) : State :=
  if e.1 = STAMP.CTL then s.stampCtl n e.2
  else if e.1 = STAMP.RELEASE then s.stampRelease n (STAMP.RELEASE_COUNT.get e.2)
  else s.stampQuota n e.2.toNat

/-- The cycle's CUTOFF tick (R144) is a sampling one of the unit, is still to come and less than 40 ns away (R410). -/
def stampSoon (s : State) (n : Nat) : Bool :=
  let left := (s.edgeFor (s.instant (s.rd pgGIRTH GIRTH.CWIN_CUTOFF)) - s.time.raw).toNat
  s.running (pgSTAMP n) && s.girthOn && !s.girth.cutDone && s.cyc % s.rd (pgSTAMP n) STAMP.ACQCFG_SDIV == 0 && decide (left < 640)

/-- A write of CTL, RELEASE or QUOTA: at once, or after the sample where it comes less than 40 ns before it (R410). -/
def stampCommand (s : State) (n off : Nat) (v : Word) : State :=
  if s.stampSoon n then s.modStamp n fun u => { u with late := u.late ++ [(off, v)] } else s.stampAct n (off, v)

/-- The late writes act. -/
def stampLate (s : State) (n : Nat) : State :=
  let w := (s.stamp n).late
  if w.isEmpty then s else (s.modStamp n fun u => { u with late := [] }).forEach w fun s e => s.stampAct n e

/-- The sample of one unit: the levels of the TRIP pins at the tick, and the pins seen high and low since the last CUTOFF. -/
def stampUnit (s : State) (n trip high low : Nat) : State :=
  let p := pgSTAMP n
  let i := s.rd p STAMP.EXTCFG_XIDX
  let kind := s.rd p STAMP.EXTCFG_XKIND
  let pol := s.on p STAMP.EXTCFG_XPOL
  let level : Bool := match kind with
    | 0 => false
    | 1 => bitOf (s.rd pgFLDDI FLDDI.LEVEL_LEVEL) i == pol
    | _ => s.on (pgSTITCH (i / 4)) (STITCH.XSTAT_ACTIVE (i % 4))
  let now := level || (kind == 0 && bitOf (if pol then high ||| trip else low ||| (255 - trip % 256)) i)
  let s := if s.running p then s.modStamp n fun u => { u with extSeen := u.extSeen || now } else s
  let s := if s.running p && s.girthOn && s.acq n != acqIDLE && s.acq n != acqDONE && s.cyc % s.rd p STAMP.ACQCFG_SDIV == 0 then
    s.stampStep n trip level else s
  s.stampLate n

/-- STAMP_SAMPLE within CUTOFF: every unit in ascending number. -/
def stampCutoff (s : State) (trip high low : Nat) : State := s.forEach (List.range 16) fun s n => s.stampUnit n trip high low

/-- The field inputs have the levels `di`: an EXT input at its active level is noted (R405). -/
def noteDi (s : State) (di : Nat) : State :=
  s.forEach (List.range 16) fun s n =>
    let p := pgSTAMP n
    if s.running p && s.rd p STAMP.EXTCFG_XKIND == 1 && bitOf di (s.rd p STAMP.EXTCFG_XIDX) == s.on p STAMP.EXTCFG_XPOL then
      s.modStamp n fun u => { u with extSeen := true } else s

/-- A time pin fired. -/
def noteTpin (s : State) (k : Nat) : State :=
  s.forEach (List.range 16) fun s n =>
    if s.running (pgSTAMP n) then s.modStamp n fun u => { u with tpSeen := withBit u.tpSeen k } else s

/-- STARTING: indexes, HELD, USE and SEGLEFT 0, ACQ IDLE. -/
def stampStart (s : State) (n : Nat) : State :=
  let p := pgSTAMP n
  let s := ((s.setReg p STAMP.IDX 0).setReg p STAMP.USE 0).setReg p STAMP.SEGLEFT 0
  let s := s.setReg p STAMP.HELD (BitVec.ofNat 32 (0x10000 * s.nslot n))
  (s.setAcq n acqIDLE).setStamp n {}

end State
end Sys2Proof.Machine
end

