-- ==== Sys2Proof/Machine/Claims.lean ====
section
/-! DEFINITION. Claims (R78, R79): the resources a page's configuration names, who holds each, how they are taken all at once or none,
and how they are released. -/
namespace Sys2Proof.Machine

/-- A pin (class 0) by its signal number (R528). -/
def idPin (n : Nat) : Nat := n
/-- An auxiliary compare channel (class 1). -/
def idAux (unit k : Nat) : Nat := 0x1000 + 4 * unit + k
/-- A granule of central memory (class 2). -/
def idGran (g : Nat) : Nat := 0x2000 + g
/-- An analog channel (class 3). -/
def idAna (n : Nat) : Nat := 0x3000 + n
/-- A feedback channel (class 4). -/
def idFb (n : Nat) : Nat := 0x4000 + n
/-- A time pin (class 5). -/
def idTpin (k : Nat) : Nat := 0x5000 + k

/-- The granules `[a, a + n)` touches. -/
def granules (a n : Nat) : List Nat :=
  if n = 0 then [] else (List.range ((a + n - 1) / 0x10000 - a / 0x10000 + 1)).map fun i => a / 0x10000 + i

/-- The switched domain a resource lies in; none for the always-on domain and the field die. -/
def idDomain (r : Nat) : Option Nat :=
  let i := r % 0x1000
  match r / 0x1000 with
  | 0 =>
    if i < 128 then some 12 else if i < 136 then some 13 else if i < 144 then some 15 else if i < 163 then some 14
    else if 176 ≤ i ∧ i < 232 then some 17 else if 256 ≤ i ∧ i < 304 then some 17 else if 320 ≤ i ∧ i < 352 then some 16 else none
  | 1 | 4 => some 17
  | 2 => some (8 + i / 64)
  | 3 => some 16
  | _ => none

namespace State

/-- The page that holds a resource. -/
def holder (s : State) (r : Nat) : Option Nat := Sp.get (fun _ => none) s.claims r

/-- Write who holds a resource. -/
def setHolder (s : State) (r : Nat) (p : Option Nat) : State := { s with claims := Sp.set (fun _ => none) s.claims r p }

/-- The bytes of cam table `k` by its header, the header alone where it cannot be read (R315). -/
def camSize (s : State) (k : Nat) : Nat × State :=
  let (h, s) := s.camHead k
  (match h with | some h => 48 + 16 * h.n | none => 32, s)

/-- The granules of the enabled cam tables, with the table as the item. -/
def camClaims (s : State) : List (Nat × Nat) × State :=
  (List.range 16).foldl (fun (r : List (Nat × Nat) × State) k =>
    if r.2.on pgPG (PG.CAMBASE_EN k) then
      let (n, s) := r.2.camSize k
      (r.1 ++ (granules (s.camBase k) n).map fun g => (idGran g, k), s)
    else r) ([], s)

/-- The resources a page's configuration names, each with its bit of CLAIM.ITEMS. -/
def pageClaims (s : State) (p : Nat) : List (Nat × Nat) × State :=
  let n := pageInst p
  match pageKind p with
  | some .lat => ((List.range 4).map (fun i => (idPin (128 + i), 0)) ++ (List.range 4).map (fun i => (idPin (132 + i), 1)), s)
  | some .tpin =>
    (((List.range 8).filter fun k => s.on p (TPIN.CFG_EN k)).flatMap fun k => [(idPin (352 + k), k), (idTpin k, k)], s)
  | some .stitch =>
    let legs := (List.range 3).filter fun x => bitOf (s.rd p STITCH.UCFG_LEGEN) x
    let b := s.rd p STITCH.TRIPCFG_BLANK
    (legs.flatMap (fun x => [(idPin (176 + 6 * n + 2 * x), 2 * x), (idPin (176 + 6 * n + 2 * x + 1), 2 * x + 1)])
      ++ (if b = 0 then [] else [(idAux n (b - 1), 8 + (b - 1))]), s)
  | some .fbch =>
    let m := s.rd p FBCH.CFG_MODE
    ([(idFb n, 3), (idPin (256 + 3 * n), 0), (idPin (256 + 3 * n + 1), 1)]
      ++ (if m = 1 ∨ (m = 0 ∧ s.on p FBCH.CFG_ZEN) then [(idPin (256 + 3 * n + 2), 2)] else []), s)
  | some .axch =>
    let x := s.rd p AXCH.CFG_XSEL
    ([(idAna n, 2), (idPin (320 + 2 * n), 0), (idPin (320 + 2 * n + 1), 1)]
      ++ (if x = 0 then [] else [(idAux (s.rd p AXCH.CFG_XUNIT) (x - 1), 3)]), s)
  | some .stamp =>
    ((List.range (s.rd p STAMP.REGION_NGRAN)).map (fun i => (idGran (s.rd p STAMP.REGION_BASE + i), 0))
      ++ (if bitOf (s.rd p STAMP.CONDCFG_TRIGEN) 4 && s.rd p STAMP.EXTCFG_XKIND == 2 then
            [(idAux 0 (s.rd p STAMP.EXTCFG_XIDX), 1)] else []), s)
  | some .buckle =>
    let fs := (List.range 16).filter s.sfOn
    ((((List.range 24).filter fun i => fs.any fun k => (s.sfInputs k).contains i).map fun i => (idPin (384 + i), 0))
      ++ (((List.range 12).filter s.testSource).map fun x => (idPin (408 + x), 1))
      ++ (([12, 13, 14, 15].filter s.safetyOutEn).map fun x => (idPin (408 + x), 2)), s)
  | some .cinch =>
    (if s.on p CINCH.LEDCFG_EN then
      (granules (s.rd p CINCH.LEDBASE_ADDR * 64) (64 * 2 ^ s.rd p CINCH.LEDCFG_SIZE)).map fun g => (idGran g, 0) else [], s)
  | some .cinchb => ((granules (s.rd p CINCHB.CMDBASE_ADDR * 32) (32 * 2 ^ s.rd p CINCHB.CMDCFG_RINGLOG2)).map fun g => (idGran g, 0), s)
  | some .dma => ((granules (s.rd p DMA.RBASE_ADDR * 32) (32 * 2 ^ s.rd p DMA.RING_RLOG2)).map fun g => (idGran g, 0), s)
  | some .tack =>
    ((List.range 4).flatMap fun k =>
      (granules (s.rd p (TACK.TBASE_ADDR k) * 8) (s.rd p (TACK.TLEN_LEN k))).map fun g => (idGran g, k), s)
  | some .pg => s.camClaims
  | _ => ([], s)

/-- A page takes its claims: each item's page, HELD and ITEMS. -/
def takeClaims (s : State) (p : Nat) (cs : List (Nat × Nat)) : State :=
  let s := s.forEach cs fun s c => s.setHolder c.1 (some p)
  if cs.isEmpty then s
  else (s.wr p HDR.CLAIM_HELD 1).wr p HDR.CLAIM_ITEMS (cs.foldl (fun w c => withBit w c.2) 0)

/-- A page releases its claims. -/
def releaseClaims (s : State) (p : Nat) : State :=
  { s with claims := s.claims.filter fun e => e.2 != some p }.setReg p HDR.CLAIM 0

/-- The page holds a claim. -/
def holdsAny (s : State) (p : Nat) : Bool := s.claims.any fun e => e.2 == some p

/-- The lowest resource among those whose domain is off. -/
def lowest (rs : List Nat) : Option Nat := rs.foldl (fun m r => match m with | none => some r | some x => some (min x r)) none

/-- R78: the claims of a start.  An item in a powered-off domain fails with 0xF3 and CFGREJ; an item another page holds fails with
0xF0 and CONFLICT, for the lowest identifier.  True where all were taken. -/
def claim (s : State) (p : Nat) : Bool × State :=
  let (cs, s) := s.pageClaims p
  let off := (cs.map (·.1)).filter fun r => match idDomain r with | some d => !s.domOn d | none => false
  let taken := (cs.map (·.1)).filter fun r => match s.holder r with | some q => q != p | none => false
  match lowest off, lowest taken with
  | some r, _ => (false, (s.cfgRej p).fault p (blockCode p 0xF3) r)
  | none, some r => (false, (s.wr p HDR.PSTAT_CONFLICT 1).fault p (blockCode p 0xF0) (0x10000 * (s.holder r).getD 0 + r))
  | none, none => (true, s.takeClaims p cs)

end State
end Sys2Proof.Machine
end

