-- ==== Sys2Proof/Machine/FieldIo.lean ====
section
/-! DEFINITION. The field die (chapter 18): the management link, the classes of input samples and the filtered levels, output
refreshes, readbacks, shutdowns and open loads, safe states and their release, and the field supply. -/
namespace Sys2Proof.Machine

/-- What became of the field die's management frame of a 10 µs slot (R440). -/
abbrev mgmtGood : Fin 3 := 0
abbrev mgmtFailed : Fin 3 := 1

/-- The class of a sample (R443): 0 OFF, 1 ON, 2 BREAK, 3 TRANS, from the current in µA and the voltage in mV. -/
def sampleClass (wben type1 uv : Bool) (ua mv : Nat) : Nat :=
  if uv then 3
  else if ua < 500 then (if wben then 2 else 0)
  else if ua ≤ 1500 ∨ mv ≤ 5000 then 0
  else if 2000 < ua ∧ (if type1 then 15000 else 11000) ≤ mv then 1
  else 3

namespace State

/-- FLD serves its link: STARTING, RUNNING or STOPPING (R440). -/
def fieldServes (s : State) : Bool := s.st pgFLD == 2 || s.active pgFLD

/-- FLD enters FAULTED on the loss of the link, and Buckle sees its inputs go (R440, R417). -/
def fieldLost (s : State) : State :=
  let s := ((s.wr pgFLD FLD.STAT_LINK 0).setSt pgFLD 5).evt pgFLD 0
  let s := { s with linkMiss := 0 }
  let s := s.forEach (List.range 16) fun s x => s.modFout x fun o => { o with seen := 0 }
  let s := s.faultU pgFLD 0x9001
  s.buckleFault 0x8006 BUCKLE.STAT_FIELD

/-- FIELD_LINK_LOSS: 16 frames in a row missing or failed (R440). -/
def fieldLinkLoss (s : State) : State := if s.fieldServes && decide (16 ≤ s.linkMiss) then s.fieldLost else s

/-- The configuration the controller sends: the registers of FLD, FLDDI and FLDDO, and Buckle's claims (R440, R442, R447). -/
def dieCfg (s : State) : DieCfg :=
  let mask (n : Nat) (f : Nat → Bool) : Nat := (List.range n).foldl (fun m x => m + b2n (f x) x) 0
  { modes := (List.range 16).map fun x => s.rd pgFLDDO (FLDDO.OCFG_SAFE x), forced := mask 16 s.buckleOut, tsafe := s.rd pgFLD FLD.CFG_TSAFE,
    olen := mask 16 fun x => s.on pgFLDDO (FLDDO.OCFG_OLEN x), wben := mask 24 fun k => s.on pgFLDDI (FLDDI.DICFG_WBEN k),
    type1 := mask 24 fun k => s.on pgFLDDI (FLDDI.DICFG_TYPE1 k),
    grid := (List.range 24).map fun k => if s.buckleIn k then 0 else 2 ^ s.rd pgFLDDI (FLDDI.DICFG_PER k) }

/-- The outputs enter a condition the field die reports: the live half follows, the sticky half keeps it, and `f` acts for each. -/
def dieMask (s : State) (now stk : Fld) (v : Nat) (f : State → Nat → State) : State :=
  let up := risen (s.rd pgFLDDO now) v
  let s := (s.wr pgFLDDO now v).wr pgFLDDO stk (up.foldl withBit (s.rd pgFLDDO stk))
  s.forEach up f

/-- A measurement of VFLD that reaches the controller is judged against VLIM, once (R450). -/
def voutJudge (s : State) : State :=
  let v := s.die.vfld
  if !s.die.unjudged then s
  else
    let s := { s with die := { s.die with unjudged := false } }
    if s.rd pgFLD FLD.VLIM_HI < v ∨ v < s.rd pgFLD FLD.VLIM_LO then (s.wr pgFLD FLD.STAT_VOUT 1).evt pgFLD 2 else s

/-- The field die's frame brings VFLD, temperature and the diagnostics of every channel (R440): the registers follow while the link is
up, and what is new is counted and reported (R446, R450). -/
def dieReport (s : State) : State :=
  if !s.on pgFLD FLD.STAT_LINK || !s.fieldServes then s
  else
    let d := s.die
    let s := ((s.safeShow.wr pgFLD FLD.MEAS_VFLD d.vfld).wr pgFLD FLD.MEAS_TEMP d.temp).voutJudge
    let uv := s.on pgFLD FLD.STAT_UV
    let ot := s.on pgFLD FLD.STAT_OT
    let s := (s.wr pgFLD FLD.STAT_UV (b2n d.uv 0)).wr pgFLD FLD.STAT_OT (b2n d.ot 0)
    let s := if d.uv && !uv then ((s.bumpE pgFLD FLD.UVCNT 4).evt pgFLD 1).faultU pgFLD 0x9002 else s
    let s := if d.ot && !ot then (s.evt pgFLD 3).faultU pgFLD 0x9003 else s
    let s := s.wr pgFLDDO FLDDO.RB_RB d.rb
    let s := s.dieMask FLDDO.TSD_NOW FLDDO.TSD_STK d.tsd fun s x => ((s.bumpE pgFLDDO FLDDO.SHORTS 4).evt pgFLDDO 0).fault pgFLDDO 0x9201 x
    let s := s.dieMask FLDDO.EXTHIGH_NOW FLDDO.EXTHIGH_STK d.exth fun s x =>
      ((s.bumpE pgFLDDO FLDDO.EXTHI 4).evt pgFLDDO 1).fault pgFLDDO 0x9202 x
    s.dieMask FLDDO.OPENLD_NOW FLDDO.OPENLD_STK d.openld fun s x => (s.evt pgFLDDO 2).fault pgFLDDO 0x9203 x

/-- The field die learns of a start of FLD: the channels leave their safe states, each to follow its next refresh (R449). -/
def safeLeave (s : State) : State :=
  let s := s.forEach ((List.range 16).filter s.safeAct) fun s x => s.modFout x fun o => { o with waits := true }
  { s with die := { s.die with safe := 0 } }

/-- The controller's management frame is sent, and crosses or does not (R440): the configuration, and the first time after a start of
FLD the news of it, which the field die has from this frame alone (R441, notes/assumptions/128.md). -/
def manageSend (s : State) (crossed : Bool) : State :=
  let c := s.dieCfg
  let new := s.fldNew
  let s := s.emit (.manage c [] new)
  if !crossed then s
  else
    let s := if new then { s.safeLeave with fldNew := false } else s
    ({ s with die := { s.die with cfg := c } }.forEach (List.range 16) outSettle).safeShow

/-- The management frames of a 10 µs slot: the field die's is good, failed its check or missing; the controller's crosses or does not
(R440). -/
def manageFrame (s : State) (r : Fin 3) (crossed : Bool) : State :=
  if !s.fieldServes then s
  else
  let s := s.manageSend crossed
  if r = mgmtGood then ({ s with linkMiss := 0 }.wr pgFLD FLD.STAT_LINK 1).dieReport
  else
    let s := if r = mgmtFailed then s.bumpE pgFLD FLD.LINKERR 4 else s
    { s with linkMiss := if s.on pgFLD FLD.STAT_LINK then s.linkMiss + 1 else 0 }.fieldLinkLoss

/-- FLDDI's share of a sample (R444): BREAK and its run, TRANS, the run towards a new level, VALID's age. -/
def levelSample (s : State) (k c : Nat) : State :=
  let s := s.modFin k fun x => { x with at_ := some s.time.raw }
  let brk := s.rd pgFLDDI FLDDI.BREAK_BREAK
  if c = 3 then s.bumpE pgFLDDI FLDDI.TRANS 2
  else
    let s :=
      if c = 2 then
        let s' := (s.wr pgFLDDI FLDDI.BREAK_BREAK (withBit brk k)).wr pgFLDDI FLDDI.BRKSTK_BREAK
          (withBit (s.rd pgFLDDI FLDDI.BRKSTK_BREAK) k)
        if (s.fin k).cls = 2 then s' else ((s'.bumpE pgFLDDI FLDDI.BREAKS 2).evt pgFLDDI 1).fault pgFLDDI 0x9101 k
      else s.wr pgFLDDI FLDDI.BREAK_BREAK (withoutBit brk k)
    let v := (c == 1) != s.on pgFLDDI (FLDDI.DICFG_INV k)
    let l := s.rd pgFLDDI FLDDI.LEVEL_LEVEL
    if bitOf l k == v then s.modFin k fun x => { x with run := 0 }
    else if s.rd pgFLDDI (FLDDI.DICFG_FILT k) + 1 ≤ (s.fin k).run + 1 then
      let s := (s.modFin k fun x => { x with run := 0 }).wr pgFLDDI FLDDI.LEVEL_LEVEL (if v then withBit l k else withoutBit l k)
      let s := if bitOf (s.rd pgFLDDI FLDDI.CHGEN_EN) k then s.evt pgFLDDI 0 else s
      s.noteDi (s.rd pgFLDDI FLDDI.LEVEL_LEVEL)
    else s.modFin k fun x => { x with run := x.run + 1 }

/-- A sample of input DIk: on Buckle's grid where BUCKLE claims it, else on FLDDI's (R442–R444). -/
def inputSample (s : State) (k ua mv : Nat) : State :=
  if s.running pgFLD && (s.buckleIn k || s.running pgFLDDI) then
    let c := sampleClass (bitOf s.die.cfg.wben k) (bitOf s.die.cfg.type1 k) s.die.uv ua mv
    let s := s.levelSample k c
    s.modFin k fun x => { x with raw := c, cls := if c = 3 then x.cls else c, fresh := true }
  else s

/-- The sample period of an input in units of the raw counter (R442). -/
def samplePeriod (s : State) (k : Nat) : Nat :=
  if s.buckleIn k then 2000000 else 500000 * 2 ^ s.rd pgFLDDI (FLDDI.DICFG_PER k)

/-- VALID as read: the newest sample is not older than two periods (R444). -/
def fieldValid (s : State) : Nat :=
  (List.range 24).foldl (fun w k => match (s.fin k).at_ with
    | some t => if (s.time.raw - t).toNat ≤ 2 * s.samplePeriod k then withBit w k else w
    | none => w) 0

/-- A refresh of output DOx is sent, and crosses its coupler or does not (R440). -/
def outputRefresh (s : State) (x : Nat) (crossed : Bool) : State :=
  if !s.fieldServes then s
  else
    let v := s.outCmd x
    let s := s.emit (.refresh x v)
    if crossed then ((s.modFout x fun o => { o with level := v, waits := false, seen := min 100 (o.seen + 1) }).outSettle x).safeShow
    else s.modFout x fun o => { o with seen := 0 }

/-- EXTHIGH of one output at a readback (R446). -/
def extHigh (s : State) (x : Nat) : State :=
  let o := s.fout x
  let d := s.die
  let off (s : State) : State := { s with die := { d with exth := withoutBit d.exth x } }
  if bitOf d.cmd x || !bitOf d.rb x || o.susp ≠ 0 then off (s.setFout x { o with high := false, susp := o.susp - 1 })
  else if !o.high then s.setFout x { o with high := true }
  else { s with die := { d with exth := withBit d.exth x } }

/-- A readback of all outputs: `above` are the pins above 11 V, `below` those below 5 V (R446). -/
def readback (s : State) (above below : Nat) : State :=
  let rb := (List.range 16).foldl (fun w x => if bitOf above x then withBit w x else if bitOf below x then withoutBit w x else w) s.die.rb
  ({ s with die := { s.die with rb := rb } }.forEach (List.range 16) extHigh).dieReport

/-- The thermal shutdown of an output that is on (R446). -/
def thermalShutdown (s : State) (x : Nat) : State :=
  if bitOf s.die.cmd x then { s with die := { s.die with tsd := withBit s.die.tsd x } }.dieReport else s

/-- The retry instant of a channel in thermal shutdown (R446, R451). -/
def retry (s : State) (x : Nat) : State :=
  if !bitOf s.die.tsd x || s.die.uv then s
  else
    let s' := { s with die := { s.die with tsd := withoutBit s.die.tsd x } }.dieReport
    if s.outWanted x && s.on pgFLD FLD.STAT_LINK then s'.bumpE pgFLDDO FLDDO.RETRIES 4 else s'

/-- The load current of an output has stayed below 2 mA for 10 ms, or has risen above it (R446). -/
def openLoad (s : State) (x : Nat) (low : Bool) : State :=
  let d := s.die
  if !low then { s with die := { d with openld := withoutBit d.openld x } }.dieReport
  else if bitOf d.cfg.olen x && bitOf d.cmd x then { s with die := { d with openld := withBit d.openld x } }.dieReport
  else s

/-- SAFE_STATE_TIMEOUT: no refresh or no management frame for TSAFE ms (R448). -/
def safeTimeout (s : State) (x : Nat) : State := (s.safeEnter x).safeShow

/-- A write of SAFEACT (R449): each bit written 1 by the host releases its channel, which follows its next refresh, or is refused. -/
def safeactWrite (s : State) (m mask : Nat) : State :=
  s.forEach ((List.range 16).filter fun x => bitOf mask x && s.safeAct x) fun s x =>
    if (s.fout x).seen = 100 ∧ m = mHost ∧ s.on pgFLD FLD.STAT_LINK then
      ({ s with die := { s.die with safe := withoutBit s.die.safe x } }.modFout x fun o => { o with waits := true }).safeShow
    else (s.cfgRej pgFLDDO).bumpE pgFLDDO FLDDO.SAFEREF 4

/-- All outputs take their level in effect. -/
def outsSettle (s : State) : State := (s.forEach (List.range 16) outSettle).safeShow

/-- A measurement of VFLD (mV) and of the field die's temperature (1/16 K) (R450), reported at once where the link is up. -/
def vfldMeasure (s : State) (mv temp : Nat) : State :=
  let d := s.die
  let uv := if mv < 16000 then true else if 17000 < mv then false else d.uv
  let ot := if 42315 * 16 < temp * 100 then true else if temp * 100 < 40815 * 16 then false else d.ot
  ({ s with die := { d with vfld := mv, temp := temp, uv := uv, ot := ot, unjudged := true } }.forEach (List.range 16) outSettle).dieReport

/-- A start of FLD: the link comes up anew, and the next frame that crosses tells the field die of it (R440, R441, R449). -/
def fieldBegin (s : State) : State := { (s.wr pgFLD FLD.STAT_LINK 0) with linkMiss := 0, fldNew := true }

/-- FLD has stopped: no refresh crosses any more. -/
def fieldEnd (s : State) : State :=
  let s := { (s.wr pgFLD FLD.STAT_LINK 0) with fldNew := false }
  s.forEach (List.range 16) fun s x => s.modFout x fun o => { o with seen := 0 }

end State
end Sys2Proof.Machine
end

