-- ==== Sys2Proof/Machine/Times.lean ====
section
/-! DEFINITION. Network time (chapter 06): changes of rate and offset, snapshots and latched reads, and the time pins. -/
namespace Sys2Proof.Machine

namespace State

/-! ### Rate and offset (R145–R148) -/

/-- A refused write to the time registers (R148). -/
def timeRefused (s : State) (code : Nat) : State := ((s.bump pgTIME TIME.REFUSED).evt pgTIME 0).faultU pgTIME code

/-- The master that SRC permits (R148). -/
def timeMaster (s : State) (m : Nat) : Bool := if s.on pgTIME TIME.CTL_SRC then m == mLatigo else m == mHost

/-- A write of the time base waits for the next TCLK edge (R145, R146). -/
def timeStage (s : State) (c : TimeChange) : State := { s with time := { s.time with staged := s.time.staged ++ [c] } }

/-- RATE is written: the register shows the value at once, T64 follows it from the next edge on. -/
def rateSet (s : State) (v : Word) : State := (s.setReg pgTIME TIME.RATE v).timeStage (.rate v)

/-- A change takes effect at the present edge: a RATE by the rebase of R145, which leaves T64 continuous, an OFFSET or a step with its
jump (R146). -/
def timeChange (s : State) (c : TimeChange) : State :=
  match c with
  | .rate v => { s with time := { s.time with offset := s.time.offset + rateTermAt s.timeFn s.time.raw, rref := s.time.raw, rate := v } }
  | .offset v => { s with time := { s.time with offset := v, stepEdge := true } }
  | .step v => { s with time := { s.time with offset := s.time.offset + v, stepEdge := true } }

/-- A TCLK edge: the writes of the last tick take effect.  What held before is kept for the frames whose start lies before the edge
(R151): 2^20 units, 65 µs. -/
def timeEdge (s : State) : State :=
  let s := { s with time := { s.time with stepEdge := false } }
  if s.time.staged.isEmpty then s
  else
    let past := (s.time.raw, s.timeFn) :: s.time.past.filter fun e => decide ((s.time.raw - e.1).toNat < 2 ^ 20)
    let s := s.forEach s.time.staged timeChange
    { s with time := { s.time with staged := [], past := past } }

/-- The change of RATE exceeds RATELIM while Girth runs (R147). -/
def rateOver (s : State) (v : Word) : Bool :=
  s.girthBusy && decide ((s.rd pgTIME TIME.RATELIM_LIMIT : Int) < ((v.toInt - s.time.rateRef.toInt).natAbs : Int))

/-- A write to TIME.RATE. -/
def rateWrite (s : State) (m : Nat) (v : Word) : State :=
  if !s.timeMaster m then s.timeRefused 0x1003 else if s.rateOver v then s.timeRefused 0x1002 else s.rateSet v

/-- A write to OFFLO stages the low word. -/
def offloWrite (s : State) (m : Nat) (v : Word) : State :=
  if !s.timeMaster m then s.timeRefused 0x1003 else { s with time := { s.time with offStage := v } }

/-- A write to STEPLO stages the low step word. -/
def steploWrite (s : State) (m : Nat) (v : Word) : State :=
  if !s.timeMaster m then s.timeRefused 0x1003 else { s with time := { s.time with stepStage := v } }

/-- A write to OFFHI commits OFFSET (R146).  A write that fails the test of SRC raises 0x1003 alone, as one of RATE and STEPHI does
(notes/assumptions/121.md). -/
def offhiWrite (s : State) (m : Nat) (v : Word) : State :=
  if !s.timeMaster m then s.timeRefused 0x1003 else if s.girthBusy then s.timeRefused 0x1001
  else s.timeStage (.offset (v ++ s.time.offStage))

/-- A write to STEPHI adds the step to OFFSET (R146). -/
def stephiWrite (s : State) (m : Nat) (v : Word) : State :=
  if !s.timeMaster m then s.timeRefused 0x1003 else if s.girthBusy then s.timeRefused 0x1001
  else s.timeStage (.step (v ++ s.time.stepStage))

/-! ### Reading time (R149, R158, R134, R160) -/

/-- The snapshot of this edge (R149). -/
def snapNow (s : State) : Snap :=
  let g := s.girthOn
  { t64 := s.t64, raw := s.time.raw, cyc := if g then s.girth.cyc else 0, phase := if g then s.phase else 0, valid := g }

/-- The last snapshot of a master. -/
def snapOf (s : State) (m : Nat) : Snap := Sp.get (fun _ => {}) s.time.snaps m

/-- The low word of a 64-bit number. -/
def lo32 (v : BitVec 64) : Word := v.truncate 32
/-- The high word of a 64-bit number. -/
def hi32 (v : BitVec 64) : Word := (v >>> 32).truncate 32

/-- Latch a high word for a master. -/
def latchHigh (s : State) (m k : Nat) (v : Word) : State :=
  { s with time := { s.time with latches := Sp.set (fun _ => 0) s.time.latches (m * 16 + k) v } }

/-- The high word latched for a master. -/
def latched (s : State) (m k : Nat) : Word := Sp.get (fun _ => 0) s.time.latches (m * 16 + k)

/-- A 32-bit answer to the reader. -/
def answer (s : State) (v : Word) : State := { s with reply := .data (leBytes 4 v.toNat) }

/-- A read of NOWLO captures the master's snapshot. -/
def nowloRead (s : State) (m : Nat) : State :=
  let n := s.snapNow
  { s with time := { s.time with snaps := Sp.set (fun _ => {}) s.time.snaps m n } }.answer (lo32 n.t64)

/-- A read of OFFLO latches OFFHI. -/
def offloRead (s : State) (m : Nat) : State := (s.latchHigh m 0 (hi32 s.time.offset)).answer (lo32 s.time.offset)

/-- A read of RREFLO latches RREFHI. -/
def rrefloRead (s : State) (m : Nat) : State := (s.latchHigh m 1 (hi32 s.time.rref)).answer (lo32 s.time.rref)

/-- A read of GIRTH.CYCLO latches CYCHI. -/
def cycloRead (s : State) (m : Nat) : State :=
  (s.latchHigh m 2 (BitVec.ofNat 32 (s.girth.cyc.toNat / 2 ^ 32))).answer (s.girth.cyc.truncate 32)

/-- A read of a pin's TGTLO latches its TGTHI. -/
def tgtloRead (s : State) (m k : Nat) : State :=
  (s.latchHigh m (8 + k) (s.reg pgTPIN (TPIN.TGTHI k))).answer (s.reg pgTPIN (TPIN.TGTLO k))

/-- The registers of TIME, GIRTH.CYCx and TGTHI that read from the time base; none for other registers. -/
def timeView (s : State) (m p off : Nat) : Option Word :=
  if p = pgTIME then
    if off = TIME.OFFHI then some (s.latched m 0)
    else if off = TIME.RREFHI then some (s.latched m 1)
    else if off = TIME.NOWHI then some (hi32 (s.snapOf m).t64)
    else if off = TIME.RAWLO then some (lo32 (s.snapOf m).raw)
    else if off = TIME.RAWHI then some (hi32 (s.snapOf m).raw)
    else if off = TIME.SCYCLO then some ((s.snapOf m).cyc.truncate 32)
    else if off = TIME.SCYCHI then some (BitVec.ofNat 32 ((s.snapOf m).cyc.toNat / 2 ^ 32))
    else if off = TIME.SPHASE then some (BitVec.ofNat 32 ((s.snapOf m).phase + b2n (s.snapOf m).valid 31))
    else none
  else if p = pgGIRTH ∧ off = GIRTH.CYCHI then some (s.latched m 2)
  else if p = pgTPIN ∧ off % 0x20 = 0x0C ∧ 0x40 ≤ off ∧ off < 0x140 then some (s.latched m (8 + (off - 0x40) / 0x20))
  else none

/-! ### Time pins (R153–R156) -/

/-- TARGET of a pin. -/
def pinTarget (s : State) (k : Nat) : BitVec 64 := s.reg pgTPIN (TPIN.TGTHI k) ++ s.reg pgTPIN (TPIN.TGTLO k)

/-- STAT.LATE of a pin, with its event. -/
def pinLate (s : State) (k : Nat) : State := (s.wr pgTPIN (TPIN.STAT_LATE k) 1).evt pgTPIN (8 + k)

/-- PERIOD of a pin. -/
def pinPeriod (s : State) (k : Nat) : Nat :=
  2 ^ 32 * s.rd pgTPIN (TPIN.PERHI_PERIOD k) + s.rd pgTPIN (TPIN.PERLO_PERIOD k)

/-- A write of CTL updates WIDTH, and PERIODIC where the pin is not armed (R160). -/
def pinCtl (s : State) (k : Nat) (periodic : Bool) (width : Nat) : State :=
  let s' := s.wr pgTPIN (TPIN.CTL_WIDTH k) width
  if s.on pgTPIN (TPIN.CTL_ARM k) then s' else s'.wr pgTPIN (TPIN.CTL_PERIODIC k) (if periodic then 1 else 0)

/-- The conditions of R154 under which an arming is refused. -/
def pinRefuses (s : State) (k : Nat) : Bool :=
  let w := s.rd pgTPIN (TPIN.CTL_WIDTH k)
  !s.running pgTPIN || !s.on pgTPIN (TPIN.CFG_EN k) || w == 0
    || (s.on pgTPIN (TPIN.CTL_PERIODIC k) && decide (s.pinPeriod k < (w + 1) * 64))

/-- A write of CTL with ARM = 1 (R154): a refused arming leaves ARM at 0 (notes/assumptions/93.md). -/
def pinArm (s : State) (k : Nat) (periodic : Bool) (width : Nat) : State :=
  let s := s.pinCtl k periodic width
  if s.pinRefuses k then (s.wr pgTPIN (TPIN.CTL_ARM k) 0).cfgRej pgTPIN
  else if geT64 s.t64 (s.pinTarget k) then (s.wr pgTPIN (TPIN.CTL_ARM k) 0).pinLate k
  else s.wr pgTPIN (TPIN.CTL_ARM k) 1

/-- A write of CTL with ARM = 0. -/
def pinDisarm (s : State) (k : Nat) (periodic : Bool) (width : Nat) : State :=
  (s.pinCtl k periodic width).wr pgTPIN (TPIN.CTL_ARM k) 0

/-- The width count of a pulse begins, or begins anew: the raw time at which WIDTH ticks have passed (R155). -/
def pulseBegin (s : State) (k : Nat) : State :=
  let e := s.time.raw + BitVec.ofNat 64 (64 * s.rd pgTPIN (TPIN.CTL_WIDTH k))
  { s with time := { s.time with pulses := Sp.set (fun _ => 0) s.time.pulses k e } }

/-- The raw time at which the pulse of a pin ends. -/
def pulseUntil (s : State) (k : Nat) : BitVec 64 := Sp.get (fun _ => 0) s.time.pulses k

/-- An armed pin whose TARGET T64 has reached fires (R155). -/
def pinFire (s : State) (k : Nat) : State :=
  let t := s.pinTarget k
  if s.running pgTPIN && s.on pgTPIN (TPIN.CTL_ARM k) && geT64 s.t64 t then
    let adv := if s.on pgTPIN (TPIN.CTL_PERIODIC k) then (s.t64 - t).toNat / s.pinPeriod k + 1 else 0
    let s := if adv = 0 then s.wr pgTPIN (TPIN.CTL_ARM k) 0
      else
        let t' := t + BitVec.ofNat 64 (adv * s.pinPeriod k)
        ((s.setReg pgTPIN (TPIN.TGTLO k) (lo32 t')).setReg pgTPIN (TPIN.TGTHI k) (hi32 t')).bumpBy pgTPIN (TPIN.SKIP k) (adv - 1)
    let s := (((s.wr pgTPIN (TPIN.STAT_FIRED k) 1).wr pgTPIN (TPIN.STAT_ACTIVE k) 1).evt pgTPIN k).pulseBegin k
    let s := s.noteTpin k
    if s.time.stepEdge || decide (1 < adv) then s.pinLate k else s
  else s

/-- The pin returns to its inactive level. -/
def pulseOff (s : State) (k : Nat) : State := s.wr pgTPIN (TPIN.STAT_ACTIVE k) 0

/-- The level of an enabled time pin: active high, or active low with POL = 1. -/
def pinLevel (s : State) (k : Nat) : Bool := s.on pgTPIN (TPIN.STAT_ACTIVE k) != s.on pgTPIN (TPIN.CFG_POL k)

/-- The row PULSE_END: a pulse ends once its WIDTH ticks have passed (R155). -/
def pulseEnd (s : State) (k : Nat) : State :=
  if s.on pgTPIN (TPIN.STAT_ACTIVE k) && geT64 s.time.raw (s.pulseUntil k) then s.pulseOff k else s

/-- TPIN enters STOPPING: pins are disarmed and pulses end (R153). -/
def tpinHalt (s : State) : State := s.forEach (List.range 8) fun s k => (s.wr pgTPIN (TPIN.CTL_ARM k) 0).pulseOff k

end State
end Sys2Proof.Machine
end

