-- ==== Sys2Proof/Machine/Latigo.lean ====
section
/-! DEFINITION. Latigo (chapter 15): the tether and its frames, pairing, the follower's time servo, command forwarding, comparison
and invalidation, state copies, tether loss, holdover, handover. -/
namespace Sys2Proof.Machine

/-- Pair states of R394. -/
def psUNPAIRED : Nat := 0
def psLOCKING : Nat := 1
def psRESYNC : Nat := 2
def psACTIVE : Nat := 3
def psHOLDOVER : Nat := 4
def psSILENT : Nat := 5
def psSOLO : Nat := 6

/-- The EtherType of tether frames: the default of R90. -/
def tetherEtype : Nat := NPORT.LINKCFG_ETYPE.reset

/-- LEN within the range of a tether frame (R93, R102, R377, R378). -/
def tetherLen (f : Frame) : Bool :=
  match f.cls with
  | 9 => f.len == 192
  | 0xA => match fieldAt f.payload 0 1 with
    | 1 => f.len == 8
    | 2 => let n := fieldAt f.payload 5 1; decide (1 ≤ n) && decide (n ≤ 16) && f.len == 8 + 32 * n
    | 3 => f.len == 1552
    | 4 => f.len == 1040
    | 5 => f.len == 8
    | _ => false
  | 0xB => f.len == 16
  | _ => false

/-- R103 steps 1–3 on a tether frame of a class (R376). -/
def tetherOk (f : RxFrame) : Bool :=
  let h := f.frame
  let n := h.payload.length
  f.cgErr == 0 && !f.vErr && f.fcsOk && h.etype == tetherEtype && h.ver == 1 && h.port == 0xFF && h.node == 0
    && (h.cls == 9 || h.cls == 0xA || h.cls == 0xB) && h.axcnt != 0xFF && tetherLen h
    && (n == h.len || (n == 30 && decide (h.len ≤ 30) && (h.payload.drop h.len).all (· == 0)))

namespace State

/-! ### Lanes and frames (R376, R377) -/

/-- Lane L0 or L1 holds SYNC. -/
def laneSync (s : State) (l : Nat) : Bool := s.on pgLAT (if l = 0 then LAT.STAT_LANE0 else LAT.STAT_LANE1)

/-- The lane that carries a message meant for lane `l`: the other one while it lacks SYNC; none while both do. -/
def laneFor (s : State) (l : Nat) : Option Nat :=
  if s.laneSync l then some l else if s.laneSync (1 - l) then some (1 - l) else none

/-- The stamp of a received tether frame: the lanes run at 2.5 Gbaud (R84, R151). -/
def tetherStart (s : State) (f : RxFrame) : BitVec 64 := s.bitStamp f.edge f.bit 1

/-- A tether frame's header (R376). -/
def tetherFrame (s : State) (cls : Nat) (payload : List Byte) : Frame :=
  { etype := tetherEtype, ver := 1, cls := cls, port := 0xFF, node := 0, cyc := s.girth.cyc.truncate 32, flags := s.planeBit,
    len := payload.length, axcnt := 0, markadj := 0, holdmax := 0, payload := payload }

/-- Send on the tether, on the lane that serves `l`. -/
def sendTether (s : State) (l cls : Nat) (payload : List Byte) : State :=
  match s.laneFor l with
  | some k => let f := s.tetherFrame cls payload; s.send (.tether k f (s.macFrame f))
  | none => s

/-- Send a message that ends in the `size` bytes of a generator image. -/
def sendImage (s : State) (payload : List Byte) (size : Nat) (image : GenImage) : State :=
  match s.laneFor 1 with
  | some k =>
    let f := s.tetherFrame 0xA (payload ++ (List.range size).map (Config.imageByte image))
    s.send (.tetherImage k f image (s.macFrame f))
  | none => s

def modLat (s : State) (f : Lat → Lat) : State := { s with lat := f s.lat }

/-- Change PSTATE. -/
def setPstate (s : State) (v : Nat) : State :=
  let s' := s.wr pgLAT LAT.STAT_PSTATE v
  if v = psACTIVE ∧ s.latPstate ≠ psACTIVE then s'.evt pgLAT 2 else s'

/-- Change ROLE. -/
def setRole (s : State) (v : Nat) : State := s.wr pgLAT LAT.STAT_ROLE v

/-- Set LOCKED. -/
def setLocked (s : State) (b : Bool) : State :=
  let s' := s.wr pgLAT LAT.STAT_LOCKED (b2n b 0)
  if b && !s.on pgLAT LAT.STAT_LOCKED then s'.evt pgLAT 1 else s'

/-- A twin frame was received. -/
def twinSeen (s : State) : State :=
  let s' := (s.wr pgLAT LAT.STAT_TWINSEEN 1).modLat fun l => { l with heardAt := s.time.raw, coldOff := true }
  if s.on pgLAT LAT.STAT_TWINSEEN then s' else s'.evt pgLAT 0

/-- A frame of a class is taken, or counted in SYNCERR where it fails R103. -/
def takeTether (s : State) (cls sub : Nat) (f : RxFrame) (good : State → State) : State :=
  if !s.latOn then s
  else if !tetherOk f then s.bumpE pgLAT LAT.SYNCERR 8
  else if f.frame.cls ≠ cls ∨ (cls = 0xA ∧ fieldAt f.frame.payload 0 1 ≠ sub) then s
  else good s.twinSeen

/-! ### Copies: what the sink asks for and the source gives (R387, R388) -/

/-- Send RREQ for ports. -/
def sendRreq (s : State) (ports : Nat) : State := s.sendTether 1 0xA ([5, 0, 0, 0] ++ leBytes 4 ports)

/-- The pieces of the shared blocks, by address: the data blocks of the set in central and Bench memory, which the windows of Latigo
cover (R471); what a set places in an Awl's local memory is no shared block. -/
def sharedPieces (s : State) : List Nat :=
  (s.tack.blocks.filter fun b => decide (b.1 < 0x02000000)).flatMap fun b => (List.range ((b.2 + 1023) / 1024)).map fun i => b.1 + 1024 * i

/-- Everything a whole-plane copy holds: axes, groups, virtual masters, shared blocks (R387, R388). -/
def wholePlane (s : State) : List (Nat × Nat) :=
  s.mapped.map (fun e => (0, e.1)) ++ (List.range 32).map (fun g => (2, g)) ++ (List.range 4).map (fun k => (3, k))
    ++ s.sharedPieces.map fun a => (1, a)

/-- Ask for a whole-plane copy; the plane is invalid until it is regained. -/
def planeCopy (s : State) : State :=
  (s.modLat fun l => { l with plane := true, planeEq := [], inv := [], want := s.wholePlane, held := [] }).sendRreq 0xFFFFFFFF

/-- The follower acts alone: in HOLDOVER and SILENT with its previous PINV, in SOLO (R390). -/
def actsAlone (s : State) : Bool := s.latPstate == psHOLDOVER || s.latPstate == psSILENT || s.latPstate == psSOLO

/-- Whole-plane divergence of the follower with its fault (R384, R387).  A follower that is LOCKING enters RESYNC when it is LOCKED; one that
acts alone keeps its state and its PINV, and copies its plane when the tether has returned (R390, R391, notes/assumptions/124.md). -/
def diverge (s : State) (code : Nat) : State :=
  let s := (s.faultU pgLAT code).evt pgLAT 3
  if s.actsAlone then s
  else (if s.latPstate = psLOCKING then s else s.setPstate psRESYNC).planeCopy

/-- The port is invalid until its axes are copied and it has compared equal (R387). -/
def invalidatePort (s : State) (p : Nat) : State :=
  let axes := (s.portAxes p).map (·.1)
  (s.modLat fun l => { l with inv := { port := p, axes := axes, equal := 0 } :: l.inv.filter (·.port ≠ p),
                              held := l.held.filter fun h => !(h.kind == 0 && axes.contains h.index) }).sendRreq (2 ^ p)

/-- A copy is wanted. -/
def wanted (s : State) (kind index : Nat) : Bool :=
  s.lat.want.contains (kind, index) || (kind == 0 && s.lat.inv.any fun i => i.axes.contains index)

/-- The source's moment for a copy has come (R388). -/
def giveReady (s : State) (c : BitVec 48) (w : Nat × Nat) : Bool :=
  match w.1 with
  | 0 => s.axisResolved w.2 c && (s.pg w.2).waiting.isEmpty
  | 1 => s.allResolved c
  | _ => true

/-- A copy that could not be read is owed still, behind the others (notes/assumptions/97.md). -/
def giveAgain (s : State) (w : Nat × Nat) : State := s.modLat fun l => { l with give := l.give ++ [w] }

/-- Send one copy of cycle `c`. -/
def giveOne (s : State) (c : BitVec 48) (w : Nat × Nat) : State :=
  match w.1 with
  | 0 => match (s.axis w.2).map with
    | some m =>
      let r := s.fixRead mLatigo (m.base + 0x80) 0x380
      (match r.1 with
       | some b => r.2.sendImage ([3, 0, 0, 0] ++ leBytes 2 w.2 ++ leBytes 6 c.toNat ++ leBytes 4 0 ++ b) 640 (.pg (s.pg w.2))
       | none => r.2.giveAgain w)
    | none => s
  | 1 =>
    let r := s.fixRead mLatigo w.2 (s.pieceBytes w.2 (List.replicate 1024 0)).length
    (match r.1 with
     | some b => r.2.sendTether 1 0xA ([4, 0, 0, 0] ++ leBytes 2 0 ++ leBytes 6 c.toNat ++ leBytes 4 w.2 ++ slice b 0 1024)
     | none => r.2.giveAgain w)
  | 2 => s.sendImage ([4, 0, 0, 0] ++ leBytes 2 1 ++ leBytes 6 c.toNat ++ leBytes 4 w.2) 1024 (.group (Sp.get (fun _ => {}) s.igrps w.2))
  | _ => s.sendImage ([4, 0, 0, 0] ++ leBytes 2 2 ++ leBytes 6 c.toNat ++ leBytes 4 w.2) 1024 (.vm (s.vm w.2))

/-- Send the copies asked for, in order, up to the first whose moment has not come. -/
def latGive (s : State) : State :=
  if s.lat.give.isEmpty || !s.latOn then s
  else
    let c := s.girth.cw.getD s.girth.cyc
    let now := s.lat.give.takeWhile (s.giveReady c)
    (s.modLat fun l => { l with give := l.give.drop now.length }).forEach now fun s w => s.giveOne c w

/-- RREQ received (R388): what an earlier one still owes is kept, in the order of the rule. -/
def rreqReceive (s : State) (f : RxFrame) : State :=
  s.takeTether 0xA 5 f fun s =>
    let ports := fieldAt f.frame.payload 4 4
    let l := if ports = 0xFFFFFFFF then s.wholePlane
      else (s.mapped.filter fun e => match e.2.place with | .port n _ => bitOf ports n | _ => false).map fun e => (0, e.1)
    let owed := s.lat.give
    (s.modLat fun x => { x with give := s.wholePlane.filter fun w => l.contains w || owed.contains w }).latGive

/-- A copy that came: held until its moment, or discarded and asked for again where it comes after the sink's CWSTART of the next
cycle (R388). -/
def copyReceive (s : State) (m : CopyMsg) : State :=
  if !s.wanted m.kind m.index then s
  else if match s.girth.cw with | some c => decide (m.cyc.toNat < c.toNat) | none => false then
    let s := s.bumpE pgLAT LAT.COPYDISC 8
    s.sendRreq (match m.kind, (s.axis m.index).map with
      | 0, some x => (match x.place with | .port n _ => 2 ^ n | _ => 0xFFFFFFFF)
      | _, _ => 0xFFFFFFFF)
  else s.modLat fun l => { l with held := l.held.filter (fun h => !(h.kind == m.kind && h.index == m.index)) ++ [m] }

/-- RCOPY received: the record part from the frame, the image beside it. -/
def rcopyReceive (s : State) (f : RxFrame) (image : Pg) : State :=
  s.takeTether 0xA 3 f fun s =>
    let b := f.frame.payload
    s.copyReceive { kind := 0, index := fieldAt b 4 2, cyc := BitVec.ofNat 48 (fieldAt b 6 6), bytes := slice b 16 896, image := .pg image }

/-- RBLOCK received. -/
def rblockReceive (s : State) (f : RxFrame) (image : GenImage) : State :=
  s.takeTether 0xA 4 f fun s =>
    let b := f.frame.payload
    let kind := match fieldAt b 4 2 with | 0 => 1 | 1 => 2 | 2 => 3 | _ => 9
    s.copyReceive { kind := kind, index := fieldAt b 12 4, cyc := BitVec.ofNat 48 (fieldAt b 6 6), bytes := slice b 16 1024, image := image }

/-- COPY_INSTALL of one copy. -/
def copyInstall (s : State) (kind index : Nat) : State := s.copiesInstall fun m => m.kind == kind && m.index == index

/-! ### Forwarding (R383, R384) -/

/-- The ring of a Bench: base address, size. -/
def ringBase (s : State) (b : Nat) : Nat := s.rd (pgCINCHB b) CINCHB.CMDBASE_ADDR * 32
def ringSize (s : State) (b : Nat) : Nat := 2 ^ s.rd (pgCINCHB b) CINCHB.CMDCFG_RINGLOG2

/-- The follower refuses host writes of CMDTAIL (R384, R390). -/
def refusesTail (s : State) : Bool := s.latOn && s.latRole == 2 && s.latPstate != psSOLO

/-- A write to CMDTAIL (R184, R384). -/
def cmdtailWrite (s : State) (b v : Nat) : State :=
  if s.refusesTail || decide (s.ringSize b ≤ v) then s.cfgRej (pgCINCHB b) else s.wr (pgCINCHB b) CINCHB.CMDTAIL_INDEX v

/-- The entry of a Bench to forward next and its sequence number. -/
def fwdAt (s : State) (b : Nat) : Nat × Nat :=
  Sp.get (fun b => (s.rd (pgCINCHB b) CINCHB.CMDHEAD_INDEX, 0)) s.lat.fwdNext b

/-- Send forwarded entries of a Bench, at most 16 in one CMD message (R378). -/
def sendCmd (s : State) : Nat → List FwdEntry → State
  | 0, _ => s
  | n + 1, es =>
    match es.head? with
    | none => s
    | some e =>
      let now := es.take 16
      let p := [2, 0, 0, 0, BitVec.ofNat 8 e.bench, BitVec.ofNat 8 now.length, BitVec.ofNat 8 e.seq, 0] ++ now.flatMap (·.bytes)
      (s.sendTether 1 0xA p).sendCmd n (es.drop 16)

/-- Where the forwarding of a ring ends: at CMDTAIL in the leader; in a device that has handed over, at the CMDTAIL of the handover, up
to which entries were written before it (R392). -/
def fwdStop (s : State) (b : Nat) : Nat :=
  if s.latRole = 1 then s.rd (pgCINCHB b) CINCHB.CMDTAIL_INDEX
  else match s.lat.fwdEnd.find? (·.1 = b) with | some e => e.2 | none => (s.fwdAt b).1

/-- Take up to `k` entries of a ring for forwarding: APPLY is raised to n + 4 in the ring, the entries are numbered.  An entry that came
from the twin is passed over. -/
def takeEntries (s : State) (b : Nat) : Nat → List FwdEntry × State
  | 0 => ([], s)
  | k + 1 =>
    let (i, q) := s.fwdAt b
    if i = s.fwdStop b then ([], s)
    else if s.lat.fwdSkip.contains (b, i) then
      (s.modLat fun l => { l with fwdNext := (b, ((i + 1) % s.ringSize b, q)) :: l.fwdNext.filter (·.1 ≠ b),
                                  fwdSkip := l.fwdSkip.filter (· != (b, i)) }).takeEntries b k
    else
      let a := s.ringBase b + 32 * i
      let n := s.girth.cyc.toNat
      let (bytes, s) := s.fixRead mLatigo a 32
      let bs := bytes.getD []
      let ap := fieldAt bs 4 6
      let ap' := if ap = 0 ∨ ap < n + 4 then n + 4 else ap
      let bs' := slice bs 0 4 ++ leBytes 6 ap' ++ slice bs 10 22
      let s := if ap' = ap ∨ bytes.isNone then s else s.fixPut mLatigo (a + 4) (leBytes 6 ap')
      let s := s.modLat fun l => { l with fwdNext := (b, ((i + 1) % s.ringSize b, (q + 1) % 256)) :: l.fwdNext.filter (·.1 ≠ b) }
      let r := s.takeEntries b k
      (if bytes.isNone then r.1 else { bench := b, seq := q, apply := ap', bytes := bs' } :: r.1, r.2)

/-- The leader's forwarding at CWSTART (R383); a device that has handed over forwards what was written before (R392). -/
def latForward (s : State) : State :=
  if !(s.latOn && (s.latRole == 1 || !s.lat.fwdEnd.isEmpty)) then s
  else s.forEach (List.range 8) fun s b =>
    if s.running (pgCINCHB b) then
      let r := s.takeEntries b (s.rd (pgCINCHB b) CINCHB.CMDCFG_CMDMAX)
      let s := r.2.bumpByE pgLAT LAT.CMDFWD r.1.length 8
      (s.modLat fun l => { l with unacked := l.unacked ++ r.1 }).sendCmd (r.1.length + 1) r.1
    else s

/-- At a TETHER-SYNC: the entries a follower's CMDACK confirms are dropped, the others sent again up to their APPLY (R383). -/
def cmdResend (s : State) (acks : Option (List Byte)) : State :=
  let acked (e : FwdEntry) : Bool := match acks with
    | some l => decide (((l.getD e.bench 0).toNat + 256 - e.seq) % 256 < 128)
    | none => false
  let live := s.lat.unacked.filter fun e => !acked e && decide (s.girth.cyc.toNat < e.apply)
  let s := s.modLat fun l => { l with unacked := live }
  s.forEach (List.range 8) fun s b =>
    let es := live.filter (·.bench = b)
    (s.bumpByE pgLAT LAT.CMDRETX es.length 8).sendCmd (es.length + 1) es

/-- The follower's next expected sequence of a Bench. -/
def expected (s : State) (b : Nat) : Nat := Sp.get (fun _ => 0) s.lat.expect b

/-- One forwarded entry received (R384): the next in sequence is written at CMDTAIL; one out of sequence shows a gap and will be sent
again, and one after the follower's CWSTART of its APPLY is a divergence.  A device that has become leader marks it as one the twin has. -/
def takeForwarded (s : State) (b q : Nat) (bytes : List Byte) : State :=
  let d := (q + 256 - s.expected b) % 256
  let ap := fieldAt bytes 4 6
  let tail := s.rd (pgCINCHB b) CINCHB.CMDTAIL_INDEX
  let next := (tail + 1) % s.ringSize b
  if 128 ≤ d then s
  else if d ≠ 0 ∨ next = s.rd (pgCINCHB b) CINCHB.CMDHEAD_INDEX then
    s.modLat fun l => { l with gap := (b, q, ap) :: l.gap.filter fun g => !(g.1 == b && g.2.1 == q) }
  else
    let late := s.latRole == 2 && match s.girth.cw with | some c => decide (ap ≤ c.toNat) | none => false
    let s := (s.fixPut mLatigo (s.ringBase b + 32 * tail) bytes).wr (pgCINCHB b) CINCHB.CMDTAIL_INDEX next
    let s := s.bumpE pgLAT LAT.CMDFWD 8
    let s := s.modLat fun l =>
      { l with
        expect := (b, (q + 1) % 256) :: l.expect.filter (·.1 ≠ b)
        gap := l.gap.filter fun g => !(g.1 == b && g.2.1 == q)
        fwdSkip := bif s.latRole == 1 then (b, tail) :: l.fwdSkip else l.fwdSkip }
    if late then s.diverge 0x2205 else s

/-- CMD received (R384). -/
def cmdReceive (s : State) (f : RxFrame) : State :=
  s.takeTether 0xA 2 f fun s =>
    let b := f.frame.payload
    let bench := fieldAt b 4 1 % 8
    if s.latRole ≠ 0 then
      s.forEach (List.range (fieldAt b 5 1)) fun s i =>
        s.takeForwarded bench ((fieldAt b 6 1 + i) % 256) (slice b (8 + 32 * i) 32)
    else s

/-- Pass over the entries of a gap that were not received: the next sequence expected follows the dead one. -/
def passGap (s : State) (g : Nat × Nat × Nat) : State :=
  if (g.2.1 + 256 - s.expected g.1) % 256 < 128 then
    s.modLat fun l => { l with expect := (g.1, (g.2.1 + 1) % 256) :: l.expect.filter (·.1 ≠ g.1) }
  else s

/-- A sequence gap that reaches the follower's CWSTART of its APPLY cycle (R384): divergence, and the sequence goes on behind the entries
that are lost. -/
def gapCheck (s : State) : State :=
  let dead := s.lat.gap.filter fun g => decide (g.2.2 ≤ s.girth.cyc.toNat)
  if s.latOn && s.latRole == 2 && !dead.isEmpty then
    let s := s.forEach dead passGap
    (s.modLat fun l => { l with gap := l.gap.filter fun g => !dead.contains g && (g.2.1 + 256 - s.expected g.1) % 256 < 128 }).diverge 0x2205
  else s

/-! ### Pairing (R379, R380, R391) -/

/-- The device becomes leader. -/
def becomeLeader (s : State) : State :=
  let s := ((s.setRole 1).setLocked true).setPstate psACTIVE
  s.modLat fun l => { l with lost := false, listen := false, syncAt := s.time.raw, fwdNext := [], fwdEnd := [], fwdSkip := [], unacked := [], gap := [], plane := false, inv := [], want := [] }

/-- LOCKING begins: freq is the RATE in force (R381). -/
def beginLocking (s : State) : State :=
  ((s.setLocked false).setPstate psLOCKING).modLat fun l => { l with freq := s.time.rate.toInt, stepped := false, good := 0, bad := 0, lost := false, hold := 0 }

/-- The device becomes follower and listens for the leader. -/
def becomeFollower (s : State) : State :=
  ((s.setRole 2).beginLocking).modLat fun l => { l with listen := true, syncAt := s.time.raw, expect := [], fwdEnd := [], unacked := [], gap := [] }

/-- A configuration fault of the pair (R379). -/
def pairFault (s : State) (code : Nat) : State := (s.wr pgLAT LAT.STAT_CFGERR 1).faultU pgLAT code

/-- The device sends COLDSTART on the tether (R379). -/
def tetherColdstart (s : State) : State :=
  if s.latOn && s.latPstate == psUNPAIRED && s.latRole == 0 && !s.on pgLAT LAT.STAT_CFGERR then
    s.sendTether 0 0xB (s.coldPayload (if s.girthOn then s.girth.cyc + 1 else 0))
  else s

/-- The table of R379 for a twin of PAIRID `k` that does or does not run its Girth: `same` where TC, PERDIV and the planes fit, `lead` the
role this device takes where neither Girth runs. -/
def pairDecide (s : State) (k : Nat) (twinRuns same lead : Bool) : State :=
  if k = s.rd pgGLOB GLOB.STRAP_PAIRID then s.pairFault 0x2201
  else if !same || (twinRuns && s.girthOn) then s.pairFault 0x2202
  else if s.girthOn || (!twinRuns && lead) then s.becomeLeader
  else s.becomeFollower

/-- The twin's COLDSTART decides the roles of a device that is UNPAIRED, in SOLO, or a leader alone; a follower in HOLDOVER or SILENT
keeps its role (R379, R391). -/
def coldstartReceive (s : State) (f : RxFrame) : State :=
  s.takeTether 0xB 0 f fun s =>
    let alone := s.latPstate == psUNPAIRED || s.latPstate == psSOLO || (s.lat.lost && s.latRole == 1)
    if !alone || s.on pgLAT LAT.STAT_CFGERR then s
    else
      let b := f.frame.payload
      let same := decide (fieldAt b 8 4 = s.tc) && decide (fieldAt b 12 1 = s.perdiv) && decide (f.frame.flags % 2 ≠ s.planeBit)
      (s.wr pgLAT LAT.STAT_TWINID f.srcK).pairDecide f.srcK (fieldAt b 0 6 != 0) same (decide (s.rd pgGLOB GLOB.STRAP_PAIRID < f.srcK))

/-- Cycles, of the device's own time, since a raw time. -/
def cyclesFrom (s : State) (at' : BitVec 64) : Nat := (s.time.raw - at').toNat / (s.tc * 64)

/-- The leader did not answer within three cycles (R379). -/
def listenTimeout (s : State) : State :=
  if s.latOn && s.latRole == 2 && s.lat.listen && decide (3 ≤ s.cyclesFrom s.lat.syncAt) then
    (((s.setRole 0).setLocked false).setPstate psUNPAIRED).modLat fun l => { l with listen := false, coldOff := false }
  else s

/-! ### Tether loss, holdover, solo (R390, R393) -/

/-- The tether is lost. -/
def tetherLost (s : State) : State :=
  if s.latRole = 0 ∨ s.lat.lost then s
  else
    let s := ((s.modLat fun l => { l with lost := true, hold := 0, listen := false }).faultU pgLAT 0x2203).evt pgLAT 4
    if s.latRole = 2 then
      if s.lat.allB then (s.setPstate psSOLO).evt pgLAT 5 else s.setPstate psHOLDOVER
    else s

/-- TLOST whole cycles have passed without a valid TETHER-SYNC: the I0 that begins the first of them is counted too; without a running
Girth the cycles are those of the device's own time (R377). -/
def syncMissed (s : State) : Bool :=
  let n := s.rd pgLAT LAT.PCFG_TLOST
  if s.girthOn then decide (n < s.lat.since) else decide (n ≤ s.cyclesFrom s.lat.syncAt)

/-- The row TETHER_LOSS. -/
def tetherLoss (s : State) : State :=
  let gone := !s.laneSync 0 && !s.laneSync 1
  if s.latOn && (gone || s.syncMissed) then s.tetherLost else s

/-- The row HOLDOVER_LIMIT. -/
def holdoverLimit (s : State) : State :=
  if s.latOn && s.latPstate == psHOLDOVER && decide (s.rd pgLAT LAT.HOLDCFG_HOLDLIM ≤ s.lat.hold) then
    ((s.setPstate psSILENT).faultU pgLAT 0x2206).evt pgLAT 6
  else s

/-- What a new cycle means to Latigo: PORTINV of the last one (R395), cycles without frames, HOLDOVER's count and its end in SOLO (R390). -/
def latI0 (s : State) : State :=
  let inv := (List.range 32).foldl (fun w p => if (s.port p).pinv then withBit w p else w) 0
  let s := if s.pageOn pgLAT then s.wr pgLAT LAT.PORTINV_INV inv else s
  if !s.latOn then s
  else
    let s := s.modLat fun l => { l with since := l.since + 1, mine := none, his := none }
    let allB := (List.range 32).all fun p => !(s.port p).delivered || (s.port p).usedB
    let s := s.modLat fun l => { l with allB := allB }
    if s.latPstate = psHOLDOVER then
      let s := (s.bumpE pgLAT LAT.HOLDCYC 8).modLat fun l => { l with hold := l.hold + 1 }
      if allB then (s.setPstate psSOLO).evt pgLAT 5 else s
    else s

/-- CTL.SOLO (R393). -/
def soloWrite (s : State) : State :=
  let g := s.st pgGIRTH
  let quiet := decide (s.rd pgLAT LAT.PCFG_TLOST ≤ s.cyclesFrom s.lat.heardAt)
  if s.latOn && s.latPstate == psUNPAIRED && (g == 3 || g == 1) && quiet then (s.setPstate psSOLO).evt pgLAT 5
  else s.cfgRej pgLAT

/-! ### Handover (R392) -/

/-- CTL.HANDOVER; refused while a handover is announced (notes/assumptions/98.md). -/
def handoverWrite (s : State) : State :=
  if s.latOn && s.latRole == 1 && decide (s.rd pgLAT LAT.STAT_TWINID < s.rd pgGLOB GLOB.STRAP_PAIRID) && s.lat.twinPstate == psACTIVE
    && !s.lat.lost && s.lat.hcyc.isNone then
    let h := s.girth.cyc + 16
    ((s.modLat fun l => { l with hcyc := some h }).wr pgLAT LAT.STAT_HPEND 1).setReg pgLAT LAT.HCYCLO (h.truncate 32)
  else s.cfgRej pgLAT

/-- The roles exchange at CWSTART of the announced cycle.  The old leader still forwards what was written before and sends its
unconfirmed entries again; the new leader's numbering begins anew, it is LOCKED (R394), and the new follower's servo starts from its
RATE (notes/assumptions/98.md). -/
def roleExchange (s : State) : State :=
  if s.latOn && s.lat.hcyc == some s.girth.cyc && s.latRole != 0 then
    let tail (b : Nat) : Nat := s.rd (pgCINCHB b) CINCHB.CMDTAIL_INDEX
    let s' := ((s.setRole (3 - s.latRole)).wr pgLAT LAT.STAT_HPEND 0).evt pgLAT 7
    let s' := s'.setReg pgLAT LAT.HCYCLO 0
    if s.latRole = 1 then
      s'.modLat fun l => { l with hcyc := none, expect := [], gap := [], fwdEnd := (List.range 8).map fun b => (b, tail b),
                                  freq := s.time.rate.toInt, stepped := true, good := 0, bad := 0 }
    else
      (s'.setLocked true).modLat fun l => { l with
        hcyc := none, unacked := [], gap := [], fwdEnd := [], fwdNext := (List.range 8).map fun b => (b, (tail b, 0)) }
  else s

/-! ### TETHER-SYNC (R377, R381, R382, R385–R389) -/

/-- The ports with a self-caused block of this cycle. -/
def selfMap (s : State) : Nat := (List.range 32).foldl (fun w p => if s.selfCaused p then withBit w p else w) 0

/-- The payload of TETHER-SYNC, with the role it shows. -/
def syncPayload (s : State) (role : Nat) : List Byte :=
  let on := s.girthOn
  let ack (b : Nat) : Byte := if s.latRole = 1 then 0 else BitVec.ofNat 8 ((s.expected b + 255) % 256)
  leBytes 6 (if on then s.girth.cyc.toNat else 0) ++ [BitVec.ofNat 8 role, BitVec.ofNat 8 s.latPstate]
    ++ leBytes 8 s.t64.toNat ++ leBytes 8 s.lat.rxTx.toNat ++ leBytes 8 s.lat.rxAt.toNat
    ++ leBytes 8 (if on then (s.tI0 s.cyc).toNat else 0) ++ leBytes 4 s.selfMap
    ++ leBytes 4 (b2n on 0 + b2n (s.on pgLAT LAT.STAT_LOCKED) 1 + b2n s.lat.hcyc.isSome 2)
    ++ (List.range 8).map ack ++ (List.range 32).flatMap (fun p => leBytes 4 (s.port p).dcrc)
    ++ leBytes 6 (match s.lat.hcyc with | some h => h.toNat | none => 0) ++ leBytes 2 0

/-- The row TETHER_SYNC_SEND: at tick SYNCT, or every Tc ticks of its own time while Girth is not RUNNING. -/
def syncSend (s : State) : State :=
  if s.latOn && s.latRole != 0 && s.lat.coldOff && (!s.girthOn || s.due (s.rd pgLAT LAT.SCHED_SYNCT)) then s.sendTether 0 9 (s.syncPayload s.latRole) else s

/-- A RATE written by Latigo stays within RATELIM of the RATE at the last I0 (R381, R147). -/
def latRate (s : State) (v : Int) : State :=
  let lim : Int := s.rd pgTIME TIME.RATELIM_LIMIT
  let v := clampSigned 32 v
  let r := s.time.rateRef.toInt
  let v := if s.girthBusy then max (r - lim) (min (r + lim) v) else v
  s.rateWrite mLatigo (BitVec.ofInt 32 v)

/-- The follower's measurement and servo at a leader TETHER-SYNC that started to arrive at T64 `f4` (R381, R382). -/
def servo (s : State) (f4 f1 l2 l3 : BitVec 64) : State :=
  let d := Int.fdiv ((f4 - f1).toInt - (l3 - l2).toInt) 2
  let e := Int.fdiv ((l2 - f1).toInt + (l3 - f4).toInt) 2
  if (s.rd pgLAT LAT.TCFG_TDMAX * 64 : Int) < d then s.bumpE pgLAT LAT.SYNCERR 8
  else
    let s := (s.wr pgLAT LAT.TDELAY_D (ofSigned 24 d)).setReg pgLAT LAT.TERR (BitVec.ofInt 32 (clampSigned 32 e))
    let g := s.st pgGIRTH
    let s := if (g = 1 ∨ g = 0) ∧ !s.lat.stepped then
        (((s.steploWrite mLatigo (lo32 (BitVec.ofInt 64 e))).stephiWrite mLatigo (hi32 (BitVec.ofInt 64 e)))).modLat
          fun l => { l with stepped := true }
      else
        let p := Int.fdiv (e * 2 ^ 40) (s.tc * 64)
        let freq := s.lat.freq + asrInt p 12
        (s.modLat fun l => { l with freq := freq }).latRate (freq + asrInt p 6)
    let tol := s.rd pgLAT LAT.TCFG_LOCKTOL
    let good := if e.natAbs ≤ tol then s.lat.good + 1 else 0
    let bad := if 4 * tol < e.natAbs then s.lat.bad + 1 else 0
    let s := s.modLat fun l => { l with good := good, bad := bad }
    let s := if 16 ≤ good then s.setLocked true else if 4 ≤ bad then s.setLocked false else s
    if s.on pgLAT LAT.STAT_LOCKED && s.latPstate == psLOCKING then
      let s := s.setPstate psRESYNC
      if s.girthOn then s.planeCopy else s
    else s

/-- The latest cycle of a self-caused block on a port within the last eight cycles (R387). -/
def recentSelf (s : State) (l : List (Nat × BitVec 48)) (p : Nat) : Option (BitVec 48) :=
  (l.find? fun e => e.1 == p && decide ((s.girth.cyc - e.2).toNat ≤ 7)).map (·.2)

/-- A mismatch on a port (R387, R389): the count of equal cycles begins anew; no second copy is asked for while one is under way, and an
invalid port or plane that had its copy is copied anew. -/
def mismatch (s : State) (p : Nat) : State :=
  let s := s.bumpE pgLAT LAT.MISMATCH 8
  let follower := s.latRole == 2
  let m := s.recentSelf s.lat.selfPorts p
  let t := s.recentSelf s.lat.twinPorts p
  let mineLatest := match m, t with
    | some a, some b => decide (b.toNat < a.toNat) || (a == b && follower)
    | some _, none => true
    | _, _ => false
  let s := s.modLat fun l => { l with planeEq := [], inv := (l.inv.map fun i => if i.port = p then { i with equal := 0 } else i) }
  if s.lat.plane && !(s.lat.want.isEmpty) then s
  else if (s.lat.inv.any fun i => i.port == p && !i.axes.isEmpty) then s
  else if m.isNone && t.isNone && follower then s.diverge 0x2204
  else if s.lat.plane then s.planeCopy
  else if mineLatest || s.lat.inv.any fun i => i.port == p then s.invalidatePort p
  else s

/-- A compared port that agrees: one more equal cycle towards validity (R389). -/
def agrees (s : State) (p : Nat) : State :=
  let n := Sp.get (fun _ => 0) s.lat.planeEq p
  s.modLat fun l => { l with
    inv := (l.inv.map fun i => if i.port = p ∧ i.axes.isEmpty then { i with equal := i.equal + 1 } else i)
    planeEq := if l.plane && l.want.isEmpty then (p, n + 1) :: l.planeEq.filter (·.1 ≠ p) else l.planeEq }

/-- Ports and the plane that have met R389 become valid again. -/
def regain (s : State) : State :=
  let k := s.rd pgLAT LAT.PCFG_RSCMP
  let s := s.modLat fun l => { l with inv := l.inv.filter fun i => !(i.axes.isEmpty && decide (k ≤ i.equal)) }
  let ports := (List.range 32).filter fun p => s.pageOn (pgNPORT p)
  if s.lat.plane && s.lat.want.isEmpty && s.on pgLAT LAT.STAT_LOCKED && (ports.all fun p => decide (k ≤ Sp.get (fun _ => 0) s.lat.planeEq p)) then
    (s.modLat fun l => { l with plane := false, planeEq := [] }).setPstate psACTIVE
  else s

/-- The comparison of the cycle's downlinks (R386, R387). -/
def compare (s : State) (b : List Byte) : State :=
  let maps := s.selfMap ||| fieldAt b 40 4
  let ports := (List.range 32).filter fun p => s.pageOn (pgNPORT p) && !bitOf maps p
  let s := s.modLat fun l => { l with twinPorts :=
    (((List.range 32).filter fun p => bitOf (fieldAt b 40 4) p).map fun p => (p, s.girth.cyc))
      ++ (l.twinPorts.filter fun e => !bitOf (fieldAt b 40 4) e.1) }
  let s := s.forEach ports fun s p => if (s.port p).dcrc = fieldAt b (56 + 4 * p) 4 then s.agrees p else s.mismatch p
  s.regain

/-- A TETHER-SYNC that passed its checks. -/
def syncTake (s : State) (f : RxFrame) : State :=
  let b := f.frame.payload
  let role := fieldAt b 6 1
  let twinRuns := bitOf (fieldAt b 44 4) 0
  let tx := BitVec.ofNat 64 (fieldAt b 8 8)
  let echoTx := BitVec.ofNat 64 (fieldAt b 16 8)
  let echoRx := BitVec.ofNat 64 (fieldAt b 24 8)
  let cyc := BitVec.ofNat 48 (fieldAt b 0 6)
  let s := (s.wr pgLAT LAT.STAT_TWINID f.srcK).modLat fun l => { l with
    since := 0, syncAt := s.time.raw, rxTx := tx, rxAt := s.tetherStart f, twinPstate := fieldAt b 7 1, twinRunning := twinRuns, twinCyc := cyc,
    twinI0 := BitVec.ofNat 64 (fieldAt b 32 8) }
  if role = 0 then s.tetherLost
  else
    -- a device alone takes the role R379 gives it; where neither Girth runs, the one the twin has left to it
    let alone := s.latPstate == psUNPAIRED || s.latPstate == psSOLO || (s.lat.lost && s.latRole == 1 && fieldAt b 7 1 == psSOLO)
    let s :=
      if s.on pgLAT LAT.STAT_CFGERR then s
      else if alone then s.pairDecide f.srcK twinRuns (decide (f.frame.flags % 2 ≠ s.planeBit)) (role == 2)
      else if s.lat.lost then
        (if s.latRole = 2 then s.beginLocking else s.modLat fun l => { l with lost := false })
      else s
    if s.on pgLAT LAT.STAT_CFGERR then s else
    if s.latRole = 2 ∧ role = 1 then
      let s := s.modLat fun l => { l with listen := false }
      let s := match fieldAt b 184 6, s.lat.hcyc with
        | 0, _ => s
        | h, _ => if s.girth.cyc.toNat < h then ((s.modLat fun l => { l with hcyc := some (BitVec.ofNat 48 h) }).wr pgLAT LAT.STAT_HPEND 1).setReg pgLAT LAT.HCYCLO (BitVec.ofNat 32 h) else s
      let s := if echoTx = 0 then s else s.servo (s.tetherStart f) echoTx echoRx tx
      let s := s.cmdResend none
      if s.girthOn && twinRuns && cyc == s.girth.cyc then s.compare b else s
    else if s.latRole = 1 ∧ role = 2 then
      let s := s.cmdResend (some (slice b 48 8))
      if s.girthOn && twinRuns && cyc == s.girth.cyc then s.compare b else s
    else s

/-- The row TETHER_SYNC_RECEIVE. -/
def syncReceive (s : State) (f : RxFrame) : State := s.takeTether 9 0 f fun s => s.syncTake f

/-! ### ARRIVE (R378, R385) -/

/-- The ports that delivered their CYCLE-UP in this cycle. -/
def upMap (s : State) : Nat := (List.range 32).foldl (fun w p => if (s.port p).delivered then withBit w p else w) 0

/-- ARRT: the largest UPCLOSE + GUARD + 24 over the mapped ports, plus 1 (R385). -/
def arrTick (s : State) : Nat :=
  let l := ((List.range 32).filter fun p => !(s.portAxes p).isEmpty).map fun p =>
    s.rd (pgNPORT p) NPORT.UPWIN_CLOSE + s.rd (pgNPORT p) NPORT.PORTCFG_GUARD + 24
  if l.isEmpty then 0 else l.foldl max 0 + 1

/-- The row ARRIVE_SEND, at tick ARRT. -/
def arriveSend (s : State) : State :=
  if s.latOn && s.girthOn && s.latRole != 0 && s.due s.arrTick then
    (s.modLat fun l => { l with mine := some (s.girth.cyc, s.upMap) }).sendTether 0 0xA ([1, 0, 0, 0] ++ leBytes 4 s.upMap)
  else s

/-- The row ARRIVE_RECEIVE. -/
def arriveReceive (s : State) (f : RxFrame) : State :=
  s.takeTether 0xA 1 f fun s =>
    if f.frame.cyc = s.girth.cyc.truncate 32 then s.modLat fun l => { l with his := some (s.girth.cyc, fieldAt f.frame.payload 4 4) } else s

/-- This device's or the twin's ARRIVE of the cycle showed the port delivered. -/
def arriveShows (s : State) (p : Nat) : Bool :=
  let has (m : Option (BitVec 48 × Nat)) : Bool := match m with | some e => e.1 == s.girth.cyc && bitOf e.2 p | none => false
  has s.lat.mine || has s.lat.his

/-- R385: whether the block of an axis is self-caused, from the state before the CUTOFF's decision, what is sent, and whether the
snapshot could be read. -/
def blockSelf (s : State) (a p : Nat) (sent : Sent) (readable : Bool) : Bool :=
  let x := s.axis a
  match sent with
  | .output => false
  | .hold => s.arriveShows p || s.lat.selfAxes.contains a
  | .rest => (x.state.started && (s.st pgCINCH == 5 || s.girth.disagree || x.ownRest || !readable))
    || ((x.state.started || x.state == .rest) && s.lat.selfAxes.contains a)

/-! ### Registers, lanes, start and stop -/

/-- A write to TRATE: the leader's Latigo copies it into TIME.RATE (R381). -/
def trateWrite (s : State) (v : Word) : State :=
  let s := s.setReg pgLAT LAT.TRATE v
  if s.latOn && s.latRole == 1 then s.rateWrite mLatigo v else s

/-- LAT enters RUNNING with PSTATE UNPAIRED once a lane holds SYNC. -/
def latBegin (s : State) : State :=
  if s.st pgLAT = 2 ∧ (s.laneSync 0 ∨ s.laneSync 1) ∧ !s.on pgLAT (SHELL.CALSTAT_BUSY 0) ∧ !s.on pgLAT (SHELL.CALSTAT_BUSY 1) then
    let l0 := s.reg pgLAT LAT.STAT
    let lanes := l0 &&& (LAT.STAT_LANE0.mask ||| LAT.STAT_LANE1.mask)
    { (((s.setSt pgLAT 3).setReg pgLAT LAT.STAT lanes).setReg pgLAT LAT.HCYCLO 0) with lat := { heardAt := s.time.raw } }
  else s

/-- Both lanes without SYNC lose the tether at once (R390). -/
def lanesLost (s : State) : State := if s.latOn && !s.laneSync 0 && !s.laneSync 1 then s.tetherLost else s

/-- The row TETHER_LANE_SYNC_CHANGE. -/
def laneChange (s : State) (l : Nat) (up : Bool) : State :=
  if !s.pageOn pgLAT then s
  else
    let s := s.wr pgLAT (if l = 0 then LAT.STAT_LANE0 else LAT.STAT_LANE1) (b2n up 0)
    if up then s.latBegin else s.lanesLost

/-- LAT enters STOPPING: the final TETHER-SYNC shows no role. -/
def latHalt (s : State) : State :=
  if s.on pgLAT LAT.PCFG_EN && s.latRole != 0 then s.sendTether 0 9 (s.syncPayload 0) else s

/-- LAT has stopped: a follower with a RUNNING Girth stays invalid until its Girth stops. -/
def latEnd (s : State) : State :=
  let left := s.latRole == 2 && s.girthOn
  let lanes := s.reg pgLAT LAT.STAT &&& (LAT.STAT_LANE0.mask ||| LAT.STAT_LANE1.mask)
  { ((s.setReg pgLAT LAT.STAT lanes).setReg pgLAT LAT.HCYCLO 0) with lat := { left := left } }

/-- The registers of LAT computed when read. -/
def latView (s : State) (off : Nat) : Option Word :=
  if off = LAT.SCHED then some (LAT.SCHED_ARRT.put s.arrTick (s.reg pgLAT LAT.SCHED))
  else if off = LAT.RSLEFT then
    let n := ((s.lat.want.filter fun w => w.1 = 0).length + (s.lat.inv.flatMap (·.axes)).length)
    some (LAT.RSLEFT_AXES.put n (LAT.RSLEFT_ALL.put (b2n (!s.lat.want.isEmpty) 0) 0))
  else none

end State
end Sys2Proof.Machine
end

