-- ==== Sys2Proof/Machine/Power.lean ====
section
/-! DEFINITION. Power domains (R48–R52), clocks (R43–R47), the scrubber and error injection (R41, R64), and the temperature and supply
comparators (R507). -/
namespace Sys2Proof.Machine

/-- The order of switching off, and of switching on (R49). -/
def offOrder : List Nat := [16, 17, 15, 13, 12, 14, 7, 6, 5, 4, 3, 2, 1, 0, 11, 10, 9, 8]
def onOrder : List Nat := [8, 9, 10, 11, 0, 1, 2, 3, 4, 5, 6, 7, 14, 12, 13, 15, 17, 16]

/-- The domains a domain requires (R49). -/
def prerequisites (d : Nat) : List Nat := if d = 8 then [] else if d = 15 then [8, 14] else [8]

/-- The memory regions in ascending order: base, size, domain (R35). -/
def memRegions : List (Nat × Nat × Nat) :=
  ((List.range 4).map fun k => (0x400000 * k, 0x400000, 8 + k)) ++ ((List.range 8).map fun b => (0x01000000 + 0x100000 * b, 0x100000, b))
    ++ ((List.range 8).map fun b => (0x02000000 + 0x40000 * b, 0x40000, b))

namespace State

/-! ### Switching domains -/

/-- The domains on, as bits of R48. -/
def domains (s : State) : Nat := s.rd pgPWR PWR.STATUS_DOMAIN

/-- The domains of a list as bits. -/
def domBits (ds : List Nat) : Nat := ds.foldl withBit 0

/-- The domains a new vector would switch off. -/
def goingOff (s : State) (new : Nat) : List Nat := (List.range 18).filter fun d => s.domOn d && !bitOf new d

/-- A domain contains a block that is neither OFF nor STOPPED. -/
def domBusy (s : State) (d : Nat) : Bool := allPages.any fun p => pageDomain p == some d && decide (1 < s.st p)

/-- A domain contains a claimed resource. -/
def domClaimed (s : State) (d : Nat) : Bool := s.claims.any fun e => e.2.isSome && idDomain e.1 == some d

/-- The lowest reason of R50 to refuse a new vector, with the domains it names. -/
def pwrReason (s : State) (new : Nat) : Option (Nat × Nat) :=
  let off := s.goingOff new
  let lacking := (List.range 18).filter fun d => bitOf new d && (prerequisites d).any fun q => !bitOf new q
  if s.on pgPWR PWR.STATUS_BUSY then some (1, s.domains ^^^ new)
  else if !lacking.isEmpty then some (2, domBits lacking)
  else if off.any s.domBusy then some (3, domBits (off.filter s.domBusy))
  else if off.any s.domClaimed then some (4, domBits (off.filter s.domClaimed))
  else if off.contains 14 && s.on pgHOST HOST.LINKSTAT_UP then some (5, domBits [14])
  else none

/-- The next domain to switch: off steps first (R49). -/
def nextDomain (s : State) : Option Nat :=
  let t := s.rd pgPWR PWR.TARGET_DOMAIN
  match offOrder.find? fun d => s.domOn d && !bitOf t d with
  | some d => some d
  | none => onOrder.find? fun d => !s.domOn d && bitOf t d

/-- A write of PWR.TARGET (R49, R50): true where it is accepted. -/
def targetWrite (s : State) (v : Nat) : Bool × State :=
  let new := v % 2 ^ 18
  match s.pwrReason new with
  | some (r, ds) =>
    let s := (s.wr pgPWR PWR.REFUSE_REASON r).wr pgPWR PWR.REFUSE_DOMAIN ds
    (false, (s.evt pgPWR 0).faultU pgPWR 0x0201)
  | none =>
    let s := s.wr pgPWR PWR.TARGET_DOMAIN new
    (true, if s.nextDomain.isSome then s.wr pgPWR PWR.STATUS_BUSY 1 else s)

/-- The memory of a domain is lost: it will read zero with valid check bits (R42, R51). -/
def eraseMemory (s : State) (d : Nat) : State :=
  { s with mem := s.mem.filter (fun e => memDomain e.1 != some d), flips := s.flips.filter fun e => memDomain e.1 != some d }

/-- What a domain's blocks hold beside their registers is lost (R51); a Stitch unit keeps its polarity latch (R329). -/
def eraseBlocks (s : State) (d : Nat) : State :=
  if d < 8 then
    { s with awls := s.awls.filter (fun e => e.1 / 8 != d),
             pgs := s.pgs.filter fun e => match (s.axis e.1).map with | some m => m.home != d | none => true }
  else match d with
    | 8 => { s with cinch := {}, igrps := [], vms := [], stamps := [] }
    | 12 => { s with ports := [] }
    | 13 => { s with lat := { left := s.lat.left } }
    | 14 => { s with dmas := [] }
    | 16 => { s with anas := [] }
    | 17 =>
      let s := { s with feeds := [] }
      s.forEach (List.range 8) fun s n => s.setStitch n { polH := (s.stitch n).polH, polL := (s.stitch n).polL }
    | _ => s

/-- Every register of a domain's pages takes its reset value, and their calibration runs are gone (R51). -/
def eraseRegs (s : State) (d : Nat) : State :=
  { s with regs := s.regs.filter (fun e => pageDomain (e.1 / 0x1000) != some d), autoRuns := s.autoRuns.filter fun k => pageDomain (k / 32) != some d }

/-- A domain changes its state; what it held is gone either way. -/
def switchDomain (s : State) (d : Nat) : State :=
  (((s.eraseMemory d).eraseBlocks d).eraseRegs d).wr pgPWR PWR.STATUS_DOMAIN (if s.domOn d then withoutBit s.domains d else withBit s.domains d)

/-- A step of the power controller ends (R48, R49): after the last one BUSY falls and DONE is set. -/
def powerStep (s : State) : State :=
  if !s.on pgPWR PWR.STATUS_BUSY then s
  else match s.nextDomain with
    | none => (s.wr pgPWR PWR.STATUS_BUSY 0).evt pgPWR 1
    | some d =>
      let s := s.switchDomain d
      if s.nextDomain.isSome then s else (s.wr pgPWR PWR.STATUS_BUSY 0).evt pgPWR 1

/-! ### Clocks -/

/-- A measurement of the clock monitor (R45): `count` TCLK edges in 1,024 watch periods. -/
def clockMeasure (s : State) (count : Nat) : State :=
  if s.rd pgCLK HDR.PCTL_RUN = 0 then s
  else
    let lo := s.rd pgCLK CLK.WDLIM_LO
    let hi := s.rd pgCLK CLK.WDLIM_HI
    let s := s.wr pgCLK CLK.WDCNT_LAST (min 0xFFFF count)
    let outside := (lo ≠ 0 && decide (count < lo)) || (hi ≠ 0xFFFF && decide (count > hi)) || count == 0
    if !outside then { s with clk := {} }
    else
      let c := s.clk
      let due := !c.raised && (count == 0 || decide (1 ≤ c.out))
      let s := { s with clk := { out := min 2 (c.out + 1), raised := c.raised || due } }
      if due then (((s.wr pgCLK CLK.PLLSTAT_WDFAIL 1).evt pgCLK 1).faultU pgCLK 0x0302).buckleFault 0x8004 BUCKLE.STAT_CLOCK else s

/-- The root PLL loses lock (R46). -/
def pllLoss (s : State) : State :=
  if !s.on pgCLK CLK.PLLSTAT_LOCK then s
  else ((((s.wr pgCLK CLK.PLLSTAT_LOCK 0).wr pgCLK CLK.PLLSTAT_LOL 1).bump pgCLK CLK.LOLCNT).evt pgCLK 0).faultU pgCLK 0x0301

/-- The root PLL has regained lock (R46). -/
def pllRelock (s : State) : State := s.wr pgCLK CLK.PLLSTAT_LOCK 1

/-- The PCIe reference is absent (R47). -/
def refclkLoss (s : State) : State := ((s.wr pgCLK CLK.PLLSTAT_PCIEREF 0).evt pgCLK 2).faultU pgCLK 0x0303

/-- The PCIe reference is present again (R47). -/
def refclkReturn (s : State) : State := s.wr pgCLK CLK.PLLSTAT_PCIEREF 1

/-! ### Memory protection -/

/-- The first powered word at or above an address. -/
def poweredFrom (s : State) (a : Nat) : Option Nat :=
  (memRegions.find? fun r => s.domOn r.2.2 && decide (a < r.1 + r.2.1)).map fun r => max a r.1

/-- A walk has passed the last powered address: it is counted and the next begins. -/
def scrubWrap (s : State) : State := ({ s with scrub := 0 }.bump pgECC ECC.PASSCNT).evt pgECC 3

/-- The scrubber reads, corrects and writes back the word at `w`, and its pointer moves on. -/
def scrubWord (s : State) (w : Nat) : State :=
  let s := (s.eccRead mScrub w).2
  if (s.poweredFrom (w + 8)).isSome then { s with scrub := w + 8 } else s.scrubWrap

/-- A slot of the scrubber (R41); where every domain above the pointer has gone off, the walk has passed the last powered address. -/
def scrubSlot (s : State) : State :=
  if !s.running pgECC then s
  else match s.poweredFrom s.scrub, s.poweredFrom 0 with
    | some w, _ => s.scrubWord w
    | none, some w => s.scrubWrap.scrubWord w
    | none, none => s

/-- The operands of an injection (R64): COUNT is not 0, the used bit positions are below 80 and differ. -/
def injectOk (v : Word) : Bool :=
  let n := ECC.INJCTL_COUNT.get v
  let bs := [ECC.INJCTL_BITA.get v, ECC.INJCTL_BITB.get v, ECC.INJCTL_BITC.get v].take n
  n != 0 && bs.all (· < 80) && bs.eraseDups.length == n

/-- A write of ECC.INJCTL (R64): a setting of ARM without effect still writes COUNT and the BIT fields (notes/assumptions/84.md). -/
def injectWrite (s : State) (v : Word) : State :=
  let arm := ECC.INJCTL_ARM.get v == 1
  if s.on pgECC ECC.INJCTL_ARM then
    if arm then s.cfgRej pgECC else s.wr pgECC ECC.INJCTL_ARM 0
  else if arm then
    s.setReg pgECC ECC.INJCTL (ECC.INJCTL_ARM.put (if injectOk v then 1 else 0) (v &&& accMask pgECC ECC.INJCTL .rw))
  else s

/-- A write of ECC.INJADDR (R64). -/
def injaddrWrite (s : State) (v : Word) : State :=
  if s.on pgECC ECC.INJCTL_ARM then s.cfgRej pgECC else s.wr pgECC ECC.INJADDR_ADDR (v.toNat / 8)

/-! ### Comparators (R507) -/

/-- A die sensor at `temp` (1/16 K) exceeds TWARN: the comparator raises 0x0601 once until it is re-armed. -/
def tempWarning (s : State) (temp : Nat) : State :=
  if s.tempFired || decide (temp ≤ s.rd pgFLT FLT.TCFG_TWARN) then s else { s with tempFired := true }.faultU pgFLT 0x0601

/-- The temperature has fallen 5 K below TWARN. -/
def tempRearm (s : State) (temp : Nat) : State := if temp + 80 ≤ s.rd pgFLT FLT.TCFG_TWARN then { s with tempFired := false } else s

/-- A die temperature above 125 °C. -/
def tempShutdown (s : State) : State := s.faultU pgFLT 0x0602

/-- Supply `k` is outside its window (SUPSTAT bit `k`). -/
def supplyOut (s : State) (k : Nat) : State :=
  (s.wr pgFLT FLT.SUPSTAT_OUT (withBit (s.rd pgFLT FLT.SUPSTAT_OUT) k)).faultU pgFLT 0x0603

end State
end Sys2Proof.Machine
end

