-- ==== Sys2Proof/Machine/Host.lean ====
section
/-! DEFINITION. The host interface (R457–R461), the DMA channels (R462–R467), mailbox and plant traffic (R101, R150, R151), and the
gate pages (R469–R471, R477). -/
namespace Sys2Proof.Machine

/-- The master of DMA channel `k` (R536). -/
def mDma (k : Nat) : Nat := 65 + k

/-- A DMA descriptor (R463). -/
structure Desc where
  ctl : Nat
  status : Nat
  len : Nat
  rsvd : Nat
  buf : Nat
  tstamp : Nat
  wblen : Nat
  port : Nat
  rsvd2 : Nat
deriving DecidableEq, Repr

/-- A descriptor from its bytes. -/
def Desc.of (b : List Byte) : Desc :=
  { ctl := fieldAt b 0 1, status := fieldAt b 1 1, len := fieldAt b 2 2, rsvd := fieldAt b 4 4, buf := fieldAt b 8 8, tstamp := fieldAt b 16 8,
    wblen := fieldAt b 24 2, port := fieldAt b 26 1, rsvd2 := fieldAt b 27 1 }

/-- What an access of a channel came to. -/
inductive Moved where
  | ok
  /-- An error response, after the bytes moved. -/
  | bus
  /-- A violation of its gate: address, VINFO.ACC and VINFO.KIND. -/
  | gate (addr acc kind : Nat)
deriving DecidableEq, Repr

namespace State

/-! ### Fabric accesses that are not suppressed -/

/-- The local memory of an Awl that is neither STOPPED nor FROZEN (R37). -/
def localShut (s : State) (a : Nat) : Option Nat :=
  match localAwl a with
  | some n => if s.st (pgAWL n) = 1 ∨ s.st (pgAWL n) = 6 then none else some n
  | none => none

/-- The write of one word by a master whose gate permits it: into the local memory of a running Awl it has no effect and sets CFGREJ
(R37). -/
def fabWord (s : State) (m w a : Nat) (bs : List Byte) : Bool × State :=
  match s.localShut w with
  | some n => (false, s.cfgRej (pgAWL n))
  | none => s.writeWord m w a bs

/-- What a store leaves at an address: of OUTFLAGS in a mapped axis's record only READY takes the stored value (R27, R279). -/
def storedByte (s : State) (a : Nat) (b : Byte) : Byte :=
  if a % 0x400 / 4 = 0x25 then
    match s.axisAt a with
    | some _ => if a % 4 = 0 then (s.byte a &&& 0xFE) ||| (b &&& 1) else s.byte a
    | none => b
  else b

/-- The bytes a store leaves. -/
def storedBytes (s : State) (a : Nat) (bs : List Byte) : List Byte := bs.zipIdx.map fun e => s.storedByte (a + e.2) e.1

/-- A write by a master whose gate permits it, word by word. -/
def fabWrite (s : State) (m a : Nat) (bs : List Byte) : Bool × State :=
  let bs := s.storedBytes a bs
  (wordsOf a bs.length).foldl (fun (r : Bool × State) w => let q := r.2.fabWord m w a bs; (r.1 && q.1, q.2)) (true, s.noteAccess m a)

/-! ### Host accesses (R458, R469) -/

/-- A violation of the host's gate: recorded, counted, and the access aborted. -/
def hostRefuse (s : State) (a acc kind : Nat) : State :=
  let s := s.gateRecord mHost a acc kind
  let s := (s.bump pgHOST HOST.REFUSED).setReg pgHOST HOST.REFADDR (BitVec.ofNat 32 a)
  { ((s.evt pgHOST 1).fault pgHOST 0xA002 a) with reply := .abort }

/-! ### MSI-X (R460, R461) -/

/-- The pending bits of R461: a masked vector that would have sent. -/
def pendingBits (s : State) (half : Nat) : Word :=
  BitVec.ofNat 32 ((List.range 32).foldl (fun w i =>
    let v := 32 * half + i
    if s.armed v && s.masked v && s.vecReq v then withBit w i else w) 0)

/-- A write of REARM (R461). -/
def rearmWrite (s : State) (half : Nat) (mask : Nat) : State :=
  s.forEach ((List.range 32).filter fun i => bitOf mask i) fun s i => (s.setArmed (32 * half + i) true).vecTry (32 * half + i)

/-- Judge every vector, after a write of the table, the map or an enable. -/
def msixScan (s : State) : State := s.forEach (List.range 64) vecTry

/-! ### DMA rings -/

def dmaKind (s : State) (k : Nat) : Nat := s.rd (pgDMA k) DMA.CFG_KIND
def ringLen (s : State) (k : Nat) : Nat := 2 ^ s.rd (pgDMA k) DMA.RING_RLOG2
def dmaHead (s : State) (k : Nat) : Nat := s.rd (pgDMA k) DMA.HEAD_INDEX
def dmaTail (s : State) (k : Nat) : Nat := s.rd (pgDMA k) DMA.TAIL_INDEX
def ringEmpty (s : State) (k : Nat) : Bool := s.dmaHead k == s.dmaTail k

/-- The address of the descriptor at an index. -/
def descAddr (s : State) (k i : Nat) : Nat := s.rd (pgDMA k) DMA.RBASE_ADDR * 32 + 32 * i

/-- A write of TAIL (R462). -/
def tailWrite (s : State) (k v : Nat) : State :=
  if v < s.ringLen k then s.wr (pgDMA k) DMA.TAIL_INDEX v else s.cfgRej (pgDMA k)

/-- The descriptor at an index: its bytes, and whether every word was readable.  An unreadable word counts as zeros. -/
def descRead (s : State) (k i : Nat) : List Byte × Bool × State :=
  (List.range 4).foldl (fun (r : List Byte × Bool × State) w =>
    let (b, s) := r.2.2.readMem (mDma k) (s.descAddr k i + 8 * w) 8
    match b with
    | some b => (r.1 ++ b, r.2.1, s)
    | none => (r.1 ++ List.replicate 8 0, false, s)) ([], true, s)

/-- The stamp counters of the plant port of a channel, at a write-back (R151, R161). -/
def stampCount (s : State) (k ctl : Nat) (stamped : Bool) : State :=
  let g := pgPLNT (s.rd (pgDMA k) DMA.CFG_PLNT)
  if !s.pageOn g then s
  else if s.dmaKind k = 3 && bitOf ctl 2 then s.bump g (if stamped then PLNT.TXSTAMP else PLNT.TXNOSTAMP)
  else if s.dmaKind k = 4 && stamped then s.bump g PLNT.RXSTAMP
  else s

/-- Write a descriptor back (R464): the other fields first, then the word with CTL and STATUS; then count it and raise its events. -/
def writeBack (s : State) (k i : Nat) (b : List Byte) (status wblen port : Nat) (ts : Option (BitVec 64)) (wbcyc : Nat) : State :=
  let m := mDma k
  let p := pgDMA k
  let a := s.descAddr k i
  let ctl := fieldAt b 0 1
  let s := match ts with | some t => (s.writeMem m (a + 16) (leBytes 8 t.toNat)).2 | none => s
  let s := (s.writeMem m (a + 24) (leBytes 2 wblen ++ [BitVec.ofNat 8 port] ++ slice b 27 1 ++ leBytes 4 wbcyc)).2
  let ctl' := ctl / 16 * 16 + ctl / 2 % 4 * 2 + (if ts.isSome then 8 else 0)
  let s := (s.writeMem m a ([BitVec.ofNat 8 ctl', BitVec.ofNat 8 status] ++ slice b 2 6)).2
  let s := if status = 1 then s.bumpE p DMA.DONE 2 else s.bumpE p DMA.FAIL 2
  let s := if status = 2 then s.bumpE p DMA.LENERR 2 else s
  let s := s.stampCount k ctl ts.isSome
  let s := if bitOf ctl 1 then s.evt p 0 else s
  if status ≠ 1 then s.evt p 1 else s

/-- HEAD advances. -/
def headNext (s : State) (k : Nat) : State := s.wr (pgDMA k) DMA.HEAD_INDEX ((s.dmaHead k + 1) % s.ringLen k)

/-- Write the descriptor at HEAD back without data, and advance. -/
def finish (s : State) (k : Nat) (b : List Byte) (status : Nat) : State :=
  (s.writeBack k (s.dmaHead k) b status 0 (fieldAt b 26 1) none (s.cyc % 2 ^ 32)).headNext k

/-- A bus error at HEAD: fault 0xA101 with the ring index, BUSERR (R464). -/
def busError (s : State) (k : Nat) (b : List Byte) (wblen : Nat) : State :=
  let s := s.fault (pgDMA k) 0xA101 (s.dmaHead k)
  (s.writeBack k (s.dmaHead k) b 5 wblen (fieldAt b 26 1) none (s.cyc % 2 ^ 32)).headNext k

/-- R465: every owned descriptor from HEAD to TAIL is written back with a status, and HEAD := TAIL. -/
def drainRing (s : State) (k status : Nat) : State :=
  let n := s.ringLen k
  let h := s.dmaHead k
  let s := { s with dmas := Sp.set (fun _ => {}) s.dmas k {} }
  let s := s.forEach (List.range ((s.dmaTail k + n - h) % n)) fun s j =>
    let (b, _, s) := s.descRead k ((h + j) % n)
    if bitOf (fieldAt b 0 1) 0 then s.writeBack k ((h + j) % n) b status 0 (fieldAt b 26 1) none (s.cyc % 2 ^ 32) else s
  s.wr (pgDMA k) DMA.HEAD_INDEX (s.dmaTail k)

/-- R469: a violation freezes the channel; the descriptor at HEAD is written back GATE, the rest ABORTED. -/
def dmaFreeze (s : State) (k : Nat) (b : List Byte) (wblen addr acc kind : Nat) : State :=
  let s := s.gateRecord (mDma k) addr acc kind
  let s := (s.setSt (pgDMA k) 6).wr (pgGATE (mDma k)) GATE.STAT_FROZEN 1
  let s := (s.writeBack k (s.dmaHead k) b 6 wblen (fieldAt b 26 1) none (s.cyc % 2 ^ 32)).headNext k
  s.drainRing k 7

/-- A plant port's link goes up or down. -/
def plantLink (s : State) (x : Nat) (up : Bool) : State :=
  if s.pageOn (pgPLNT x) then s.wr (pgPLNT x) PLNT.MACSTAT_LINK (if up then 1 else 0) else s

/-! ### The PCIe link (R458, R459) -/

/-- A DMA channel is stopped by a host-side reset: its descriptors are written back ABORTED (R459, R465). -/
def dmaAbort (s : State) (k : Nat) : State :=
  let p := pgDMA k
  let st := s.st p
  if st = 2 ∨ st = 3 ∨ st = 4 then (((s.drainRing k 7).wr p HDR.PCTL_RUN 0).setSt p 1).releaseClaims p
  else if st = 6 then s.drainRing k 7
  else s

/-- A host-side reset (R459): 0 function-level, 1 PERST_N, 2 link down from L0, 3 hot reset.  All but the first leave L0. -/
def hostReset (s : State) (kind : Fin 4) : State :=
  if !s.pageOn pgHOST then s
  else
    let up := s.on pgHOST HOST.LINKSTAT_UP
    let link := s.reg pgHOST HOST.LINKSTAT
    let cnt := s.reg pgHOST HOST.RESETCNT
    let s := s.forEach (List.range 8) dmaAbort
    let s := (s.resetPage pgHOST).resetPage pgMSIX
    let s := { s with autoRuns := s.autoRuns.filter fun k => k / 32 != pgHOST }
    let s := (s.setReg pgHOST HOST.RESETCNT cnt).bump pgHOST HOST.RESETCNT
    if kind.val = 0 then (s.setReg pgHOST HOST.LINKSTAT link).wr pgHOST HOST.LINKSTAT_D3 0
    else if up then (s.evt pgHOST 0).faultU pgHOST 0xA001
    else s

/-- The PCIe link trains and enters L0. -/
def linkUp (s : State) (gen width : Nat) : State :=
  if s.pageOn pgHOST then
    ((s.wr pgHOST HOST.LINKSTAT_UP 1).wr pgHOST HOST.LINKSTAT_GEN gen).wr pgHOST HOST.LINKSTAT_WIDTH width
  else s

/-- The function moves between D0 and D3hot (R458). -/
def powerState (s : State) (d3 : Bool) : State :=
  if s.pageOn pgHOST then s.wr pgHOST HOST.LINKSTAT_D3 (if d3 then 1 else 0) else s

/-- DW 0 of configuration space, which the function shows in D0 and D3hot alike (R457, R458): the Device ID above Delsum's Vendor ID,
which the spec does not give as a number (notes/assumptions/112.md). -/
def configId (s : State) : Word := s.pciDevice ++ Config.vendorId

/-! ### Gate pages (R470, R471, R477) -/

/-- The page of the block a gate's master belongs to; none for the masters without such a block. -/
def masterPage (m : Nat) : Option Nat :=
  if m < 64 then some (pgAWL m) else if 65 ≤ m ∧ m < 73 then some (pgDMA (m - 65)) else if 73 ≤ m ∧ m < 89 then some (pgSTAMP (m - 73))
  else none

/-- Write 1 to STAT.FROZEN of a gate (R470): the frozen block, its RUN cleared, enters STOPPED and its claims are released. -/
def gateRelease (s : State) (m : Nat) : State :=
  match masterPage m with
  | none => s
  | some p =>
    if s.st p ≠ 6 then (if s.on (pgGATE m) GATE.STAT_FROZEN then s.wr (pgGATE m) GATE.STAT_FROZEN 0 else s)
    else if s.rd p HDR.PCTL_RUN ≠ 0 then s.cfgRej (pgGATE m)
    else ((s.wr (pgGATE m) GATE.STAT_FROZEN 0).setSt p 1).releaseClaims p

/-- The windows of master `m` accept a write by master `by'` now (R471). -/
def windowOpen (s : State) (m by' : Nat) : Bool :=
  (by' == mHost || by' == mBoot) &&
    (match masterPage m with
     | some p => decide (s.st p ≤ 1) || s.st p == 6
     | none => m == 64 || m == 93 || (m == 92 && !s.debugLock && !s.haltLow))

/-- A write of a window register of gate `m` by a master (R471, R477). -/
def windowWrite (s : State) (m by' off : Nat) (v : Word) : State :=
  let p := pgGATE m
  let k := (off - 0x40) / 8
  let base := if off % 8 = 0 then bitsOf v.toNat 31 12 else s.rd p (GATE.WBASE_BASE k)
  let sz := if off % 8 = 0 then s.rd p (GATE.WCTL_SZ k) else bitsOf v.toNat 5 0
  if !s.windowOpen m by' || sz < 12 || 32 < sz || 0x1000 * base % 2 ^ sz ≠ 0 then s.cfgRej p
  else s.setReg p off (v &&& accMask p off .rw)

end State
end Sys2Proof.Machine
end

