-- ==== Sys2Proof/Machine/Checks.lean ====
section
/-! DEFINITION. The start checks (R72): what each block's chapter requires of its configuration at the STOPPED→STARTING transition,
the schedule rules of R10 and R115, and the checks of the task graph (R165), the cam tables (R315) and the safety configuration (R432)
that report a fault of their own. -/
namespace Sys2Proof.Machine

/-- The outcome of a start check: passed; failed at a register (none: the failing condition lies in no register of the block); failed
with a fault the block has reported itself. -/
inductive Check where
  | ok
  | bad (off : Option Nat)
  | own
deriving DecidableEq, Repr

/-- The check of a list of conditions that fail it, with their registers: the lowest offset among those that hold. -/
def checkAll (l : List (Bool × Nat)) : Check :=
  match State.lowest ((l.filter (·.1)).map (·.2)) with
  | some off => .bad (some off)
  | none => .ok

/-- `[a, a + n)` lies in central memory. -/
def inCentral (a n : Nat) : Bool := decide (a + n ≤ 0x01000000)

namespace State

/-! ### The network schedule (R10, R115, R126) -/

/-- Ticks per byte at the configured rate of a port. -/
def cfgTicks (s : State) (p : Nat) : Nat := if s.on (pgNPORT p) NPORT.LINKCFG_RATE then 2 else 1

/-- The axes per node R18 permits. -/
def nodeLimit (s : State) : Nat := if s.tc < 4000 then 4 else 8

/-- What fails in GIRTH's own part of the schedule (R6, R10, R99). -/
def girthSchedule (s : State) : List (Bool × Nat) :=
  let cws := s.rd pgGIRTH GIRTH.CWIN_CWSTART
  let cut := s.rd pgGIRTH GIRTH.CWIN_CUTOFF
  let edge := s.mapped.any fun e => e.2.mode == 0 || e.2.mode == 4
  let late := (List.range 32).any fun p => s.pageOn (pgNPORT p) && decide (cut ≤ s.rd (pgNPORT p) NPORT.UPWIN_CLOSE)
  [(decide (s.tc < 2000 ∨ 250000 < s.tc) || (edge && decide (16383 < s.perdiv * s.tc)), GIRTH.CYCLE),
   (decide (cws < 100 ∨ cut ≤ cws ∨ s.tc < cut + 128) || late, GIRTH.CWIN)]

/-- What fails GIRTH's start check: the schedule, and PERDIV = 3 (R126, R132). -/
def girthFails (s : State) : List (Bool × Nat) := (s.rd pgGIRTH GIRTH.CYCLE_PERDIV == 3, GIRTH.CYCLE) :: s.girthSchedule

/-- What fails in a port's relay slot (R115). -/
def relayFails (s : State) (p : Nat) : List (Bool × Nat) :=
  let g := pgNPORT p
  let f := s.cfgTicks p
  let n := s.rd g NPORT.RELAYCFG_COUNT
  let t := s.rd g NPORT.RELAYCFG_RLYSTART
  let dl := s.rd g NPORT.DLWIN_DLSTART
  let stop := t + f * s.relayLen p + 12
  let place := decide (16 ≤ t) && (decide (stop ≤ dl) || (decide (dl + f * s.dnLen p + 12 ≤ t) && decide (stop ≤ s.rd g NPORT.ACYWIN_START)))
  (decide (16 < n) || (n ≠ 0 && !place), NPORT.RELAYCFG) :: (List.range (min n 16)).map fun k =>
    let q := s.rd g (NPORT.RELAY_SPORT k)
    let h := pgNPORT q
    (decide (s.axcnt q ≤ s.rd g (NPORT.RELAY_SSLOT k))
      || (!s.on g (NPORT.RELAY_SAGE k) && decide (t < s.rd h NPORT.UPWIN_CLOSE + s.rd h NPORT.PORTCFG_GUARD + 24)), NPORT.RELAY k)

/-- What fails in a port's part of the schedule (R10, R115). -/
def portSchedule (s : State) (p : Nat) : List (Bool × Nat) :=
  let g := pgNPORT p
  let f := s.cfgTicks p
  let cut := s.rd pgGIRTH GIRTH.CWIN_CUTOFF
  let o := s.rd g NPORT.UPWIN_OPEN
  let c := s.rd g NPORT.UPWIN_CLOSE
  let gd := s.rd g NPORT.PORTCFG_GUARD
  let dl := s.rd g NPORT.DLWIN_DLSTART
  let a := s.rd g NPORT.ACYWIN_START
  let e := s.rd g NPORT.ACYWIN_END
  let jo := s.rd g NPORT.JOINWIN_OPEN
  let jc := s.rd g NPORT.JOINWIN_CLOSE
  let ld := s.rd g NPORT.LDCFG_LDMAX
  [(decide (o < 100 ∨ o < gd + 32 ∨ c < o + f * s.upLen p + 2 * gd ∨ cut ≤ c ∨ cut ≤ c + gd + 24), NPORT.UPWIN),
   (decide (s.nodeLimit < s.axcnt p), NPORT.PORTCFG),
   (decide (dl < cut + 8), NPORT.DLWIN),
   (decide (a < dl + f * s.dnLen p) || decide (e < a) || (s.axcnt p ≠ 0 && decide (e < a + f * 72))
      || decide (s.tc < e + max 128 (64 + ld)), NPORT.ACYWIN),
   (!(jo == 0 && jc == 0) && !(decide (a ≤ jo) && decide (jc ≤ e) && decide (jo + 72 ≤ jc)), NPORT.JOINWIN)] ++ s.relayFails p

/-- What fails a port's start check: the schedule, LDMAX, HOLDMAX, BABN and BABM (R111, R136, R138). -/
def portFails (s : State) (p : Nat) : List (Bool × Nat) :=
  let g := pgNPORT p
  let ld := s.rd g NPORT.LDCFG_LDMAX
  let hm := s.rd g NPORT.PORTCFG_HOLDMAX
  [(ld == 0 || decide (1000 < ld), NPORT.LDCFG), (hm == 0 || decide (8 < hm), NPORT.PORTCFG),
   (s.rd g NPORT.BABCFG_BABN == 0 || s.rd g NPORT.BABCFG_BABM == 0, NPORT.BABCFG)] ++ s.portSchedule p

/-! ### Latigo (R393) -/

def latFails (s : State) : List (Bool × Nat) :=
  let p := pgLAT
  let td := s.rd p LAT.TCFG_TDMAX
  let sy := s.rd p LAT.SCHED_SYNCT
  let early := (List.range 32).any fun q => !(s.portAxes q).isEmpty &&
    decide (sy < s.rd (pgNPORT q) NPORT.DLWIN_DLSTART + s.cfgTicks q * s.dnLen q)
  [((s.on p LAT.PCFG_EN && !s.on pgTIME TIME.CTL_SRC) || s.rd p LAT.PCFG_RSCMP == 0 || s.rd p LAT.PCFG_TLOST == 0, LAT.PCFG),
   (s.rd p LAT.HOLDCFG_HOLDLIM == 0, LAT.HOLDCFG),
   (td == 0 || decide (1000 < td), LAT.TCFG),
   (early || decide (s.tc ≤ sy + 246 + td) || decide (s.rd pgGIRTH GIRTH.CWIN_CUTOFF ≤ s.arrTick + 72 + td), LAT.SCHED)]

/-! ### Cinch (R165, R190, R191, R194) -/

def cinchFails (s : State) : List (Bool × Nat) :=
  let p := pgCINCH
  let sz := s.rd p CINCH.LEDCFG_SIZE
  let base := s.rd p CINCH.LEDBASE_ADDR * 64
  let on := s.on p CINCH.LEDCFG_EN
  [(decide (1000 < s.rd p CINCH.SCHCFG_AFFWAIT), CINCH.SCHCFG), (on && decide (sz < 4 ∨ 16 < sz), CINCH.LEDCFG),
   (on && !(inCentral base (64 * 2 ^ sz) && base % (64 * 2 ^ sz) == 0), CINCH.LEDBASE)]

/-- The check of the task graph; a failure is recorded and reported as 0x3001. -/
def graphCheck (s : State) : Check × State :=
  let (r, s) := s.graphLoad
  match r with
  | .ok ts => (.ok, { s with cinch := { s.cinch with tasks := ts } })
  | .error (t, reason) =>
    let s := (s.wr pgCINCH CINCH.LOADERR_TASK t).wr pgCINCH CINCH.LOADERR_REASON reason
    (.own, (s.evt pgCINCH 3).fault pgCINCH 0x3001 (0x10000 * t + reason))

def cinchbFails (s : State) (p : Nat) : List (Bool × Nat) :=
  let m := s.rd p CINCHB.CMDCFG_CMDMAX
  let l := s.rd p CINCHB.CMDCFG_RINGLOG2
  let base := s.rd p CINCHB.CMDBASE_ADDR * 32
  [(m == 0 || decide (64 < m) || decide (l < 4 ∨ 12 < l), CINCHB.CMDCFG),
   (!(inCentral base (32 * 2 ^ l) && base % (32 * 2 ^ l) == 0), CINCHB.CMDBASE)]

/-! ### Profile generators (R304, R308, R315, R326, R327) -/

/-- The reason for which cam table `k` is invalid: 1 header, 2 memory, 3 end point (R315). -/
def camFails (s : State) (k : Nat) : Option Nat × State :=
  let base := s.camBase k
  let memOk (n : Nat) : Bool := inCentral base n && ((wordsOf base n).take 1 ++ (wordsOf base n).reverse.take 1).all fun w =>
    match memDomain w with | some d => s.domOn d | none => false
  if !memOk 32 then (some 2, s)
  else
    let (b, s) := s.fixRead mPg base 32
    match b with
    | none => (some 2, s)
    | some b =>
      let mstep := fieldAt b 0 4
      let n := fieldAt b 4 2
      if mstep = 0 ∨ 2 ^ 31 ≤ mstep ∨ n < 16 ∨ 4096 < n ∨ fieldAt b 6 2 ≠ 0 ∨ fieldAt b 16 16 ≠ 0 ∨ 2 ^ 31 ≤ n * mstep then (some 1, s)
      else if !memOk (48 + 16 * n) then (some 2, s)
      else
        let (a, s) := s.fixRead mPg (base + 32) 16
        let (z, s) := s.fixRead mPg (base + 32 + 16 * n) 16
        match a, z with
        | some a, some z =>
          if fieldAt z 0 8 = (fieldAt a 0 8 + fieldAt b 8 8) % 2 ^ 64 ∧ fieldAt z 8 8 = fieldAt a 8 8 then (none, s) else (some 3, s)
        | _, _ => (some 2, s)

/-- The check of every enabled cam table: the first that fails is reported as 0x5001. -/
def camCheck (s : State) : Check × State :=
  (List.range 16).foldl (fun (r : Check × State) k =>
    if r.1 ≠ .ok || !r.2.on pgPG (PG.CAMBASE_EN k) then r
    else match r.2.camFails k with
      | (some reason, s) => (.own, s.fault pgPG 0x5001 (0x100 * reason + k))
      | (none, s) => (.ok, s)) (.ok, s)

def pgFails (s : State) : List (Bool × Nat) :=
  (List.range 4).flatMap fun k =>
    [(outside (s.reg64 pgPG (PG.VMALO k)).toNat (2 ^ 63 - 1), PG.VMALO k), (s.rd pgPG (PG.VMCFG_JN k) == 0, PG.VMCFG k)]

def pgbFails (s : State) (b : Nat) : List (Bool × Nat) :=
  let top := 2 ^ 63 - 1
  (s.mapped.filter fun e => e.2.home == b).flatMap fun e =>
    let m := e.2
    let v := (s.slotV m).toNat
    [(outside v top, PGB.VLIMLO m.rslot), (outside (s.slotA m).toNat v, PGB.ALIMLO m.rslot),
     (outside (s.slotDstop m).toNat top, PGB.DSTOPLO m.rslot),
     (s.rd (pgPGB b) (PGB.SCFG_JN m.rslot) == 0, PGB.SCFG m.rslot),
     (match s.slotKind m with
      | 0 => false
      | 3 => decide (3 < s.slotIdx m)
      | _ => (s.axis (s.slotIdx m)).map.isNone, PGB.SCFG m.rslot)]

def igrpFails (s : State) (g : Nat) : List (Bool × Nat) :=
  let p := pgIGRP g
  let top := 2 ^ 63 - 1
  let cnt := s.rd p IGRP.GCFG_CNT
  let ms := s.members g
  let bad (i : Nat) : Bool :=
    let a := ms.getD i 0
    (s.axis a).map.isNone || (ms.take i).contains a
      || (List.range 32).any fun h => h ≠ g && decide (1 < s.st (pgIGRP h)) && (s.members h).contains a
  let v := (s.grpV g).toNat
  [(cnt == 0 || decide (8 < cnt) || s.rd p IGRP.GCFG_JN == 0, IGRP.GCFG), (outside v top, IGRP.VLIMLO), (outside (s.grpA g).toNat v, IGRP.ALIMLO),
   (outside (s.grpDstop g).toNat top, IGRP.DSTOPLO)]
  ++ (List.range (min 8 ms.length)).map fun i => (bad i, IGRP.MEM0 + i / 4 * 4)

/-! ### Local units (R334, R344, R354, R358, R368–R373) -/

def stitchFails (s : State) (n : Nat) : List (Bool × Nat) :=
  let p := pgSTITCH n
  let h := s.rd p STITCH.UCFG_HOLDMAX
  let per := 4 * (if s.freeMode n then s.rd p STITCH.PERIOD_TICKS else s.perdiv * s.tc)
  [(h == 0 || decide (8 < h) || s.rd p STITCH.UCFG_LEGEN == 0, STITCH.UCFG), (decide (4 < s.rd p STITCH.TRIPCFG_BLANK), STITCH.TRIPCFG),
   (decide (per ≤ s.rd p STITCH.REFRESH_W + 2 * s.rd p STITCH.DT_NS), STITCH.REFRESH)]

/-- An axis is a mapped local or ANALOG axis. -/
def localAxis (s : State) (a : Nat) : Bool :=
  match (s.axis a).map with | some m => (match m.place with | .port _ _ => false | _ => true) | none => false

def fbchFails (s : State) (n : Nat) : List (Bool × Nat) :=
  let p := pgFBCH n
  let mode := s.rd p FBCH.CFG_MODE
  let aux := s.rd p FBCH.CFG_AUXSEL
  let a := s.rd p FBCH.ROUTE_AXIS
  let other := (List.range 16).any fun k =>
    k ≠ n && decide (1 < s.st (pgFBCH k)) && s.on (pgFBCH k) FBCH.ROUTE_EN && s.rd (pgFBCH k) FBCH.ROUTE_AXIS == a
  let pb := s.rd p FBCH.SERCFG_PBITS
  [(mode == 3 || aux == 3 || (aux == 2 && mode ≠ 1) || (s.on p FBCH.CFG_ZEN && mode ≠ 0), FBCH.CFG),
   (s.on p FBCH.ROUTE_EN && (!s.localAxis a || other), FBCH.ROUTE),
   (s.rd p FBCH.ILLCFG_ILLWIN == 0, FBCH.ILLCFG),
   (mode == 2 && (decide (s.rd p FBCH.SERCFG_CLKDIV < 4) || decide (pb < 8 ∨ 32 < pb) || decide (8 < s.rd p FBCH.SERCFG_CBITS)
      || decide (s.rd pgGIRTH GIRTH.CWIN_CUTOFF ≤ s.serBound n)), FBCH.SERCFG)]

def axchFails (s : State) (n : Nat) : List (Bool × Nat) :=
  let p := pgAXCH n
  let out := s.on p AXCH.CFG_DIR
  let a := s.rd p AXCH.CFG_AXIS
  let x := s.rd p AXCH.CFG_XSEL
  let h := s.rd p AXCH.OCFG_HOLDMAX
  let other := (List.range 16).any fun k =>
    let q := pgAXCH k
    k ≠ n && decide (1 < s.st q) && s.on q AXCH.CFG_REN && s.rd q AXCH.CFG_AXIS == a && s.on q AXCH.CFG_DIR == out
      && (out || s.rd q AXCH.CFG_FIELD == s.rd p AXCH.CFG_FIELD)
  let analog := match (s.axis a).map with | some m => (match m.place with | .ax _ => true | _ => false) | none => false
  [((out && (s.on p AXCH.CFG_CONT || x ≠ 0)) || decide (4 < x)
      || (s.on p AXCH.CFG_REN && (!s.localAxis a || other || (out && !analog))), AXCH.CFG),
   (h == 0 || decide (8 < h), AXCH.OCFG)]

/-! ### Stamp (R412) -/

def stampFails (s : State) (n : Nat) : List (Bool × Nat) :=
  let p := pgSTAMP n
  let rl := s.rd p STAMP.ACQCFG_RLEN
  let ns := s.rd p STAMP.SEGCFG_NSEG
  let ng := s.rd p STAMP.REGION_NGRAN
  let tr := s.rd p STAMP.CONDCFG_TRIGEN
  let ml := s.rd p STAMP.MASKCFG_MLEN
  let ws := s.rd p STAMP.CONDCFG_WSIG
  let off (i sig : Nat) : Bool := bitOf tr i && !s.sigEn n sig
  let xk := s.rd p STAMP.EXTCFG_XKIND
  let xi := s.rd p STAMP.EXTCFG_XIDX
  let sig (k : Nat) : Bool :=
    let kind := s.rd p (STAMP.SIG_KIND k)
    let idx := s.rd p (STAMP.SIG_INDEX k)
    match kind with
      | 0 => decide (s.rd p (STAMP.SIG_OFFSET k) % (if s.on p (STAMP.SIG_W32 k) then 4 else 2) ≠ 0)
      | 1 | 2 => decide (15 < idx)
      | 3 => decide (7 < idx)
      | 7 => true
      | _ => decide (idx ≠ 0)
  [(s.rd p STAMP.ACQCFG_SDIV == 0 || decide (rl < 16 ∨ 4096 < rl), STAMP.ACQCFG),
   (decide (rl ≤ s.rd p STAMP.SEGCFG_PRE) || decide (ns < 1 ∨ 65535 < ns), STAMP.SEGCFG),
   (decide (ng < 1 ∨ 256 < ng) || decide (256 < s.rd p STAMP.REGION_BASE + ng) || s.nslot n == 0, STAMP.REGION),
   (off 0 (s.rd p STAMP.CONDCFG_LSIG) || off 1 (s.rd p STAMP.CONDCFG_ESIG) || off 2 ws
      || (bitOf tr 1 && s.rd p STAMP.CONDCFG_EDIR == 0), STAMP.CONDCFG),
   (bitOf tr 2 && decide (s.thr n STAMP.WINLO ws > s.thr n STAMP.WINHI ws), STAMP.WINLO),
   (bitOf tr 4 && (xk == 3 || (xk == 0 && decide (7 < xi)) || (xk == 1 && decide (23 < xi))), STAMP.EXTCFG),
   (decide (ml < 16 ∨ 4096 < ml) || off 3 (s.rd p STAMP.MASKCFG_MSIG), STAMP.MASKCFG),
   ((s.sigs n).isEmpty, STAMP.SIG 0)] ++ (List.range 8).map fun k => (sig k, STAMP.SIG k)

/-! ### Buckle (R420, R422, R425, R428, R434, R436, R437) -/

/-- The limits of R437 hold for every function, R420 and R428 for the enabled ones. -/
def sfFails (s : State) (k : Nat) : List (Bool × Nat) :=
  let p := pgSF k
  let ty := s.rd p SF.CFG_TYPE
  let f := s.rd p SF.CFG_FILT
  let t1 := s.on p SF.TEST_T1EN
  let t2 := s.on p SF.TEST_T2EN
  let a := s.rd p SF.TEST_T1SRC
  let b := s.rd p SF.TEST_T2SRC
  let on := s.sfOn k
  [((on && ((s.on p SF.CFG_ANTIV && ty ≠ 1) || (s.on p SF.CFG_AUTORST && (ty == 0 || ty == 2)))) || decide (f < 1 ∨ 9 < f)
      || s.rd p SF.CFG_DISC == 0, SF.CFG),
   (decide (23 < s.rd p SF.INPUT_CH1) || decide (23 < s.rd p SF.INPUT_CH2) || decide (23 < s.rd p SF.INPUT_RST), SF.INPUT),
   (decide (11 < a) || decide (11 < b) || (on && t1 && t2 && a == b) || decide (s.rd p SF.TEST_TPER < 8), SF.TEST)]

def buckleFails (s : State) : List (Bool × Nat) :=
  let gr := s.rd pgSTO STO.GRPEN_EN
  let lonely := (List.range 32).any fun g => bitOf gr g && !(List.range 16).any fun k => s.sfOn k && bitOf (s.rd (pgSF k) SF.GROUPS_MASK) g
  [(decide (s.rd pgBUCKLE BUCKLE.CFG_OTPER < 8), BUCKLE.CFG), (lonely, STO.GRPEN)] ++ (List.range 16).flatMap s.sfFails

/-- BUCKLE needs FLD and CLK RUNNING and a clock window it can rely on (R434): conditions outside its own registers. -/
def bucklePrereq (s : State) : Bool :=
  s.running pgFLD && s.running pgCLK && decide (23552 ≤ s.rd pgCLK CLK.WDLIM_LO) && decide (s.rd pgCLK CLK.WDLIM_HI ≤ 27648)

/-- The check of the safety configuration's CRC (R432). -/
def crcCheck (s : State) : Check × State :=
  let (ok, s) := s.safetyCrc
  if ok then (.ok, s)
  else (.own, (s.wr pgBUCKLE BUCKLE.STAT_CRCSTART 1).fault pgBUCKLE 0x8001 (s.reg pgBUCKLE BUCKLE.SCRCNOW).toNat)

/-! ### Host, DMA, tack, the others -/

/-- The ring of a DMA channel lies in one window with R and W of its gate (R465). -/
def ringWindow (s : State) (k : Nat) : Bool :=
  let a := s.rd (pgDMA k) DMA.RBASE_ADDR * 32
  (List.range 8).any fun w => s.windowCovers (mDma k) w a (32 * s.ringLen k) && s.windowGrants (mDma k) w 0 && s.windowGrants (mDma k) w 1

def dmaFails (s : State) (k : Nat) : List (Bool × Nat) :=
  let p := pgDMA k
  let l := s.rd p DMA.RING_RLOG2
  let a := s.rd p DMA.RBASE_ADDR * 32
  let n := 32 * 2 ^ l
  [(decide (4 < s.dmaKind k), DMA.CFG), (s.dmaKind k == 2 && s.rd p DMA.PORTS_MASK == 0, DMA.PORTS),
   (!(inCentral a n && a % n == 0) || !s.ringWindow k, DMA.RBASE), (decide (l < 4 ∨ 12 < l), DMA.RING)]

def tackFails (s : State) : List (Bool × Nat) :=
  (s.rd pgTACK TACK.CFG_PINDEB == 0, TACK.CFG) :: (List.range 4).map fun k =>
    let n := s.rd pgTACK (TACK.TLEN_LEN k)
    (n ≠ 0 && !inCentral (s.rd pgTACK (TACK.TBASE_ADDR k) * 8) n, TACK.TBASE k)

/-- CALCTL.KIND values a page's shells accept (R81, R113, FLD's shell). -/
def shellFails (s : State) (p : Nat) : List (Bool × Nat) :=
  (List.range (pageShells p)).map fun k =>
    let kind := s.rd p (SHELL.CALCTL_KIND k)
    ((match pageKind p with
      | some .plnt | some .nport | some .lat | some .host => kind ≠ 0
      | some .fld => kind ≠ 1
      | _ => kind == 3), SHELL.CALCTL k)

/-- What fails in a page's own registers. -/
def pageFails (s : State) (p : Nat) : List (Bool × Nat) :=
  let n := pageInst p
  let own : List (Bool × Nat) := match pageKind p with
    | some .clk => [(decide (s.rd p CLK.WDLIM_HI ≤ s.rd p CLK.WDLIM_LO), CLK.WDLIM)]
    | some .tack => s.tackFails
    | some .ecc => [(s.rd p ECC.SCRUBCFG_PERIOD == 0, ECC.SCRUBCFG)]
    | some .plnt => [(s.rd p PLNT.MACCFG_SPEED == 3, PLNT.MACCFG)]
    | some .girth => s.girthFails
    | some .nport => s.portFails n
    | some .lat => s.latFails
    | some .cinch => s.cinchFails
    | some .cinchb => s.cinchbFails p
    | some .awl => [(s.on p AWL.EXCCFG_EN && s.rd p AWL.EXCCFG_ENTRY % 4 ≠ 0, AWL.EXCCFG)]
    | some .pg => s.pgFails
    | some .pgb => s.pgbFails n
    | some .igrp => s.igrpFails n
    | some .stitch => s.stitchFails n
    | some .fbch => s.fbchFails n
    | some .axch => s.axchFails n
    | some .stamp => s.stampFails n
    | some .buckle => s.buckleFails
    | some .fld => [(s.rd p FLD.CFG_TSAFE == 0, FLD.CFG)]
    | some .flddi => (List.range 24).map fun k => (s.rd p (FLDDI.DICFG_PER k) == 7, FLDDI.DICFG k)
    | some .flddo => (List.range 16).map fun x => (s.rd p (FLDDO.OCFG_SAFE x) == 3, FLDDO.OCFG x)
    | some .dma => s.dmaFails n
    | _ => []
  own ++ s.shellFails p

/-- What a page's start requires of other blocks (R368, R379, R434, and the FLDDI and FLDDO pages). -/
def pagePrereq (s : State) (p : Nat) : Bool :=
  match pageKind p with
  | some .girth => !(s.pageOn pgLAT && s.on pgLAT LAT.STAT_CFGERR)
  | some .axch => s.running pgANA
  | some .buckle => s.bucklePrereq
  | some .flddi | some .flddo => s.running pgFLD
  | _ => true

/-- The start check of a page (R72). -/
def startCheck (s : State) (p : Nat) : Check × State :=
  match pageKind p with
  | some .buckle =>
    let r := s.crcCheck
    if r.1 ≠ .ok then r else (if !s.pagePrereq p then .bad none else checkAll (r.2.pageFails p), r.2)
  | k =>
    if !s.pagePrereq p then (.bad none, s)
    else match checkAll (s.pageFails p) with
      | .ok => if k = some .cinch then s.graphCheck else if k = some .pg then s.camCheck else (.ok, s)
      | c => (c, s)

end State
end Sys2Proof.Machine
end

