-- ==== Sys2Proof/Machine/Blocks.lean ====
section
/-! DEFINITION. The block states (R70) of every page: starting, stopping, fault reactions, and the analog shells (R80–R82). -/
namespace Sys2Proof.Machine

/-- GLOB and PWR, whose writes to RUN have no effect (R69), and the SF and STO pages, which belong to the block BUCKLE. -/
def runFixed (p : Nat) : Bool :=
  match pageKind p with | some .glob | some .pwr | some .sf | some .sto | none => true | _ => false

/-- The safety pages, whose RWS fields only the host and the boot loader write (R433). -/
def safetyPage (p : Nat) : Bool := match pageKind p with | some .buckle | some .sf | some .sto => true | _ => false

/-- The page whose PSTAT.STATE a page shows: the SF and STO pages show BUCKLE's (notes/assumptions/9.md). -/
def statePage (p : Nat) : Nat := match pageKind p with | some .sf | some .sto => pgBUCKLE | _ => p

namespace State

/-! ### Analog shells (R80–R82) -/

/-- A shell of the page is calibrating. -/
def shellBusy (s : State) (p : Nat) : Bool := (List.range (pageShells p)).any fun k => s.on p (SHELL.CALSTAT_BUSY k)

/-- The run of shell `k` is one of AUTO, or none is. -/
def setAutoRun (s : State) (p k : Nat) (b : Bool) : State :=
  { s with autoRuns := (s.autoRuns.filter (· != 32 * p + k)) ++ (if b then [32 * p + k] else []) }

/-- Calibration under AUTO begins at the STOPPED→STARTING transition; it takes the place of a run of CALCTL.START
(notes/assumptions/96.md). -/
def autoCal (s : State) (p : Nat) : State :=
  s.forEach (List.range (pageShells p)) fun s k =>
    if s.on p (SHELL.CALCTL_AUTO k) && !s.on p (SHELL.CALCTL_USETRIM k) then (s.wr p (SHELL.CALSTAT_BUSY k) 1).setAutoRun p k true else s

/-- CALCTL.START written 1: one calibration, none of AUTO, in STOPPED only; ignored while a run is in progress
(notes/assumptions/96.md). -/
def calStart (s : State) (p k : Nat) : State :=
  if k < pageShells p then
    if s.st p = 1 then (if s.on p (SHELL.CALSTAT_BUSY k) then s else (s.wr p (SHELL.CALSTAT_BUSY k) 1).setAutoRun p k false)
    else if s.st p = 0 then s else s.cfgRej p
  else s

/-- The code in force on the pin of an output channel; none where the pin is of high impedance: an input, PD_ANA off or a calibration in
progress (R364, R365). -/
def anaPin (s : State) (n : Nat) : Option Nat :=
  let p := pgAXCH n
  if s.pageOn p && s.on p AXCH.CFG_DIR && !s.shellBusy p then some (s.ana n).dac else none

/-- The SerDes transmitters of a page (a node port, Latigo or the host link) are at electrical idle: POR_N is low or the page's domain
is off (R519). -/
def serdesIdle (s : State) (p : Nat) : Bool := s.por || !s.pageOn p

/-- QSPI_CS_N and QSPI_CLK are driven: by the loader while it boots from the flash, and of high impedance while POR_N is low (R519). -/
def qspiDriven (s : State) : Bool := !s.por && decide (s.boot.phase ≤ 1)

/-- The quantity MONCTL.SELECT names at an analog channel (R365): the corrected code + 0x800, the raw code + 0x800, or what is measured. -/
def anaMonitor (s : State) (n sel value : Nat) : Nat :=
  let p := pgAXCH n
  let out := s.on p AXCH.CFG_DIR
  if sel = 0 then ((if out then s.rd p AXCH.OUTNOW_CODE else s.rd p AXCH.SAMP_LAST / 16) + 0x800) % 0x1000
  else if sel = 1 then ((if out then (s.ana n).dac else (s.ana n).rawLast) + 0x800) % 0x1000
  else value

/-- A measurement of a shell's monitor (R81): 0 for a SELECT its macro does not define. -/
def monMeasure (s : State) (p k value : Nat) : State :=
  if pageShells p ≤ k || !s.pageOn p || !s.on p (SHELL.MONCTL_EN k) then s
  else
    let sel := s.rd p (SHELL.MONCTL_SELECT k)
    let some' := match pageKind p with | some .fld => decide (sel < 1) | some .axch => decide (sel < 3) | some .clk => true | _ => decide (sel < 2)
    let value := if pageKind p == some .axch then s.anaMonitor (pageInst p) sel value else value
    let v := if some' then value % 0x10000 else 0
    let lo := s.rd p (SHELL.MONLIM_LO k)
    let hi := s.rd p (SHELL.MONLIM_HI k)
    let s := s.wr p (SHELL.MONVAL_VALUE k) v
    let s := if lo ≠ 0 ∧ v < lo then s.wr p (SHELL.MONSTAT_BELOW k) 1 else s
    if hi ≠ 0xFFFF ∧ hi < v then s.wr p (SHELL.MONSTAT_ABOVE k) 1 else s

/-! ### Starting -/

/-- What a block does on entering STARTING, as its chapter states.  CMDHEAD and CMDTAIL of a CINCHB page stay as they were
(notes/assumptions/116.md). -/
def startHook (s : State) (p : Nat) : State :=
  let n := pageInst p
  match pageKind p with
  | some .girth =>
    { s with girth := { s.girth with stopCuts := 0, t0 := s.t64 + BitVec.ofNat 64 (2 * s.tc * 64) }, time := { s.time with rateRef := s.time.rate } }
  | some .awl => s.setAwl n { fifo := (s.awl n).fifo }
  | some .cinch => s.cinchBegin s.cinch.tasks
  | some .stitch => s.stitchStart n
  | some .fbch => ((s.setReg p FBCH.COUNT 0).wr p FBCH.STAT_DIR 0).modFeed n fun f => { pins := f.pins, hall := f.hall }
  | some .stamp => s.stampStart n
  | some .fld => s.fieldBegin
  | some .buckle => if s.fieldServes then s.manageSend (s.on pgFLD FLD.STAT_LINK) else s
  | some .lat => s.wr p LAT.STAT_CFGERR 0
  | some .nport => s.wr p NPORT.LINKSTAT_RATE (s.rd p NPORT.LINKCFG_RATE)
  | _ => s

/-- A start of a page is no longer the one of phase 5 of a tack switch (R494). -/
def startAnew (s : State) (p : Nat) : State := { s with tack := { s.tack with starts := s.tack.starts.filter (· != p) } }

/-- RUN written 1 (R70, R72, R78): in STOPPED the start is checked, its claims are taken and it is decided; elsewhere ignored. -/
def tryStart (s : State) (p : Nat) : State :=
  if runFixed p || s.st p != 1 then s
  else
    let (c, s) := s.startCheck p
    match c with
    | .own => (s.wr p HDR.PCTL_RUN 0).cfgRej p
    | .bad off =>
      let s := (s.wr p HDR.PCTL_RUN 0).cfgRej p
      (match off with | some o => s.fault p (blockCode p 0xF1) o | none => s.faultU p (blockCode p 0xF1))
    | .ok =>
      let (ok, s) := s.claim p
      if !ok then s.wr p HDR.PCTL_RUN 0
      else ((((s.startAnew p).wr p HDR.PCTL_RUN 1).setSt p 2).autoCal p).startHook p

/-! ### Stopping -/

/-- AXCH page `n` stops. -/
def stopAna (s : State) (n : Nat) : State :=
  let p := pgAXCH n
  if s.st p = 2 ∨ s.st p = 3 then ((s.wr p HDR.PCTL_RUN 0).setSt p 4).anaOff n else s

/-- What a block does on entering STOPPING, as its chapter states. -/
def stopHook (s : State) (p : Nat) : State :=
  let n := pageInst p
  match pageKind p with
  | some .girth => { s with girth := { s.girth with stopCuts := 0 } }
  | some .nport => if s.girthOn && s.portSt n ≠ 0 then s.modPort n fun q => { q with stopping := true, stopCut := false } else s
  | some .lat => s.latHalt
  | some .cinch => s.cinchStop
  | some .awl => s.awlLeave n 4
  | some .pg => s.pgPageStop none
  | some .pgb => s.pgPageStop (some n)
  | some .igrp => s.grpHalt n true
  | some .stitch => s.stitchOff n
  | some .ana => s.forEach (List.range 16) stopAna
  | some .axch => s.anaOff n
  | some .stamp => s.stampAbort n
  | some .buckle => s.buckleHalt
  | some .fld => s.safeCommand
  | some .flddo => s.outsSettle
  | some .tpin => s.tpinHalt
  | some .dma => s.drainRing n 7
  | _ => s

/-- RUN written 0 (R70): a starting or running block stops; a faulted or frozen one takes the write.  A GIRTH still waiting for cycle
0 is STOPPED at once (R131), and an Awl that was STARTING has not left RUNNING, so nothing migrates (R180).  A calibration run under AUTO
that is in progress goes on as one (notes/assumptions/117.md). -/
def requestStop (s : State) (p : Nat) : State :=
  if runFixed p then s
  else match s.st p with
    | 2 | 3 =>
      let starting := s.st p == 2
      let s := s.wr p HDR.PCTL_RUN 0
      if p = pgGIRTH ∧ starting then (s.setSt p 1).releaseClaims p else
        let s := s.setSt p 4
        if starting && pageKind p == some .awl then s else s.stopHook p
    | 5 | 6 => s.wr p HDR.PCTL_RUN 0
    | _ => s

/-! ### Completion -/

/-- The block's start-up may complete now. -/
def startReady (s : State) (p : Nat) : Bool :=
  let n := pageInst p
  match pageKind p with
  | some .girth => false
  | some .lat => s.laneSync 0 || s.laneSync 1
  | some .stitch => s.stitchReady n
  | some .fbch | some .axch => s.girthOn
  | some .fld => s.on pgFLD FLD.STAT_LINK
  | _ => true

/-- The row START_COMPLETE: GIRTH enters RUNNING by CYCLE_ZERO alone. -/
def startComplete (s : State) (p : Nat) : State :=
  if s.st p ≠ 2 || s.shellBusy p || !s.startReady p then s
  else
    let n := pageInst p
    match pageKind p with
    | some .lat => s.latBegin
    | some .buckle => s.buckleBegin
    | some .stitch => s.stitchRun n
    | _ => s.setSt p 3

/-- The block's stop may complete now. -/
def stopReady (s : State) (p : Nat) : Bool :=
  let n := pageInst p
  match pageKind p with
  | some .girth => false
  | some .nport => !s.girthBusy || s.portSt n == 0
  | some .cinch => s.cinchIdle
  | some .awl => (s.awl n).fifo.isEmpty
  | some .pg => s.pgPageAtRest none
  | some .pgb => s.pgPageAtRest (some n)
  | some .igrp => s.grpState n == 0
  | some .ana => (List.range 16).all fun k => s.st (pgAXCH k) == 1
  | _ => true

/-- What a block does as it enters STOPPED. -/
def endHook (s : State) (p : Nat) : State :=
  match pageKind p with
  | some .lat => s.latEnd
  | some .fld => s.fieldEnd
  | some .nport => s.portIdle (pageInst p)
  | _ => s

/-- A calibration run of a shell ends: `ok` with its trim words, those of KIND, or failed with its error code (R81).  A failed run under
AUTO fails the start (R82).  Only a successful run counts as completed (notes/assumptions/96.md). -/
def calDone (s : State) (p k : Nat) (ok : Bool) (res0 res1 : Word) (err : Nat) : State :=
  if pageShells p ≤ k || !s.on p (SHELL.CALSTAT_BUSY k) then s
  else
    let auto := s.autoRuns.contains (32 * p + k)
    let s := (s.wr p (SHELL.CALSTAT_BUSY k) 0).setAutoRun p k false
    if ok then
      let s := (s.wr p (SHELL.CALSTAT_DONE k) 1).wr p (SHELL.CALSTAT_RUNS k) (min 0xFFFF (s.rd p (SHELL.CALSTAT_RUNS k) + 1))
      let kind := s.rd p (SHELL.CALCTL_KIND k)
      let s := if kind = 2 then s else s.setReg p (SHELL.CALRES0 k) res0
      let s := if kind = 1 then s else s.setReg p (SHELL.CALRES1 k) res1
      if pageKind p == some .axch then s.anaIdle (pageInst p) else s
    else
      let s := (s.wr p (SHELL.CALSTAT_FAIL k) 1).wr p (SHELL.CALSTAT_ERR k) err
      if s.st p ≠ 2 || !auto then s
      else
        let s := ((s.cfgRej p).wr p HDR.PCTL_RUN 0).fault p (blockCode p 0xF4) k
        let s := s.forEach (List.range (pageShells p)) fun s k => (s.wr p (SHELL.CALSTAT_BUSY k) 0).setAutoRun p k false
        ((s.setSt p 1).releaseClaims p).endHook p

/-- The row STOP_COMPLETE: GIRTH's stop ends at an I0 (R131). -/
def stopComplete (s : State) (p : Nat) : State :=
  if s.st p ≠ 4 || !s.stopReady p then s else ((s.setSt p 1).releaseClaims p).endHook p

/-- The row FAULT_REACTION_COMPLETE: a faulted block whose RUN is 0 enters STOPPED. -/
def faultReactionComplete (s : State) (p : Nat) : State :=
  if s.st p ≠ 5 || s.on p HDR.PCTL_RUN || (pageKind p == some .awl && !(s.awl (pageInst p)).fifo.isEmpty) then s
  else ((s.setSt p 1).releaseClaims p).endHook p

end State
end Sys2Proof.Machine
end

