-- ==== Sys2Proof/Machine/Boot.lean ====
section
/-! DEFINITION. Power-on reset and straps (R479, R480), the OTP (R481–R483), and the request of a host load (R487). -/
namespace Sys2Proof.Machine
namespace State

/-- A bit of OTP word 8: 0 KEYSET, 1 DBGLOCK, 2 TACKLOCK (R481). -/
def otpFlag (s : State) (i : Nat) : Bool := bitOf (s.rd pgBOOT (BOOT.OTPRD_VALUE 8)) i

/-- BOOT.STAT as read: its OTP flags follow the fuses (R481, R483, R497). -/
def bootView (s : State) : Word :=
  let w := s.reg pgBOOT BOOT.STAT
  let w := BOOT.STAT_UNSEC.put (b2n (!s.otpFlag 0) 0) w
  let w := BOOT.STAT_TACKLOCK.put (b2n (s.otpFlag 2) 0) w
  let w := BOOT.STAT_DBGLOCK.put (b2n s.debugLock 0) w
  BOOT.STAT_KEYSET.put (b2n (s.otpFlag 0) 0) w

/-- R482: the word accepts the bits now. -/
def otpAccepts (s : State) (m w : Nat) (v : Word) : Bool :=
  m == mHost && s.running pgBOOT && !s.on pgBOOT BOOT.OTPCTL_BUSY && decide (w < 10)
    && !(decide (w < 8) && s.otpFlag 0)
    && !(decide (w = 8) && bitOf v.toNat 0 && (List.range 8).all fun k => s.reg pgBOOT (BOOT.OTPRD k) == 0#32)

/-- A write of OTPCTL: PROG blows the 1 bits of OTPDATA into word WORD, or is refused and changes nothing (R482). -/
def otpWrite (s : State) (m : Nat) (v : Word) : State :=
  let w := BOOT.OTPCTL_WORD.get v
  if BOOT.OTPCTL_PROG.get v = 0 then s.wr pgBOOT BOOT.OTPCTL_WORD w
  else
    let d := s.reg pgBOOT BOOT.OTPDATA
    if s.otpAccepts m w d then
      { ((s.wr pgBOOT BOOT.OTPCTL_WORD w).wr pgBOOT BOOT.OTPCTL_BUSY 1) with boot := { s.boot with otp := some (w, d) } }
    else s.cfgRej pgBOOT

/-- Programming completes: the bits are blown, and none ever returns to 0 (R481). -/
def otpDone (s : State) : State :=
  match s.boot.otp with
  | none => s
  | some (w, d) =>
    let s := s.setReg pgBOOT (BOOT.OTPRD w) (s.reg pgBOOT (BOOT.OTPRD w) ||| d)
    { (s.wr pgBOOT BOOT.OTPCTL_BUSY 0) with boot := { s.boot with otp := none } }

/-- A write of HLBASE (R487). -/
def hlbaseWrite (s : State) (v : Word) : State :=
  if s.on pgBOOT BOOT.STAT_DONE then s.cfgRej pgBOOT else s.wr pgBOOT BOOT.HLBASE_ADDR (v.toNat / 8)

/-- HLCTL.GO written 1: the waiting loader begins (R487). -/
def hostLoadGo (s : State) : State :=
  if s.on pgBOOT BOOT.STAT_DONE then s.cfgRej pgBOOT
  else if s.boot.phase = 2 then { s with boot := { s.boot with phase := 3 } }
  else s

/-- The registers a power-on reset leaves as they are: the fuses (R479, R481). -/
def fused (key : Nat) : Bool :=
  let p := key / 0x1000
  let off := key % 0x1000
  (p == pgGLOB && (off == GLOB.UID0 || off == GLOB.UID1)) || (p == pgBOOT && decide (BOOT.OTPRD 0 ≤ off) && decide (off ≤ BOOT.OTPRD 9))

/-- POR_N low resets the whole controller die (R479); the field die, the fuses and what the block has sent stay. -/
def porFall (s : State) : State :=
  { regs := s.regs.filter fun e => fused e.1, fouts := s.fouts.map fun e => (e.1, { e.2 with seen := 0 }), die := s.die, wire := s.wire, freeCtr := s.freeCtr, pending := s.pending, por := true }

/-- POR_N rises: the straps are latched and the loader begins (R480, R486). -/
def powerOnReset (s : State) (refmode bootsrc : Bool) (pairid tacksel : Nat) : State :=
  if !s.por then s
  else
    let s := ((s.wr pgGLOB GLOB.STRAP_REFMODE (b2n refmode 0)).wr pgCLK CLK.REFCFG_REFMODE (b2n refmode 0)).wr pgGLOB GLOB.STRAP_BOOTSRC (b2n bootsrc 0)
    let s := ((s.wr pgGLOB GLOB.STRAP_PAIRID pairid).wr pgGLOB GLOB.STRAP_TACKSEL tacksel).wr pgTACK TACK.STAT_PINS tacksel
    { s with por := false, boot := { phase := if bootsrc then 2 else 0 } }

end State
end Sys2Proof.Machine
end

