-- ==== Sys2Proof/Machine/Tack.lean ====
section
/-! DEFINITION. Tack sets (R488–R492, R495): their layout, the validation of phase 1, and the request and stop of phases 1 and 2. -/
namespace Sys2Proof.Machine

/-- The switched pages: those the start list may name (R491). -/
def switchedPage (p : Nat) : Bool :=
  match pageKind p with
  | some .girth | some .nport | some .lat | some .cinch | some .cinchb | some .awl | some .bench | some .pg | some .pgb | some .igrp
  | some .tpin | some .stitch | some .fbch | some .ana | some .axch | some .stamp | some .buckle | some .fld | some .flddi
  | some .flddo => true
  | _ => false

/-- The pages the register list may name (R491). -/
def listedPage (p : Nat) : Bool :=
  switchedPage p ||
    match pageKind p with
    | some .sf | some .sto => true
    | some .gate => let m := pageInst p; decide (m < 64) || (decide (65 ≤ m) && decide (m ≤ 88))
    | _ => false

/-- A tack set as read from memory. -/
structure TackSet where
  scrc : Word
  pwrdom : Nat
  /-- Page, offset, value. -/
  writes : List (Nat × Nat × Word)
  /-- Axis, its map entry, the 28 bytes of its slot values (R490). -/
  axes : List (Nat × AxisMap × List Byte)
  /-- Destination and content. -/
  blocks : List (Nat × List Byte)
  start : List Nat
deriving DecidableEq, Repr

/-- Offset and count of table `i` of a set: 0 registers, 1 axis map, 2 blocks, 3 start list. -/
def tackTable (b : List Byte) (i : Nat) : Nat × Nat := (fieldAt b (24 + 8 * i) 4, fieldAt b (28 + 8 * i) 4)

/-- The header of set `k` stored with length `len` (R489). -/
def tackHeaderOk (b : List Byte) (k len : Nat) : Bool :=
  slice b 0 4 == [0x54, 0x41, 0x43, 0x4B] && fieldAt b 4 2 == 1 && fieldAt b 6 1 == k && fieldAt b 7 1 == 0
    && fieldAt b 8 4 == len && len % 8 == 0 && decide (64 ≤ len)
    && [8, 64, 16, 2].zipIdx.all fun e => let t := tackTable b e.2; decide (t.1 + t.2 * e.1 ≤ len)

/-- The checksum of a set, its own field taken as 0. -/
def tackCrc (b : List Byte) : Word := crc32 (b.take 12 ++ List.replicate 4 0 ++ b.drop 16)

/-- The register list. -/
def tackWrites (b : List Byte) : List (Nat × Nat × Word) :=
  let t := tackTable b 0
  (List.range t.2).map fun i =>
    let w := fieldAt b (t.1 + 8 * i) 4
    (bitsOf w 25 16, bitsOf w 11 0, BitVec.ofNat 32 (fieldAt b (t.1 + 8 * i + 4) 4))

/-- An entry names a page and an offset R491 allows. -/
def tackWriteOk (e : Nat × Nat × Word) : Bool := listedPage e.1 && decide (0x40 ≤ e.2.1) && e.2.1 % 4 == 0

/-- A present bit and an index: one byte of AIN or FB. -/
def tackChannel (v : Nat) : Option Nat := if bitOf v 7 then some (v % 16) else none

/-- An axis map entry (R490); none where its layout, mode or place is not allowed (R19). -/
def tackAxis (e : List Byte) : Option (Nat × AxisMap × List Byte) :=
  let a := fieldAt e 0 2
  let mode := fieldAt e 2 1
  let pl := fieldAt e 3 1
  let slot := fieldAt e 4 1
  let i := pl % 32
  let place : Option Place :=
    if bitOf pl 5 then none
    else match pl / 64 with
      | 0 => if mode ≤ 2 ∨ mode = 4 then (if slot < 8 then some (.port i slot) else none) else none
      | 1 => if (mode = 0 ∨ mode = 4) ∧ i < 8 ∧ slot = 0 then some (.lx i) else none
      | 2 => if mode = 3 ∧ i < 16 ∧ slot = 0 then some (.ax i) else none
      | _ => none
  match place with
  | none => none
  | some place =>
    let home := fieldAt e 5 1
    let rslot := fieldAt e 6 1
    if 255 < a ∨ 7 < home ∨ 31 < rslot ∨ fieldAt e 12 4 ≠ 0 ∨ fieldAt e 44 20 ≠ 0 then none
    else some (a, { mode := mode, place := place, home := home, rslot := rslot, fb := tackChannel (fieldAt e 7 1),
                    ain := (List.range 4).map fun j => tackChannel (fieldAt e (8 + j) 1) }, slice e 16 28)

/-- The axis map; none where an entry is not allowed. -/
def tackAxes (b : List Byte) : Option (List (Nat × AxisMap × List Byte)) :=
  let t := tackTable b 1
  if 256 < t.2 then none else (List.range t.2).mapM fun i => tackAxis (slice b (t.1 + 64 * i) 64)

/-- No two of a list are equal. -/
def allDiffer {α : Type} [DecidableEq α] (l : List α) : Bool := decide l.Nodup

/-- The limits of R18 and R23 on an axis map under a cycle length. -/
def tackLimits (tc : Nat) (l : List (Nat × AxisMap × List Byte)) : Bool :=
  let short := decide (tc < 4000)
  let ms := l.map (·.2.1)
  let count (f : AxisMap → Bool) : Nat := (ms.filter f).length
  let onPort (p : Nat) (m : AxisMap) : Bool := match m.place with | .port q _ => q == p | _ => false
  allDiffer (l.map (·.1)) && allDiffer (ms.map fun m => (m.home, m.rslot)) && allDiffer (ms.map (·.place))
    && decide (count (fun m => m.mode == 0 || m.mode == 4) ≤ if short then 128 else 256)
    && decide (l.length ≤ if short then 128 else 256)
    && ((List.range 32).all fun p => decide (count (onPort p) ≤ if short then 4 else 8))
    && ((List.range 8).all fun h => decide (count (fun m => m.home == h) ≤ if short then 16 else 32))

/-- The data blocks; none where a source leaves the set or a reserved word is not 0. -/
def tackBlocks (b : List Byte) : Option (List (Nat × List Byte)) :=
  let t := tackTable b 2
  (List.range t.2).mapM fun i =>
    let o := t.1 + 16 * i
    let n := fieldAt b (o + 4) 4
    let src := fieldAt b (o + 8) 4
    if fieldAt b (o + 12) 4 ≠ 0 ∨ fieldAt b 8 4 < src + n then none else some (fieldAt b o 4, slice b src n)

/-- The start list. -/
def tackStart (b : List Byte) : List Nat :=
  let t := tackTable b 3
  (List.range t.2).map fun i => fieldAt b (t.1 + 2 * i) 2

/-- Strictly ascending switched pages (R489, R491). -/
def tackStartOk (l : List Nat) : Bool := l.all switchedPage && (l.zip (l.drop 1)).all fun e => decide (e.1 < e.2)

/-- The whole region of memory an address lies in: base and size. -/
def memWhole (a : Nat) : Option (Nat × Nat) :=
  if a < 0x01000000 then some (0, 0x01000000)
  else if a < 0x01800000 then some (0x01000000, 0x00800000)
  else if 0x02000000 ≤ a ∧ a < 0x02200000 then some (0x02000000, 0x00200000)
  else none

/-- Two ranges of bytes share a byte. -/
def overlaps (a n b k : Nat) : Bool := decide (0 < n) && decide (0 < k) && decide (a < b + k) && decide (b < a + n)

namespace State

/-- Base and length of stored set `k`. -/
def tackStored (s : State) (k : Nat) : Nat × Nat := (s.rd pgTACK (TACK.TBASE_ADDR k) * 8, s.rd pgTACK (TACK.TLEN_LEN k))

/-- R491: a destination lies in memory, clear of the stored sets and of granules claimed by a page outside the switched pages. -/
def tackDestOk (s : State) (a n : Nat) : Bool :=
  match memWhole a with
  | none => false
  | some (b, k) =>
    decide (a + n ≤ b + k) && ((List.range 4).all fun k => let t := s.tackStored k; !overlaps a n t.1 t.2)
      && (b ≠ 0 || (granules a n).all fun g => match s.holder (idGran g) with | some p => switchedPage p | none => true)

/-- A register takes the values of its RW and RWS fields, with no other effect. -/
def plainWrite (s : State) (p off : Nat) (v : Word) : State :=
  let m := accMask p off .rw ||| accMask p off .rws
  s.setReg p off ((s.reg p off &&& ~~~m) ||| (v &&& m))

/-- The state the set would leave to the checks of phase 1: its domains on, its registers, axis map and data blocks in place. -/
def tackOutcome (s : State) (t : TackSet) : State :=
  let target := t.pwrdom ||| 0x4100
  let s := s.forEach ((List.range 18).filter fun d => s.domOn d != bitOf target d) switchDomain
  let s := s.forEach t.writes fun s e => s.plainWrite e.1 e.2.1 e.2.2
  let s := { s with axes := [] }
  let s := s.forEach t.axes fun s e => s.setAxis e.1 { map := some e.2.1, state := .stopped }
  s.forEach t.blocks fun s e => s.setBytes e.1 e.2

/-- The CRC of the safety configuration the set writes, reset values for the words it does not write (R432, R492). -/
def tackSafety (t : TackSet) : Word :=
  crc32 (({} : State).forEach t.writes fun s e => s.plainWrite e.1 e.2.1 e.2.2).safetyImage

/-- A STITCH unit in FREE mode, or a slot at or above AXCNT, cannot carry an axis. -/
def tackPlaceOk (s : State) (m : AxisMap) : Bool :=
  match m.place with
  | .port p k => decide (k < s.axcnt p)
  | .lx n => !s.freeMode n
  | .ax _ => true

/-- The set leaves node port `p` with a schedule of its own, in the outcome `h`: it writes a register of its page or starts it, or a
node stays mapped there (log entry 106). -/
def schedules (h : State) (t : TackSet) (p : Nat) : Bool :=
  t.writes.any (fun e => e.1 == pgNPORT p) || t.start.contains (pgNPORT p) || h.axcnt p != 0

/-- Phase 1 (R492): the reason of R495 for which the content of a stored set is rejected, or the set; the detail of a graph failure. -/
def tackJudge (s : State) (k len : Nat) (b : List Byte) : Except (Nat × Option (Nat × Nat)) TackSet :=
  let ws := tackWrites b
  let start := tackStart b
  if BitVec.ofNat 32 (fieldAt b 12 4) ≠ tackCrc b then .error (2, none)
  else if !tackHeaderOk b k len then .error (1, none)
  else if !ws.all tackWriteOk then .error (3, none)
  else match tackAxes b with
    | none => .error (4, none)
    | some axes =>
      match tackBlocks b with
      | none => .error (7, none)
      | some blocks =>
        if !blocks.all fun e => s.tackDestOk e.1 e.2.length then .error (7, none)
        else if !tackStartOk start then .error (9, none)
        else
          let t : TackSet := { scrc := BitVec.ofNat 32 (fieldAt b 16 4), pwrdom := fieldAt b 20 4 % 2 ^ 18, writes := ws, axes := axes,
                               blocks := blocks, start := start }
          let h := s.tackOutcome t
          let ports := (List.range 32).filter fun p => h.pageOn (pgNPORT p) && h.schedules t p
          if !(tackLimits h.tc axes && axes.all fun e => h.tackPlaceOk e.2.1) then .error (4, none)
          else if checkAll (h.girthSchedule ++ ports.flatMap h.portSchedule) ≠ .ok then .error (5, none)
          else match h.graphLoad.1 with
            | .error (task, why) => .error (6, some (task, why))
            | .ok _ => if tackSafety t ≠ t.scrc then .error (8, none) else .ok t

/-- The content of the set being switched to, read word by word. -/
def tackRead (s : State) : Option (List Byte) × State := s.blockRead mBoot s.tack.base s.tack.len

/-- A rejection (R492): nothing else changes. -/
def tackReject (s : State) (reason : Nat) : State :=
  let s := ((s.wr pgTACK TACK.STAT_REASON reason).bump pgTACK TACK.REJECTS).evt pgTACK 1
  ((s.fault pgTACK 0x0501 reason).wr pgTACK TACK.STAT_BUSY 0).wr pgTACK TACK.STAT_PHASE 0

/-- Phase 2: once GIRTH is STOPPED, every other switched page that is neither OFF nor STOPPED is stopped. -/
def tackStops (s : State) : State :=
  if s.rd pgTACK TACK.STAT_PHASE = 2 ∧ s.st pgGIRTH = 1 then
    s.forEach (allPages.filter fun p => switchedPage p && p ≠ pgGIRTH) fun s p => if 1 < s.st p then s.bootAct p HDR.PCTL fun s => s.requestStop p else s
  else s

/-- A request for set `k` (R488): refused, rejected by phase 1, or begun with the stop of GIRTH. -/
def tackRequest (s : State) (k : Nat) : State :=
  if !s.running pgTACK then s
  else
    let (base, len) := s.tackStored k
    if s.on pgTACK TACK.STAT_BUSY || len == 0 then (s.bump pgTACK TACK.REJECTS).cfgRej pgTACK
    else
      let s := { ((s.wr pgTACK TACK.STAT_BUSY 1).wr pgTACK TACK.STAT_PHASE 1) with
                 tack := { s.tack with set := k, base := base, len := len, deferred := [], failed := false } }
      let (b, s) := s.tackRead
      match b with
      | none => s.tackReject 2
      | some b =>
        match s.tackJudge k len b with
        | .error (6, d) =>
          let s := match d with
            | some (task, why) => if s.pageOn pgCINCH then (s.wr pgCINCH CINCH.LOADERR_TASK task).wr pgCINCH CINCH.LOADERR_REASON why else s
            | none => s
          s.tackReject 6
        | .error (r, _) => s.tackReject r
        | .ok t =>
          let s := { (s.wr pgTACK TACK.STAT_PHASE 2) with tack := { s.tack with pwrdom := t.pwrdom } }
          (s.bootAct pgGIRTH HDR.PCTL fun s => s.requestStop pgGIRTH).tackStops

/-- The pins name a set other than the active one, and PINSEL is set. -/
def tackPinsWant (s : State) : Bool := s.on pgTACK TACK.CFG_PINSEL && s.rd pgTACK TACK.STAT_ACTIVE != s.rd pgTACK TACK.STAT_PINS

/-- The pins are judged (R488). -/
def tackByPins (s : State) : State := if s.tackPinsWant then s.tackRequest (s.rd pgTACK TACK.STAT_PINS) else s

/-- A write of CTL: SWITCH with TSEL (R488). -/
def tackCtl (s : State) (v : Word) : State := if TACK.CTL_SWITCH.get v = 1 then s.tackRequest (TACK.CTL_TSEL.get v) else s

/-- The TACKSEL pins have held a new value for PINDEB ms (R488). -/
def tackPins (s : State) (pins : Nat) : State := (s.wr pgTACK TACK.STAT_PINS pins).tackByPins

end State
end Sys2Proof.Machine
end

