-- ==== Sys2Proof/Machine/Bus.lean ====
section
/-! DEFINITION. The register interface: what a register reads as, what a read does (R5, R33), what a write does (R5, R66, R68, R72), and
the checked accesses of a master (R67, R468, R469). -/
namespace Sys2Proof.Machine
namespace State

/-! ### What a register reads as -/

/-- PSTAT as read: the SF and STO pages show BUCKLE's state. -/
def pstatView (s : State) (p : Nat) : Word := HDR.PSTAT_STATE.put (s.st (statePage p)) (s.reg p HDR.PSTAT)

/-- PCTL as read: RUN of the SF and STO pages is BUCKLE's. -/
def pctlView (s : State) (p : Nat) : Word :=
  if statePage p = p then s.reg p HDR.PCTL else HDR.PCTL_RUN.put (s.rd pgBUCKLE HDR.PCTL_RUN) (s.reg p HDR.PCTL)

/-- The registers of an Awl page computed when read (R230, R232, R273, R275, R276). -/
def awlView (s : State) (n off : Nat) : Option Word :=
  let w := s.awl n
  let b := w.act
  let count (f : QEntry → Bool) : Nat := (List.range 16).foldl (fun x k => if f (b.q1 k) then withBit x k else x) 0
  if off = AWL.EXEC then
    let held := match s.svcAt n (1 - w.bank) with | some v => v.preempted | none => false
    some (BitVec.ofNat 32 (b2n (s.awlBusy n) 31 + b2n w.qwait 30 + b2n held 29 + b2n (w.bank == 1) 28
      + 0x10000 * bitsOf b.ctx.toNat 23 16 + b2n (bitOf b.ctx.toNat 15) 15 + bitsOf b.ctx.toNat 11 0))
  else if off = AWL.PC then some (BitVec.ofNat 32 (b.pc % 0x4000))
  else if off = AWL.QSTAT then
    some (BitVec.ofNat 32 (0x10000 * count (fun e => e.st == .pending) + count (fun e => e.st == .done && e.dest.isSome)))
  else if off = AWL.EXCSTAT then
    some (AWL.EXCSTAT_EXM1.put (b2n w.b1.excm 0) (AWL.EXCSTAT_EXM0.put (b2n w.b0.excm 0) (s.reg (pgAWL n) off)))
  else if off = AWL.DBGSTAT then some (AWL.DBGSTAT_PC.put b.pc (s.reg (pgAWL n) off))
  else if off = AWL.DBGRDATA then some (s.debugRead n)
  else none

/-- The cam tables selected or pending in some generator (CAMUSE). -/
def camUse (s : State) : Nat :=
  s.mapped.foldl (fun w e =>
    let g := s.pg e.1
    let w := if g.mode = .cam then withBit w g.camTab else w
    match g.camNext with | some k => withBit w k | none => w) 0

/-- A window register of a gate without windows: master 92's under the debug lock (R471). -/
def gateView (s : State) (g off : Nat) : Option Word :=
  if s.windowsShut g && decide (0x40 ≤ off) && decide (off < 0x80) then some (regResetAt (pgGATE g) off) else none

/-- The registers of the other pages computed when read. -/
def blockView (s : State) (p off : Nat) : Option Word :=
  let n := pageInst p
  match pageKind p with
  | some .boot => if off = BOOT.STAT then some s.bootView else none
  | some .nport =>
    if off = NPORT.FRMLEN then some (BitVec.ofNat 32 (0x10000 * s.dnLen n + s.upLen n))
    else if off = NPORT.NODEWIN then
      if s.ldValid n then
        let mt := s.markLead n
        some (BitVec.ofNat 32 (0x10000 * (s.rd p NPORT.UPWIN_CLOSE - mt) + (s.rd p NPORT.UPWIN_OPEN - mt)))
      else some 0
    else none
  | some .lat => s.latView off
  | some .cinchb =>
    if off = CINCHB.QDEPTH then
      let svc := (s.cinch.svcs.filter fun v => s.homeOf v.task == n && (v.queued.isSome && v.on.isNone || v.preempted)).length
      some (BitVec.ofNat 32 (0x10000 * svc + (s.waitingTokens n).length))
    else none
  | some .awl => s.awlView n off
  | some .pg => if off = PG.CAMUSE then some (BitVec.ofNat 32 s.camUse) else none
  | some .stitch => if off = STITCH.OUTSTAT then some (STITCH.OUTSTAT_PHASE.put (s.stitchPhase n) (s.reg p off)) else none
  | some .fbch => if off = FBCH.STAT then some (FBCH.STAT_BOUND.put (s.feedBound n) (s.reg p off)) else none
  | some .flddi => if off = FLDDI.VALID then some (BitVec.ofNat 32 s.fieldValid) else none
  | some .msix => if off = 0xC00 then some (s.pendingBits 0) else if off = 0xC04 then some (s.pendingBits 1) else none
  | some .gate => s.gateView n off
  | _ => none

/-- The value a read of a register returns to master `m` (R51, R66): an OFF page shows its PID and STATE 0 alone. -/
def regView (s : State) (m p off : Nat) : Word :=
  if !s.pageOn p then (if off = HDR.PID then s.reg p off else 0)
  else if off = HDR.PCTL then s.pctlView p
  else if off = HDR.PSTAT then s.pstatView p
  else match s.timeView m p off with
    | some w => w
    | none =>
      match s.blockView p off with
      | some w => w
      | none => s.reg p off

/-- A register read by a master: the latches of the time base (R149, R158) and the clearing of RC counters (R33). -/
def regRead (s : State) (m p off : Nat) : Word × State :=
  if !s.pageOn p then (s.regView m p off, s)
  else if p = pgTIME ∧ off = TIME.NOWLO then (lo32 s.t64, s.nowloRead m)
  else if p = pgTIME ∧ off = TIME.OFFLO then (lo32 s.time.offset, s.offloRead m)
  else if p = pgTIME ∧ off = TIME.RREFLO then (lo32 s.time.rref, s.rrefloRead m)
  else if p = pgGIRTH ∧ off = GIRTH.CYCLO then (s.girth.cyc.truncate 32, s.cycloRead m)
  else if p = pgTPIN ∧ off % 0x20 = 0x08 ∧ 0x40 ≤ off ∧ off < 0x140 then (s.reg p off, s.tgtloRead m ((off - 0x40) / 0x20))
  else
    let v := s.regView m p off
    let rc := accMask p off .rc
    (v, if v &&& rc = 0#32 then s else s.setReg p off (s.reg p off &&& ~~~rc))

/-! ### Writes -/

/-- R72: a write outside STOPPED that would have changed an RWS field. -/
def rwsRejected (s : State) (m p off : Nat) : State := (s.cfgRej p).fault p (blockCode p 0xF2) (0x10000 * (m % 128) + off % 0x1000)

/-- A write with no rule but those of its fields' access codes (R5, R72), and of the masters R433 lets write a safety page. -/
def fieldWrite (s : State) (m p off : Nat) (v : Word) : State :=
  let cur := s.reg p off
  let rws := accMask p off .rws
  let stopped := s.st (statePage p) == 1
  let barred := safetyPage p && m != mHost && m != mBoot
  let take := if stopped && !barred then accMask p off .rw ||| rws else accMask p off .rw
  let w1c := accMask p off .w1c
  let s := s.setReg p off ((cur &&& ~~~take &&& ~~~(v &&& w1c)) ||| (v &&& take))
  let s := if barred && rws != 0#32 then s.cfgRej p else s
  if !stopped && ((cur ^^^ v) &&& rws) != 0#32 then s.rwsRejected m p off else s

/-- A write of PCTL (R70, R72): MODE first, then RUN. -/
def pctlWrite (s : State) (m p : Nat) (v : Word) : State :=
  let cur := s.reg p HDR.PCTL
  let stopped := s.st (statePage p) == 1
  let differs := HDR.PCTL_MODE.get v ≠ HDR.PCTL_MODE.get cur
  let s := if !differs then s else if safetyPage p && m != mHost && m != mBoot then s.cfgRej p else if stopped then s.wr p HDR.PCTL_MODE (HDR.PCTL_MODE.get v) else s.rwsRejected m p HDR.PCTL
  if HDR.PCTL_RUN.get v = 1 then s.tryStart p else (s.requestStop p).tackStops

/-- A write of a header register other than PCTL (R68, R75, R76). -/
def headerWrite (s : State) (m p off : Nat) (v : Word) : State :=
  if off = HDR.EVTEN then (s.setReg p off v).msixPage p
  else if off = HDR.EVTSET then (s.setReg p HDR.EVT (s.reg p HDR.EVT ||| v)).msixPage p
  else if off = HDR.ECAP0 then
    let e := s.reg p off &&& ~~~v
    if e = 0#32 then (s.setReg p off 0).setReg p HDR.ECAP1 0 else s.setReg p off e
  else s.fieldWrite m p off v

/-- R154: targets and periods of an armed pin do not change. -/
def pinHeld (s : State) (k : Nat) : Bool := s.on pgTPIN (TPIN.CTL_ARM k)

/-- A write of a register of TPIN. -/
def tpinWrite (s : State) (m off : Nat) (v : Word) : State :=
  let k := (off - 0x40) / 0x20
  let r := off % 0x20
  if off < 0x40 ∨ 0x140 ≤ off then s
  else if r = 0x04 then
    let periodic := TPIN.CTL_PERIODIC k |>.get v
    let width := TPIN.CTL_WIDTH k |>.get v
    if (TPIN.CTL_ARM k).get v = 1 then s.pinArm k (periodic == 1) width else s.pinDisarm k (periodic == 1) width
  else if (r = 0x08 ∨ r = 0x0C ∨ r = 0x10 ∨ r = 0x14) ∧ s.pinHeld k then s.cfgRej pgTPIN
  else s.fieldWrite m pgTPIN off v

/-- R274: the debug registers take a write of this master now. -/
def debugOpen (s : State) (m : Nat) : Bool := (m == mHost || m == mDebug) && !s.debugLock

/-- A write of DBGCTL (R271, R272, R276): a step if STEP is 1, else HALT halts or resumes. -/
def dbgctlWrite (s : State) (n : Nat) (v : Word) : State :=
  let p := pgAWL n
  let s := (s.wr p AWL.DBGCTL_EXCHALT (AWL.DBGCTL_EXCHALT.get v)).wr p AWL.DBGCTL_BKEN (AWL.DBGCTL_BKEN.get v)
  let s := s.wr p AWL.DBGCTL_HALT (AWL.DBGCTL_HALT.get v)
  if AWL.DBGCTL_STEP.get v = 1 && s.halted n then s.debugStep n
  else if AWL.DBGCTL_HALT.get v = 1 then (if s.running p && !s.halted n then s.halt n 1 else s)
  else s.unhalt n

/-- A write of a register of an Awl page. -/
def awlWrite (s : State) (m n off : Nat) (v : Word) : State :=
  let p := pgAWL n
  if off = AWL.DBGCTL ∨ off = AWL.BP0 ∨ off = AWL.BP1 ∨ off = AWL.DBGRSEL ∨ off = AWL.DBGRDATA then
    if !s.debugOpen m then s.cfgRej p
    else if off = AWL.DBGCTL then s.dbgctlWrite n v
    else if off = AWL.DBGRDATA then s.debugWrite n v
    else s.fieldWrite m p off v
  else if off = AWL.QERR then (if AWL.QERR_VALID.get v = 1 then (s.setReg p off 0).setReg p AWL.QERRADDR 0 else s)
  else s.fieldWrite m p off v

/-- STATCLR of a CINCHB page (R195). -/
def cinchbStatclr (s : State) (b : Nat) : State :=
  let p := pgCINCHB b
  let s := (s.wr p CINCHB.WAITMIN_NS 0xFFFF).wr p CINCHB.WAITMAX_NS 0
  let s := s.forEach (List.range 8) fun s e => s.wr p (CINCHB.BUSYMAX_NS e) 0
  s.forEach (List.range 32) fun s k => s.wr p (CINCHB.COMPMAX_TICK k) 0

/-- A write of BUDGETe (R176, R197). -/
def budgetWrite (s : State) (b e : Nat) (v : Word) : State :=
  if 1000000 < v.toNat then s.cfgRej (pgCINCHB b) else s.wr (pgCINCHB b) (CINCHB.BUDGET_NS e) v.toNat

/-- A write of a register of a CINCHB page. -/
def cinchbWrite (s : State) (m b off : Nat) (v : Word) : State :=
  if off = CINCHB.CMDTAIL then s.cmdtailWrite b (CINCHB.CMDTAIL_INDEX.get v)
  else if off = CINCHB.STATCLR then (if CINCHB.STATCLR_CLR.get v = 1 then s.cinchbStatclr b else s)
  else if 0x80 ≤ off ∧ off < 0xA0 then s.budgetWrite b ((off - 0x80) / 4) v
  else s.fieldWrite m (pgCINCHB b) off v

/-- A write of a register of a Stamp page. -/
def stampWrite (s : State) (m n off : Nat) (v : Word) : State :=
  if off = STAMP.CTL ∨ off = STAMP.RELEASE ∨ off = STAMP.QUOTA then s.stampCommand n off v
  else s.fieldWrite m (pgSTAMP n) off v

/-- A write of FLDDO.OUT: without effect on the bits of outputs that Buckle claims (R445). -/
def outWrite (s : State) (m : Nat) (v : Word) : State :=
  let held := BitVec.ofNat 32 ((List.range 16).foldl (fun w x => w + b2n (s.buckleOut x) x) 0)
  s.fieldWrite m pgFLDDO FLDDO.OUT ((v &&& ~~~held) ||| (s.reg pgFLDDO FLDDO.OUT &&& held))

/-- A write of a register of a Stitch page. -/
def stitchWrite (s : State) (m n off : Nat) (v : Word) : State :=
  if off = STITCH.PERIOD then s.periodWrite n v
  else if STITCH.LEGA ≤ off ∧ off < STITCH.LEGA + 12 then s.compareWrite n ((off - STITCH.LEGA) / 4) v
  else if off = STITCH.LEGOFF then s.legoffWrite n v
  else if off = STITCH.TRIPCFG then (s.fieldWrite m (pgSTITCH n) off v).tripEval n
  else if (List.range 4).any fun k => off == STITCH.XCMP k then s.xcmpWrite n ((off - STITCH.XCMP 0) / (STITCH.XCMP 1 - STITCH.XCMP 0)) v
  else if off = STITCH.TRIPSTAT then
    let s := s.setReg (pgSTITCH n) off (s.reg (pgSTITCH n) off &&& ~~~(v &&& STITCH.TRIPSTAT_TRIPACT.mask))
    if STITCH.TRIPSTAT_LATCH.get v = 1 then s.tripClear n else s
  else s.fieldWrite m (pgSTITCH n) off v

/-- A write of a register of a gate page (R470, R471, R477). -/
def gateWrite (s : State) (m g off : Nat) (v : Word) : State :=
  if 0x40 ≤ off ∧ off < 0x80 then s.windowWrite g m off v
  else if off = GATE.STAT then
    let s := if GATE.STAT_VALID.get v = 1 then s.wr (pgGATE g) GATE.STAT_VALID 0 else s
    if GATE.STAT_FROZEN.get v = 1 then s.gateRelease g else s
  else s.fieldWrite m (pgGATE g) off v

/-- A write of a register of the MSIX page (R460, R461, R474). -/
def msixWrite (s : State) (m off : Nat) (v : Word) : State :=
  if off = MSIX.REARM0 then s.rearmWrite 0 v.toNat
  else if off = MSIX.REARM1 then s.rearmWrite 1 v.toNat
  else (s.fieldWrite m pgMSIX off v).msixScan

/-- A write to a block-specific register of a page that is on. -/
def blockWrite (s : State) (m p off : Nat) (v : Word) : State :=
  let n := pageInst p
  let plain := s.fieldWrite m p off v
  match pageKind p with
  | some .pwr => if off = PWR.TARGET then (s.targetWrite v.toNat).2 else plain
  | some .boot =>
    if off = BOOT.OTPCTL then s.otpWrite m v
    else if off = BOOT.HLBASE then s.hlbaseWrite v
    else if off = BOOT.HLCTL then (if BOOT.HLCTL_GO.get v = 1 then s.hostLoadGo else s)
    else plain
  | some .tack =>
    if off = TACK.CTL then s.tackCtl v
    else if 0x60 ≤ off ∧ off < 0x80 ∧ s.otpFlag 2 ∧ m ≠ mBoot then s
    else plain
  | some .ecc => if off = ECC.INJCTL then s.injectWrite v else if off = ECC.INJADDR then s.injaddrWrite v else plain
  | some .time =>
    if off = TIME.RATE then s.rateWrite m v
    else if off = TIME.OFFLO then s.offloWrite m v
    else if off = TIME.OFFHI then s.offhiWrite m v
    else if off = TIME.STEPLO then s.steploWrite m v
    else if off = TIME.STEPHI then s.stephiWrite m v
    else plain
  | some .tpin => s.tpinWrite m off v
  | some .girth => if off = GIRTH.CYCLE ∧ m ≠ mBoot then s.cfgRej p else plain
  | some .nport => if off = NPORT.SCHSTAT then (if NPORT.SCHSTAT_BLOCKED.get v = 1 then s.blockedWrite n m else s) else plain
  | some .lat =>
    if off = LAT.CTL then
      let s := if LAT.CTL_HANDOVER.get v = 1 then s.handoverWrite else s
      if LAT.CTL_SOLO.get v = 1 then s.soloWrite else s
    else if off = LAT.TRATE then s.trateWrite v
    else plain
  | some .cinch => if off = CINCH.SVCTRIG then s.svcTrigger (CINCH.SVCTRIG_TASK.get v) else plain
  | some .cinchb => s.cinchbWrite m n off v
  | some .awl => s.awlWrite m n off v
  | some .bench =>
    if off = BENCH.STATCLR then (if BENCH.STATCLR_CLR.get v = 1 then s.wr p BENCH.QLATMAX_NS 0 else s) else plain
  | some .stitch => s.stitchWrite m n off v
  | some .axch => if off = AXCH.OUTVAL then s.outvalWrite n v else plain.anaIdle n
  | some .stamp => s.stampWrite m n off v
  | some .sto =>
    if off = STO.OUTSTAT then
      { s with buckle := { s.buckle with oclr := s.buckle.oclr ||| (STO.OUTSTAT_OFLT.get v &&& s.rd p STO.OUTSTAT_OFLT) } }
    else plain
  | some .flddo =>
    if off = FLDDO.SAFEACT then s.safeactWrite m (FLDDO.SAFEACT_SAFE.get v) else if off = FLDDO.OUT then s.outWrite m v else plain
  | some .dma => if off = DMA.TAIL then s.tailWrite n (DMA.TAIL_INDEX.get v) else plain
  | some .msix => s.msixWrite m off v
  | some .gate => s.gateWrite m n off v
  | _ => plain

/-- CALCTL of a shell: START, beside its RWS fields. -/
def shellWrite (s : State) (m p off : Nat) (v : Word) : State :=
  let k := (off - 0x100) / 0x80
  let s := s.fieldWrite m p off v
  if off % 0x80 = 0 ∧ bitOf v.toNat 0 then s.calStart p k else s

/-- A write of a register by a master (R66, R68, R72): without effect on an OFF page and at an offset no chapter defines. -/
def regWrite (s : State) (m p off : Nat) (v : Word) : State :=
  if !s.pageOn p || (regFields p off).isEmpty then s
  else if p = pgDBG ∧ s.debugLock then s
  else if off = HDR.PCTL then s.pctlWrite m p v
  else if off < 0x40 then s.headerWrite m p off v
  else if 0x100 ≤ off ∧ off < 0x100 + 0x80 * pageShells p then s.shellWrite m p off v
  else s.blockWrite m p off v

/-! ### Accesses through the gate (R468, R469) -/

/-- The reaction to a violation of master `m`: the record, and what R469 adds for the kind of master. -/
def violate (s : State) (m a acc kind : Nat) : State :=
  if m = mHost then s.hostRefuse a acc kind
  else
    let s := { s.gateRecord m a acc kind with reply := .abort }
    if m < 64 then s.awlFreeze m
    else if 73 ≤ m ∧ m < 89 then s.stampFreeze (m - 73)
    else s

/-- The register page and offset of a fabric address. -/
def regPage (a : Nat) : Nat := a / 0x1000 % 0x1000
def regOff (a : Nat) : Nat := a % 0x1000

/-- The address lies in the register space. -/
def isReg (a : Nat) : Bool := decide (0x04000000 ≤ a) && decide (a < 0x05000000)

/-- A read of `n` bytes by a master whose gate permits it: the bytes, none on uncorrectable data. -/
def fabRead (s : State) (m a n : Nat) : Option (List Byte) × State :=
  if isReg a then
    let (v, s) := s.regRead m (regPage a) (regOff a)
    (some (leBytes 4 v.toNat), s)
  else s.readMem m a n

/-- A write by a master whose gate permits it: false on an error response. -/
def fabStore (s : State) (m a : Nat) (bs : List Byte) : Bool × State :=
  if isReg a then (true, s.regWrite m (regPage a) (regOff a) (BitVec.ofNat 32 (leToNat bs)))
  else s.fabWrite m a bs

/-- An access of the host arrives: PD_HOST is on and the function is in D0 (R458). -/
def hostOpen (s : State) : Bool := s.pageOn pgHOST && !s.on pgHOST HOST.LINKSTAT_D3

/-- The masters whose accesses come as commands: the Awls, the host and the debug port. -/
def commandMaster (s : State) (m : Nat) : Bool := decide (m < 64) || (m == mHost && s.hostOpen) || m == mDebug

/-- The parts of a host TLP to BAR0, one for each DW it touches, in ascending order (R458): each with its place and length. -/
def dwParts (a n : Nat) : List (Nat × Nat) :=
  (List.range ((a + n + 3) / 4 - a / 4)).map fun i => let lo := max a ((a / 4 + i) * 4); (lo, min (a + n) ((a / 4 + i + 1) * 4) - lo)

/-- One read access by a master: the reply holds what it returned. -/
def busGet (s : State) (m a n : Nat) : State :=
  match s.gateKind m a n false with
  | some k => s.violate m a 0 k
  | none =>
    let (b, s) := s.fabRead m a n
    { s with reply := match b with | some b => .data b | none => .abort }

/-- A read TLP of the host to BAR0: an access for each DW; one that is aborted aborts the read (R458). -/
def dwRead (s : State) (a n : Nat) : State :=
  (dwParts a n).foldl (fun s e =>
    let old := s.reply
    let s := s.busGet mHost e.1 e.2
    { s with reply := match old, s.reply with | .data x, .data y => .data (x ++ y) | _, _ => .abort }) { s with reply := .data [] }

/-- A read by a master as a command; the host's reads of registers come DW by DW (R458). -/
def busRead (s : State) (m a n : Nat) : State :=
  if !s.commandMaster m || n == 0 then s
  else if m = mHost && isReg a && n != 4 then s.dwRead a n
  else s.busGet m a n

/-- Store, with the error response of a write that was not performed (R37, R40). -/
def storeReply (s : State) (m a : Nat) (bs : List Byte) : State :=
  let (ok, s) := s.fabStore m a bs
  if ok then s else { s with reply := .abort }

/-- One write access by a master. -/
def busPut (s : State) (m a : Nat) (bs : List Byte) : State :=
  match s.gateKind m a bs.length true with
  | some k => s.violate m a (accKind a bs.length true) k
  | none => s.storeReply m a bs

/-- A write by a master as a command; the host's writes of registers come DW by DW, in ascending order (R458). -/
def busWrite (s : State) (m a : Nat) (bs : List Byte) : State :=
  if !s.commandMaster m || bs.isEmpty then s
  else if m = mHost && isReg a && bs.length != 4 then
    s.forEach (dwParts a bs.length) fun s e => s.busPut mHost e.1 (slice bs (e.1 - a) e.2)
  else s.busPut m a bs

/-- A 32-bit write of a register by a master, through its gate. -/
def cmdWrite (s : State) (m p off : Nat) (v : Word) : State := s.busWrite m (regAddr p off) (leBytes 4 v.toNat)

/-- A 32-bit read of a register by a master, through its gate. -/
def cmdRead (s : State) (m p off : Nat) : State := s.busRead m (regAddr p off) 4

end State
end Sys2Proof.Machine
end

