-- ==== Sys2Proof/Machine/Queue.lean ====
section
/-! DEFINITION. The completion of Bench-queue accesses (R215, R217, R249, R537) and the host's accesses through BAR2 (R458). -/
namespace Sys2Proof.Machine

/-- How an access of a queue entry has gone so far: the data read, the first error (place and QERR.KIND), the violation that ended
it (place and VINFO.KIND). -/
structure QRun where
  data : List Byte := []
  err : Option (Nat × Nat) := none
  viol : Option (Nat × Nat) := none
deriving DecidableEq, Repr

namespace State

/-- The accesses of an entry: each 8-byte word of a block is one (R249). -/
def qParts (it : QItem) : List (Nat × Nat) :=
  if it.block then (List.range (it.n / 8)).map fun i => (8 * i, 8) else [(0, it.n)]

/-- The error a store to `a` meets (R217): 2 where the local memory of a running Awl refuses it, else 1. -/
def storeError (s : State) (a : Nat) : Nat := if (s.localShut a).isSome then 2 else 1

/-- One access of an entry.  The windows were judged when it was posted; a region whose domain has gone off since is a violation
(R36). -/
def qPart (n : Nat) (it : QItem) (r : QRun × State) (part : Nat × Nat) : QRun × State :=
  let (run, s) := r
  let a := it.addr + part.1
  if run.viol.isSome then r
  else
    let kind := (s.gateKind n a part.2 it.data.isSome).filter fun k => decide (3 ≤ k)
    match kind, it.data with
    | some k, _ => ({ run with viol := some (a, k) }, s)
    | none, none =>
      match s.fabRead n a part.2 with
      | (some bs, s) => ({ run with data := run.data ++ bs }, s)
      | (none, s) => ({ run with data := run.data ++ List.replicate part.2 0, err := run.err.or (some (a, 1)) }, s)
    | none, some d =>
      let e := s.storeError a
      match s.fabStore n a ((d.drop part.1).take part.2) with
      | (true, s) => (run, s)
      | (false, s) => ({ run with err := run.err.or (some (a, e)) }, s)

/-- QUEUE_ERROR (R217, R232): QERR and QERRADDR record the first error; EVT[0] and fault 0x4001 report each. -/
def queueError (s : State) (n : Nat) (it : QItem) (a kind : Nat) : State :=
  let p := pgAWL n
  let w := AWL.QERR_VALID.put 1 (AWL.QERR_KIND.put kind (AWL.QERR_ENTRY.put it.q (AWL.QERR_BANK.put it.bank (AWL.QERR_TASK.put it.task 0))))
  let s := if s.on p AWL.QERR_VALID then s else (s.setReg p AWL.QERR w).setReg p AWL.QERRADDR (BitVec.ofNat 32 a)
  (s.evt p 0).fault p 0x4001 w.toNat

/-- The statistics of a completion (R234), kept while the BENCH page runs. -/
def queueStats (s : State) (n : Nat) (it : QItem) : State :=
  let p := pgBENCH (n / 8)
  if !s.running p then s
  else
    let ns := min (s.nsSince it.posted) 0xFFFF
    let s := s.wr p BENCH.QLATLAST_NS ns
    let s := s.wr p BENCH.QLATMAX_NS (max ns (s.rd p BENCH.QLATMAX_NS))
    s.bumpE p BENCH.ENTRIES 0

/-- The entry of an instance that still runs becomes DONE with its data, or FREE (R213, R214); an error waits in it (R537). -/
def entryDone (s : State) (n : Nat) (it : QItem) (run : QRun) : State :=
  if it.orphan then s
  else
    s.modAwl n fun w =>
      let b := w.get it.bank
      let e := b.q1 it.q
      let bad := run.err.isSome
      w.put it.bank (b.putQ it.q (match it.data with
        | none => { e with st := .done, data := run.data, ok := !bad, err := bad }
        | some _ => { err := bad }))

/-- QUEUE_ENTRY_COMPLETE (R215): the oldest access of the Awl is performed at its target. -/
def queueComplete (s : State) (n : Nat) : State :=
  match (s.awl n).fifo with
  | [] => s
  | it :: rest =>
    let s := s.modAwl n fun w => { w with fifo := rest }
    let (run, s) := (qParts it).foldl (qPart n it) ({}, s)
    match run.viol with
    | some (a, k) =>
      let s := s.modAwl n fun w => { w with fifo := [] }
      (s.gateRecord n a (accKind a (if it.block then 8 else it.n) it.data.isSome) k).awlFreeze n
    | none =>
      let s := (s.queueStats n it).entryDone n it run
      match run.err with
      | some (a, kind) => s.queueError n it a kind
      | none => s

/-! ### BAR2 (R458) -/

/-- The bytes of word `w` a write with byte enables at `a` stores: none where a byte is not enabled. -/
def enabledIn (a : Nat) (bs : List (Option Byte)) (w : Nat) : List (Option Byte) :=
  (List.range 8).map fun i => if a ≤ w + i then bs.getD (w + i - a) none else none

/-- The first and the last enabled byte of a write. -/
def enabledSpan (bs : List (Option Byte)) : Option (Nat × Nat) :=
  match (List.range bs.length).filter fun i => (bs.getD i none).isSome with
  | [] => none
  | i :: l => some (i, (i :: l).getLast (List.cons_ne_nil i l))

/-- The enabled bytes of one word are stored in one access: a whole word as it is, a part by one indivisible read–modify–write (R40). -/
def enabledWord (s : State) (m w : Nat) (bs : List (Option Byte)) : Bool × State :=
  if bs.all (·.isNone) then (true, s)
  else match s.localShut w with
    | some n => (false, s.cfgRej (pgAWL n))
    | none =>
      let r := if bs.all (·.isSome) then (true, s.setFlip w 0) else s.eccRead m w
      if !r.1 then (false, r.2)
      else
        let new := bs.zipIdx.map fun e => match e.1 with | some b => r.2.storedByte (w + e.2) b | none => r.2.byte (w + e.2)
        (true, (r.2.setBytes w new).injectAt m w)

/-- A write TLP with byte enables: one gate check from its first to its last enabled byte, then its words in ascending order (R458). -/
def bar2Write (s : State) (a : Nat) (bs : List (Option Byte)) : State :=
  match enabledSpan bs with
  | none => s
  | some (i, j) =>
    if !s.hostOpen then s
    else match s.gateKind mHost (a + i) (j + 1 - i) true with
      | some k => s.violate mHost (a + i) (accKind (a + i) (j + 1 - i) true) k
      | none =>
        let r := (wordsOf a bs.length).foldl (fun (r : Bool × State) w => let q := r.2.enabledWord mHost w (enabledIn a bs w); (r.1 && q.1, q.2))
          (true, s.noteAccess mHost (a + i))
        if r.1 then r.2 else { r.2 with reply := .abort }

/-- HOST_BAR2_ACCESS: a read of `n` bytes, or a write.  BAR2 ends at fabric address 0x03FF_FFFF (R35, R457): what lies beyond is no
access to it. -/
def bar2Access (s : State) (a n : Nat) (write : Option (List (Option Byte))) : State :=
  if 0x04000000 < a + (match write with | none => n | some bs => bs.length) then s
  else match write with
  | none => s.busRead mHost a n
  | some bs => s.bar2Write a bs

/-! ### Debug -/

/-- HARDWARE_BREAKPOINT: an Awl about to issue at an armed breakpoint halts (R271, R277). -/
def breakpoint (s : State) (n : Nat) : State :=
  if s.issues n then (match s.breakHit n with | some r => s.halt n r | none => s) else s

/-- DBGRDATA_ACCESS: a write of the value, or a read (R273). -/
def dbgAccess (s : State) (m n : Nat) (write : Option Word) : State :=
  match write with
  | some v => s.cmdWrite m (pgAWL n) AWL.DBGRDATA v
  | none => s.cmdRead m (pgAWL n) AWL.DBGRDATA

/-- DEBUG_PORT_ACCESS: an access of master 92, a read of `n` bytes or a write (R471, R473). -/
def debugPort (s : State) (a n : Nat) (write : Option (List Byte)) : State :=
  match write with
  | some bs => s.busWrite mDebug a bs
  | none => s.busRead mDebug a n

end State
end Sys2Proof.Machine
end

