-- ==== Sys2Proof/Machine/RunAwl.lean ====
section
/-! DEFINITION. What each command does: Awl instructions. -/
namespace Sys2Proof.Machine

/-- NOP (R251): SYS NOP does nothing. -/
def execNop (awl : Fin 64) (s : State) : Out := .next (s.live (s.issue awl.val .nop))

/-- NOP_MOVES (R240): P-format NOP performs only its parallel moves. -/
def execNopMoves (awl : Fin 64) (mv : Moves) (s : State) : Out := .next (s.live (s.issue awl.val (.nopMoves mv)))

/-- MOV (R240): Register move into a D register. -/
def execMov (awl : Fin 64) (d : Fin 16) (s1 : Fin 16) (mv : Moves) (s : State) : Out :=
  .next (s.live (s.issue awl.val (.una .mov d s1 mv)))

/-- ADD (R240): Saturating 32-bit add. -/
def execAdd (awl : Fin 64) (d : Fin 16) (s1 : Fin 16) (s2 : Src2) (mv : Moves) (s : State) : Out :=
  .next (s.live (s.issue awl.val (.bin .add d s1 s2 mv)))

/-- SUB (R240): Saturating 32-bit subtract. -/
def execSub (awl : Fin 64) (d : Fin 16) (s1 : Fin 16) (s2 : Src2) (mv : Moves) (s : State) : Out :=
  .next (s.live (s.issue awl.val (.bin .sub d s1 s2 mv)))

/-- ADDW (R221): Wrapping 32-bit add. -/
def execAddw (awl : Fin 64) (d : Fin 16) (s1 : Fin 16) (s2 : Src2) (mv : Moves) (s : State) : Out :=
  .next (s.live (s.issue awl.val (.bin .addw d s1 s2 mv)))

/-- SUBW (R221): Wrapping 32-bit subtract. -/
def execSubw (awl : Fin 64) (d : Fin 16) (s1 : Fin 16) (s2 : Src2) (mv : Moves) (s : State) : Out :=
  .next (s.live (s.issue awl.val (.bin .subw d s1 s2 mv)))

/-- NEG (R240): Saturating negate. -/
def execNeg (awl : Fin 64) (d : Fin 16) (s1 : Fin 16) (mv : Moves) (s : State) : Out :=
  .next (s.live (s.issue awl.val (.una .neg d s1 mv)))

/-- ABS (R240): Saturating absolute value. -/
def execAbs (awl : Fin 64) (d : Fin 16) (s1 : Fin 16) (mv : Moves) (s : State) : Out :=
  .next (s.live (s.issue awl.val (.una .abs d s1 mv)))

/-- AND (R240): Bitwise AND. -/
def execAnd (awl : Fin 64) (d : Fin 16) (s1 : Fin 16) (s2 : Src2) (mv : Moves) (s : State) : Out :=
  .next (s.live (s.issue awl.val (.bin .and d s1 s2 mv)))

/-- OR (R240): Bitwise OR. -/
def execOr (awl : Fin 64) (d : Fin 16) (s1 : Fin 16) (s2 : Src2) (mv : Moves) (s : State) : Out :=
  .next (s.live (s.issue awl.val (.bin .or d s1 s2 mv)))

/-- XOR (R240): Bitwise XOR. -/
def execXor (awl : Fin 64) (d : Fin 16) (s1 : Fin 16) (s2 : Src2) (mv : Moves) (s : State) : Out :=
  .next (s.live (s.issue awl.val (.bin .xor d s1 s2 mv)))

/-- NOT (R240): Bitwise NOT. -/
def execNot (awl : Fin 64) (d : Fin 16) (s1 : Fin 16) (mv : Moves) (s : State) : Out :=
  .next (s.live (s.issue awl.val (.una .not d s1 mv)))

/-- MIN (R240): Signed minimum. -/
def execMin (awl : Fin 64) (d : Fin 16) (s1 : Fin 16) (s2 : Src2) (mv : Moves) (s : State) : Out :=
  .next (s.live (s.issue awl.val (.bin .min d s1 s2 mv)))

/-- MAX (R240): Signed maximum. -/
def execMax (awl : Fin 64) (d : Fin 16) (s1 : Fin 16) (s2 : Src2) (mv : Moves) (s : State) : Out :=
  .next (s.live (s.issue awl.val (.bin .max d s1 s2 mv)))

/-- CLIP (R222): Clip a register between two bounds. -/
def execClip (awl : Fin 64) (d : Fin 16) (s1 : Fin 16) (s2 : Src2) (mv : Moves) (s : State) : Out :=
  .next (s.live (s.issue awl.val (.bin .clip d s1 s2 mv)))

/-- ASL (R241): Saturating arithmetic shift left by register count. -/
def execAsl (awl : Fin 64) (d : Fin 16) (s1 : Fin 16) (s2 : Src2) (mv : Moves) (s : State) : Out :=
  .next (s.live (s.issue awl.val (.bin .asl d s1 s2 mv)))

/-- ASR (R241): Arithmetic shift right by register count. -/
def execAsr (awl : Fin 64) (d : Fin 16) (s1 : Fin 16) (s2 : Src2) (mv : Moves) (s : State) : Out :=
  .next (s.live (s.issue awl.val (.bin .asr d s1 s2 mv)))

/-- LSR (R241): Logical shift right by register count. -/
def execLsr (awl : Fin 64) (d : Fin 16) (s1 : Fin 16) (s2 : Src2) (mv : Moves) (s : State) : Out :=
  .next (s.live (s.issue awl.val (.bin .lsr d s1 s2 mv)))

/-- NORM (R222): Count redundant sign bits of a D register. -/
def execNorm (awl : Fin 64) (d : Fin 16) (s1 : Fin 16) (mv : Moves) (s : State) : Out :=
  .next (s.live (s.issue awl.val (.una .norm d s1 mv)))

/-- RCPS (R242): Reciprocal seed. -/
def execRcps (awl : Fin 64) (d : Fin 16) (s1 : Fin 16) (mv : Moves) (s : State) : Out :=
  .next (s.live (s.issue awl.val (.una .rcps d s1 mv)))

/-- RSQS (R242): Reciprocal square root seed. -/
def execRsqs (awl : Fin 64) (d : Fin 16) (s1 : Fin 16) (mv : Moves) (s : State) : Out :=
  .next (s.live (s.issue awl.val (.una .rsqs d s1 mv)))

/-- SCS (R229): Packed cosine and sine of an angle from the table. -/
def execScs (awl : Fin 64) (d : Fin 16) (s1 : Fin 16) (mv : Moves) (s : State) : Out :=
  .next (s.live (s.issue awl.val (.una .scs d s1 mv)))

/-- CADD (R243): Packed complex saturating add. -/
def execCadd (awl : Fin 64) (d : Fin 16) (s1 : Fin 16) (s2 : Src2) (mv : Moves) (s : State) : Out :=
  .next (s.live (s.issue awl.val (.bin .cadd d s1 s2 mv)))

/-- CSUB (R243): Packed complex saturating subtract. -/
def execCsub (awl : Fin 64) (d : Fin 16) (s1 : Fin 16) (s2 : Src2) (mv : Moves) (s : State) : Out :=
  .next (s.live (s.issue awl.val (.bin .csub d s1 s2 mv)))

/-- CMP (R240): Set flags from the exact 32-bit difference. -/
def execCmp (awl : Fin 64) (s1 : Fin 16) (s2 : Src2) (mv : Moves) (s : State) : Out := .next (s.live (s.issue awl.val (.cmp s1 s2 mv)))

/-- TST (R240): Set flags from the AND of two operands. -/
def execTst (awl : Fin 64) (s1 : Fin 16) (s2 : Src2) (mv : Moves) (s : State) : Out := .next (s.live (s.issue awl.val (.tst s1 s2 mv)))

/-- MPY (R223): Multiply into an accumulator, register or coefficient operand. -/
def execMpy (awl : Fin 64) (a : Fin 4) (s1 : Fin 16) (s2 : MulSrc) (mv : Moves) (s : State) : Out :=
  .next (s.live (s.issue awl.val (.mul .mpy a s1 s2 mv)))

/-- MAC (R223): Multiply-accumulate with guard clamp. -/
def execMac (awl : Fin 64) (a : Fin 4) (s1 : Fin 16) (s2 : MulSrc) (mv : Moves) (s : State) : Out :=
  .next (s.live (s.issue awl.val (.mul .mac a s1 s2 mv)))

/-- MSU (R223): Multiply-subtract with guard clamp. -/
def execMsu (awl : Fin 64) (a : Fin 4) (s1 : Fin 16) (s2 : MulSrc) (mv : Moves) (s : State) : Out :=
  .next (s.live (s.issue awl.val (.mul .msu a s1 s2 mv)))

/-- CMPY (R226): Complex multiply into an accumulator pair. -/
def execCmpy (awl : Fin 64) (a : Fin 2) (s1 : Fin 16) (s2 : MulSrc) (mv : Moves) (s : State) : Out :=
  .next (s.live (s.issue awl.val (.cmul .cmpy a s1 s2 mv)))

/-- CMAC (R226): Complex multiply-accumulate. -/
def execCmac (awl : Fin 64) (a : Fin 2) (s1 : Fin 16) (s2 : MulSrc) (mv : Moves) (s : State) : Out :=
  .next (s.live (s.issue awl.val (.cmul .cmac a s1 s2 mv)))

/-- CMACJ (R226): Complex multiply-accumulate with the conjugate. -/
def execCmacj (awl : Fin 64) (a : Fin 2) (s1 : Fin 16) (s2 : MulSrc) (mv : Moves) (s : State) : Out :=
  .next (s.live (s.issue awl.val (.cmul .cmacj a s1 s2 mv)))

/-- CLR (R240): Clear an accumulator. -/
def execClr (awl : Fin 64) (a : Fin 4) (mv : Moves) (s : State) : Out := .next (s.live (s.issue awl.val (.clr a mv)))

/-- MOV_E_LOAD (R240): Load an accumulator from a D register pair. -/
def execMovELoad (awl : Fin 64) (a : Fin 4) (s1 : Fin 16) (s2 : Src2) (mv : Moves) (s : State) : Out :=
  .next (s.live (s.issue awl.val (.movE a s1 s2 mv)))

/-- MOV_CONV (R224): Shift, round and saturate an accumulator into a D register or pair. -/
def execMovConv (awl : Fin 64) (dst : DReg) (a : Fin 4) (k : Fin 64) (form : Option Moves) (s : State) : Out :=
  .next (s.live (s.issue awl.val (.conv dst a k form)))

/-- MOV_CCONV (R228): Convert an accumulator pair into packed complex Q1.15. -/
def execMovCconv (awl : Fin 64) (d : Fin 16) (a : Fin 2) (k : Fin 64) (form : Option Moves) (s : State) : Out :=
  .next (s.live (s.issue awl.val (.cconv d a k form)))

/-- ADDI (R246): Saturating add immediate. -/
def execAddi (awl : Fin 64) (d : Fin 16) (s1 : Fin 16) (v : Imm) (s : State) : Out := .next (s.live (s.issue awl.val (.binI .add d s1 v)))

/-- ADDWI (R246): Wrapping add immediate. -/
def execAddwi (awl : Fin 64) (d : Fin 16) (s1 : Fin 16) (v : Imm) (s : State) : Out :=
  .next (s.live (s.issue awl.val (.binI .addw d s1 v)))

/-- ANDI (R246): AND immediate. -/
def execAndi (awl : Fin 64) (d : Fin 16) (s1 : Fin 16) (v : Imm) (s : State) : Out := .next (s.live (s.issue awl.val (.binI .and d s1 v)))

/-- ORI (R246): OR immediate. -/
def execOri (awl : Fin 64) (d : Fin 16) (s1 : Fin 16) (v : Imm) (s : State) : Out := .next (s.live (s.issue awl.val (.binI .or d s1 v)))

/-- XORI (R246): XOR immediate. -/
def execXori (awl : Fin 64) (d : Fin 16) (s1 : Fin 16) (v : Imm) (s : State) : Out := .next (s.live (s.issue awl.val (.binI .xor d s1 v)))

/-- LDI (R246): Load immediate. -/
def execLdi (awl : Fin 64) (d : Fin 16) (v : Imm) (s : State) : Out := .next (s.live (s.issue awl.val (.ldi d v)))

/-- CMPI (R246): Compare with immediate. -/
def execCmpi (awl : Fin 64) (s1 : Fin 16) (v : Imm) (s : State) : Out := .next (s.live (s.issue awl.val (.cmpi s1 v)))

/-- TSTI (R246): Test with immediate. -/
def execTsti (awl : Fin 64) (s1 : Fin 16) (v : Imm) (s : State) : Out := .next (s.live (s.issue awl.val (.tsti s1 v)))

/-- ASLI (R241): Shift left by immediate. -/
def execAsli (awl : Fin 64) (d : Fin 16) (s1 : Fin 16) (k : Fin 32) (s : State) : Out :=
  .next (s.live (s.issue awl.val (.shiftI .asl d s1 k)))

/-- ASRI (R241): Arithmetic shift right by immediate. -/
def execAsri (awl : Fin 64) (d : Fin 16) (s1 : Fin 16) (k : Fin 32) (s : State) : Out :=
  .next (s.live (s.issue awl.val (.shiftI .asr d s1 k)))

/-- LSRI (R241): Logical shift right by immediate. -/
def execLsri (awl : Fin 64) (d : Fin 16) (s1 : Fin 16) (k : Fin 32) (s : State) : Out :=
  .next (s.live (s.issue awl.val (.shiftI .lsr d s1 k)))

/-- NORM_E (R246): Count redundant sign bits of an accumulator. -/
def execNormE (awl : Fin 64) (d : Fin 16) (a : Fin 4) (s : State) : Out := .next (s.live (s.issue awl.val (.normE d a)))

/-- MOVG_READ (R246): Read the guard bits of an accumulator into D. -/
def execMovgRead (awl : Fin 64) (d : Fin 16) (a : Fin 4) (s : State) : Out := .next (s.live (s.issue awl.val (.movgRead d a)))

/-- MOVG_WRITE (R246): Load all 72 bits of an accumulator from D registers. -/
def execMovgWrite (awl : Fin 64) (a : Fin 4) (g : Fin 16) (p : Fin 8) (s : State) : Out :=
  .next (s.live (s.issue awl.val (.movgWrite a g p)))

/-- ADDW_64 (R246): Wrapping 64-bit add. -/
def execAddw64 (awl : Fin 64) (d : Fin 8) (p : Fin 8) (q : Fin 8) (s : State) : Out :=
  .next (s.live (s.issue awl.val (.wide .addw d p q)))

/-- SUBW_64 (R246): Wrapping 64-bit subtract. -/
def execSubw64 (awl : Fin 64) (d : Fin 8) (p : Fin 8) (q : Fin 8) (s : State) : Out :=
  .next (s.live (s.issue awl.val (.wide .subw d p q)))

/-- ADD_64 (R246): Saturating 64-bit add. -/
def execAdd64 (awl : Fin 64) (d : Fin 8) (p : Fin 8) (q : Fin 8) (s : State) : Out := .next (s.live (s.issue awl.val (.wide .add d p q)))

/-- SUB_64 (R246): Saturating 64-bit subtract. -/
def execSub64 (awl : Fin 64) (d : Fin 8) (p : Fin 8) (q : Fin 8) (s : State) : Out := .next (s.live (s.issue awl.val (.wide .sub d p q)))

/-- MOV_64 (R246): Move a D register pair. -/
def execMov64 (awl : Fin 64) (d : Fin 8) (p : Fin 8) (s : State) : Out := .next (s.live (s.issue awl.val (.mov64 d p)))

/-- CMP_64 (R246): Set flags from the exact 64-bit difference. -/
def execCmp64 (awl : Fin 64) (p : Fin 8) (q : Fin 8) (s : State) : Out := .next (s.live (s.issue awl.val (.cmp64 p q)))

/-- MOVC_READ (R248): Read a control register into D. -/
def execMovcRead (awl : Fin 64) (d : Fin 16) (cr : Fin 56) (s : State) : Out := .next (s.live (s.issue awl.val (.movcRead d cr)))

/-- MOVC_WRITE (R248): Write a control register from D or an immediate. -/
def execMovcWrite (awl : Fin 64) (cr : Fin 56) (src : CtlSrc) (s : State) : Out := .next (s.live (s.issue awl.val (.movcWrite cr src)))

/-- LD (R247): Local 32- or 64-bit load with addressing mode. -/
def execLd (awl : Fin 64) (dst : DReg) (ak : Fin 8) (mode : MemMode) (s : State) : Out :=
  .next (s.live (s.issue awl.val (.ld dst ak mode)))

/-- ST (R247): Local 32- or 64-bit store with addressing mode. -/
def execSt (awl : Fin 64) (src : DReg) (ak : Fin 8) (mode : MemMode) (s : State) : Out :=
  .next (s.live (s.issue awl.val (.st src ak mode)))

/-- LDC (R246): Load a coefficient word through C0 or C1. -/
def execLdc (awl : Fin 64) (d : Fin 16) (j : Fin 2) (s : State) : Out := .next (s.live (s.issue awl.val (.ldc d j)))

/-- LDQ (R249): Post a register-form Bench-queue load. -/
def execLdq (awl : Fin 64) (q : Fin 16) (dst : QReg) (ak : Fin 8) (off : Imm) (s : State) : Out :=
  .next (s.live (s.issue awl.val (.ldq q dst ak off)))

/-- STQ (R249): Post a register-form Bench-queue store. -/
def execStq (awl : Fin 64) (q : Fin 16) (src : QReg) (ak : Fin 8) (off : Imm) (s : State) : Out :=
  .next (s.live (s.issue awl.val (.stq q src ak off)))

/-- LDQ_B (R249): Post a block Bench-queue load into local memory. -/
def execLdqB (awl : Fin 64) (q : Fin 16) (am : Fin 8) (ak : Fin 8) (off : Imm) (k : Fin 8) (s : State) : Out :=
  .next (s.live (s.issue awl.val (.ldqB q am ak off k)))

/-- STQ_B (R249): Post a block Bench-queue store from local memory. -/
def execStqB (awl : Fin 64) (q : Fin 16) (am : Fin 8) (ak : Fin 8) (off : Imm) (k : Fin 8) (s : State) : Out :=
  .next (s.live (s.issue awl.val (.stqB q am ak off k)))

/-- WAITQ (R214): Wait on named queue entries and commit their load data. -/
def execWaitq (awl : Fin 64) (mask : BitVec 16) (s : State) : Out := .next (s.live (s.issue awl.val (.waitq mask)))

/-- QUEUE_ENTRY_COMPLETE (R215): A Bench-queue access is performed at its target and the entry becomes DONE or FREE. -/
def execQueueEntryComplete (awl : Fin 64) (s : State) : Out := .next (s.live (s.queueComplete awl.val))

/-- ENDT (R216): End of task instance after all queue entries complete; the bank returns to Cinch. -/
def execEndt (awl : Fin 64) (s : State) : Out := .next (s.live ((s.issue awl.val .endt).latGive))

/-- POST (R251): Signal a task stage to Cinch after queue completions. -/
def execPost (awl : Fin 64) (j : Fin 4) (s : State) : Out := .next (s.live (s.issue awl.val (.post j)))

/-- TRAP (R251): Raise the software exception n. -/
def execTrap (awl : Fin 64) (k : BitVec 8) (s : State) : Out := .next (s.live (s.issue awl.val (.trap k)))

/-- RTE (R269): Return from exception by reloading state from the frame. -/
def execRte (awl : Fin 64) (s : State) : Out := .next (s.live (s.issue awl.val .rte))

/-- BKPT (R251): Software breakpoint: halts under BKEN or raises an exception. -/
def execBkpt (awl : Fin 64) (k : BitVec 8) (s : State) : Out := .next (s.live (s.issue awl.val (.bkpt k)))

/-- BR (R253): Conditional branch with two delay slots. -/
def execBr (awl : Fin 64) (cond : Fin 14) (off : BitVec 13) (s : State) : Out := .next (s.live (s.issue awl.val (.br cond off)))

/-- CALL (R253): Branch writing the return address into a link register. -/
def execCall (awl : Fin 64) (d : Fin 16) (off : BitVec 13) (s : State) : Out := .next (s.live (s.issue awl.val (.call d off)))

/-- JMP (R253): Conditional jump to a register address. -/
def execJmp (awl : Fin 64) (cond : Fin 14) (d : Fin 16) (s : State) : Out := .next (s.live (s.issue awl.val (.jmp cond d)))

/-- LOOP (R260): Start a block repeat on the loop stack. -/
def execLoop (awl : Fin 64) (cnt : Count) (e : LoopEnd) (s : State) : Out := .next (s.live (s.issue awl.val (.loop cnt e)))

/-- REDO (R263): Repeat the next instruction a counted number of times. -/
def execRedo (awl : Fin 64) (cnt : Count) (s : State) : Out := .next (s.live (s.issue awl.val (.redo cnt)))

/-- ILLEGAL_INSTRUCTION (R257): An Awl issues a reserved encoding, which has no effect and raises the illegal-instruction exception. -/
def execIllegalInstruction (awl : Fin 64) (word : Word) (ext : Word) (s : State) : Out := .next (s.live (s.illegalWord awl.val word ext))

end Sys2Proof.Machine
end

