-- ==== Sys2Proof/Machine/Sign.lean ====
section
/-! DEFINITION. What the boot loader verifies with (R481, R484, R485): SHA-256 and ECDSA over P-256.  PRESUMED: the spec names the
two algorithms; their definitions are those of FIPS 180-4 and FIPS 186-4 (notes/assumptions/4.md). -/
namespace Sys2Proof.Machine

/-! ### SHA-256 -/

/-- The integer `k`-th root of `v`, whose bits below `n` are still to be found, the highest first. -/
def rootFrom (k v : Nat) : Nat → Nat → Nat
  | 0, r => r
  | n + 1, r => rootFrom k v n (if (r + 2 ^ n) ^ k ≤ v then r + 2 ^ n else r)

/-- The first 32 bits of the fraction of the `k`-th root of `p`: what the standard takes its constants from. -/
def rootBits (k p : Nat) : Word := BitVec.ofNat 32 (rootFrom k (p * 2 ^ (32 * k)) 40 0)

/-- The first `n` primes, the largest of which is below 320 for `n` up to 64. -/
def firstPrimes (n : Nat) : List Nat :=
  ((List.range 320).filter fun p => decide (2 ≤ p) && (List.range 18).all fun d => decide (d < 2) || decide (p ≤ d) || p % d != 0).take n

/-- The exclusive or of a word turned right by each of the amounts. -/
def turns (x : Word) (rs : List Nat) : Word := rs.foldl (fun v r => v ^^^ x.rotateRight r) 0

/-- The message schedule, newest word first, with `n` words still to form. -/
def schedule : Nat → List Word → List Word
  | 0, ws => ws
  | n + 1, ws =>
    let back (i : Nat) : Word := ws.getD (i - 1) 0
    schedule n ((back 16 + (turns (back 15) [7, 18] ^^^ (back 15 >>> 3)) + back 7 + (turns (back 2) [17, 19] ^^^ (back 2 >>> 10))) :: ws)

/-- The working words as two histories, newest first: those the standard calls a to d, and those it calls e to h. -/
structure Chain where
  hi : List Word
  lo : List Word
deriving DecidableEq, Repr

/-- The chaining value a hash begins with: from the square roots of the first eight primes. -/
def Chain.first : Chain :=
  let w := (firstPrimes 8).map (rootBits 2)
  ⟨w.take 4, w.drop 4⟩

/-- A round with `kw`, the sum of its constant and its schedule word, on the two histories. -/
def Chain.round (c : Chain) (kw : Word) : Chain :=
  let a (i : Nat) : Word := c.hi.getD i 0
  let e (i : Nat) : Word := c.lo.getD i 0
  let choice := e 2 ^^^ (e 0 &&& (e 1 ^^^ e 2))
  let majority := (a 0 &&& a 1) ||| (a 2 &&& (a 0 ||| a 1))
  let t := e 3 + turns (e 0) [6, 11, 25] + choice + kw
  ⟨(t + turns (a 0) [2, 13, 22] + majority) :: c.hi.take 3, (a 3 + t) :: c.lo.take 3⟩

/-- A block of 64 bytes; `ks` are the constants of the rounds, from the cube roots of the first 64 primes. -/
def Chain.block (ks : List Word) (c : Chain) (b : List Byte) : Chain :=
  let ws := (schedule 48 ((List.range 16).map fun i => BitVec.ofNat 32 (beToNat (slice b (60 - 4 * i) 4)))).reverse
  let r := (List.zipWith (· + ·) ks ws).foldl Chain.round c
  ⟨List.zipWith (· + ·) c.hi r.hi, List.zipWith (· + ·) c.lo r.lo⟩

/-- SHA-256 of a message: 32 bytes. -/
def sha256 (m : List Byte) : List Byte :=
  let z := (119 - m.length % 64) % 64
  let p := m ++ [0x80#8] ++ List.replicate z 0 ++ beBytes 8 (8 * m.length)
  let ks := (firstPrimes 64).map (rootBits 3)
  let c := (List.range (p.length / 64)).foldl (fun c i => c.block ks (slice p (64 * i) 64)) Chain.first
  (c.hi ++ c.lo).flatMap fun w => beBytes 4 w.toNat

/-! ### ECDSA over P-256 -/

def ecP : Nat := 2 ^ 256 - 2 ^ 224 + 2 ^ 192 + 2 ^ 96 - 1
def ecN : Nat := 0xffffffff00000000ffffffffffffffffbce6faada7179e84f3b9cac2fc632551
def ecB : Nat := 0x5ac635d8aa3a93e7b3ebbd55769886bc651d06b0cc53b0f63bce3c3e27d2604b
def ecG : Nat × Nat :=
  (0x6b17d1f2e12c4247f8bce6e563a440f277037d812deb33a0f4a13945d898c296,
   0x4fe342e2fe1a7f9b8ee7eb4a7c0f9e162bce33576b315ececbb6406837bf51f5)

/-- Square and multiply over the lowest `n` bits of the exponent. -/
def powMod (m : Nat) : Nat → Nat → Nat → Nat
  | 0, _, _ => 1 % m
  | n + 1, b, e =>
    let r := powMod m n (b * b % m) (e / 2)
    if e % 2 = 1 then r * b % m else r

/-- The inverse modulo a prime. -/
def invMod (m a : Nat) : Nat := powMod m 256 (a % m) (m - 2)

/-- A point of the curve, none at infinity. -/
abbrev EcPoint := Option (Nat × Nat)

/-- The sum of two points. -/
def ecAdd : EcPoint → EcPoint → EcPoint
  | none, q => q
  | p, none => p
  | some (x, y), some (u, v) =>
    if x = u ∧ (y + v) % ecP = 0 then none
    else
      let l := if x = u then (3 * x * x + (ecP - 3)) * invMod ecP (2 * y) % ecP
        else (v + ecP - y) * invMod ecP (u + ecP - x) % ecP
      let a := (l * l + 2 * ecP - x - u) % ecP
      some (a, (l * (x + ecP - a) + ecP - y) % ecP)

/-- A multiple of a point by the lowest `n` bits of a number. -/
def ecMul : Nat → Nat → EcPoint → EcPoint
  | 0, _, _ => none
  | n + 1, k, p =>
    let r := ecMul n (k / 2) (ecAdd p p)
    if k % 2 = 1 then ecAdd p r else r

/-- The public key lies on the curve. -/
def ecOn (x y : Nat) : Bool := decide (x < ecP) && decide (y < ecP) && y * y % ecP == (x * x * x + (ecP - 3) * x + ecB) % ecP

/-- ECDSA: the signature `r`, `s` over the digest of a message, under the public key `(x, y)`. -/
def ecVerify (x y : Nat) (digest : List Byte) (r s : Nat) : Bool :=
  if !ecOn x y || r == 0 || decide (ecN ≤ r) || s == 0 || decide (ecN ≤ s) then false
  else
    let w := invMod ecN s
    let u := beToNat digest * w % ecN
    let v := r * w % ecN
    match ecAdd (ecMul 256 u (some ecG)) (ecMul 256 v (some (x, y))) with
    | none => false
    | some (a, _) => a % ecN == r

end Sys2Proof.Machine
end

