-- ==== Sys2Proof/Machine/Loader.lean ====
section
/-! DEFINITION. The boot loader: the Ubwen image and its installation (R484–R487). -/
namespace Sys2Proof.Machine

/-- A section of an image. -/
structure Section where
  kind : Nat
  flags : Nat
  off : Nat
  len : Nat
  dest : Nat
deriving DecidableEq, Repr

/-- The section table of an image. -/
def imageSections (b : List Byte) : List Section :=
  (List.range (fieldAt b 16 2)).map fun i =>
    let o := 256 + 16 * i
    ⟨fieldAt b o 2, fieldAt b (o + 2) 2, fieldAt b (o + 4) 4, fieldAt b (o + 8) 4, fieldAt b (o + 12) 4⟩

/-- No two ranges of a list share a byte. -/
def disjoint : List (Nat × Nat) → Bool
  | [] => true
  | x :: xs => (xs.all fun y => !overlaps x.1 x.2 y.1 y.2) && disjoint xs

/-- The header fields meet R484. -/
def imageHeaderOk (b : List Byte) : Bool :=
  let ilen := fieldAt b 12 4
  let n := fieldAt b 16 2
  slice b 0 4 == [0x55, 0x42, 0x57, 0x4E] && fieldAt b 4 2 == 1 && decide (fieldAt b 6 2 < 4)
    && ilen % 8 == 0 && decide (512 ≤ ilen) && decide (ilen ≤ 16777216) && decide (1 ≤ n) && decide (n ≤ 32)
    && decide (fieldAt b 18 1 ≤ 7) && decide (2 ≤ fieldAt b 19 1) && decide (fieldAt b 19 1 ≤ 15)
    && fieldAt b 20 12 == 0 && fieldAt b 96 160 == 0

/-- The section table meets R484. -/
def imageTableOk (b : List Byte) : Bool :=
  let ilen := fieldAt b 12 4
  let ss := imageSections b
  (ss.all fun x =>
    (x.kind == 1 || x.kind == 2) && x.off % 8 == 0 && x.len % 8 == 0 && decide (256 + 16 * ss.length ≤ x.off)
      && decide (x.off + x.len ≤ ilen - 64)
      && match memWhole x.dest with
        | some (base, n) => decide (x.dest + x.len ≤ base + n) && (x.kind == 1 || base == 0)
        | none => false)
    && disjoint (ss.map fun x => (x.off, x.len)) && disjoint (ss.map fun x => (x.dest, x.len))

/-- The power domains that hold the destinations of an image. -/
def imageDomains (b : List Byte) : List Nat :=
  (imageSections b).flatMap fun x =>
    (List.range 18).filter fun d => memRegions.any fun r => r.2.2 == d && overlaps x.dest x.len r.1 r.2.1

/-- SHA-256 of the public key, as the OTP holds it: word 0 holds digest bytes 0–3. -/
def keyDigest (b : List Byte) : List Byte := sha256 (slice b 32 64)

/-- The signature over bytes 0 to ILEN − 65. -/
def imageSigned (b : List Byte) : Bool :=
  let n := fieldAt b 12 4
  let be (o : Nat) : Nat := beToNat (slice b o 32)
  ecVerify (be 32) (be 64) (sha256 (b.take (n - 64))) (be (n - 64)) (be (n - 32))

namespace State

/-- PWR.TARGET written by the loader or the tack engine: false where PWR refuses; a write the gate suppresses is no refusal
(notes/assumptions/127.md). -/
def bootTarget (s : State) (v : Nat) : Bool × State :=
  match s.gateKind mBoot (regAddr pgPWR PWR.TARGET) 4 true with
  | some k => (true, s.gateRecord mBoot (regAddr pgPWR PWR.TARGET) 1 k)
  | none => s.targetWrite v

/-- Every power step of an accepted request, one after the other. -/
def powerAll (s : State) : State := (List.range 18).foldl (fun s _ => s.powerStep) s

/-- The key of the image is the one the OTP names (reason 4). -/
def keyKnown (s : State) (b : List Byte) : Bool :=
  keyDigest b == (List.range 8).flatMap fun k => leBytes 4 (s.reg pgBOOT (BOOT.OTPRD k)).toNat

/-- MINVER: the number of bits set. -/
def minVersion (s : State) : Nat := popCount 32 (s.reg pgBOOT (BOOT.OTPRD 9)).toNat

/-- An access of the boot loader or the tack engine as master 93 (R469, R536): refused on a violation, which GATE93 records. -/
def bootPut (s : State) (a : Nat) (bs : List Byte) : State :=
  match s.gateKind mBoot a bs.length true with
  | some k => s.gateRecord mBoot a (accKind a bs.length true) k
  | none => (s.fabStore mBoot a bs).2

/-- A block written by master 93, one 8-byte word at a time (R468). -/
def bootBlock (s : State) (a : Nat) (bs : List Byte) : State := s.forEach (wordParts a bs) fun s e => s.bootPut e.1 e.2

/-- A register written by master 93. -/
def bootReg (s : State) (p off : Nat) (v : Word) : State := s.bootPut (regAddr p off) (leBytes 4 v.toNat)

/-- Copy the sections, of a source whose bytes from `limit` on cannot be read. -/
def imageCopy (s : State) (b : List Byte) (limit : Nat) (zero : Bool) : State :=
  s.forEach (imageSections b) fun s x =>
    let n := min x.len (limit - x.off)
    s.bootBlock x.dest (if zero then List.replicate n 0 else slice b x.off n)

/-- A failed image (R485, R486): its reason, the fault, and what the loader does next; slot A gives way to slot B, any other source
to a host load. -/
def imageFail (s : State) (reason : Nat) : State :=
  let s := s.wr pgBOOT BOOT.STAT_REASON reason
  if s.boot.phase = 0 then { s.fault pgBOOT 0x0401 reason with boot := { s.boot with phase := 1 } }
  else
    let s := (s.wr pgBOOT BOOT.STAT_FAIL 1).evt pgBOOT 1
    { s.fault pgBOOT 0x0402 reason with boot := { s.boot with phase := 2 } }

/-- A register of TACK written by the loader. -/
def loaderWrite (s : State) (off : Nat) (v : Nat) : State := s.bootReg pgTACK off (BitVec.ofNat 32 v)

/-- An installed image (R485, R487): the tack sets it carries, DONE, and the start of TACK. -/
def imageDone (s : State) (b : List Byte) : State :=
  let s := s.forEach ((imageSections b).filter (·.kind == 2)) fun s x =>
    (s.loaderWrite (TACK.TBASE (x.flags % 4)) x.dest).loaderWrite (TACK.TLEN (x.flags % 4)) x.len
  let s := ((s.wr pgBOOT BOOT.STAT_SRC (min 2 s.boot.phase)).wr pgBOOT BOOT.STAT_FAIL 0).wr pgBOOT BOOT.STAT_DONE 1
  let s := (s.setReg pgBOOT BOOT.IVER (BitVec.ofNat 32 (fieldAt b 8 4))).evt pgBOOT 0
  let s := if bitOf (fieldAt b 6 2) 0 then s.wr pgBOOT BOOT.STAT_DBGLOCK 1 else s
  let auto := bitOf (fieldAt b 6 2) 1
  if s.running pgTACK then
    let s := { s with boot := { s.boot with phase := 4 } }
    if auto then s.tackRequest (s.rd pgGLOB GLOB.STRAP_TACKSEL) else s
  else { s with boot := { s.boot with phase := 4, autotack := auto } }.bootAct pgTACK HDR.PCTL fun s => s.tryStart pgTACK

/-- The header and section table are read with 0x13 at PCLK / 8, the rest with 0xEC by the header's QDIV and QDUMMY, the mode clocks 1
(R486). -/
def flashHead (s : State) (at' len : Nat) : State := s.emit (.flash 0x13 at' len 8 0)
def flashRest (s : State) (b : List Byte) (at' len : Nat) : State :=
  s.emit (.flash 0xEC at' len (2 * (fieldAt b 18 1 + 1)) (fieldAt b 19 1) (some true))

/-- The image of a source as read: its bytes, the first of which that cannot be read is at `limit` (R485). -/
def imageInstall (s : State) (b : List Byte) (limit : Nat) (place : Option Nat) : State :=
  let n := fieldAt b 16 2
  let ilen := fieldAt b 12 4
  let bad (s : State) : State := let (v, s) := s.draw; s.imageFail (1 + v.toNat % 3)
  let slot := 0x01000000 * s.boot.phase
  let s := if place.isNone then s.flashHead slot 256 else s
  if limit < 256 then s.imageFail 7
  else if !imageHeaderOk b then bad s
  else
  let s := if place.isNone then s.flashHead (slot + 256) (16 * n) else s
  if limit < 256 + 16 * n then s.imageFail 7
  else if !imageTableOk b then bad s
  else if (match place with | some a => (imageSections b).any fun x => overlaps x.dest x.len a ilen | none => false) then s.imageFail 3
  else
    let want := (imageDomains b).foldl withBit s.domains
    let (ok, s) := if want = s.domains then (true, s) else s.bootTarget want
    if !ok then (let (v, s) := s.draw; s.imageFail (v.toNat % 256))
    else
      let s := s.powerAll
      let s := if place.isNone then s.flashRest b (slot + 256 + 16 * n) (ilen - 256 - 16 * n) else s
      let s := s.imageCopy b (min limit ilen) false
      let fail (s : State) (r : Nat) : State := (s.imageCopy b (min limit ilen) true).imageFail r
      if limit < ilen then fail s 7
      else if s.otpFlag 0 && !s.keyKnown b then fail s 4
      else if s.otpFlag 0 && !imageSigned b then fail s 5
      else if fieldAt b 8 4 < s.minVersion then fail s 6
      else s.imageDone b

/-- `[a, a + n)` lies in powered central memory (R487). -/
def inPoweredCentral (s : State) (a n : Nat) : Bool :=
  inCentral a n && (granules a n).all fun g => s.domOn (8 + g / 64)

/-- Words of a host image, as far as they can be read. -/
def imageRead (s : State) (a : Nat) : Nat → List Byte × Bool × State
  | 0 => ([], true, s)
  | n + 1 =>
    let (b, ok, s) := s.imageRead a n
    if !ok then (b, false, s)
    else
      let (w, s) := s.fixRead mBoot (a + 8 * n) 8
      match w with | some w => (b ++ w, true, s) | none => (b, false, s)

/-- The loader finishes the image of its source (R485–R487): a flash slot whose content and unreadable part the command names, or the
host's image in memory. -/
def bootComplete (s : State) (image : List Byte) (unreadable : Option Nat) : State :=
  if s.por then s
  else match s.boot.phase with
    | 0 | 1 => s.imageInstall image (min image.length (unreadable.getD image.length)) none
    | 3 =>
      let a := s.rd pgBOOT BOOT.HLBASE_ADDR * 8
      if !s.inPoweredCentral a 256 then s.imageFail 8
      else
        let (h, ok, s) := s.imageRead a 32
        if !ok then s.imageFail 7
        else
          let ilen := fieldAt h 12 4
          if !imageHeaderOk h then s.imageInstall h 256 (some a)
          else if !s.inPoweredCentral a ilen then s.imageFail 8
          else
            let (b, _, s) := s.imageRead a (ilen / 8)
            s.imageInstall b b.length (some a)
    | _ => s

end State
end Sys2Proof.Machine
end

