-- ==== Sys2Proof/Machine/Switch.lean ====
section
/-! DEFINITION. The switch of a tack set (R492–R494): power, the writes of phase 4, the starts of phase 5, and the parts of starting and
stopping that concern a switch in progress. -/
namespace Sys2Proof.Machine
namespace State

/-- The switch ends, and the pins are judged again (R488), also where PWR ended it (notes/assumptions/126.md). -/
def tackIdle (s : State) : State := ((s.wr pgTACK TACK.STAT_BUSY 0).wr pgTACK TACK.STAT_PHASE 0).tackByPins

/-- Every axis becomes UNMAPPED: no tack set is active. -/
def unmapAll (s : State) : State := { s with axes := [], pgs := [] }

/-- Phase 3 begins once every switched page is STOPPED or OFF (R492); a refusal of PWR ends the switch (R494). -/
def tackStopDone (s : State) : State :=
  if s.rd pgTACK TACK.STAT_PHASE ≠ 2 || !(allPages.all fun p => !switchedPage p || decide (s.st p ≤ 1)) then s
  else
    let (ok, s) := (s.wr pgTACK TACK.STAT_PHASE 3).bootTarget (s.tack.pwrdom ||| 0x4100)
    if ok then s
    else
      let s := ((s.wr pgTACK TACK.STAT_ACTIVE 7).wr pgTACK TACK.STAT_REASON 10).unmapAll.evt pgTACK 1
      (s.faultU pgTACK 0x0503).tackIdle

/-! ### Phase 4 -/

/-- The axis map and its slot values come into force (R21, R327): mapped axes STOPPED, the others UNMAPPED.  Every write of a register
is one of master 93. -/
def installMap (s : State) (l : List (Nat × AxisMap × List Byte)) : State :=
  let s := { s with axes := [], pgs := s.pgs.filter fun e => l.any fun x => x.1 == e.1 }
  s.forEach l fun s e =>
    let m := e.2.1
    let p := pgPGB m.home
    let s := s.setAxis e.1 { map := some m, state := .stopped }
    let put (s : State) (off i : Nat) : State := s.bootReg p off (BitVec.ofNat 32 (fieldAt e.2.2 i 4))
    let s := put (put (put s (PGB.VLIMLO m.rslot) 0) (PGB.VLIMHI m.rslot) 4) (PGB.ALIMLO m.rslot) 8
    let s := put (put (put s (PGB.ALIMHI m.rslot) 12) (PGB.DSTOPLO m.rslot) 16) (PGB.DSTOPHI m.rslot) 20
    put s (PGB.SCFG m.rslot) 24

/-- FB and AIN of the axis map set the routing of the channels they name (R359, R490). -/
def installRoutes (s : State) (l : List (Nat × AxisMap × List Byte)) : State :=
  s.forEach l fun s e =>
    let m := e.2.1
    let s := match m.fb with
      | some n =>
        let p := pgFBCH n
        s.bootReg p FBCH.ROUTE (FBCH.ROUTE_AXIS.put e.1 (FBCH.ROUTE_EN.put 1 (s.reg p FBCH.ROUTE)))
      | none => s
    s.forEach m.ain.zipIdx fun s c =>
      match c.1 with
      | some n =>
        let p := pgAXCH n
        s.bootReg p AXCH.CFG (AXCH.CFG_FIELD.put c.2 (AXCH.CFG_AXIS.put e.1 (AXCH.CFG_REN.put 1 (s.reg p AXCH.CFG))))
      | none => s

/-! ### Phase 5 -/

/-- A start of the switch has failed (R494). -/
def tackFailed (s : State) (p : Nat) : State :=
  let s := if s.tack.failed then s else { s.wr pgTACK TACK.FAILPAGE_PAGE p with tack := { s.tack with failed := true } }
  ((s.wr pgTACK TACK.STAT_PARTIAL 1).evt pgTACK 2).fault pgTACK 0x0502 p

/-- RUN := 1 on a page of the start list. -/
def tackStartPage (s : State) (p : Nat) : State :=
  let s := s.bootAct p HDR.PCTL fun s => s.tryStart p
  if s.st p ≤ 1 then s.tackFailed p else { s with tack := { s.tack with starts := p :: s.tack.starts } }

/-- The page whose RUNNING a deferred start waits for (R493); GIRTH waits for LAT's role (R494). -/
def tackPrereq (p : Nat) : Nat :=
  match pageKind p with
  | some .axch => pgANA
  | some .girth => pgLAT
  | _ => pgFLD

/-- What becomes of a deferred start now: start it, count it as failed, or wait. -/
def tackDecides (s : State) (p : Nat) : Option Bool :=
  if p = pgGIRTH then
    if s.latRole = 1 ∨ s.latRole = 2 ∨ s.latPstate = psSOLO then some true
    else if s.st pgLAT = 2 ∨ s.st pgLAT = 3 then none else some false
  else match s.st (tackPrereq p) with
    | 3 => some true
    | 2 => none
    | _ => some false

/-- The switch completes once no deferred start is left. -/
def tackFinish (s : State) : State :=
  if s.rd pgTACK TACK.STAT_PHASE = 5 ∧ s.tack.deferred = [] then ((s.bump pgTACK TACK.SWITCHES).evt pgTACK 0).tackIdle else s

/-- Decide the first deferred start that can be decided (R493); GIRTH is the last of them (R494). -/
def tackDeferred (s : State) : State :=
  if s.rd pgTACK TACK.STAT_PHASE ≠ 5 then s
  else match s.tack.deferred.find? fun p => (p ≠ pgGIRTH || s.tack.deferred.length == 1) && (s.tackDecides p).isSome with
    | none => s
    | some p =>
      let go := s.tackDecides p == some true
      let s := { s with tack := { s.tack with deferred := s.tack.deferred.erase p } }
      (if go then s.tackStartPage p else s.tackFailed p).tackFinish

/-- The set's register list writes LAT.PCFG.EN = 1 (R494). -/
def tackPairs (t : TackSet) : Bool :=
  match (t.writes.filter fun e => e.1 == pgLAT && e.2.1 == LAT.PCFG).getLast? with
  | some e => LAT.PCFG_EN.get e.2.2 == 1
  | none => false

/-- A page of the start list is deferred (R493, R494). -/
def tackDefers (t : TackSet) (p : Nat) : Bool :=
  match pageKind p with
  | some .buckle | some .flddi | some .flddo => t.start.contains pgFLD
  | some .axch => t.start.contains pgANA
  | some .girth => tackPairs t
  | _ => false

/-- Phases 4 and 5 (R492): with power settled, the writes of the set, ACTIVE, and the starts that wait for nothing. -/
def tackPowerDone (s : State) : State :=
  if s.rd pgTACK TACK.STAT_PHASE ≠ 3 || s.on pgPWR PWR.STATUS_BUSY then s
  else
    let (b, s) := (s.wr pgTACK TACK.STAT_PHASE 4).tackRead
    match b with
    | none => s.tackReject 2
    | some b =>
      let axes := (tackAxes b).getD []
      let t : TackSet := { scrc := BitVec.ofNat 32 (fieldAt b 16 4), pwrdom := s.tack.pwrdom, writes := tackWrites b, axes := axes,
                           blocks := (tackBlocks b).getD [], start := tackStart b }
      let s := s.forEach t.writes fun s (e : Nat × Nat × Word) => s.bootReg e.1 e.2.1 e.2.2
      let s := (s.installMap axes).installRoutes axes
      let s := s.forEach t.blocks fun s e => s.bootBlock e.1 e.2
      let s := (s.bootReg pgBUCKLE BUCKLE.SCRCEXP t.scrc).wr pgTACK TACK.STAT_ACTIVE s.tack.set
      let s := (s.wr pgTACK TACK.STAT_PHASE 5)
      let s := { s with tack := { s.tack with deferred := t.start.filter (tackDefers t), failed := false,
                                              blocks := t.blocks.map (fun (e : Nat × List Byte) => (e.1, e.2.length)) } }
      (s.forEach (t.start.filter fun p => !tackDefers t p) tackStartPage).tackFinish

/-! ### Rows of the block states that bear on a switch -/

/-- START_COMPLETE; TACK entering RUNNING after an AUTOTACK image requests the strapped set (R487). -/
def startCompleteRow (s : State) (p : Nat) : State :=
  let was := s.st p
  let s := s.startComplete p
  if p = pgTACK ∧ was = 2 ∧ s.st p = 3 ∧ s.boot.autotack then
    { s with boot := { s.boot with autotack := false } }.tackRequest (s.rd pgGLOB GLOB.STRAP_TACKSEL)
  else s

/-- CALIBRATION_DONE: a start of phase 5 that a failed run under AUTO ends has failed (R82, R494), whenever it ends
(notes/assumptions/125.md). -/
def calDoneRow (s : State) (p k : Nat) (ok : Bool) (res0 res1 : Word) (err : Nat) : State :=
  let was := s.st p
  let s := s.calDone p k ok res0 res1 err
  if was = 2 ∧ s.st p = 1 ∧ p ∈ s.tack.starts then s.tackFailed p else s

end State
end Sys2Proof.Machine
end

