-- ==== Sys2Proof/Machine/Cycle.lean ====
section
/-! DEFINITION. The instants of the control cycle that concern every unit at once: I0 (R8), cycle 0 (R126, R380), CWSTART (R11) and
CUTOFF (R14), and the stop of the network (R131). -/
namespace Sys2Proof.Machine

/-- What CUTOFF decided for an axis: its index, its map entry, what is sent, the snapshot of its OUT section, and whether the block is
self-caused (R385). -/
structure Decided where
  axis : Nat
  map : AxisMap
  sent : State.Sent
  out : Option (List Byte)
  self : Bool
deriving DecidableEq, Repr

/-- What a local output unit takes from a decision (R330, R364). -/
def takenOf (d : Option Decided) : Taken :=
  match d with
  | some d => (match d.sent, d.out with | .output, some o => .set o | .hold, _ => .repeat | _, _ => .rest)
  | none => .rest

/-- The CUTOFF and HOLD decisions of mapped axes that give a node port its blocks, by slot. -/
def portBlocks (s : State) (p : Nat) (ds : List Decided) : List (Nat × List Byte) :=
  ds.filterMap fun d =>
    match d.map.place with
    | .port q k => if q = p then some (k, State.downBlock d.map.mode d.sent d.out (s.pidx (s.cyc + 1))) else none
    | _ => none

namespace State

/-! ### I0 -/

/-- CINCH_RESTART (R130): Girth's cycle number is loaded and the faulted Cinch starts anew; the ledger entry of the disagreement is
still to be written, at the first CWSTART Cinch serves again (R189). -/
def cinchRestart (s : State) : State :=
  if !s.girth.disagree then s
  else
    let s := { s with girth := { s.girth with disagree := false } }
    if s.st pgCINCH ≠ 5 || !s.on pgCINCH HDR.PCTL_RUN then s
    else
      let s := s.bumpE pgGIRTH GIRTH.CTLRST 2
      let (c, s) := s.graphCheck
      if c = .ok then ((s.setSt pgCINCH 2).cinchBegin s.cinch.tasks).modC fun c => { c with ledger := s.cinch.ledger, cwCyc := s.cinch.cwCyc }
      else (((s.setSt pgCINCH 1).wr pgCINCH HDR.PCTL_RUN 0).cfgRej pgCINCH).releaseClaims pgCINCH

/-- A port whose page is stopping has sent its REST: it falls idle and its page is STOPPED (R131). -/
def portStopI0 (s : State) (p : Nat) : State :=
  if (s.port p).stopping && (s.port p).stopCut then
    let s := s.portIdle p
    if s.st (pgNPORT p) = 4 then (s.setSt (pgNPORT p) 1).releaseClaims (pgNPORT p) else s
  else s

/-- What every unit does at an I0 (R8), once CYC is that of the cycle; `idle`: the level of FBnB of each feedback channel before it. -/
def i0Work (s : State) (idle : BitVec 16) : State :=
  let s := s.latI0
  let s := { s with time := { s.time with rateRef := s.time.rate }, girth := { s.girth with report := none } }
  let s := s.forEach (List.range 32) fun s p => (s.portI0 p).portStopI0 p
  let s := s.settleUse
  let s := s.cinchRestart
  let s := s.forEach (List.range 16) fun s n => (s.feedI0 n (idle.getLsbD n)).anaI0 n
  s.forEach (List.range 8) loadSet

/-- The I0 after two CUTOFFs with REST ends the network (R131): ports idle, GIRTH STOPPED. -/
def networkEnd (s : State) : State :=
  if s.st pgGIRTH = 4 ∧ 2 ≤ s.girth.stopCuts then
    let s := s.forEach (List.range 32) portIdle
    let s := { s with lat := { s.lat with left := false } }
    ((s.setSt pgGIRTH 1).releaseClaims pgGIRTH).tackStops
  else s

/-- I0 (R7, R8): the next cycle begins, not before T64 has reached its ideal I0 (R144). -/
def i0 (s : State) (idle : BitVec 16) : State :=
  if !s.girthServes || !geT64 s.t64 (s.tI0 (s.cyc + 1)) then s
  else
    let g := s.girth
    { s with girth := { g with cyc := g.cyc + 1, cinchCyc := g.cinchCyc + 1, cutDone := false } }.i0Work idle |>.networkEnd

/-- The row I0; `upset`: Girth or the time base meets an uncorrectable word of its state (R504), whatever the state of Girth. -/
def i0Row (s : State) (upset : Bool) (idle : BitVec 16) : State :=
  if upset then ((s.stateWord none).faultU pgFLT 0x0604).i0 idle else s.i0 idle

/-- The row DOWNLINK_SEND; `upset`: a word of the frame buffer is uncorrectable, and the frame is not sent (R504). -/
def downlinkRow (s : State) (p : Nat) (upset : Bool) : State :=
  if upset && s.downDue p then s.stateWord (some mGirth) else s.downlinkSend p

/-- A pair's follower places its cycle 0 on the leader's schedule (R380). -/
def isFollower (s : State) : Bool := s.latOn && s.latRole == 2 && s.latPstate != psSOLO

/-- The number of whole cycles from one T64 to another, 0 if it lies before. -/
def cyclesSince (s : State) (a : BitVec 64) : Nat := if geT64 s.t64 a then (s.t64 - a).toNat / (s.tc * 64) else 0

/-- The ideal I0 of cycle 0 of a device that follows none (R126): 2 × Tc ticks after the start, or the first point of the EPOCH grid not before that. -/
def zeroIdeal (s : State) : BitVec 64 :=
  let lead := s.girth.t0
  let e := s.reg64 pgGIRTH GIRTH.EPOCHLO
  let cycle := s.tc * 64
  if e = 0 then lead
  else if geT64 e lead then e
  else e + BitVec.ofNat 64 (((lead - e).toNat + cycle - 1) / cycle * cycle)

/-- Where cycle 0 is placed: the cycle number and T64 of this I0; none while the conditions do not hold (R126, R380).  A follower takes the
leader's I0 of the present cycle, not before 2 × Tc ticks after its own start. -/
def zeroPlace (s : State) : Option (BitVec 48 × BitVec 64) :=
  if s.isFollower then
    if s.latPstate = psUNPAIRED ∨ s.latPstate = psLOCKING ∨ !s.lat.twinRunning then none
    else
      let k := s.cyclesSince s.lat.twinI0
      let t := s.lat.twinI0 + BitVec.ofNat 64 (k * s.tc * 64)
      if geT64 t s.girth.t0 then some (s.lat.twinCyc + BitVec.ofNat 48 k, t) else none
  else if geT64 s.t64 s.zeroIdeal then some (0, s.zeroIdeal) else none

/-- Cycle 0 (R126): GIRTH enters RUNNING at its first I0. -/
def cycleZero (s : State) (idle : BitVec 16) : State :=
  if s.st pgGIRTH ≠ 2 then s
  else match s.zeroPlace with
    | none => s
    | some (c, t) =>
      let follower := s.isFollower
      let s := { s with ports := [], girth := { cyc := c, cinchCyc := c, t0 := t - BitVec.ofNat 64 (c.toNat * s.tc * 64) } }
      let s := ((s.setSt pgGIRTH 3).evt pgGIRTH 0).i0Work idle
      if follower then (s.setPstate psRESYNC).planeCopy else s

/-! ### CWSTART -/

/-- An uncorrectable word of Cinch's state (R504): fault 0x0605, CINCH enters FAULTED, and the next I0 restarts it as in R130. -/
def cinchUpset (s : State) : State :=
  let s := (s.stateWord none).faultU pgFLT 0x0605
  if 2 ≤ s.st pgCINCH ∧ s.st pgCINCH ≤ 4 then { s with girth := { s.girth with disagree := true } }.cinchFault else s

/-- CWSTART (R11, R130, R166, R299): Latigo's part first (R383, R384, R392), then Cinch and the engine. -/
def cwstartRow (s : State) (upset : Bool) : State :=
  if !s.girthServes || !s.due (s.rd pgGIRTH GIRTH.CWIN_CWSTART) then s else (if upset then s.cinchUpset else s).roleExchange.latForward.gapCheck.cwstart

/-! ### CUTOFF -/

/-- R130: at CUTOFF the number Cinch reported for this cycle is not Girth's; Girth's stands, and the ledger shows it (R189). -/
def cycleDisagreement (s : State) : State :=
  match s.girth.report with
  | some c =>
    if c = s.girth.cyc then s
    else
      let s := ((s.faultU pgGIRTH 0x2001).wr pgGIRTH GIRTH.CTLSTAT_CYCERR 1).bumpE pgGIRTH GIRTH.CYCERR 2
      let s := (s.modLedger fun l => { l with events := l.events ||| 4 }).modC fun c => { c with cwCyc := c.cwCyc.map fun _ => s.girth.cyc }
      let s : State := { s.evt pgGIRTH 1 with girth := { s.girth with disagree := true } }
      if decide (2 ≤ s.st pgCINCH) && decide (s.st pgCINCH ≤ 4) then s.cinchFault else s
  | none => s

/-- The snapshot of an axis meets no uncorrectable word (R385, R504). -/
def snapReadable (s : State) (a : Nat) (m : AxisMap) : Bool := !((s.fixRead mGirth (m.base + 0x80) 0x20).2.axis a).ownRest

/-- The decision of every mapped axis, in ascending index. -/
def decideAll (s : State) : List Decided × State :=
  s.mapped.foldl (fun (r : List Decided × State) e =>
    let (a, m) := e
    let (sent, out, s') := r.2.cutoffAxis a m
    let self := match m.place with | .port p _ => r.2.blockSelf a p sent (r.2.snapReadable a m) | _ => false
    (r.1 ++ [⟨a, m, sent, out, self⟩], s')) ([], s)

/-- The axis whose output a local output unit drives. -/
def unitAxis (ds : List Decided) (f : Decided → Bool) : Taken := takenOf (ds.find? f)

/-- What an analog output channel takes: the ANALOG axis its routing names (R364). -/
def anaTaken (s : State) (n : Nat) (ds : List Decided) : Taken :=
  let p := pgAXCH n
  unitAxis ds fun d => s.on p AXCH.CFG_REN && s.rd p AXCH.CFG_AXIS == d.axis && (match d.map.place with | .ax _ => true | _ => false)

/-- R385: the self-caused blocks of this CUTOFF are remembered. -/
def noteSelf (s : State) (ds : List Decided) : State :=
  let axes := (ds.filter (·.self)).map (·.axis)
  let ports := (List.range 32).filter fun p => ds.any fun d => d.self && (match d.map.place with | .port q _ => q == p | _ => false)
  s.modLat fun l => { l with selfAxes := axes,
                             selfPorts := (l.selfPorts.filter fun e => !ports.contains e.1) ++ ports.map fun p => (p, s.girth.cyc) }

/-- The CUTOFFs sent with REST are counted for the ports and the network that stop (R131). -/
def countStops (s : State) : State :=
  let s := s.forEach (List.range 32) fun s p => if (s.port p).stopping then s.modPort p fun q => { q with stopCut := true } else s
  if s.st pgGIRTH = 4 then { s with girth := { s.girth with stopCuts := s.girth.stopCuts + 1 } } else s

/-- What follows the samples of Stamp at CUTOFF (R14, R15, R98, R330, R364): the safety word is taken, every axis is decided, and each
unit takes its output. -/
def cutoffSend (s : State) : State :=
  let s := { s with girth := { s.girth with cutDone := true } }
  let s := s.setReg pgSTO STO.SENT s.stoTaken
  let s := s.cycleDisagreement
  let (ds, s) := s.decideAll
  let s := s.forEach (List.range 32) fun s p => s.assemble p (portBlocks s p ds)
  let s := s.forEach (List.range 8) fun s n =>
    s.stitchCutoff n (unitAxis ds fun d => match d.map.place with | .lx k => k == n | _ => false)
  let s := s.forEach (List.range 16) fun s n => s.anaCutoff n (s.anaTaken n ds)
  (s.noteSelf ds).countStops

/-- CUTOFF (R144, R408): Stamp samples before anything else. -/
def cutoff (s : State) (trip high low : Nat) : State :=
  if !s.girthServes || !s.due (s.rd pgGIRTH GIRTH.CWIN_CUTOFF) then s
  else (s.stampCutoff trip high low).cutoffSend

/-- HOLD_LIMIT (R21): an axis in HOLD at HOLDMAX that misses again is sent with REST and enters REST; CUTOFF does the same for every
axis at once. -/
def holdLimit (s : State) (a : Nat) : State :=
  match (s.axis a).map with
  | none => s
  | some m =>
    if !s.girthServes || !s.due (s.rd pgGIRTH GIRTH.CWIN_CUTOFF) || (s.axis a).state ≠ .hold || decide ((s.axis a).holdCnt < s.holdMax m) then s
    else
      let (sent, _, s') := s.cutoffAxis a m
      if sent = .rest ∧ (s'.axis a).state = .rest then s' else s

end State
end Sys2Proof.Machine
end

