-- ==== Sys2Proof/Machine/RunCinch.lean ====
section
/-! DEFINITION. What each command does: Cinch: dispatch, deadlines, budgets and its registers. -/
namespace Sys2Proof.Machine

/-- TASK_DISPATCH (R171): Cinch dispatches a ready CYCLIC token to an available Awl by the affinity and migration passes. -/
def execTaskDispatch (bench : Fin 8) (s : State) : Out := .next (s.live (s.dispatchPasses bench.val))

/-- SERVICE_DISPATCH (R174): An idle Awl within budget takes the highest-priority queued SERVICE instance. -/
def execServiceDispatch (bench : Fin 8) (s : State) : Out := .next (s.live (s.serviceDispatch bench.val))

/-- SERVICE_RESUME (R174): A preempted SERVICE instance resumes on its own Awl when that Awl has no CYCLIC token. -/
def execServiceResume (awl : Fin 64) (s : State) : Out := .next (s.live (s.serviceResume awl.val))

/-- DEADLINE (R177): A CYCLIC token without ENDT at its deadline tick goes LATE, raising EVT[0] and setting OUTFLAGS.LATE. -/
def execDeadline (ns : Nat) (s : State) : Out := .next (s.live (s.deadline ns))

/-- SVCTRIG_WRITE (R173): A write to CINCH.SVCTRIG releases a SERVICE task or is counted in TRIGREJ. -/
def execSvctrigWrite (m : Fin 96) (task : BitVec 12) (s : State) : Out :=
  .next (s.live (s.cmdWrite m.val pgCINCH CINCH.SVCTRIG (CINCH.SVCTRIG_TASK.put task.toNat 0)))

/-- CMDTAIL_WRITE (R184): A write to CMDTAIL advances a Bench command ring or is refused. -/
def execCmdtailWrite (m : Fin 96) (bench : Fin 8) (index : BitVec 12) (s : State) : Out :=
  .next (s.live (s.cmdWrite m.val (pgCINCHB bench.val) CINCHB.CMDTAIL (CINCHB.CMDTAIL_INDEX.put index.toNat 0)))

/-- BUDGET_WRITE (R176): A write to CINCHB.BUDGETe changes an Awl's SERVICE budget at once. -/
def execBudgetWrite (m : Fin 96) (bench : Fin 8) (e : Fin 8) (v : Word) (s : State) : Out :=
  .next (s.live (s.cmdWrite m.val (pgCINCHB bench.val) (0x80 + 4 * e.val) v))

/-- STATCLR (R195): A write to CINCHB.STATCLR resets the wait, busy and completion maxima. -/
def execStatclr (m : Fin 96) (bench : Fin 8) (s : State) : Out :=
  .next (s.live (s.cmdWrite m.val (pgCINCHB bench.val) CINCHB.STATCLR (CINCHB.STATCLR_CLR.put 1 0)))

/-- BENCH_STATCLR (R234): A write to BENCH.STATCLR clears QLATMAX. -/
def execBenchStatclr (m : Fin 96) (bench : Fin 8) (s : State) : Out :=
  .next (s.live (s.cmdWrite m.val (pgBENCH bench.val) BENCH.STATCLR (BENCH.STATCLR_CLR.put 1 0)))

/-- INSTANCE_BUDGET_PASSED (R163): A task instance's execution time passes its descriptor BUDGET and is counted once in OVERBUD. -/
def execInstanceBudgetPassed (awl : Fin 64) (s : State) : Out := .next (s.live (s.budgetPassed awl.val))

end Sys2Proof.Machine
end

