-- ==== Sys2Proof/Machine/RunCommand.lean ====
section
/-! DEFINITION. What each command does: host commands of the rings, and the profile generators. -/
namespace Sys2Proof.Machine

/-- PG_ENGINE_DONE (R299): The engine writes the SP sections and posts the event that satisfies predecessor 0x8200. -/
def execPgEngineDone (ticks : Nat) (s : State) : Out := .next (s.live (s.engineDone ticks))

/-- VM_PENDING_APPLY (R318): A pending VMSET or VMVEL takes effect in the first cycle whose ideal I0 reaches TSTART. -/
def execVmPendingApply (k : Fin 4) (s : State) : Out := .next (s.live (s.vmPending k.val))

/-- START (R21): Host command START moves a STOPPED axis to STARTING or is refused. -/
def execStart (bench : Fin 8) (e : Entry) (s : State) : Out := .next (s.live (s.cmdRow bench.val { e with op := 0x01 }))

/-- STOP (R21): Host command STOP moves a RUNNING axis to STOPPING or sets RESUME in HOLD. -/
def execStop (bench : Fin 8) (e : Entry) (s : State) : Out := .next (s.live (s.cmdRow bench.val { e with op := 0x02 }))

/-- AXRESET (R21): Host command AXRESET returns a REST axis without REST cause to STOPPED. -/
def execAxreset (bench : Fin 8) (e : Entry) (s : State) : Out := .next (s.live (s.cmdRow bench.val { e with op := 0x03 }))

/-- PARWRITE (R187): Host command PARWRITE writes parameter bytes into the Axis Record. -/
def execParwrite (bench : Fin 8) (e : Entry) (s : State) : Out := .next (s.live (s.cmdRow bench.val { e with op := 0x04 }))

/-- MOVEABS (R305): Profile command MOVEABS starts a move to an absolute target. -/
def execMoveabs (bench : Fin 8) (e : Entry) (s : State) : Out := .next (s.live (s.cmdRow bench.val { e with op := 0x10 }))

/-- MOVEREL (R305): Profile command MOVEREL starts a move by a distance. -/
def execMoverel (bench : Fin 8) (e : Entry) (s : State) : Out := .next (s.live (s.cmdRow bench.val { e with op := 0x11 }))

/-- VELOCITY (R305): Profile command VELOCITY enters velocity mode. -/
def execVelocity (bench : Fin 8) (e : Entry) (s : State) : Out := .next (s.live (s.cmdRow bench.val { e with op := 0x12 }))

/-- HALT (R305): Profile command HALT brakes at A and becomes IDLE at rest. -/
def execHalt (bench : Fin 8) (e : Entry) (s : State) : Out := .next (s.live (s.cmdRow bench.val { e with op := 0x13 }))

/-- SETPOS (R305): Profile command SETPOS sets the position of a STOPPED axis. -/
def execSetpos (bench : Fin 8) (e : Entry) (s : State) : Out := .next (s.live (s.cmdRow bench.val { e with op := 0x14 }))

/-- SETLIM (R305): Profile command SETLIM sets new V and A. -/
def execSetlim (bench : Fin 8) (e : Entry) (s : State) : Out := .next (s.live (s.cmdRow bench.val { e with op := 0x15 }))

/-- SETSTOP (R305): Profile command SETSTOP sets DSTOP and optionally JN. -/
def execSetstop (bench : Fin 8) (e : Entry) (s : State) : Out := .next (s.live (s.cmdRow bench.val { e with op := 0x16 }))

/-- SETMASTER (R305): Profile command SETMASTER selects the master source. -/
def execSetmaster (bench : Fin 8) (e : Entry) (s : State) : Out := .next (s.live (s.cmdRow bench.val { e with op := 0x17 }))

/-- GEARIN (R313): Profile command GEARIN couples the follower to its master by a ratio. -/
def execGearin (bench : Fin 8) (e : Entry) (s : State) : Out := .next (s.live (s.cmdRow bench.val { e with op := 0x18 }))

/-- CAMIN (R316): Profile command CAMIN couples the follower through a cam table. -/
def execCamin (bench : Fin 8) (e : Entry) (s : State) : Out := .next (s.live (s.cmdRow bench.val { e with op := 0x19 }))

/-- PHASE (R305): Profile command PHASE shifts the follower target. -/
def execPhase (bench : Fin 8) (e : Entry) (s : State) : Out := .next (s.live (s.cmdRow bench.val { e with op := 0x1A }))

/-- GEAROUT (R305): Profile command GEAROUT leaves GEAR or CAM into HALT or VELOCITY. -/
def execGearout (bench : Fin 8) (e : Entry) (s : State) : Out := .next (s.live (s.cmdRow bench.val { e with op := 0x1B }))

/-- CAMSEL (R317): Profile command CAMSEL sets a table switch pending. -/
def execCamsel (bench : Fin 8) (e : Entry) (s : State) : Out := .next (s.live (s.cmdRow bench.val { e with op := 0x1C }))

/-- IGTGT (R309): Profile command IGTGT stores a pending member target. -/
def execIgtgt (bench : Fin 8) (e : Entry) (s : State) : Out := .next (s.live (s.cmdRow bench.val { e with op := 0x20 }))

/-- IGSTART (R309): Profile command IGSTART starts a straight-line group move. -/
def execIgstart (bench : Fin 8) (e : Entry) (s : State) : Out := .next (s.live (s.cmdRow bench.val { e with op := 0x21 }))

/-- IGHALT (R305): Profile command IGHALT halts the group along its path. -/
def execIghalt (bench : Fin 8) (e : Entry) (s : State) : Out := .next (s.live (s.cmdRow bench.val { e with op := 0x22 }))

/-- VMSET (R318): Profile command VMSET stores a pending virtual-master position. -/
def execVmset (bench : Fin 8) (k : Fin 4) (e : Entry) (s : State) : Out :=
  .next (s.live (s.cmdRow bench.val { e with op := 0x30 + k.val }))

/-- VMVEL (R318): Profile command VMVEL stores a pending virtual-master velocity. -/
def execVmvel (bench : Fin 8) (k : Fin 4) (e : Entry) (s : State) : Out :=
  .next (s.live (s.cmdRow bench.val { e with op := 0x34 + k.val }))

end Sys2Proof.Machine
end

