-- ==== Sys2Proof/Machine/RunCycle.lean ====
section
/-! DEFINITION. What each command does: the instants of the control cycle, the blocks' starts and stops, registers. -/
namespace Sys2Proof.Machine

/-- I0 (R8): At the common instant of each cycle, CYC increments, samples are taken and the outputs received or written in the previous cycle take effect. -/
def execI0 (s : State) (upset : Bool := false) (idle : BitVec 16 := 0xFFFF) : Out := .next (s.live (s.i0Row upset idle))

/-- CYCLE_ZERO (R126): A started Girth places I0 of cycle 0, enters RUNNING with CYC 0 and starts its running ports in NOSYNC. -/
def execCycleZero (s : State) (idle : BitVec 16 := 0xFFFF) : Out := .next (s.live (s.cycleZero idle))

/-- NETWORK_STOP (R131): Clearing GIRTH RUN sends every mapped axis with REST for two CUTOFFs, then stops the marks and all ports. -/
def execNetworkStop (m : Fin 96) (s : State) : Out :=
  .next (s.live (s.cmdWrite m.val pgGIRTH HDR.PCTL (HDR.PCTL_RUN.put 0 (s.reg pgGIRTH HDR.PCTL))))

/-- LOCAL_ARRIVAL (R358): At the local arrival tick the IN sections of local and ANALOG axes are written and one local arrival event is posted. -/
def execLocalArrival (s : State) : Out := .next (s.live s.localArrival)

/-- CWSTART (R11): At compute window start Cinch finishes old tokens, applies host commands, creates tokens and starts the profile generators. -/
def execCwstart (s : State) (upset : Bool := false) : Out := .next (s.live (s.cwstartRow upset))

/-- CUTOFF (R14): Girth and the local output units snapshot every OUT section and decide each axis's output and state. -/
def execCutoff (trip : BitVec 8) (high : BitVec 8) (low : BitVec 8) (s : State) : Out :=
  .next (s.live (s.cutoff trip.toNat high.toNat low.toNat))

/-- HOLD_LIMIT (R21): An axis whose HOLDCNT has reached HOLDMAX and misses again is sent with REST and enters REST. -/
def execHoldLimit (axis : Fin 256) (s : State) : Out := .next (s.live (s.holdLimit axis.val))

/-- BLOCK_START (R72): PCTL.RUN written 1 in STOPPED runs the start check and takes claims, entering STARTING or staying STOPPED. -/
def execBlockStart (m : Fin 96) (page : Fin 4096) (s : State) : Out :=
  .next (s.live (s.cmdWrite m.val page.val HDR.PCTL (HDR.PCTL_RUN.put 1 (s.reg page.val HDR.PCTL))))

/-- START_COMPLETE (R70): A block's start-up completes and it enters RUNNING. -/
def execStartComplete (page : Fin 4096) (s : State) : Out := .next (s.live (s.startCompleteRow page.val))

/-- BLOCK_STOP (R70): PCTL.RUN written 0 moves a starting or running block to STOPPING. -/
def execBlockStop (m : Fin 96) (page : Fin 4096) (s : State) : Out :=
  .next (s.live (s.cmdWrite m.val page.val HDR.PCTL (HDR.PCTL_RUN.put 0 (s.reg page.val HDR.PCTL))))

/-- STOP_COMPLETE (R70): A block's stop completes and it enters STOPPED, releasing its claims. -/
def execStopComplete (page : Fin 4096) (s : State) : Out := .next (s.live (s.stopComplete page.val))

/-- FAULT_REACTION_COMPLETE (R70): A FAULTED block with RUN 0 completes its fault reaction and enters STOPPED. -/
def execFaultReactionComplete (page : Fin 4096) (s : State) : Out := .next (s.live (s.faultReactionComplete page.val))

/-- EVTSET_WRITE (R75): Writing EVTSET sets event bits and raises the event request. -/
def execEvtsetWrite (m : Fin 96) (page : Fin 4096) (v : Word) (s : State) : Out := .next (s.live (s.cmdWrite m.val page.val HDR.EVTSET v))

/-- ECAP_CLEAR (R76): Writing all ones to ECAP0 clears the capture and re-arms it. -/
def execEcapClear (m : Fin 96) (page : Fin 4096) (s : State) : Out := .next (s.live (s.cmdWrite m.val page.val HDR.ECAP0 0xFFFFFFFF#32))

/-- COUNTER_READ (R5): Reading an RC counter returns and clears it. -/
def execCounterRead (m : Fin 96) (page : Fin 4096) (off : Fin 4096) (s : State) : Out := .next (s.live (s.cmdRead m.val page.val off.val))

/-- REGISTER_WRITE (R72): A write to a register without its own row updates RW fields, applies W1C and RWS rules. -/
def execRegisterWrite (m : Fin 96) (addr : Word) (bytes : List Byte) (s : State) : Out :=
  .next (s.live (s.busWrite m.val addr.toNat bytes))

/-- CALIBRATION_START (R81): CALCTL.START written in STOPPED runs one calibration of the shell. -/
def execCalibrationStart (m : Fin 96) (page : Fin 4096) (k : Fin 30) (s : State) : Out :=
  .next (s.live (s.cmdWrite m.val page.val (0x100 + 0x80 * k.val) (s.reg page.val (0x100 + 0x80 * k.val) ||| 1#32)))

/-- CALIBRATION_DONE (R365): A calibration run completes, updating CALRES or setting FAIL. -/
def execCalibrationDone (page : Fin 4096) (k : Fin 30) (ok : Bool) (res0 : Word) (res1 : Word) (err : BitVec 8) (s : State) : Out :=
  .next (s.live (s.calDoneRow page.val k.val ok res0 res1 err.toNat))

/-- SHELL_MONITOR_MEASURE (R81): An enabled analog shell monitor updates MONVAL and sets MONSTAT ABOVE or BELOW against MONLIM. -/
def execShellMonitorMeasure (page : Fin 4096) (k : Fin 30) (value : BitVec 16) (s : State) : Out :=
  .next (s.live (s.monMeasure page.val k.val value.toNat))

end Sys2Proof.Machine
end

