-- ==== Sys2Proof/Machine/RunDebug.lean ====
section
/-! DEFINITION. What each command does: halts, steps, breakpoints and the debug port. -/
namespace Sys2Proof.Machine

/-- HALT_REQUEST (R271): A write of DBGCTL.HALT = 1 halts the Awl at an instruction boundary. -/
def execHaltRequest (m : Fin 96) (awl : Fin 64) (s : State) : Out :=
  .next (s.live (s.cmdWrite m.val (pgAWL awl.val) AWL.DBGCTL (AWL.DBGCTL_HALT.put 1 (s.reg (pgAWL awl.val) AWL.DBGCTL))))

/-- HALT_RESUME (R271): A write of DBGCTL.HALT = 0 resumes the halted Awl. -/
def execHaltResume (m : Fin 96) (awl : Fin 64) (s : State) : Out :=
  .next (s.live (s.cmdWrite m.val (pgAWL awl.val) AWL.DBGCTL (AWL.DBGCTL_HALT.put 0 (s.reg (pgAWL awl.val) AWL.DBGCTL))))

/-- DEBUG_STEP (R272): A write of DBGCTL.STEP issues one instruction and halts again. -/
def execDebugStep (m : Fin 96) (awl : Fin 64) (s : State) : Out :=
  .next (s.live (s.cmdWrite m.val (pgAWL awl.val) AWL.DBGCTL (AWL.DBGCTL_STEP.put 1 (s.reg (pgAWL awl.val) AWL.DBGCTL))))

/-- HARDWARE_BREAKPOINT (R271): An armed breakpoint address halts the Awl before the instruction. -/
def execHardwareBreakpoint (awl : Fin 64) (s : State) : Out := .next (s.live (s.breakpoint awl.val))

/-- DBGRDATA_ACCESS (R273): A DBGRDATA access reads or writes the selected register of a halted Awl. -/
def execDbgrdataAccess (m : Fin 96) (awl : Fin 64) (write : Option Word) (s : State) : Out :=
  .next (s.live (s.dbgAccess m.val awl.val write))

/-- DEBUG_PORT_ACCESS (R536): An access by the debug port, master 92, is checked against GATE92 and performed or refused. -/
def execDebugPortAccess (addr : Word) (size : Nat) (write : Option (List Byte)) (s : State) : Out :=
  .next (s.live (s.debugPort addr.toNat size write))

end Sys2Proof.Machine
end

