-- ==== Sys2Proof/Machine/RunFeedback.lean ====
section
/-! DEFINITION. What each command does: feedback and analog channels. -/
namespace Sys2Proof.Machine

/-- QUADRATURE_STEP (R348): A filtered quadrature change counts, absorbs or is an illegal step. -/
def execQuadratureStep (n : Fin 16) (a : Bool) (b : Bool) (s : State) (k : Nat := 1) : Out := .next (s.live (s.quadPins n.val a b k))

/-- HALL_CODE_CHANGE (R349): A filtered Hall code change counts a step or is counted bad or illegal. -/
def execHallCodeChange (n : Fin 16) (code : Fin 8) (s : State) (k : Nat := 1) : Out := .next (s.live (s.hallPins n.val code.val k))

/-- INDEX_CAPTURE (R354): A rising index captures the counter into ZCAP. -/
def execIndexCapture (n : Fin 16) (s : State) (z : Bool := true) (k : Nat := 1) : Out := .next (s.live (s.indexPin n.val z k))

/-- ILLEGAL_STEP_FAULT (R351): Illegal steps in the window reaching ILLMAX fault the channel. -/
def execIllegalStepFault (n : Fin 16) (s : State) : Out := .next (s.live (s.illFault n.val))

/-- SERIAL_TRANSFER_DONE (R356): A serial transfer is checked and updates the counter or counts a failure. -/
def execSerialTransferDone (n : Fin 16) (idle : Bool) (bits : BitVec 64) (s : State) : Out :=
  .next (s.live (s.serDone n.val idle bits.toNat))

/-- SERIAL_FAULT (R356): SERMAX consecutive failed transfers raise 0x6102 and fault the channel. -/
def execSerialFault (n : Fin 16) (s : State) : Out := .next (s.live (s.serFault n.val))

/-- CONVERSION_DONE (R362): An analog conversion completes and its sample word is formed. -/
def execConversionDone (n : Fin 16) (raw : BitVec 12) (s : State) : Out := .next (s.live (s.conversionDone n.val raw))

/-- CONTINUOUS_SLOT (R363): A continuous-conversion slot starts a conversion or is skipped. -/
def execContinuousSlot (n : Fin 16) (s : State) : Out := .next (s.live (s.contSlot n.val))

/-- AUXILIARY_CONVERSION (R363): An auxiliary compare activation starts a conversion or is dropped. -/
def execAuxiliaryConversion (n : Fin 16) (s : State) : Out := .next (s.live (s.auxConversion n.val))

/-- OUTVAL_WRITE (R364): A write to OUTVAL drives a FREE output channel within 64 ticks. -/
def execOutvalWrite (m : Fin 96) (n : Fin 16) (v : Word) (s : State) : Out :=
  .next (s.live (s.cmdWrite m.val (pgAXCH n.val) AXCH.OUTVAL v))

/-- MONITOR_CONVERSION (R366): A monitor channel is converted every 100 µs and checked against its limits. -/
def execMonitorConversion (k : Fin 8) (value : BitVec 16) (s : State) : Out := .next (s.live (s.monitorConv k.val value.toNat))

end Sys2Proof.Machine
end

