-- ==== Sys2Proof/Machine/Dma.lean ====
section
/-! DEFINITION. The DMA channels at work (R462–R467): buffers, descriptors served, mailbox traffic (R101, R120) and plant traffic (R150,
R151). -/
namespace Sys2Proof.Machine
namespace State

/-! ### Buffers -/

/-- Read a fabric buffer, one 8-byte word at a time (R468); the bytes read. -/
def bufRead (s : State) (k a n : Nat) : Moved × List Byte × State :=
  (wordsOf a n).foldl (fun (r : Moved × List Byte × State) w =>
    if r.1 ≠ .ok then r else
    let lo := max a w
    let len := min (a + n) (w + 8) - lo
    match r.2.2.gateKind (mDma k) lo len false with
    | some kind => (.gate lo 0 kind, r.2.1, r.2.2)
    | none =>
      let (b, s) := r.2.2.fabRead (mDma k) lo len
      match b with
      | some b => (.ok, r.2.1 ++ b, s)
      | none => (.bus, r.2.1, s)) (.ok, [], s)

/-- Write a fabric buffer, one 8-byte word at a time (R468); the bytes written. -/
def bufWrite (s : State) (k a : Nat) (bs : List Byte) : Moved × Nat × State :=
  (wordParts a bs).foldl (fun (r : Moved × Nat × State) e =>
    if r.1 ≠ .ok then r else
    match r.2.2.gateKind (mDma k) e.1 e.2.length true with
    | some kind => (.gate e.1 (accKind e.1 e.2.length true) kind, r.2.1, r.2.2)
    | none =>
      let (ok, s) := r.2.2.fabStore (mDma k) e.1 e.2
      if ok then (.ok, r.2.1 + e.2.length, s) else (.bus, r.2.1, s)) (.ok, 0, s)

/-! ### Serving a descriptor (R462–R466) -/

/-- The status with which the descriptor of a channel is refused before any byte moves (R464, R466), if any. -/
def descBad (kind : Nat) (d : Desc) : Option Nat :=
  let lenOk : Bool := match kind with
    | 0 => 8 ≤ d.len && d.len ≤ 65528 && d.len % 8 == 0
    | 3 => 14 ≤ d.len && d.len ≤ 1518
    | 4 => 64 ≤ d.len && d.len ≤ 65528 && d.len % 8 == 0
    | _ => 4 ≤ d.len && d.len ≤ 1024
  let portOk : Bool := if kind = 1 ∨ kind = 2 then decide (d.port ≤ 31) else d.port == 0
  if !bitOf d.ctl 0 then some 3
  else if !lenOk then some 2
  else if bitsOf d.ctl 7 6 ≠ 0 || d.rsvd ≠ 0 || d.rsvd2 ≠ 0 || !portOk || (bitOf d.ctl 2 && kind ≠ 3) || (bitOf d.ctl 5 && kind ≠ 0)
      || (kind == 0 && (d.buf % 8 ≠ 0 || d.tstamp % 8 ≠ 0)) then some 3
  else none

/-- The channel fetches descriptors: RUNNING, and the function is not in D3hot (R458). -/
def dmaFetches (s : State) (k : Nat) : Bool := s.running (pgDMA k) && !s.on pgHOST HOST.LINKSTAT_D3

/-- The valid descriptor at HEAD; invalid ones before it are written back (R462, R464).  None where the ring is empty. -/
def nextDesc (s : State) (k : Nat) : Nat → Option (List Byte × Desc) × State
  | 0 => (none, s)
  | fuel + 1 =>
    if !s.dmaFetches k || s.ringEmpty k then (none, s)
    else
      let (b, ok, s) := s.descRead k (s.dmaHead k)
      let d := Desc.of b
      if !ok then (s.busError k b 0).nextDesc k fuel
      else match descBad (s.dmaKind k) d with
        | some st => (s.finish k b st).nextDesc k fuel
        | none => (some (b, d), s)

/-- The result of reading a descriptor's source: fabric, or what PCIe returned (none: an error completion). -/
def sourceRead (s : State) (k : Nat) (d : Desc) (pcie : Option (List Byte)) : Moved × List Byte × State :=
  if bitOf d.ctl 4 then s.bufRead k d.buf d.len
  else match pcie with
    | some b => if d.len ≤ b.length then (.ok, b.take d.len, s) else (.bus, [], s.bump pgHOST HOST.CPLERR)
    | none => (.bus, [], s.bump pgHOST HOST.CPLERR)

/-- React to an access that failed at the descriptor at HEAD. -/
def dmaFail (s : State) (k : Nat) (b : List Byte) (moved : Nat) : Moved → State
  | .gate addr acc kind => s.dmaFreeze k b moved addr acc kind
  | _ => s.busError k b moved

/-- KIND 0: copy. -/
def serveCopy (s : State) (k : Nat) (b : List Byte) (d : Desc) (pcie : Option (List Byte)) : State :=
  let (r, bytes, s) := s.sourceRead k d pcie
  let (w, n, s) := if bitOf d.ctl 5 then s.bufWrite k d.tstamp bytes
    else (Moved.ok, bytes.length, if bytes.isEmpty then s else s.emit (.pcieWrite k d.tstamp bytes))
  if w ≠ .ok then s.dmaFail k b n w
  else if r ≠ .ok then s.dmaFail k b n r
  else (s.writeBack k (s.dmaHead k) b 1 n d.port none (s.cyc % 2 ^ 32)).headNext k

/-- The wire length of a mailbox frame on a port, in ticks (R90, R101). -/
def mailboxTicks (s : State) (p len : Nat) : Nat := max 72 (42 + len) * s.byteTicks p

/-- KIND 1 at HEAD (R101, R464, R467): refused, or its payload is read and offered to Girth. -/
def serveMailbox (s : State) (k : Nat) (b : List Byte) (d : Desc) (pcie : Option (List Byte)) : State :=
  let g := pgNPORT d.port
  if s.rd g NPORT.ACYWIN_END - s.rd g NPORT.ACYWIN_START < s.mailboxTicks d.port d.len && s.pageOn g then
    (s.bumpE g NPORT.MBXDROP 4).finish k b 4
  else if s.portSt d.port ≠ 4 || !s.girthServes then s.finish k b 4
  else
    let (r, bytes, s) := s.sourceRead k d pcie
    if r ≠ .ok then s.dmaFail k b 0 r
    else s.setDma k { offer := some (d.port, bytes) }

/-- The stamp of a plant frame: T64 of the TCLK edge, and its position in bit times (R150). -/
def plantStamp (s : State) (bit : Nat) : BitVec 64 := s.t64 + BitVec.ofNat 64 (bit * 64 / 5)

/-- KIND 3 at HEAD (R150, R151, R467): the MAC pads to 60 bytes and adds the FCS. -/
def servePlant (s : State) (k : Nat) (b : List Byte) (d : Desc) (pcie : Option (List Byte)) (bit : Nat) : State :=
  let x := s.rd (pgDMA k) DMA.CFG_PLNT
  let g := pgPLNT x
  let ask := bitOf d.ctl 2
  if !(s.running g && s.on g PLNT.MACSTAT_LINK) then
    s.finish k b 4
  else
    let (r, bytes, s) := s.sourceRead k d pcie
    if r ≠ .ok then s.dmaFail k b 0 r
    else
      let body := bytes ++ List.replicate (60 - bytes.length) 0
      let s := (s.emit (.plant x (body ++ leBytes 4 (crc32 body).toNat))).bump g PLNT.TXOK
      let ts := s.plantStamp bit + BitVec.ofNat 64 (s.rd g PLNT.TSCFG_TXLAT)
      (s.writeBack k (s.dmaHead k) b 1 d.len d.port (if ask then some ts else none) (s.cyc % 2 ^ 32)).headNext k

/-- The channel serves the descriptor at HEAD (R462); a mailbox transmit waits while its frame is offered, and a receive kind waits for
a frame. -/
def dmaDescriptor (s : State) (k : Nat) (pcie : Option (List Byte)) (bit : Nat) : State :=
  if (s.dma k).offer.isSome || !s.dmaFetches k || s.ringEmpty k then s
  else
    let (b, ok, s) := s.descRead k (s.dmaHead k)
    let d := Desc.of b
    if !ok then s.busError k b 0
    else match descBad (s.dmaKind k) d with
      | some st => s.finish k b st
      | none => match s.dmaKind k with
        | 0 => s.serveCopy k b d pcie
        | 1 => s.serveMailbox k b d pcie
        | 3 => s.servePlant k b d pcie bit
        | _ => s

/-! ### Frames received (R101, R151, R467) -/

/-- Write a received payload into the buffer of the descriptor at HEAD and write it back; false where it did not fit or no descriptor
is free. -/
def receiveInto (s : State) (k : Nat) (payload : List Byte) (port : Nat) (ts : BitVec 64) (cyc : Nat) : Bool × State :=
  let (r, s) := s.nextDesc k (s.ringLen k)
  match r with
  | none => (false, s)
  | some (b, d) =>
    if d.len < payload.length then (false, s)
    else
      let (w, n, s) := if bitOf d.ctl 4 then s.bufWrite k d.buf payload
        else (Moved.ok, payload.length, s.emit (.pcieWrite k d.buf payload))
      if w ≠ .ok then (true, s.dmaFail k b n w)
      else (true, (s.writeBack k (s.dmaHead k) b 1 n port (some ts) cyc).headNext k)

/-- The channel a received mailbox frame of a port goes to (R467). -/
def mailboxChannel (s : State) (p : Nat) : Option Nat :=
  (List.range 8).find? fun k => s.running (pgDMA k) && s.dmaKind k == 2 && bitOf (s.rd (pgDMA k) DMA.PORTS_MASK) p

/-- A MAILBOX that passed R116 and R103 (R101, R467); it counts as delivered also where the write of its payload into the descriptor's
buffer fails (notes/assumptions/118.md). -/
def mailboxGood (s : State) (p : Nat) (f : RxFrame) : State :=
  let g := pgNPORT p
  let drop (s : State) : State := s.bumpE g NPORT.MBXDROP 4
  if (s.port p).mbxRx then drop s
  else
    let s := s.modPort p fun q => { q with mbxRx := true }
    match s.mailboxChannel p with
    | none => drop s
    | some k =>
      let (ok, s) := s.receiveInto k (f.frame.payload.take f.frame.len) p (s.frameStart p f) f.frame.cyc.toNat
      if ok then s.bumpE g NPORT.MBXRECV 4 else (drop s).bumpE (pgDMA k) DMA.RXDROP 2

/-- The row MAILBOX_RECEIVE. -/
def mailboxReceive (s : State) (p : Nat) (f : RxFrame) : State :=
  if f.frame.cls = 4 then s.receive p f fun s => s.mailboxGood p f else s

/-- A queued mailbox frame of a port is sent in the rest of its acyclic window, if it fits (R101, R120). -/
def mailboxSend (s : State) (p t : Nat) : State :=
  if s.portSt p ≠ 4 || s.silent then s
  else match (List.range 8).find? fun k => s.running (pgDMA k) && (match (s.dma k).offer with | some o => o.1 == p | none => false) with
    | none => s
    | some k => match (s.dma k).offer with
      | none => s
      | some (_, bytes) =>
        if t + s.mailboxTicks p bytes.length ≤ s.rd (pgNPORT p) NPORT.ACYWIN_END then
          let f := s.downFrame p 4 0 (s.portInvalid p) bytes
          let s := (s.sendPort p f).bumpE (pgNPORT p) NPORT.MBXSENT 4
          let s := s.setDma k {}
          let (b, _, s) := s.descRead k (s.dmaHead k)
          (s.writeBack k (s.dmaHead k) b 1 bytes.length p (some (s.sendStamp p t)) f.cyc.toNat).headNext k
        else s

/-- ACYCLIC_WINDOW of a port (R120): nothing before the tick ACYSTART (R144). -/
def acyclicWindow (s : State) (p : Nat) : State :=
  if !s.girthServes || s.portSt p == 0 || !s.due (s.rd (pgNPORT p) NPORT.ACYWIN_START) then s
  else
    let (t, s) := s.acyclicHead p
    s.mailboxSend p t

/-- The destination filter of a plant port (R476). -/
def plantAccepts (s : State) (x : Nat) (bytes : List Byte) : Bool :=
  let g := pgPLNT x
  let mac := leBytes 4 (s.rd g PLNT.MACLO_ADDR) ++ leBytes 2 (s.rd g PLNT.MACHI_ADDR)
  let dst := slice bytes 0 6
  s.on g PLNT.MACCFG_PROMISC || dst == mac || (s.on g PLNT.MACCFG_BCAST && dst == List.replicate 6 0xFF)

/-- A plant port has received a frame without its FCS, its stamp point in bit times after the TCLK edge (R150, R151, R467). -/
def plantReceive (s : State) (x : Nat) (bytes : List Byte) (fcsOk : Bool) (bit : Nat) : State :=
  let g := pgPLNT x
  if !(s.running g && s.on g PLNT.MACSTAT_LINK) then s
  else if !fcsOk then s.bump g PLNT.RXFCS
  else if beToNat (slice bytes 12 2) = 0x8808 then s.bump g PLNT.RXDROP
  else if !s.plantAccepts x bytes then s
  else
    let s := s.bump g PLNT.RXOK
    match (List.range 8).find? fun k => s.running (pgDMA k) && s.dmaKind k == 4 && s.rd (pgDMA k) DMA.CFG_PLNT == x with
    | none => s.bump g PLNT.RXDROP
    | some k =>
      let ts := s.plantStamp bit - BitVec.ofNat 64 (s.rd g PLNT.TSCFG_RXLAT)
      let (ok, s) := s.receiveInto k bytes 0 ts (s.cyc % 2 ^ 32)
      if ok then s else (s.bump g PLNT.RXDROP).bumpE (pgDMA k) DMA.RXDROP 2

end State
end Sys2Proof.Machine
end

