-- ==== Sys2Proof/Machine/RunHost.lean ====
section
/-! DEFINITION. What each command does: the host interface, DMA, plant ports and gates. -/
namespace Sys2Proof.Machine

/-- PCIE_REFCLK_LOSS (R47): The PCIe reference is absent, raising 0x0303. -/
def execPcieRefclkLoss (s : State) : Out := .next (s.live s.refclkLoss)

/-- HOST_BAR2_ACCESS (R458): A host memory TLP to BAR2 is performed on the fabric through the host gate. -/
def execHostBar2Access (addr : Word) (size : Nat) (write : Option (List (Option Byte))) (s : State) : Out :=
  .next (s.live (s.bar2Access addr.toNat size write))

/-- PLANT_FRAME_RECEIVE (R150): A plant-port frame is stamped and written to a receive descriptor or dropped. -/
def execPlantFrameReceive (x : Fin 2) (bytes : List Byte) (fcsOk : Bool) (startBit : Nat) (s : State) : Out :=
  .next (s.live (s.plantReceive x.val bytes fcsOk startBit))

/-- HOST_RESET (R459): A host-side reset resets the PCIe core, HOST and MSIX pages and aborts DMA. -/
def execHostReset (kind : Fin 4) (s : State) : Out := .next (s.live (s.hostReset kind))

/-- REARM_WRITE (R461): Writing MSIX.REARM re-arms vectors and resends if requests are active. -/
def execRearmWrite (m : Fin 96) (half : Fin 2) (v : Word) (s : State) : Out :=
  .next (s.live (s.cmdWrite m.val pgMSIX (MSIX.REARM0 + 4 * half.val) v))

/-- TAIL_WRITE (R462): A write to DMA TAIL hands descriptors to the channel or is refused. -/
def execTailWrite (m : Fin 96) (k : Fin 8) (index : BitVec 12) (s : State) : Out :=
  .next (s.live (s.cmdWrite m.val (pgDMA k.val) DMA.TAIL (DMA.TAIL_INDEX.put index.toNat 0)))

/-- DMA_DESCRIPTOR (R464): A DMA channel serves the descriptor at HEAD and writes it back with a status. -/
def execDmaDescriptor (k : Fin 8) (pcie : Option (List Byte)) (startBit : Nat) (s : State) : Out :=
  .next (s.live (s.dmaDescriptor k.val pcie startBit))

/-- GATE_RELEASE (R470): Writing 1 to GATE STAT.FROZEN releases a frozen master to STOPPED, or is refused. -/
def execGateRelease (m : Fin 96) (gate : Fin 96) (s : State) : Out :=
  .next (s.live (s.cmdWrite m.val (pgGATE gate.val) GATE.STAT (GATE.STAT_FROZEN.put 1 0)))

/-- WINDOW_WRITE (R471): A write to a gate window register changes the master's window or is refused. -/
def execWindowWrite (m : Fin 96) (gate : Fin 96) (k : Fin 8) (ctl : Bool) (v : Word) (s : State) : Out :=
  .next (s.live (s.cmdWrite m.val (pgGATE gate.val) (if ctl then GATE.WCTL k.val else GATE.WBASE k.val) v))

/-- PCIE_REFCLK_RETURN (R47): The PCIe reference clock returns, PLLSTAT.PCIEREF reads 1 and the host interface can run again. -/
def execPcieRefclkReturn (s : State) : Out := .next (s.live s.refclkReturn)

/-- PCIE_LINK_UP (R473): The PCIe link trains and enters L0, setting LINKSTAT.UP and making PD_HOST unswitchable under R50. -/
def execPcieLinkUp (gen : Nat) (width : Nat) (s : State) : Out := .next (s.live (s.linkUp gen width))

/-- PCIE_POWER_STATE_CHANGE (R458): A configuration write moves the function between D0 and D3hot, stopping or resuming DMA descriptor fetches. -/
def execPciePowerStateChange (d3 : Bool) (s : State) : Out := .next (s.live (s.powerState d3))

/-- PLANT_LINK_CHANGE (R476): A plant port's link goes up or down, changing MACSTAT.LINK and whether transmit descriptors are sent or written back NOTSENT. -/
def execPlantLinkChange (x : Fin 2) (up : Bool) (s : State) : Out := .next (s.live (s.plantLink x.val up))

end Sys2Proof.Machine
end

