-- ==== Sys2Proof/Machine/RunLink.lean ====
section
/-! DEFINITION. What each command does: the Glifen link: ports, frames and windows. -/
namespace Sys2Proof.Machine

/-- CYCLE_MARK_SEND (R87): Girth sends the /M/ cycle mark on a port MT ticks before the next I0. -/
def execCycleMarkSend (n : Fin 32) (s : State) : Out := .next (s.live (s.markSend n.val))

/-- CYCLE_UP (R103): A received uplink frame is judged against its window and checked, and its axis blocks are delivered, discarded STALE or left MISSING. -/
def execCycleUp (n : Fin 32) (f : RxFrame) (s : State) : Out := .next (s.live (s.cycleUp n.val f))

/-- ARRIVAL_TIMEOUT (R118): At UPCLOSE + GUARD + 24 of a port without a delivered frame, expected blocks are counted MISSING and the arrival event is posted. -/
def execArrivalTimeout (n : Fin 32) (s : State) : Out := .next (s.live (s.arrivalTimeout n.val))

/-- WINDOW_TRUNCATION (R117): At tick W1 a frame still arriving is closed with /V/, discarded and counted TRUNC as a violation. -/
def execWindowTruncation (n : Fin 32) (f : RxFrame) (s : State) : Out := .next (s.live (s.windowTruncation n.val f))

/-- FORBIDDEN_ORDERED_SET (R88): A K28.1 or a Girth-reserved class received from a node is discarded, sets BABMARK and counts one violation. -/
def execForbiddenOrderedSet (n : Fin 32) (what : Forbidden) (s : State) : Out := .next (s.live (s.forbidden n.val what))

/-- PORT_BLOCK (R123): When the violations in a port's history reach BABN the port is blocked and its axes go to REST. -/
def execPortBlock (n : Fin 32) (s : State) : Out := .next (s.live (s.blockIfDue n.val))

/-- BLOCKED_WRITE (R124): A host write of 1 to SCHSTAT.BLOCKED requests re-enable of the port at the next I0. -/
def execBlockedWrite (m : Fin 96) (n : Fin 32) (s : State) : Out :=
  .next (s.live (s.cmdWrite m.val (pgNPORT n.val) NPORT.SCHSTAT (NPORT.SCHSTAT_BLOCKED.put 1 0)))

/-- PORT_SYNC_GAIN (R86): A lane gains Clause 36 sync and its port advances from NOSYNC. -/
def execPortSyncGain (n : Fin 32) (s : State) : Out := .next (s.live (s.syncGain n.val))

/-- PORT_SYNC_LOSS (R86): A lane loses sync: SYNCLOSS set, fault 0x2101, blocks counted MISSING and the port returns to NOSYNC. -/
def execPortSyncLoss (n : Fin 32) (s : State) : Out := .next (s.live (s.syncLoss n.val))

/-- JOIN (R127): A JOIN frame on a spare port is checked and its RESULT decided for the GRANT of the next cycle. -/
def execJoin (n : Fin 32) (f : RxFrame) (s : State) : Out := .next (s.live (s.join n.val f))

/-- DELAY_RESP (R100): A DELAY-RESP is matched to its request and yields a new link delay if valid. -/
def execDelayResp (n : Fin 32) (f : RxFrame) (s : State) : Out := .next (s.live (s.delayResp n.val f))

/-- MAILBOX_RECEIVE (R101): A MAILBOX frame from a node is accepted or dropped and counted. -/
def execMailboxReceive (n : Fin 32) (f : RxFrame) (s : State) : Out := .next (s.live (s.mailboxReceive n.val f))

/-- DOWNLINK_SEND (R98): At DLSTART Girth sends each port's CYCLE-DOWN with safety word and axis blocks. -/
def execDownlinkSend (n : Fin 32) (s : State) (upset : Bool := false) : Out := .next (s.live (s.downlinkRow n.val upset))

/-- ACYCLIC_WINDOW (R120): At ACYSTART Girth sends at most one COLDSTART, DELAY-REQ, GRANT and MAILBOX per port in order. -/
def execAcyclicWindow (n : Fin 32) (s : State) : Out := .next (s.live (s.acyclicWindow n.val))

/-- RELAY_SEND (R121): At RLYSTART Girth sends the RELAY frame filled from the named source blocks. -/
def execRelaySend (n : Fin 32) (s : State) : Out := .next (s.live (s.relaySend n.val))

/-- CODE_GROUP_ERROR (R112): A node port receives a code-group or disparity error, or a /C/, outside a frame and counts it in CGERR. -/
def execCodeGroupError (n : Fin 32) (s : State) : Out := .next (s.live (s.codeGroupError n.val))

end Sys2Proof.Machine
end

