-- ==== Sys2Proof/Machine/RunSafety.lean ====
section
/-! DEFINITION. What each command does: Buckle and the field die. -/
namespace Sys2Proof.Machine

/-- EVALUATION (R422): Buckle evaluates every safety function and forms the STO word every 125 µs. -/
def execEvaluation (s : State) (upset : Bool := false) : Out := .next (s.live (s.evaluation upset))

/-- DISCREPANCY_LOCK (R422): A discrepancy count reaching DISC locks the function. -/
def execDiscrepancyLock (n : Fin 16) (s : State) : Out := .next (s.live (s.discrepancyLock n.val))

/-- TWO_HAND_TIMEOUT (R423): A two-hand count reaching 4,000 without the other hand gives RELEASE. -/
def execTwoHandTimeout (n : Fin 16) (s : State) : Out := .next (s.live (s.twoHandTimeout n.val))

/-- RESET_STUCK (R424): A reset input active for 24,001 evaluations raises 0x8103. -/
def execResetStuck (n : Fin 16) (s : State) : Out := .next (s.live (s.resetStuckRow n.val))

/-- SELF_TEST (R417): The self-test vector set runs every 128 evaluations. -/
def execSelfTest (pass : Bool) (s : State) : Out := .next (s.live (s.selfTest pass))

/-- CONFIG_CRC_PASS (R417): The running safety configuration CRC is recomputed every 1,024 evaluations. -/
def execConfigCrcPass (s : State) : Out := .next (s.live s.crcPass)

/-- INPUT_TEST_PULSE (R428): A test source is pulsed off and its input must read safe. -/
def execInputTestPulse (sf : Fin 16) (ch2 : Bool) (s : State) : Out := .next (s.live (s.inputPulse sf.val ch2))

/-- OUTPUT_TEST_PULSE (R429): A safety output is switched off for 2 evaluations every OTPER. -/
def execOutputTestPulse (n : Fin 16) (s : State) : Out := .next (s.live (s.outputPulse n.val))

/-- MANAGEMENT_FRAME (R440): A management frame crosses the barrier every 10 µs in each direction. -/
def execManagementFrame (result : Fin 3) (s : State) (crossed : Bool := true) : Out := .next (s.live (s.manageFrame result crossed))

/-- FIELD_LINK_LOSS (R440): 16 missing management frames lose the link, faulting FLD with 0x9001. -/
def execFieldLinkLoss (s : State) : Out := .next (s.live s.fieldLinkLoss)

/-- INPUT_SAMPLE (R443): A field input is sampled and classed OFF, ON, BREAK or TRANS. -/
def execInputSample (n : Fin 32) (microamp : Nat) (millivolt : Nat) (s : State) : Out :=
  .next (s.live (s.inputSample n.val microamp millivolt))

/-- OUTPUT_REFRESH (R440): An output coupler carries a refresh of its commanded level. -/
def execOutputRefresh (n : Fin 16) (crossed : Bool) (s : State) : Out := .next (s.live (s.outputRefresh n.val crossed))

/-- READBACK (R446): The field die reads back each output every 10 µs and judges EXTHIGH. -/
def execReadback (above : BitVec 16) (below : BitVec 16) (s : State) : Out := .next (s.readback above.toNat below.toNat)

/-- THERMAL_SHUTDOWN (R446): A shorted output's thermal shutdown turns it off, raising 0x9201. -/
def execThermalShutdown (n : Fin 16) (s : State) : Out := .next (s.thermalShutdown n.val)

/-- RETRY (R446): After 100 ms a shut-down channel still commanded on is switched on again. -/
def execRetry (n : Fin 16) (s : State) : Out := .next (s.retry n.val)

/-- OPEN_LOAD (R446): Current below 2 mA for 10 ms sets OPENLD and raises 0x9203. -/
def execOpenLoad (n : Fin 16) (low : Bool) (s : State) : Out := .next (s.openLoad n.val low)

/-- SAFE_STATE_TIMEOUT (R448): No refresh or management frame for TSAFE ms puts a channel in its safe state. -/
def execSafeStateTimeout (n : Fin 16) (s : State) : Out := .next (s.safeTimeout n.val)

/-- SAFEACT_RELEASE (R449): A host write of 1 to SAFEACT releases a channel from its safe state, or is refused. -/
def execSafeactRelease (m : Fin 96) (mask : BitVec 16) (s : State) : Out :=
  .next (s.live (s.cmdWrite m.val pgFLDDO FLDDO.SAFEACT (FLDDO.SAFEACT_SAFE.put mask.toNat 0)))

/-- VFLD_MEASURE (R450): The field die measures VFLD and temperature and switches outputs off on undervoltage or overtemperature. -/
def execVfldMeasure (millivolt : Nat) (kelvin : Nat) (s : State) : Out := .next (s.vfldMeasure millivolt kelvin)

end Sys2Proof.Machine
end

