-- ==== Sys2Proof/Machine/RunStamp.lean ====
section
/-! DEFINITION. What each command does: Stamp. -/
namespace Sys2Proof.Machine

/-- ARM (R404): Stamp CTL.ARM starts an acquisition in QWAIT. -/
def execArm (m : Fin 96) (n : Fin 16) (s : State) : Out :=
  .next (s.live (s.cmdWrite m.val (pgSTAMP n.val) STAMP.CTL (STAMP.CTL_ARM.put 1 0)))

/-- FORCE (R404): Stamp CTL.FORCE sets a pending FORCE trigger. -/
def execForce (m : Fin 96) (n : Fin 16) (s : State) : Out :=
  .next (s.live (s.cmdWrite m.val (pgSTAMP n.val) STAMP.CTL (STAMP.CTL_FORCE.put 1 0)))

/-- ABORT (R404): Stamp CTL.ABORT releases the slot in progress and enters IDLE. -/
def execAbort (m : Fin 96) (n : Fin 16) (s : State) : Out :=
  .next (s.live (s.cmdWrite m.val (pgSTAMP n.val) STAMP.CTL (STAMP.CTL_ABORT.put 1 0)))

/-- RELEASE (R402): Writing RELEASE frees the oldest held Stamp slots. -/
def execRelease (m : Fin 96) (n : Fin 16) (count : BitVec 16) (s : State) : Out :=
  .next (s.live (s.cmdWrite m.val (pgSTAMP n.val) STAMP.RELEASE (STAMP.RELEASE_COUNT.put count.toNat 0)))

/-- QUOTA_WRITE (R402): Writing QUOTA changes the Stamp byte quota at once. -/
def execQuotaWrite (m : Fin 96) (n : Fin 16) (v : Word) (s : State) : Out :=
  .next (s.live (s.cmdWrite m.val (pgSTAMP n.val) STAMP.QUOTA v))

end Sys2Proof.Machine
end

