-- ==== Sys2Proof/Machine/RunStitch.lean ====
section
/-! DEFINITION. What each command does: Stitch. -/
namespace Sys2Proof.Machine

/-- PERIOD_START (R332): A Stitch period begins, taking its length and initial leg states. -/
def execPeriodStart (n : Fin 8) (s : State) : Out := .next (s.live (s.periodStart n.val))

/-- COMPARE_MATCH (R333): The period time reaches a compare value and the leg signal changes. -/
def execCompareMatch (n : Fin 8) (ns : Nat) (s : State) : Out := .next (s.live (s.compareMatch n.val ns))

/-- DEAD_TIME_END (R331): A switch turns on after DT of steady leg signal. -/
def execDeadTimeEnd (n : Fin 8) (leg : Fin 3) (s : State) : Out := .next (s.live (s.deadTimeEnd n.val leg.val))

/-- AUX_CHANNEL_ACTIVATE (R341): An auxiliary compare channel becomes active or inactive. -/
def execAuxChannelActivate (n : Fin 8) (k : Fin 4) (ns : Nat) (s : State) : Out := .next (s.live (s.auxChannel n.val k.val ns))

/-- TRIP_INPUT (R335): A selected unblanked filtered trip input sets the latch and turns all switches off. -/
def execTripInput (n : Fin 8) (levels : BitVec 8) (s : State) (k : Nat := 1) : Out := .next (s.live (s.tripInput n.val levels.toNat k))

/-- BLANK_WINDOW_END (R336): At the end of blanking a still-active trip sets the latch. -/
def execBlankWindowEnd (n : Fin 8) (s : State) : Out := .next (s.live (s.blankEnd n.val))

/-- TRIP_CLEAR (R337): Writing TRIPSTAT.LATCH = 1 clears the trip latch or is refused. -/
def execTripClear (m : Fin 96) (n : Fin 8) (s : State) : Out :=
  .next (s.live (s.cmdWrite m.val (pgSTITCH n.val) STITCH.TRIPSTAT (STITCH.TRIPSTAT_LATCH.put 1 0)))

/-- PERIOD_WRITE (R332): A write to PERIOD takes effect at the next period start. -/
def execPeriodWrite (m : Fin 96) (n : Fin 8) (v : Word) (s : State) : Out :=
  .next (s.live (s.cmdWrite m.val (pgSTITCH n.val) STITCH.PERIOD v))

/-- COMPARE_WRITE (R333): A write to LEGx changes RISE and FALL for later compares. -/
def execCompareWrite (m : Fin 96) (n : Fin 8) (leg : Fin 3) (v : Word) (s : State) : Out :=
  .next (s.live (s.cmdWrite m.val (pgSTITCH n.val) (STITCH.LEGA + 4 * leg.val) v))

/-- LEGOFF_WRITE (R333): A write to LEGOFF forces legs off from that tick. -/
def execLegoffWrite (m : Fin 96) (n : Fin 8) (v : Word) (s : State) : Out :=
  .next (s.live (s.cmdWrite m.val (pgSTITCH n.val) STITCH.LEGOFF v))

/-- HALT_N_RISE (R340): HALT_N returning high unfreezes Stitch at the next period start. -/
def execHaltNRise (s : State) : Out := .next (s.live s.haltRise)

end Sys2Proof.Machine
end

