-- ==== Sys2Proof/Machine/RunSystem.lean ====
section
/-! DEFINITION. What each command does: power, clocks, ECC, boot, tack switches and supervision. -/
namespace Sys2Proof.Machine

/-- PWR_TARGET_WRITE (R50): A write to PWR.TARGET is checked whole and either refused or starts switching domains. -/
def execPwrTargetWrite (m : Fin 96) (v : Word) (s : State) : Out := .next (s.live (s.cmdWrite m.val pgPWR PWR.TARGET v))

/-- POWER_STEP_DONE (R49): One domain finishes switching on, with memory zeroed, or off, and the next step begins. -/
def execPowerStepDone (s : State) : Out := .next (s.live s.powerStep)

/-- CLOCK_MONITOR_MEASURE (R45): A watch-oscillator measurement of TCLK completes and may raise 0x0302. -/
def execClockMonitorMeasure (count : BitVec 16) (s : State) : Out := .next (s.live (s.clockMeasure count.toNat))

/-- PLL_LOSS_OF_LOCK (R46): The root PLL loses lock, raising 0x0301. -/
def execPllLossOfLock (s : State) : Out := .next (s.live s.pllLoss)

/-- PLL_RELOCK (R46): The root PLL regains lock and LOCK returns to 1. -/
def execPllRelock (s : State) : Out := .next (s.live s.pllRelock)

/-- SCRUB_SLOT (R41): The scrubber reads, corrects and writes back one word. -/
def execScrubSlot (s : State) : Out := .next (s.live s.scrubSlot)

/-- ERROR_INJECT_ARM (R64): A write to ECC.INJCTL arms or disarms error injection on a word. -/
def execErrorInjectArm (m : Fin 96) (v : Word) (s : State) : Out := .next (s.live (s.cmdWrite m.val pgECC ECC.INJCTL v))

/-- POR_N_FALL (R479): POR_N low resets the whole controller die. -/
def execPorNFall (s : State) : Out := .next s.porFall

/-- POWER_ON_RESET (R480): POR_N rising latches the straps and starts the boot loader. -/
def execPowerOnReset (refmode : Bool) (bootsrc : Bool) (pairid : Fin 8) (tacksel : Fin 4) (s : State) : Out :=
  .next (s.powerOnReset refmode bootsrc pairid.val tacksel.val)

/-- BOOT_COMPLETE (R485): The loader finishes an image, verifies it or fails over, and on success starts TACK. -/
def execBootComplete (image : List Byte) (unreadable : Option Nat) (s : State) : Out := .next (s.live (s.bootComplete image unreadable))

/-- HOST_LOAD_GO (R487): Writing HLCTL.GO starts installation of a host-loaded image. -/
def execHostLoadGo (m : Fin 96) (s : State) : Out := .next (s.live (s.cmdWrite m.val pgBOOT BOOT.HLCTL (BOOT.HLCTL_GO.put 1 0)))

/-- OTP_PROGRAM (R482): Writing OTPCTL.PROG blows OTP bits of a word, or is refused. -/
def execOtpProgram (m : Fin 96) (v : Word) (s : State) : Out :=
  .next (s.live (s.cmdWrite m.val pgBOOT BOOT.OTPCTL (BOOT.OTPCTL_PROG.put 1 v)))

/-- TACK_SWITCH (R488): Writing TACK.CTL.SWITCH requests a switch to a stored tack set. -/
def execTackSwitch (m : Fin 96) (tsel : Fin 4) (s : State) : Out :=
  .next (s.live (s.cmdWrite m.val pgTACK TACK.CTL (TACK.CTL_TSEL.put tsel.val (TACK.CTL_SWITCH.put 1 0))))

/-- TACKSEL_PIN_REQUEST (R488): TACKSEL pins held at a new value for PINDEB ms request a switch. -/
def execTackselPinRequest (pins : Fin 4) (s : State) : Out := .next (s.live (s.tackPins pins.val))

/-- TACK_STOP_DONE (R492): With every switched page stopped, the engine writes PWR.TARGET for the new set. -/
def execTackStopDone (s : State) : Out := .next (s.live s.tackStopDone)

/-- TACK_POWER_DONE (R492): Power settled, the engine writes the register list, axis map and data blocks and starts the pages. -/
def execTackPowerDone (s : State) : Out := .next (s.live s.tackPowerDone)

/-- TACK_DEFERRED_START (R493): A deferred start-list page starts once its prerequisite is RUNNING. -/
def execTackDeferredStart (s : State) : Out := .next (s.live s.tackDeferred)

/-- TEMPERATURE_WARNING (R507): A die sensor above TWARN raises 0x0601. -/
def execTemperatureWarning (s : State) (kelvin : Nat := 0x10000) : Out := .next (s.live (s.tempWarning kelvin))

/-- TEMPERATURE_SHUTDOWN (R507): A die temperature above 125 °C raises class-D fault 0x0602. -/
def execTemperatureShutdown (s : State) : Out := .next (s.live s.tempShutdown)

/-- SUPPLY_OUT_OF_WINDOW (R507): A supply outside its window for more than 2 µs raises class-D fault 0x0603. -/
def execSupplyOutOfWindow (supply : Fin 5) (s : State) : Out := .next (s.live (s.supplyOut supply.val))

/-- OTP_PROGRAM_DONE (R482): OTP programming of a word completes within 1 ms and OTPCTL.BUSY falls. -/
def execOtpProgramDone (s : State) : Out := .next (s.live s.otpDone)

/-- TEMPERATURE_WARNING_REARM (R507): The die temperature falls 5 K below TWARN and the warning comparator re-arms. -/
def execTemperatureWarningRearm (s : State) (kelvin : Nat := 0) : Out := .next (s.live (s.tempRearm kelvin))

end Sys2Proof.Machine
end

