-- ==== Sys2Proof/Machine/RunTime.lean ====
section
/-! DEFINITION. What each command does: the time base and the time pins. -/
namespace Sys2Proof.Machine

/-- RATE_WRITE (R145): A write to TIME.RATE rebases and changes the rate at one TCLK edge, or is refused. -/
def execRateWrite (m : Fin 96) (v : Word) (s : State) : Out := .next (s.live (s.cmdWrite m.val pgTIME TIME.RATE v))

/-- OFFLO_WRITE (R146): A write to OFFLO stages the low OFFSET word. -/
def execOffloWrite (m : Fin 96) (v : Word) (s : State) : Out := .next (s.live (s.cmdWrite m.val pgTIME TIME.OFFLO v))

/-- OFFHI_WRITE (R146): A write to OFFHI commits a new OFFSET, or is refused. -/
def execOffhiWrite (m : Fin 96) (v : Word) (s : State) : Out := .next (s.live (s.cmdWrite m.val pgTIME TIME.OFFHI v))

/-- STEPLO_WRITE (R146): A write to STEPLO stages the low step word. -/
def execSteploWrite (m : Fin 96) (v : Word) (s : State) : Out := .next (s.live (s.cmdWrite m.val pgTIME TIME.STEPLO v))

/-- STEPHI_WRITE (R146): A write to STEPHI adds the step to OFFSET, or is refused. -/
def execStephiWrite (m : Fin 96) (v : Word) (s : State) : Out := .next (s.live (s.cmdWrite m.val pgTIME TIME.STEPHI v))

/-- NOWLO_READ (R149): Reading NOWLO captures a time snapshot for the reading master. -/
def execNowloRead (m : Fin 96) (s : State) : Out := .next (s.live (s.cmdRead m.val pgTIME TIME.NOWLO))

/-- OFFLO_READ (R158): Reading OFFLO latches OFFHI for the reading master. -/
def execOffloRead (m : Fin 96) (s : State) : Out := .next (s.live (s.cmdRead m.val pgTIME TIME.OFFLO))

/-- RREFLO_READ (R158): Reading RREFLO latches RREFHI for the reading master. -/
def execRrefloRead (m : Fin 96) (s : State) : Out := .next (s.live (s.cmdRead m.val pgTIME TIME.RREFLO))

/-- CYCLO_READ (R134): Reading GIRTH.CYCLO latches CYCHI for the reading master. -/
def execCycloRead (m : Fin 96) (s : State) : Out := .next (s.live (s.cmdRead m.val pgGIRTH GIRTH.CYCLO))

/-- TGTLO_READ (R160): Reading a time pin's TGTLO latches TGTHI for the reading master. -/
def execTgtloRead (m : Fin 96) (k : Fin 8) (s : State) : Out := .next (s.live (s.cmdRead m.val pgTPIN (TPIN.TGTLO k.val)))

/-- PIN_ARM (R154): Writing CTL.ARM = 1 arms a time pin, or sets LATE or CFGREJ. -/
def execPinArm (m : Fin 96) (k : Fin 8) (v : Word) (s : State) : Out :=
  .next (s.live (s.cmdWrite m.val pgTPIN (TPIN.CTL k.val) ((TPIN.CTL_ARM k.val).put 1 v)))

/-- PIN_DISARM (R154): Writing CTL.ARM = 0 disarms a time pin. -/
def execPinDisarm (m : Fin 96) (k : Fin 8) (v : Word) (s : State) : Out :=
  .next (s.live (s.cmdWrite m.val pgTPIN (TPIN.CTL k.val) ((TPIN.CTL_ARM k.val).put 0 v)))

/-- PIN_FIRE (R155): An armed pin fires when T64 reaches TARGET and starts its pulse. -/
def execPinFire (k : Fin 8) (s : State) : Out := .next (s.live (s.pinFire k.val))

/-- PULSE_END (R155): A time pin pulse ends after WIDTH ticks. -/
def execPulseEnd (k : Fin 8) (s : State) : Out := .next (s.live (s.pulseEnd k.val))

end Sys2Proof.Machine
end

