-- ==== Sys2Proof/Machine/RunTwin.lean ====
section
/-! DEFINITION. What each command does: Latigo: the tether, copies, roles. -/
namespace Sys2Proof.Machine

/-- TETHER_SYNC_SEND (R377): Latigo sends TETHER-SYNC at SYNCT. -/
def execTetherSyncSend (s : State) : Out := .next (s.live s.syncSend)

/-- TETHER_SYNC_RECEIVE (R381): A twin TETHER-SYNC updates time servo, lock, acknowledgements and comparison. -/
def execTetherSyncReceive (f : RxFrame) (s : State) : Out := .next (s.live (s.syncReceive f))

/-- TETHER_COLDSTART_SEND (R379): An unpaired device sends COLDSTART on L0 every Tc. -/
def execTetherColdstartSend (s : State) : Out := .next (s.live s.tetherColdstart)

/-- COLDSTART_RECEIVE (R379): A twin COLDSTART decides roles or a pair configuration fault. -/
def execColdstartReceive (f : RxFrame) (s : State) : Out := .next (s.live (s.coldstartReceive f))

/-- ARRIVE_SEND (R385): Latigo sends ARRIVE with the delivered-port map at ARRT. -/
def execArriveSend (s : State) : Out := .next (s.live s.arriveSend)

/-- ARRIVE_RECEIVE (R385): A twin ARRIVE is recorded for self-caused judgement. -/
def execArriveReceive (f : RxFrame) (s : State) : Out := .next (s.live (s.arriveReceive f))

/-- CMD_RECEIVE (R384): The follower writes forwarded entries into its ring or declares a gap. -/
def execCmdReceive (f : RxFrame) (s : State) : Out := .next (s.live (s.cmdReceive f))

/-- RREQ (R388): A copy request makes the source send RCOPY and RBLOCK copies. -/
def execRreq (f : RxFrame) (s : State) : Out := .next (s.live (s.rreqReceive f))

/-- RCOPY_RECEIVE (R388): An axis copy is received and held for installation or discarded late. -/
def execRcopyReceive (f : RxFrame) (image : Machine.Pg) (s : State) : Out := .next (s.live (s.rcopyReceive f image))

/-- RBLOCK_RECEIVE (R388): A shared-block, group or virtual-master image piece is received. -/
def execRblockReceive (f : RxFrame) (image : Machine.GenImage) (s : State) : Out := .next (s.live (s.rblockReceive f image))

/-- COPY_INSTALL (R388): A received copy is installed at the end of its cycle and last Awls cleared. -/
def execCopyInstall (kind : Fin 4) (index : Nat) (s : State) : Out := .next (s.live (s.copyInstall kind.val index))

/-- TETHER_LOSS (R390): TLOST cycles without TETHER-SYNC mean tether loss; the follower enters SOLO or HOLDOVER. -/
def execTetherLoss (s : State) : Out := .next (s.live s.tetherLoss)

/-- HOLDOVER_LIMIT (R390): After HOLDLIM cycles of HOLDOVER the follower goes SILENT. -/
def execHoldoverLimit (s : State) : Out := .next (s.live s.holdoverLimit)

/-- HANDOVER_WRITE (R392): Writing CTL.HANDOVER announces a role exchange 16 cycles ahead, or is refused. -/
def execHandoverWrite (m : Fin 96) (s : State) : Out := .next (s.live (s.cmdWrite m.val pgLAT LAT.CTL (LAT.CTL_HANDOVER.put 1 0)))

/-- ROLE_EXCHANGE (R392): At CWSTART of the handover cycle leader and follower exchange roles. -/
def execRoleExchange (s : State) : Out := .next (s.live s.roleExchange)

/-- SOLO_WRITE (R393): Writing CTL.SOLO enters SOLO when the conditions hold. -/
def execSoloWrite (m : Fin 96) (s : State) : Out := .next (s.live (s.cmdWrite m.val pgLAT LAT.CTL (LAT.CTL_SOLO.put 1 0)))

/-- TRATE_WRITE (R381): A host write of LAT.TRATE is copied into TIME.RATE by the leader's Latigo. -/
def execTrateWrite (m : Fin 96) (v : Word) (s : State) : Out := .next (s.live (s.cmdWrite m.val pgLAT LAT.TRATE v))

/-- TETHER_LANE_SYNC_CHANGE (R376): A tether lane gains or loses Clause 36 sync, moving LAT from STARTING and rerouting all tether traffic onto the other lane. -/
def execTetherLaneSyncChange (lane : Fin 2) (up : Bool) (s : State) : Out := .next (s.live (s.laneChange lane.val up))

/-- PAIRING_LISTEN_TIMEOUT (R379): A device that became follower and heard no leader TETHER-SYNC for 3 cycles returns to UNPAIRED. -/
def execPairingListenTimeout (s : State) : Out := .next (s.live s.listenTimeout)

end Sys2Proof.Machine
end

