-- ==== Sys2Proof/Machine/Dispatch.lean ====
section
/-! DEFINITION. Every command to its meaning. -/
namespace Sys2Proof.Machine

/-- What a command does to everything but the queue. -/
def exec (i : Instr) (s : State) : Host.Outcome State Fault Refusal :=
  match i with
  | .i0 upset idle => Sys2Proof.Machine.execI0 s upset idle
  | .cycleMarkSend n => Sys2Proof.Machine.execCycleMarkSend n s
  | .cycleZero idle => Sys2Proof.Machine.execCycleZero s idle
  | .networkStop m => Sys2Proof.Machine.execNetworkStop m s
  | .localArrival => Sys2Proof.Machine.execLocalArrival s
  | .cycleUp n f => Sys2Proof.Machine.execCycleUp n f s
  | .arrivalTimeout n => Sys2Proof.Machine.execArrivalTimeout n s
  | .windowTruncation n f => Sys2Proof.Machine.execWindowTruncation n f s
  | .forbiddenOrderedSet n what => Sys2Proof.Machine.execForbiddenOrderedSet n what s
  | .portBlock n => Sys2Proof.Machine.execPortBlock n s
  | .blockedWrite m n => Sys2Proof.Machine.execBlockedWrite m n s
  | .portSyncGain n => Sys2Proof.Machine.execPortSyncGain n s
  | .portSyncLoss n => Sys2Proof.Machine.execPortSyncLoss n s
  | .join n f => Sys2Proof.Machine.execJoin n f s
  | .delayResp n f => Sys2Proof.Machine.execDelayResp n f s
  | .mailboxReceive n f => Sys2Proof.Machine.execMailboxReceive n f s
  | .cwstart upset => Sys2Proof.Machine.execCwstart s upset
  | .pgEngineDone ticks => Sys2Proof.Machine.execPgEngineDone ticks s
  | .vmPendingApply k => Sys2Proof.Machine.execVmPendingApply k s
  | .taskDispatch bench => Sys2Proof.Machine.execTaskDispatch bench s
  | .serviceDispatch bench => Sys2Proof.Machine.execServiceDispatch bench s
  | .serviceResume awl => Sys2Proof.Machine.execServiceResume awl s
  | .deadline ns => Sys2Proof.Machine.execDeadline ns s
  | .cutoff trip high low => Sys2Proof.Machine.execCutoff trip high low s
  | .holdLimit axis => Sys2Proof.Machine.execHoldLimit axis s
  | .downlinkSend n upset => Sys2Proof.Machine.execDownlinkSend n s upset
  | .acyclicWindow n => Sys2Proof.Machine.execAcyclicWindow n s
  | .relaySend n => Sys2Proof.Machine.execRelaySend n s
  | .start bench e => Sys2Proof.Machine.execStart bench e s
  | .stop bench e => Sys2Proof.Machine.execStop bench e s
  | .axreset bench e => Sys2Proof.Machine.execAxreset bench e s
  | .parwrite bench e => Sys2Proof.Machine.execParwrite bench e s
  | .moveabs bench e => Sys2Proof.Machine.execMoveabs bench e s
  | .moverel bench e => Sys2Proof.Machine.execMoverel bench e s
  | .velocity bench e => Sys2Proof.Machine.execVelocity bench e s
  | .halt bench e => Sys2Proof.Machine.execHalt bench e s
  | .setpos bench e => Sys2Proof.Machine.execSetpos bench e s
  | .setlim bench e => Sys2Proof.Machine.execSetlim bench e s
  | .setstop bench e => Sys2Proof.Machine.execSetstop bench e s
  | .setmaster bench e => Sys2Proof.Machine.execSetmaster bench e s
  | .gearin bench e => Sys2Proof.Machine.execGearin bench e s
  | .camin bench e => Sys2Proof.Machine.execCamin bench e s
  | .phase bench e => Sys2Proof.Machine.execPhase bench e s
  | .gearout bench e => Sys2Proof.Machine.execGearout bench e s
  | .camsel bench e => Sys2Proof.Machine.execCamsel bench e s
  | .igtgt bench e => Sys2Proof.Machine.execIgtgt bench e s
  | .igstart bench e => Sys2Proof.Machine.execIgstart bench e s
  | .ighalt bench e => Sys2Proof.Machine.execIghalt bench e s
  | .vmset bench k e => Sys2Proof.Machine.execVmset bench k e s
  | .vmvel bench k e => Sys2Proof.Machine.execVmvel bench k e s
  | .svctrigWrite m task => Sys2Proof.Machine.execSvctrigWrite m task s
  | .cmdtailWrite m bench index => Sys2Proof.Machine.execCmdtailWrite m bench index s
  | .budgetWrite m bench e v => Sys2Proof.Machine.execBudgetWrite m bench e v s
  | .statclr m bench => Sys2Proof.Machine.execStatclr m bench s
  | .benchStatclr m bench => Sys2Proof.Machine.execBenchStatclr m bench s
  | .nop awl => Sys2Proof.Machine.execNop awl s
  | .nopMoves awl mv => Sys2Proof.Machine.execNopMoves awl mv s
  | .mov awl d s1 mv => Sys2Proof.Machine.execMov awl d s1 mv s
  | .add awl d s1 s2 mv => Sys2Proof.Machine.execAdd awl d s1 s2 mv s
  | .sub awl d s1 s2 mv => Sys2Proof.Machine.execSub awl d s1 s2 mv s
  | .addw awl d s1 s2 mv => Sys2Proof.Machine.execAddw awl d s1 s2 mv s
  | .subw awl d s1 s2 mv => Sys2Proof.Machine.execSubw awl d s1 s2 mv s
  | .neg awl d s1 mv => Sys2Proof.Machine.execNeg awl d s1 mv s
  | .abs awl d s1 mv => Sys2Proof.Machine.execAbs awl d s1 mv s
  | .and awl d s1 s2 mv => Sys2Proof.Machine.execAnd awl d s1 s2 mv s
  | .or awl d s1 s2 mv => Sys2Proof.Machine.execOr awl d s1 s2 mv s
  | .xor awl d s1 s2 mv => Sys2Proof.Machine.execXor awl d s1 s2 mv s
  | .not awl d s1 mv => Sys2Proof.Machine.execNot awl d s1 mv s
  | .min awl d s1 s2 mv => Sys2Proof.Machine.execMin awl d s1 s2 mv s
  | .max awl d s1 s2 mv => Sys2Proof.Machine.execMax awl d s1 s2 mv s
  | .clip awl d s1 s2 mv => Sys2Proof.Machine.execClip awl d s1 s2 mv s
  | .asl awl d s1 s2 mv => Sys2Proof.Machine.execAsl awl d s1 s2 mv s
  | .asr awl d s1 s2 mv => Sys2Proof.Machine.execAsr awl d s1 s2 mv s
  | .lsr awl d s1 s2 mv => Sys2Proof.Machine.execLsr awl d s1 s2 mv s
  | .norm awl d s1 mv => Sys2Proof.Machine.execNorm awl d s1 mv s
  | .rcps awl d s1 mv => Sys2Proof.Machine.execRcps awl d s1 mv s
  | .rsqs awl d s1 mv => Sys2Proof.Machine.execRsqs awl d s1 mv s
  | .scs awl d s1 mv => Sys2Proof.Machine.execScs awl d s1 mv s
  | .cadd awl d s1 s2 mv => Sys2Proof.Machine.execCadd awl d s1 s2 mv s
  | .csub awl d s1 s2 mv => Sys2Proof.Machine.execCsub awl d s1 s2 mv s
  | .cmp awl s1 s2 mv => Sys2Proof.Machine.execCmp awl s1 s2 mv s
  | .tst awl s1 s2 mv => Sys2Proof.Machine.execTst awl s1 s2 mv s
  | .mpy awl a s1 s2 mv => Sys2Proof.Machine.execMpy awl a s1 s2 mv s
  | .mac awl a s1 s2 mv => Sys2Proof.Machine.execMac awl a s1 s2 mv s
  | .msu awl a s1 s2 mv => Sys2Proof.Machine.execMsu awl a s1 s2 mv s
  | .cmpy awl a s1 s2 mv => Sys2Proof.Machine.execCmpy awl a s1 s2 mv s
  | .cmac awl a s1 s2 mv => Sys2Proof.Machine.execCmac awl a s1 s2 mv s
  | .cmacj awl a s1 s2 mv => Sys2Proof.Machine.execCmacj awl a s1 s2 mv s
  | .clr awl a mv => Sys2Proof.Machine.execClr awl a mv s
  | .movELoad awl a s1 s2 mv => Sys2Proof.Machine.execMovELoad awl a s1 s2 mv s
  | .movConv awl dst a k form => Sys2Proof.Machine.execMovConv awl dst a k form s
  | .movCconv awl d a k form => Sys2Proof.Machine.execMovCconv awl d a k form s
  | .addi awl d s1 v => Sys2Proof.Machine.execAddi awl d s1 v s
  | .addwi awl d s1 v => Sys2Proof.Machine.execAddwi awl d s1 v s
  | .andi awl d s1 v => Sys2Proof.Machine.execAndi awl d s1 v s
  | .ori awl d s1 v => Sys2Proof.Machine.execOri awl d s1 v s
  | .xori awl d s1 v => Sys2Proof.Machine.execXori awl d s1 v s
  | .ldi awl d v => Sys2Proof.Machine.execLdi awl d v s
  | .cmpi awl s1 v => Sys2Proof.Machine.execCmpi awl s1 v s
  | .tsti awl s1 v => Sys2Proof.Machine.execTsti awl s1 v s
  | .asli awl d s1 k => Sys2Proof.Machine.execAsli awl d s1 k s
  | .asri awl d s1 k => Sys2Proof.Machine.execAsri awl d s1 k s
  | .lsri awl d s1 k => Sys2Proof.Machine.execLsri awl d s1 k s
  | .normE awl d a => Sys2Proof.Machine.execNormE awl d a s
  | .movgRead awl d a => Sys2Proof.Machine.execMovgRead awl d a s
  | .movgWrite awl a g p => Sys2Proof.Machine.execMovgWrite awl a g p s
  | .addw64 awl d p q => Sys2Proof.Machine.execAddw64 awl d p q s
  | .subw64 awl d p q => Sys2Proof.Machine.execSubw64 awl d p q s
  | .add64 awl d p q => Sys2Proof.Machine.execAdd64 awl d p q s
  | .sub64 awl d p q => Sys2Proof.Machine.execSub64 awl d p q s
  | .mov64 awl d p => Sys2Proof.Machine.execMov64 awl d p s
  | .cmp64 awl p q => Sys2Proof.Machine.execCmp64 awl p q s
  | .movcRead awl d cr => Sys2Proof.Machine.execMovcRead awl d cr s
  | .movcWrite awl cr src => Sys2Proof.Machine.execMovcWrite awl cr src s
  | .ld awl dst ak mode => Sys2Proof.Machine.execLd awl dst ak mode s
  | .st awl src ak mode => Sys2Proof.Machine.execSt awl src ak mode s
  | .ldc awl d j => Sys2Proof.Machine.execLdc awl d j s
  | .ldq awl q dst ak off => Sys2Proof.Machine.execLdq awl q dst ak off s
  | .stq awl q src ak off => Sys2Proof.Machine.execStq awl q src ak off s
  | .ldqB awl q am ak off k => Sys2Proof.Machine.execLdqB awl q am ak off k s
  | .stqB awl q am ak off k => Sys2Proof.Machine.execStqB awl q am ak off k s
  | .waitq awl mask => Sys2Proof.Machine.execWaitq awl mask s
  | .queueEntryComplete awl => Sys2Proof.Machine.execQueueEntryComplete awl s
  | .endt awl => Sys2Proof.Machine.execEndt awl s
  | .post awl j => Sys2Proof.Machine.execPost awl j s
  | .trap awl k => Sys2Proof.Machine.execTrap awl k s
  | .rte awl => Sys2Proof.Machine.execRte awl s
  | .bkpt awl k => Sys2Proof.Machine.execBkpt awl k s
  | .br awl cond off => Sys2Proof.Machine.execBr awl cond off s
  | .call awl d off => Sys2Proof.Machine.execCall awl d off s
  | .jmp awl cond d => Sys2Proof.Machine.execJmp awl cond d s
  | .loop awl cnt e => Sys2Proof.Machine.execLoop awl cnt e s
  | .redo awl cnt => Sys2Proof.Machine.execRedo awl cnt s
  | .haltRequest m awl => Sys2Proof.Machine.execHaltRequest m awl s
  | .haltResume m awl => Sys2Proof.Machine.execHaltResume m awl s
  | .debugStep m awl => Sys2Proof.Machine.execDebugStep m awl s
  | .hardwareBreakpoint awl => Sys2Proof.Machine.execHardwareBreakpoint awl s
  | .dbgrdataAccess m awl write => Sys2Proof.Machine.execDbgrdataAccess m awl write s
  | .blockStart m page => Sys2Proof.Machine.execBlockStart m page s
  | .startComplete page => Sys2Proof.Machine.execStartComplete page s
  | .blockStop m page => Sys2Proof.Machine.execBlockStop m page s
  | .stopComplete page => Sys2Proof.Machine.execStopComplete page s
  | .faultReactionComplete page => Sys2Proof.Machine.execFaultReactionComplete page s
  | .evtsetWrite m page v => Sys2Proof.Machine.execEvtsetWrite m page v s
  | .ecapClear m page => Sys2Proof.Machine.execEcapClear m page s
  | .counterRead m page off => Sys2Proof.Machine.execCounterRead m page off s
  | .registerWrite m addr bytes => Sys2Proof.Machine.execRegisterWrite m addr bytes s
  | .calibrationStart m page k => Sys2Proof.Machine.execCalibrationStart m page k s
  | .calibrationDone page k ok res0 res1 err => Sys2Proof.Machine.execCalibrationDone page k ok res0 res1 err s
  | .pwrTargetWrite m v => Sys2Proof.Machine.execPwrTargetWrite m v s
  | .powerStepDone => Sys2Proof.Machine.execPowerStepDone s
  | .clockMonitorMeasure count => Sys2Proof.Machine.execClockMonitorMeasure count s
  | .pllLossOfLock => Sys2Proof.Machine.execPllLossOfLock s
  | .pllRelock => Sys2Proof.Machine.execPllRelock s
  | .pcieRefclkLoss => Sys2Proof.Machine.execPcieRefclkLoss s
  | .scrubSlot => Sys2Proof.Machine.execScrubSlot s
  | .errorInjectArm m v => Sys2Proof.Machine.execErrorInjectArm m v s
  | .hostBar2Access addr size write => Sys2Proof.Machine.execHostBar2Access addr size write s
  | .rateWrite m v => Sys2Proof.Machine.execRateWrite m v s
  | .offloWrite m v => Sys2Proof.Machine.execOffloWrite m v s
  | .offhiWrite m v => Sys2Proof.Machine.execOffhiWrite m v s
  | .steploWrite m v => Sys2Proof.Machine.execSteploWrite m v s
  | .stephiWrite m v => Sys2Proof.Machine.execStephiWrite m v s
  | .nowloRead m => Sys2Proof.Machine.execNowloRead m s
  | .offloRead m => Sys2Proof.Machine.execOffloRead m s
  | .rrefloRead m => Sys2Proof.Machine.execRrefloRead m s
  | .cycloRead m => Sys2Proof.Machine.execCycloRead m s
  | .tgtloRead m k => Sys2Proof.Machine.execTgtloRead m k s
  | .pinArm m k v => Sys2Proof.Machine.execPinArm m k v s
  | .pinDisarm m k v => Sys2Proof.Machine.execPinDisarm m k v s
  | .pinFire k => Sys2Proof.Machine.execPinFire k s
  | .pulseEnd k => Sys2Proof.Machine.execPulseEnd k s
  | .plantFrameReceive x bytes fcsOk startBit => Sys2Proof.Machine.execPlantFrameReceive x bytes fcsOk startBit s
  | .tetherSyncSend => Sys2Proof.Machine.execTetherSyncSend s
  | .tetherSyncReceive f => Sys2Proof.Machine.execTetherSyncReceive f s
  | .tetherColdstartSend => Sys2Proof.Machine.execTetherColdstartSend s
  | .coldstartReceive f => Sys2Proof.Machine.execColdstartReceive f s
  | .arriveSend => Sys2Proof.Machine.execArriveSend s
  | .arriveReceive f => Sys2Proof.Machine.execArriveReceive f s
  | .cmdReceive f => Sys2Proof.Machine.execCmdReceive f s
  | .rreq f => Sys2Proof.Machine.execRreq f s
  | .rcopyReceive f image => Sys2Proof.Machine.execRcopyReceive f image s
  | .rblockReceive f image => Sys2Proof.Machine.execRblockReceive f image s
  | .copyInstall kind index => Sys2Proof.Machine.execCopyInstall kind index s
  | .tetherLoss => Sys2Proof.Machine.execTetherLoss s
  | .holdoverLimit => Sys2Proof.Machine.execHoldoverLimit s
  | .handoverWrite m => Sys2Proof.Machine.execHandoverWrite m s
  | .roleExchange => Sys2Proof.Machine.execRoleExchange s
  | .soloWrite m => Sys2Proof.Machine.execSoloWrite m s
  | .trateWrite m v => Sys2Proof.Machine.execTrateWrite m v s
  | .arm m n => Sys2Proof.Machine.execArm m n s
  | .force m n => Sys2Proof.Machine.execForce m n s
  | .abort m n => Sys2Proof.Machine.execAbort m n s
  | .release m n count => Sys2Proof.Machine.execRelease m n count s
  | .quotaWrite m n v => Sys2Proof.Machine.execQuotaWrite m n v s
  | .evaluation upset => Sys2Proof.Machine.execEvaluation s upset
  | .discrepancyLock n => Sys2Proof.Machine.execDiscrepancyLock n s
  | .twoHandTimeout n => Sys2Proof.Machine.execTwoHandTimeout n s
  | .resetStuck n => Sys2Proof.Machine.execResetStuck n s
  | .selfTest pass => Sys2Proof.Machine.execSelfTest pass s
  | .configCrcPass => Sys2Proof.Machine.execConfigCrcPass s
  | .inputTestPulse sf ch2 => Sys2Proof.Machine.execInputTestPulse sf ch2 s
  | .outputTestPulse n => Sys2Proof.Machine.execOutputTestPulse n s
  | .managementFrame result crossed => Sys2Proof.Machine.execManagementFrame result s crossed
  | .fieldLinkLoss => Sys2Proof.Machine.execFieldLinkLoss s
  | .inputSample n microamp millivolt => Sys2Proof.Machine.execInputSample n microamp millivolt s
  | .outputRefresh n crossed => Sys2Proof.Machine.execOutputRefresh n crossed s
  | .readback above below => Sys2Proof.Machine.execReadback above below s
  | .thermalShutdown n => Sys2Proof.Machine.execThermalShutdown n s
  | .retry n => Sys2Proof.Machine.execRetry n s
  | .openLoad n low => Sys2Proof.Machine.execOpenLoad n low s
  | .safeStateTimeout n => Sys2Proof.Machine.execSafeStateTimeout n s
  | .safeactRelease m mask => Sys2Proof.Machine.execSafeactRelease m mask s
  | .vfldMeasure millivolt kelvin => Sys2Proof.Machine.execVfldMeasure millivolt kelvin s
  | .quadratureStep n a b k => Sys2Proof.Machine.execQuadratureStep n a b s k
  | .hallCodeChange n code k => Sys2Proof.Machine.execHallCodeChange n code s k
  | .indexCapture n z k => Sys2Proof.Machine.execIndexCapture n s z k
  | .illegalStepFault n => Sys2Proof.Machine.execIllegalStepFault n s
  | .serialTransferDone n idle bits => Sys2Proof.Machine.execSerialTransferDone n idle bits s
  | .serialFault n => Sys2Proof.Machine.execSerialFault n s
  | .conversionDone n raw => Sys2Proof.Machine.execConversionDone n raw s
  | .continuousSlot n => Sys2Proof.Machine.execContinuousSlot n s
  | .auxiliaryConversion n => Sys2Proof.Machine.execAuxiliaryConversion n s
  | .outvalWrite m n v => Sys2Proof.Machine.execOutvalWrite m n v s
  | .monitorConversion k value => Sys2Proof.Machine.execMonitorConversion k value s
  | .periodStart n => Sys2Proof.Machine.execPeriodStart n s
  | .compareMatch n ns => Sys2Proof.Machine.execCompareMatch n ns s
  | .deadTimeEnd n leg => Sys2Proof.Machine.execDeadTimeEnd n leg s
  | .auxChannelActivate n k ns => Sys2Proof.Machine.execAuxChannelActivate n k ns s
  | .tripInput n levels k => Sys2Proof.Machine.execTripInput n levels s k
  | .blankWindowEnd n => Sys2Proof.Machine.execBlankWindowEnd n s
  | .tripClear m n => Sys2Proof.Machine.execTripClear m n s
  | .periodWrite m n v => Sys2Proof.Machine.execPeriodWrite m n v s
  | .compareWrite m n leg v => Sys2Proof.Machine.execCompareWrite m n leg v s
  | .legoffWrite m n v => Sys2Proof.Machine.execLegoffWrite m n v s
  | .haltNRise => Sys2Proof.Machine.execHaltNRise s
  | .hostReset kind => Sys2Proof.Machine.execHostReset kind s
  | .rearmWrite m half v => Sys2Proof.Machine.execRearmWrite m half v s
  | .tailWrite m k index => Sys2Proof.Machine.execTailWrite m k index s
  | .dmaDescriptor k pcie startBit => Sys2Proof.Machine.execDmaDescriptor k pcie startBit s
  | .gateRelease m gate => Sys2Proof.Machine.execGateRelease m gate s
  | .windowWrite m gate k ctl v => Sys2Proof.Machine.execWindowWrite m gate k ctl v s
  | .porNFall => Sys2Proof.Machine.execPorNFall s
  | .powerOnReset refmode bootsrc pairid tacksel => Sys2Proof.Machine.execPowerOnReset refmode bootsrc pairid tacksel s
  | .bootComplete image unreadable => Sys2Proof.Machine.execBootComplete image unreadable s
  | .hostLoadGo m => Sys2Proof.Machine.execHostLoadGo m s
  | .otpProgram m v => Sys2Proof.Machine.execOtpProgram m v s
  | .tackSwitch m tsel => Sys2Proof.Machine.execTackSwitch m tsel s
  | .tackselPinRequest pins => Sys2Proof.Machine.execTackselPinRequest pins s
  | .tackStopDone => Sys2Proof.Machine.execTackStopDone s
  | .tackPowerDone => Sys2Proof.Machine.execTackPowerDone s
  | .tackDeferredStart => Sys2Proof.Machine.execTackDeferredStart s
  | .temperatureWarning kelvin => Sys2Proof.Machine.execTemperatureWarning s kelvin
  | .temperatureShutdown => Sys2Proof.Machine.execTemperatureShutdown s
  | .supplyOutOfWindow supply => Sys2Proof.Machine.execSupplyOutOfWindow supply s
  | .illegalInstruction awl word ext => Sys2Proof.Machine.execIllegalInstruction awl word ext s
  | .pcieRefclkReturn => Sys2Proof.Machine.execPcieRefclkReturn s
  | .pcieLinkUp gen width => Sys2Proof.Machine.execPcieLinkUp gen width s
  | .pciePowerStateChange d3 => Sys2Proof.Machine.execPciePowerStateChange d3 s
  | .plantLinkChange x up => Sys2Proof.Machine.execPlantLinkChange x up s
  | .tetherLaneSyncChange lane up => Sys2Proof.Machine.execTetherLaneSyncChange lane up s
  | .pairingListenTimeout => Sys2Proof.Machine.execPairingListenTimeout s
  | .instanceBudgetPassed awl => Sys2Proof.Machine.execInstanceBudgetPassed awl s
  | .otpProgramDone => Sys2Proof.Machine.execOtpProgramDone s
  | .temperatureWarningRearm kelvin => Sys2Proof.Machine.execTemperatureWarningRearm s kelvin
  | .shellMonitorMeasure page k value => Sys2Proof.Machine.execShellMonitorMeasure page k value s
  | .debugPortAccess addr size write => Sys2Proof.Machine.execDebugPortAccess addr size write s
  | .codeGroupError n => Sys2Proof.Machine.execCodeGroupError n s

end Sys2Proof.Machine
end

