-- ==== Sys2Proof/Machine/Tick.lean ====
section
/-! DEFINITION. What passes with a tick of TCLK while no command waits: time, and the execution time of the Awls (notes/assumptions/7.md). -/
namespace Sys2Proof.Machine.State

/-- The raw counter advances by one tick of 4 ns once the boot loader is done (R141, R485). -/
def timeRuns (s : State) : Bool := !s.por && s.on pgBOOT BOOT.STAT_DONE

/-- 4 ns of execution of an Awl: its SERVICE use, its use of any class, and its stall cycles (R175, R188, R233). -/
def tickAwl (s : State) (n : Nat) : State :=
  if !s.issues n then s
  else
    let u := s.useOf n
    let svc := (s.svcAt n (s.awl n).bank).isSome
    let s := s.setUse n { u with busy := u.busy + 4, used := if svc then u.used + 4 else u.used }
    if (s.awl n).qwait then s.bumpByE (pgAWL n) AWL.QSTALL 2 2 else s

/-- One tick: the next TCLK edge. -/
def tick (s : State) : State :=
  if s.por then s
  else if !s.timeRuns then s.timeEdge
  else ({ s with time := { s.time with raw := s.time.raw + 64 } }.timeEdge).forEach (List.range 64) tickAwl

end Sys2Proof.Machine.State
end

