-- ==== Sys2Proof/WellFormed.lean ====
section
/-! DEFINITION. Which commands name something the block has: pages of the table of R65, frames of the row's class, command entries of R185,
instructions an encoding of R235–R257 spells. -/
namespace Sys2Proof
open Machine

/-- A page of R65's table. -/
def isPage (p : Fin 4096) : Bool := (pageRow p.val).isSome

/-- Shell `k` of a page (R80). -/
def isShell (p : Fin 4096) (k : Fin 30) : Bool := isPage p && decide (k.val < pageShells p.val)

/-- The header fields fit their widths (R92), and LEN counts payload bytes that were received. -/
def Frame.formed (f : Frame) : Bool :=
  decide (f.etype < 2 ^ 16) && decide (f.ver < 2 ^ 8) && decide (f.cls < 2 ^ 8) && decide (f.port < 2 ^ 8) && decide (f.node < 2 ^ 8)
    && decide (f.flags < 2 ^ 16) && decide (f.len < 2 ^ 16) && decide (f.axcnt < 2 ^ 8) && decide (f.markadj < 2 ^ 8)
    && decide (f.holdmax < 2 ^ 8)

/-- A received frame of class `c`. -/
def RxFrame.isOf (f : RxFrame) (c : Nat) : Bool := f.frame.formed && f.frame.cls == c && decide (f.srcK < 16)

/-- A received frame of any class. -/
def RxFrame.formed (f : RxFrame) : Bool := f.isOf f.frame.cls

/-- A received frame that is judged as a CYCLE-UP (R103): no class another row takes. -/
def RxFrame.uplink (f : RxFrame) : Bool := f.formed && !([4, 5, 8].contains f.frame.cls)

/-- A TETHER-CMD frame of a message kind (R377). -/
def RxFrame.isMsg (f : RxFrame) (k : Nat) : Bool := f.isOf 0xA && (f.frame.payload.map (·.toNat)).head? == some k

/-- A command entry of an opcode (R185): every field fits, and the operands are 16 bytes. -/
def Entry.isOf (e : Entry) (op : Nat) : Bool :=
  e.op == op && decide (e.status < 2 ^ 8) && decide (e.axis < 2 ^ 16) && decide (e.apply < 2 ^ 48) && decide (e.offset < 2 ^ 16)
    && decide (e.len < 2 ^ 8) && decide (e.rsvd < 2 ^ 24) && e.data.length == 16

/-- An access of a fabric master: 1, 2, 4 or 8 bytes. -/
def isSize (n : Nat) : Bool := n == 1 || n == 2 || n == 4 || n == 8

namespace Instr

/-- The command is well formed. -/
def wellFormed : Instr → Bool
  | .i0 _ _ => true
  | .cycleMarkSend _ => true
  | .cycleZero _ => true
  | .networkStop _ => true
  | .localArrival => true
  | .cycleUp _ f => f.uplink
  | .arrivalTimeout _ => true
  | .windowTruncation _ f => f.formed
  | .forbiddenOrderedSet _ _ => true
  | .portBlock _ => true
  | .blockedWrite _ _ => true
  | .portSyncGain _ => true
  | .portSyncLoss _ => true
  | .join _ f => f.isOf 5
  | .delayResp _ f => f.isOf 8
  | .mailboxReceive _ f => f.isOf 4
  | .cwstart _ => true
  | .pgEngineDone _ => true
  | .vmPendingApply _ => true
  | .taskDispatch _ => true
  | .serviceDispatch _ => true
  | .serviceResume _ => true
  | .deadline _ => true
  | .cutoff _ _ _ => true
  | .holdLimit _ => true
  | .downlinkSend _ _ => true
  | .acyclicWindow _ => true
  | .relaySend _ => true
  | .start _ e => e.isOf 0x01
  | .stop _ e => e.isOf 0x02
  | .axreset _ e => e.isOf 0x03
  | .parwrite _ e => e.isOf 0x04
  | .moveabs _ e => e.isOf 0x10
  | .moverel _ e => e.isOf 0x11
  | .velocity _ e => e.isOf 0x12
  | .halt _ e => e.isOf 0x13
  | .setpos _ e => e.isOf 0x14
  | .setlim _ e => e.isOf 0x15
  | .setstop _ e => e.isOf 0x16
  | .setmaster _ e => e.isOf 0x17
  | .gearin _ e => e.isOf 0x18
  | .camin _ e => e.isOf 0x19
  | .phase _ e => e.isOf 0x1A
  | .gearout _ e => e.isOf 0x1B
  | .camsel _ e => e.isOf 0x1C
  | .igtgt _ e => e.isOf 0x20
  | .igstart _ e => e.isOf 0x21
  | .ighalt _ e => e.isOf 0x22
  | .vmset _ k e => e.isOf (0x30 + k.val)
  | .vmvel _ k e => e.isOf (0x34 + k.val)
  | .svctrigWrite _ _ => true
  | .cmdtailWrite _ _ _ => true
  | .budgetWrite _ _ _ _ => true
  | .statclr _ _ => true
  | .benchStatclr _ _ => true
  | .nop _ => true
  | .nopMoves _ _ => true
  | .mov _ _ _ _ => true
  | .add _ _ _ _ _ => true
  | .sub _ _ _ _ _ => true
  | .addw _ _ _ _ _ => true
  | .subw _ _ _ _ _ => true
  | .neg _ _ _ _ => true
  | .abs _ _ _ _ => true
  | .and _ _ _ _ _ => true
  | .or _ _ _ _ _ => true
  | .xor _ _ _ _ _ => true
  | .not _ _ _ _ => true
  | .min _ _ _ _ _ => true
  | .max _ _ _ _ _ => true
  | .clip _ _ _ _ _ => true
  | .asl _ _ _ _ _ => true
  | .asr _ _ _ _ _ => true
  | .lsr _ _ _ _ _ => true
  | .norm _ _ _ _ => true
  | .rcps _ _ _ _ => true
  | .rsqs _ _ _ _ => true
  | .scs _ _ _ _ => true
  | .cadd _ _ _ _ _ => true
  | .csub _ _ _ _ _ => true
  | .cmp _ _ _ _ => true
  | .tst _ _ _ _ => true
  | .mpy _ a s1 s2 mv => !unencodable (.mul .mpy a s1 s2 mv)
  | .mac _ a s1 s2 mv => !unencodable (.mul .mac a s1 s2 mv)
  | .msu _ a s1 s2 mv => !unencodable (.mul .msu a s1 s2 mv)
  | .cmpy _ a s1 s2 mv => !unencodable (.cmul .cmpy a s1 s2 mv)
  | .cmac _ a s1 s2 mv => !unencodable (.cmul .cmac a s1 s2 mv)
  | .cmacj _ a s1 s2 mv => !unencodable (.cmul .cmacj a s1 s2 mv)
  | .clr _ _ _ => true
  | .movELoad _ _ _ _ _ => true
  | .movConv _ dst a k form => !unencodable (.conv dst a k form)
  | .movCconv _ d a k form => !unencodable (.cconv d a k form)
  | .addi _ d s1 v => !unencodable (.binI .add d s1 v)
  | .addwi _ d s1 v => !unencodable (.binI .addw d s1 v)
  | .andi _ d s1 v => !unencodable (.binI .and d s1 v)
  | .ori _ d s1 v => !unencodable (.binI .or d s1 v)
  | .xori _ d s1 v => !unencodable (.binI .xor d s1 v)
  | .ldi _ d v => !unencodable (.ldi d v)
  | .cmpi _ s1 v => !unencodable (.cmpi s1 v)
  | .tsti _ s1 v => !unencodable (.tsti s1 v)
  | .asli _ _ _ _ => true
  | .asri _ _ _ _ => true
  | .lsri _ _ _ _ => true
  | .normE _ _ _ => true
  | .movgRead _ _ _ => true
  | .movgWrite _ _ _ _ => true
  | .addw64 _ _ _ _ => true
  | .subw64 _ _ _ _ => true
  | .add64 _ _ _ _ => true
  | .sub64 _ _ _ _ => true
  | .mov64 _ _ _ => true
  | .cmp64 _ _ _ => true
  | .movcRead _ _ _ => true
  | .movcWrite _ cr src => !unencodable (.movcWrite cr src)
  | .ld _ dst ak mode => !unencodable (.ld dst ak mode)
  | .st _ src ak mode => !unencodable (.st src ak mode)
  | .ldc _ _ _ => true
  | .ldq _ q dst ak off => !unencodable (.ldq q dst ak off)
  | .stq _ q src ak off => !unencodable (.stq q src ak off)
  | .ldqB _ q am ak off k => !unencodable (.ldqB q am ak off k)
  | .stqB _ q am ak off k => !unencodable (.stqB q am ak off k)
  | .waitq _ _ => true
  | .queueEntryComplete _ => true
  | .endt _ => true
  | .post _ _ => true
  | .trap _ _ => true
  | .rte _ => true
  | .bkpt _ _ => true
  | .br _ _ _ => true
  | .call _ _ _ => true
  | .jmp _ _ _ => true
  | .loop _ _ _ => true
  | .redo _ _ => true
  | .haltRequest _ _ => true
  | .haltResume _ _ => true
  | .debugStep _ _ => true
  | .hardwareBreakpoint _ => true
  | .dbgrdataAccess _ _ _ => true
  | .blockStart _ page => isPage page
  | .startComplete page => isPage page
  | .blockStop _ page => isPage page
  | .stopComplete page => isPage page
  | .faultReactionComplete page => isPage page
  | .evtsetWrite _ page _ => isPage page
  | .ecapClear _ page => isPage page
  | .counterRead _ page _ => isPage page
  | .registerWrite _ _ bytes => isSize bytes.length
  | .calibrationStart _ page k => isShell page k
  | .calibrationDone page k _ _ _ _ => isShell page k
  | .pwrTargetWrite _ _ => true
  | .powerStepDone => true
  | .clockMonitorMeasure _ => true
  | .pllLossOfLock => true
  | .pllRelock => true
  | .pcieRefclkLoss => true
  | .scrubSlot => true
  | .errorInjectArm _ _ => true
  | .hostBar2Access _ size write => decide ((match write with | some b => b.length | none => size) ≤ 4096)
  | .rateWrite _ _ => true
  | .offloWrite _ _ => true
  | .offhiWrite _ _ => true
  | .steploWrite _ _ => true
  | .stephiWrite _ _ => true
  | .nowloRead _ => true
  | .offloRead _ => true
  | .rrefloRead _ => true
  | .cycloRead _ => true
  | .tgtloRead _ _ => true
  | .pinArm _ _ _ => true
  | .pinDisarm _ _ _ => true
  | .pinFire _ => true
  | .pulseEnd _ => true
  | .plantFrameReceive _ bytes _ _ => decide (bytes.length ≤ 2000)
  | .tetherSyncSend => true
  | .tetherSyncReceive f => f.isOf 9
  | .tetherColdstartSend => true
  | .coldstartReceive f => f.isOf 0xB
  | .arriveSend => true
  | .arriveReceive f => f.isMsg 1
  | .cmdReceive f => f.isMsg 2
  | .rreq f => f.isMsg 5
  | .rcopyReceive f _ => f.isMsg 3
  | .rblockReceive f _ => f.isMsg 4
  | .copyInstall _ _ => true
  | .tetherLoss => true
  | .holdoverLimit => true
  | .handoverWrite _ => true
  | .roleExchange => true
  | .soloWrite _ => true
  | .trateWrite _ _ => true
  | .arm _ _ => true
  | .force _ _ => true
  | .abort _ _ => true
  | .release _ _ _ => true
  | .quotaWrite _ _ _ => true
  | .evaluation _ => true
  | .discrepancyLock _ => true
  | .twoHandTimeout _ => true
  | .resetStuck _ => true
  | .selfTest _ => true
  | .configCrcPass => true
  | .inputTestPulse _ _ => true
  | .outputTestPulse _ => true
  | .managementFrame _ _ => true
  | .fieldLinkLoss => true
  | .inputSample _ _ _ => true
  | .outputRefresh _ _ => true
  | .readback _ _ => true
  | .thermalShutdown _ => true
  | .retry _ => true
  | .openLoad _ _ => true
  | .safeStateTimeout _ => true
  | .safeactRelease _ _ => true
  | .vfldMeasure _ _ => true
  | .quadratureStep _ _ _ _ => true
  | .hallCodeChange _ _ _ => true
  | .indexCapture _ _ _ => true
  | .illegalStepFault _ => true
  | .serialTransferDone _ _ _ => true
  | .serialFault _ => true
  | .conversionDone _ _ => true
  | .continuousSlot _ => true
  | .auxiliaryConversion _ => true
  | .outvalWrite _ _ _ => true
  | .monitorConversion _ _ => true
  | .periodStart _ => true
  | .compareMatch _ _ => true
  | .deadTimeEnd _ _ => true
  | .auxChannelActivate _ _ _ => true
  | .tripInput _ _ _ => true
  | .blankWindowEnd _ => true
  | .tripClear _ _ => true
  | .periodWrite _ _ _ => true
  | .compareWrite _ _ _ _ => true
  | .legoffWrite _ _ _ => true
  | .haltNRise => true
  | .hostReset _ => true
  | .rearmWrite _ _ _ => true
  | .tailWrite _ _ _ => true
  | .dmaDescriptor _ _ _ => true
  | .gateRelease _ _ => true
  | .windowWrite _ _ _ _ _ => true
  | .porNFall => true
  | .powerOnReset _ _ _ _ => true
  | .bootComplete _ _ => true
  | .hostLoadGo _ => true
  | .otpProgram _ _ => true
  | .tackSwitch _ _ => true
  | .tackselPinRequest _ => true
  | .tackStopDone => true
  | .tackPowerDone => true
  | .tackDeferredStart => true
  | .temperatureWarning _ => true
  | .temperatureShutdown => true
  | .supplyOutOfWindow _ => true
  | .illegalInstruction _ _ _ => true
  | .pcieRefclkReturn => true
  | .pcieLinkUp gen width => decide (1 ≤ gen) && decide (gen ≤ 3) && (width == 1 || width == 2 || width == 4)
  | .pciePowerStateChange _ => true
  | .plantLinkChange _ _ => true
  | .tetherLaneSyncChange _ _ => true
  | .pairingListenTimeout => true
  | .instanceBudgetPassed _ => true
  | .otpProgramDone => true
  | .temperatureWarningRearm _ => true
  | .shellMonitorMeasure page k _ => isShell page k
  | .debugPortAccess _ size write => isSize (match write with | some b => b.length | none => size)
  | .codeGroupError _ => true

end Instr
end Sys2Proof
end

