-- ==== Sys2Proof/Safety.lean ====
section
/-! DEFINITION. What counts as a safe run, in the terms the statements use. -/
namespace Sys2Proof

/-- The sparse maps of the state that the outside reads are in canonical form: memory, the registers, the inverted code bits. -/
abbrev Formed (s : Machine.State) : Prop :=
  Machine.Memory.wf s.mem = true ∧ Machine.Sp.wf Machine.regReset s.regs = true
    ∧ Machine.Sp.wf (fun _ => (0 : BitVec 80)) s.flips = true

/-- A step that goes on. -/
def Goes (s : Machine.State) : Prop := ∃ t, Machine.step s = .next t

/-- A waiting queue of well-formed commands. -/
def WellQueued (s : Machine.State) : Prop := ∀ c ∈ s.pending, c.wellFormed = true

/-- An access of master `m` to the register at an offset of a page reaches it: the block is out of reset, the master's accesses come
as commands, its gate permits the access (R468), the page's domain is on (R51), and a write is not one of the DBG page under the debug
lock (R483). -/
def Reaches (s : Machine.State) (m p off : Nat) (write : Bool) : Prop :=
  s.por = false ∧ s.commandMaster m = true ∧ s.gateKind m (Machine.State.regAddr p off) 4 write = none ∧ s.pageOn p = true
    ∧ (write = true → p = Machine.pgDBG → s.debugLock = false)

end Sys2Proof
end

