-- ==== Sys2Proof/Certificates/Slice0/Obligations.lean ====
section
/-! DEFINITION. The statements about the block, for the provers.

A statement about a command says, for every state and operands that meet its hypotheses, which next state the command answers; where
the state it answers is written out, everything not named in it is unchanged.  `Reaches` (Sys2Proof/Safety.lean) says that an access to a
register reaches it. -/
section
open Sys2Proof Sys2Proof.Machine Sys2Proof.Machine.State

/-! ### The machine -/

/-- A step with a command at the front of the queue is that command on the rest of the queue. -/
def Obligations.StepRunsTheFrontCommand : Prop :=
  ∀ (s : State) (c : Instr) (rest : List Instr),
    Machine.step { s with pending := c :: rest } = exec c { s with pending := rest }

/-- A step with no command waiting is one tick of TCLK (the model's choice, notes/assumptions/7.md): the raw counter advances by one tick
of 64 units once the boot loader is done and POR_N is high, and stands otherwise (R141); memory, the wire and the block's state beside
time (where the writes of RATE, OFFSET and STEP since the last edge take effect), Cinch's use counts and the Awls' stall counters are as
before. -/
def Obligations.EmptyQueueStepIsATick : Prop :=
  ∀ s : State, s.pending = [] →
    ∃ t, Machine.step s = .next t
      ∧ t.time.raw = (if s.por = false ∧ s.on pgBOOT BOOT.STAT_DONE = true then s.time.raw + 64 else s.time.raw)
      ∧ t.pending = [] ∧ t.mem = s.mem ∧ t.flips = s.flips ∧ t.por = s.por
      ∧ t.girth = s.girth ∧ t.axes = s.axes ∧ t.pgs = s.pgs ∧ t.ports = s.ports ∧ t.awls = s.awls ∧ t.claims = s.claims
      ∧ (∀ p off, off < 0x1000 → (∀ n, n < 64 → p ≠ pgAWL n) → p ≠ pgMSIX → t.reg p off = s.reg p off)

/-- The state after reset: the canonical forms, nothing waiting, every memory byte 0 (R42), domains 8 and 14 on and no other (R48), GLOB and
PWR running and the scrubber with them (R69), every other page STOPPED where its domain is on and OFF where it is not (R68, R51), no
claim held, CYC and the raw counter 0. -/
def Obligations.ResetState : Prop :=
  Formed State.reset ∧ State.reset.pending = [] ∧ (∀ a, State.reset.byte a = 0) ∧ (∀ a, State.reset.flip a = 0)
    ∧ State.reset.time.raw = 0 ∧ State.reset.girth.cyc = 0 ∧ (∀ r, State.reset.holder r = none)
    ∧ (∀ p, p < 0x1000 → (pageRow p).isSome → State.reset.reg p HDR.PSTAT = if p = pgGLOB ∨ p = pgPWR ∨ p = pgECC then 3 else 1)
    ∧ (∀ d, State.reset.domOn d = true ↔ d = 8 ∨ d = 14)
    ∧ (∀ p, p < 0x1000 → (pageRow p).isSome → State.reset.st p =
        if p = pgGLOB ∨ p = pgPWR ∨ p = pgECC then 3 else if pageDomain p = none ∨ pageDomain p = some 8 ∨ pageDomain p = some 14 then 1 else 0)
    ∧ (∀ p, p < 0x1000 → (pageRow p).isSome → State.reset.rd p HDR.PID_TYPE = pageType p ∧ State.reset.rd p HDR.PID_INST = pageInst p)

/-- Every command answers a next state that keeps the waiting queue; a command other than the two of POR_N leaves the raw counter and
the pin POR_N as they are, and adds to the record of what the block sent without changing what it holds. -/
def Obligations.CommandsKeepQueueAndTime : Prop :=
  ∀ (c : Instr) (s : State), ∃ t, exec c s = .next t ∧ t.pending = s.pending ∧ s.wire <+: t.wire ∧ s.freeCtr ≤ t.freeCtr
    ∧ ((c ≠ .porNFall ∧ ∀ r b p k, c ≠ .powerOnReset r b p k) → t.time.raw = s.time.raw ∧ t.por = s.por)

/-- Memory, the registers and the inverted code bits stand in canonical form in every state a step reaches from one in which they do. -/
def Obligations.StepKeepsFormed : Prop :=
  ∀ s t : State, Formed s → Machine.step s = .next t → Formed t

/-! ### Registers (R5, R33, R66–R82) -/

/-- The registers of a kind of page that a rule of their own governs, so that a write does more or less than its fields' access codes
say: those with a row of the table of their own, and those R64, R270–R274, R154, R497 and others restrict. -/
def Sys2Proof.ownRule : PageKind → Nat → Bool
  | .pwr, off => off == PWR.TARGET
  | .boot, off => off == BOOT.OTPCTL || off == BOOT.HLBASE || off == BOOT.HLCTL
  | .tack, off => off == TACK.CTL || (decide (0x60 ≤ off) && decide (off < 0x80))
  | .ecc, off => off == ECC.INJCTL || off == ECC.INJADDR
  | .time, off => off == TIME.RATE || off == TIME.OFFLO || off == TIME.OFFHI || off == TIME.STEPLO || off == TIME.STEPHI
  | .tpin, _ => true
  | .girth, off => off == GIRTH.CYCLE
  | .nport, off => off == NPORT.SCHSTAT
  | .lat, off => off == LAT.CTL || off == LAT.TRATE
  | .cinch, off => off == CINCH.SVCTRIG
  | .cinchb, off => off == CINCHB.CMDTAIL || off == CINCHB.STATCLR || (decide (0x80 ≤ off) && decide (off < 0xA0))
  | .awl, off => off == AWL.DBGCTL || off == AWL.BP0 || off == AWL.BP1 || off == AWL.DBGRSEL || off == AWL.DBGRDATA || off == AWL.QERR
  | .bench, off => off == BENCH.STATCLR
  | .stitch, off => off == STITCH.PERIOD || (decide (STITCH.LEGA ≤ off) && decide (off < STITCH.LEGA + 12)) || off == STITCH.LEGOFF
      || off == STITCH.TRIPSTAT || off == STITCH.TRIPCFG || (List.range 4).any (fun k => off == STITCH.XCMP k)
  | .axch, off => off == AXCH.OUTVAL
  | .stamp, off => off == STAMP.CTL || off == STAMP.RELEASE || off == STAMP.QUOTA
  | .sto, off => off == STO.OUTSTAT
  | .flddo, off => off == FLDDO.SAFEACT || off == FLDDO.OUT
  | .dma, off => off == DMA.TAIL
  | .msix, _ => true
  | .gate, off => off == GATE.STAT || (decide (0x40 ≤ off) && decide (off < 0x80))
  | _, _ => false

/-- A register whose write follows from its fields' access codes alone: PSTAT or EVT of any page, or a register outside the header
without a rule of its own and without the START bit of a shell. -/
def Sys2Proof.plainReg (p off : Nat) : Bool :=
  match pageKind p with
  | none => false
  | some k =>
    off == HDR.PSTAT || off == HDR.EVT ||
      (decide (0x40 ≤ off) && !ownRule k off
        && !(decide (0x100 ≤ off) && decide (off < 0x100 + 0x80 * pageShells p) && decide (off % 0x80 = 0)))

/-- What a field reads after a write of `v` to its register, by its access code (R5); RWS fields take the value where `takes` is true: in
STOPPED alone (R72), and on a safety page from the host and the loader alone (R433). -/
def Sys2Proof.fieldAfter (f : Fld) (cur v : Word) (takes : Bool) : Nat :=
  match f.acc with
  | .rw => f.get v
  | .rws => if takes then f.get v else f.get cur
  | .w1c => f.get (cur &&& ~~~v)
  | .ro | .wo | .rc => f.get cur

/-- REGISTER_WRITE (R5, R51, R66, R72, R433): each field of a register without a rule of its own takes the written value, keeps its own, or is
cleared bit for bit, as its access code says; bits without a field stay.  A write outside STOPPED that would change an RWS field
sets CFGREJ and raises fault 0xF2 with the writer and the offset; a register with RWS fields of a BUCKLE, SF or STO page keeps them, and
sets CFGREJ, where the writer is neither the host nor the boot loader.  An analog channel that does not run then drives RESTCODE where it is
an output (R364).  Nothing else changes.  A write to a page whose domain is off, or at an offset that no chapter defines, has no effect. -/
def Obligations.RegisterWrite : Prop :=
  (∀ (s : State) (m : Fin 96) (p off : Nat) (v : Word), p < 0x1000 → off < 0x1000 → plainReg p off = true → regFields p off ≠ [] →
      Reaches s m p off true →
      let barred := safetyPage p && m.val != 64 && m.val != 93
      ∃ w : Word, (∀ f ∈ regFields p off, f.get w = fieldAfter f (s.reg p off) v (s.st (statePage p) == 1 && !barred))
        ∧ (∀ i, i < 32 → (∀ f ∈ regFields p off, i < f.lo ∨ f.hi < i) → w.getLsbD i = (s.reg p off).getLsbD i)
        ∧ exec (.registerWrite m (BitVec.ofNat 32 (regAddr p off)) (leBytes 4 v.toNat)) s =
            .next (let t := if barred = true ∧ ∃ f ∈ regFields p off, f.acc = .rws then (s.setReg p off w).wr p HDR.PSTAT_CFGREJ 1 else s.setReg p off w
              let u := if s.st (statePage p) ≠ 1 ∧ ∃ f ∈ regFields p off, f.acc = .rws ∧ f.get v ≠ s.rd p f
                then (t.wr p HDR.PSTAT_CFGREJ 1).fault p (blockCode p 0xF2) (0x10000 * m.val + off) else t
              if 0x40 ≤ off ∧ pageKind p = some .axch ∧ ¬(0x100 ≤ off ∧ off < 0x180) then u.anaIdle (pageInst p) else u))
  ∧ (∀ (s : State) (m : Fin 96) (p off : Nat) (v : Word), p < 0x1000 → off < 0x1000 → s.por = false → s.commandMaster m = true →
      s.gateKind m (regAddr p off) 4 true = none → (s.pageOn p = false ∨ regFields p off = []) →
      exec (.registerWrite m (BitVec.ofNat 32 (regAddr p off)) (leBytes 4 v.toNat)) s = .next s)

/-- A counter of one RC field COUNT [31:0], 0 at reset, that saturates at 0xFFFF_FFFF (R33). -/
def Sys2Proof.counter32 (p off : Nat) : Prop :=
  (∃ f : Fld, regFields p off = [f] ∧ f.lo = 0 ∧ f.hi = 31 ∧ f.acc = .rc) ∧ State.reset.reg p off = 0
    ∧ ∀ s : State, (s.bump p off).reg p off = (if s.reg p off = 0xFFFFFFFF#32 then 0xFFFFFFFF#32 else s.reg p off + 1)

/-- EVTSET_WRITE, ECAP_CLEAR, COUNTER_READ: writing EVTSET sets the EVT bits and raises the request, and changes no capture (R75);
writing all ones to ECAP0 clears the capture (R76); a read of an RC counter returns its value and leaves 0 (R33).
The counters of CINCH (R192), of FLT (R512) and of ECC (R62) are one RC field [31:0] each, 0 at reset, and a count saturates at 0xFFFF_FFFF. -/
def Obligations.EventsCaptureAndCounters : Prop :=
  (∀ x ∈ [(pgCINCH, [0x05C, 0x060, 0x064, 0x068]), (pgFLT, [0x054, 0x058, 0x05C, 0x060, 0x064, 0x068, 0x06C]),
      (pgECC, [0x044, 0x048, 0x04C, 0x050])], ∀ off ∈ x.2, counter32 x.1 off)
  ∧ ∀ (s : State) (m : Fin 96) (page : Fin 4096),
    (∀ v, Reaches s m page HDR.EVTSET true →
      exec (.evtsetWrite m page v) s = .next ((s.setReg page HDR.EVT (s.reg page HDR.EVT ||| v)).msixPage page))
    ∧ (Reaches s m page HDR.ECAP0 true →
      exec (.ecapClear m page) s = .next ((s.setReg page HDR.ECAP0 0).setReg page HDR.ECAP1 0))
    ∧ (∀ (off : Fin 4096) (f : Fld), regFields page off = [f] → f.acc = .rc → Reaches s m page off false →
      exec (.counterRead m page off) s =
        .next { (if s.reg page off = 0#32 then s else s.setReg page off 0) with reply := .data (leBytes 4 (s.reg page off).toNat) })

/-- R75, R461: an event sets its EVT bit and, where the page's enabled request is routed to a vector that is armed and unmasked with
PD_HOST on, sends one message and disarms the vector; it changes nothing else. -/
def Obligations.EventRaisesItsVector : Prop :=
  ∀ (s : State) (p bit : Nat), p < 0x1000 → p ≠ pgMSIX →
    let e := s.setReg p HDR.EVT (s.reg p HDR.EVT ||| BitVec.ofNat 32 (2 ^ bit))
    s.evt p bit =
      match (if (e.reg p HDR.EVT &&& e.reg p HDR.EVTEN) ≠ 0 then s.pageVector p else none) with
      | none => e
      | some v => if s.pageOn pgMSIX ∧ s.armed v = true ∧ s.masked v = false ∧ e.vecReq v = true then (e.setArmed v false).emit (.msix v) else e

/-- R76, R499, R508: a fault below class D of a page's block is captured where ECAP0 reads 0 and only there, is counted in FLT.TOTAL and
in its class counter without passing their end, and changes nothing but that capture, the FLT page, the EVT of FLT and what a message on
its vector changes. -/
def Obligations.FaultIsCapturedAndCounted : Prop :=
  ∀ (s : State) (p code detail : Nat), p < 0x1000 → p ≠ pgFLT → p ≠ pgMSIX → codeClass code ≠ .d →
    (s.fault p code detail).reg p HDR.ECAP0 =
        (if s.reg p HDR.ECAP0 = 0#32 then BitVec.ofNat 32 (0x10000 * code + s.girth.cyc.toNat % 0x10000) else s.reg p HDR.ECAP0)
      ∧ (s.fault p code detail).reg p HDR.ECAP1 =
        (if s.reg p HDR.ECAP0 = 0#32 then BitVec.ofNat 32 detail else s.reg p HDR.ECAP1)
      ∧ (s.fault p code detail).reg pgFLT FLT.TOTAL = satInc (s.reg pgFLT FLT.TOTAL)
      ∧ (s.fault p code detail).reg pgFLT (codeClass code).counter = satInc (s.reg pgFLT (codeClass code).counter)
      ∧ (∀ q o, o < 0x1000 → q ≠ pgFLT → ¬(q = p ∧ (o = HDR.ECAP0 ∨ o = HDR.ECAP1)) →
          ¬(q = pgMSIX ∧ (o = MSIX.ARMED0 ∨ o = MSIX.ARMED1)) → (s.fault p code detail).reg q o = s.reg q o)
      ∧ s.fault p code detail = { s with regs := (s.fault p code detail).regs, wire := (s.fault p code detail).wire,
                                         freeCtr := (s.fault p code detail).freeCtr, logRun := (s.fault p code detail).logRun }

/-! ### Block states, claims and shells (R69–R82) -/

/-- BLOCK_START (R70, R72, R78): in STOPPED, RUN written 1 runs the start check.  Where it passes and the claims are taken, the block
enters STARTING with RUN 1 and its chapter's start-up begins, and is no longer a start of phase 5 of a tack switch.  Where the check fails, the block stays STOPPED with RUN 0, CFGREJ is set
and fault 0xF1 carries the offset of the first failing field; no claim is taken.  A claim another page holds sets CONFLICT, leaves RUN 0 and the holder in place,
and fault 0xF0 carries the holder and the resource.  In any other state the write is ignored. -/
def Obligations.BlockStart : Prop :=
  ∀ (s : State) (m : Fin 96) (page : Fin 4096), Reaches s m page HDR.PCTL true → runFixed page = false →
    (∀ s1 s2, s.st page = 1 → s.startCheck page = (.ok, s1) → s1.claim page = (true, s2) →
      exec (.blockStart m page) s =
        .next (((((s2.startAnew page).wr page HDR.PCTL_RUN 1).wr page HDR.PSTAT_STATE 2).autoCal page).startHook page))
    ∧ (∀ s1 off, s.st page = 1 → s.startCheck page = (.bad (some off), s1) →
      exec (.blockStart m page) s =
        .next (((s1.wr page HDR.PCTL_RUN 0).wr page HDR.PSTAT_CFGREJ 1).fault page (blockCode page 0xF1) off))
    ∧ (∀ s1 r, s.st page = 1 → s.startCheck page = (.ok, s1) → (s1.pageClaims page).2 = s1 →
        (∀ x ∈ (s1.pageClaims page).1, ∀ d, idDomain x.1 = some d → s1.domOn d = true) →
        r ∈ (s1.pageClaims page).1.map (·.1) → (∃ q, s1.holder r = some q ∧ q ≠ page.val) →
        (∀ r', r' ∈ (s1.pageClaims page).1.map (·.1) → (∃ q, s1.holder r' = some q ∧ q ≠ page.val) → r ≤ r') →
      exec (.blockStart m page) s =
        .next (((s1.wr page HDR.PSTAT_CONFLICT 1).fault page (blockCode page 0xF0) (0x10000 * (s1.holder r).getD 0 + r)).wr page HDR.PCTL_RUN 0))
    ∧ (s.st page ≠ 1 → exec (.blockStart m page) s = .next s)

/-- R78: the claims of a start are taken all at once: every resource the configuration names is then held by the page, HELD is 1, and no
other resource changes its holder. -/
def Obligations.ClaimsAreTakenTogether : Prop :=
  ∀ (s t : State) (p : Nat), p < 0x1000 → s.claim p = (true, t) →
    (∀ r ∈ (s.pageClaims p).1.map (·.1), t.holder r = some p)
      ∧ (∀ r, r ∉ (s.pageClaims p).1.map (·.1) → t.holder r = (s.pageClaims p).2.holder r)
      ∧ (∀ r ∈ (s.pageClaims p).1.map (·.1), ∀ q, (s.pageClaims p).2.holder r = some q → q = p)
      ∧ ((s.pageClaims p).1 ≠ [] → t.rd p HDR.CLAIM_HELD = 1)

/-- START_COMPLETE (R70, R82): a block in STARTING whose shells calibrate no more and whose chapter's start-up may complete enters
RUNNING: for a block whose chapter adds nothing, nothing else changes; in any other case the event has no effect. -/
def Obligations.StartCompletes : Prop :=
  ∀ (s : State) (page : Fin 4096), s.por = false →
    (s.st page = 2 → s.shellBusy page = false → s.startReady page = true → page.val ≠ pgTACK →
      (∀ k, pageKind page = some k → k ≠ .lat ∧ k ≠ .buckle ∧ k ≠ .stitch) →
      exec (.startComplete page) s = .next (s.wr page HDR.PSTAT_STATE 3))
    ∧ (s.st page = 2 → s.shellBusy page = false → s.startReady page = true → page.val = pgBUCKLE →
      exec (.startComplete page) s = .next s.buckleBegin)
    ∧ (s.st page = 2 → s.shellBusy page = false → s.startReady page = true → page.val = pgTACK → s.boot.autotack = false →
      exec (.startComplete page) s = .next (s.wr page HDR.PSTAT_STATE 3))
    ∧ (s.st page ≠ 2 ∨ s.shellBusy page = true ∨ s.startReady page = false → page.val ≠ pgTACK →
      exec (.startComplete page) s = .next s)

/-- BLOCK_STOP (R70, R131): RUN written 0 moves a block in STARTING or RUNNING to STOPPING with RUN 0, where its chapter's stop begins (an Awl in
STARTING has nothing to leave, since R180 speaks of one that leaves RUNNING); a GIRTH that still waits for cycle 0 is STOPPED at once and releases its claims; a FAULTED or FROZEN block takes the write of RUN alone, and in
STOPPED or STOPPING nothing changes.  Once GIRTH is STOPPED, a tack switch in phase 2 stops the other switched pages (R492).

STOP_COMPLETE, FAULT_REACTION_COMPLETE (R70, R78): a block in STOPPING whose stop is complete, and a FAULTED block with RUN 0 whose
reaction is complete, enter STOPPED and release all their claims. -/
def Obligations.BlockStop : Prop :=
  (∀ (s : State) (m : Fin 96) (page : Fin 4096), Reaches s m page HDR.PCTL true → runFixed page = false →
      (s.st page = 3 ∨ (s.st page = 2 ∧ page.val ≠ pgGIRTH ∧ pageKind page ≠ some .awl) →
        exec (.blockStop m page) s =
          .next ((((s.wr page HDR.PCTL_RUN 0).wr page HDR.PSTAT_STATE 4).stopHook page).tackStops))
      ∧ (s.st page = 2 → pageKind page = some .awl →
        exec (.blockStop m page) s = .next ((s.wr page HDR.PCTL_RUN 0).wr page HDR.PSTAT_STATE 4).tackStops)
      ∧ (s.st page = 2 → page.val = pgGIRTH →
        exec (.blockStop m page) s = .next (((s.wr page HDR.PCTL_RUN 0).wr page HDR.PSTAT_STATE 1).releaseClaims page).tackStops)
      ∧ (s.st page = 5 ∨ s.st page = 6 → exec (.blockStop m page) s = .next (s.wr page HDR.PCTL_RUN 0).tackStops)
      ∧ (s.st page = 1 ∨ s.st page = 4 → exec (.blockStop m page) s = .next s.tackStops)
      ∧ (s.rd pgTACK TACK.STAT_PHASE ≠ 2 ∨ s.st pgGIRTH ≠ 1 → s.tackStops = s))
  ∧ (∀ (s : State) (page : Fin 4096), s.por = false →
      (s.st page = 4 → s.stopReady page = true →
        exec (.stopComplete page) s = .next (((s.wr page HDR.PSTAT_STATE 1).releaseClaims page).endHook page))
      ∧ (s.st page = 5 → s.rd page HDR.PCTL_RUN = 0 → (∀ n, page.val = pgAWL n → n < 64 → (s.awl n).fifo = []) →
        exec (.faultReactionComplete page) s = .next (((s.wr page HDR.PSTAT_STATE 1).releaseClaims page).endHook page))
      ∧ (s.st page ≠ 4 → exec (.stopComplete page) s = .next s)
      ∧ (s.st page ≠ 5 ∨ s.on page HDR.PCTL_RUN = true → exec (.faultReactionComplete page) s = .next s)
      ∧ (∀ r, (s.releaseClaims page).holder r ≠ some page.val ∧ (s.holder r ≠ some page.val → (s.releaseClaims page).holder r = s.holder r))
      ∧ (s.releaseClaims page).reg page HDR.CLAIM = 0)

/-- The shell of a page's macro. -/
def Sys2Proof.shellOf (page : Fin 4096) (k : Fin 30) : Prop := k.val < pageShells page

/-- CALIBRATION_START, CALIBRATION_DONE, SHELL_MONITOR_MEASURE (R81, R82): START in STOPPED begins one calibration, which is none of AUTO, and in any other
state is refused with CFGREJ; a run that succeeds counts, sets DONE and writes the trim words its KIND names, after which an idle analog output
drives RESTCODE anew (R364); one that fails sets FAIL with its code, and where it is a run of AUTO and the block is STARTING the block returns to STOPPED with
fault 0xF4, and a tack switch that made the start takes it as failed (R494; whenever the run ends, the model's choice, notes/assumptions/125.md) (that a failed run is not counted is the model's choice, notes/assumptions/96.md); a measurement of an enabled monitor shows its
value, of an analog channel its code (R365), and sets ABOVE and BELOW against the limits that are armed. -/
def Obligations.AnalogShells : Prop :=
  ∀ (s : State) (m : Fin 96) (page : Fin 4096) (k : Fin 30), shellOf page k →
    (Reaches s m page (0x100 + 0x80 * k.val) true → Formed s → s.st page = 1 → s.on page (SHELL.CALSTAT_BUSY k) = false →
      s.rd page (SHELL.CALCTL_START k) = 0 →
      exec (.calibrationStart m page k) s = .next ((s.wr page (SHELL.CALSTAT_BUSY k) 1).setAutoRun page k false))
    ∧ (Reaches s m page (0x100 + 0x80 * k.val) true → Formed s → 2 ≤ s.st page → s.rd page (SHELL.CALCTL_START k) = 0 →
      exec (.calibrationStart m page k) s = .next (s.wr page HDR.PSTAT_CFGREJ 1))
    ∧ (∀ res0 res1 err, s.por = false → s.on page (SHELL.CALSTAT_BUSY k) = true →
      let kind := s.rd page (SHELL.CALCTL_KIND k)
      let s0 := ((s.wr page (SHELL.CALSTAT_BUSY k) 0).setAutoRun page k false).wr page (SHELL.CALSTAT_DONE k) 1
      let s1 := s0.wr page (SHELL.CALSTAT_RUNS k) (min 0xFFFF (s.rd page (SHELL.CALSTAT_RUNS k) + 1))
      let s2 := if kind = 2 then s1 else s1.setReg page (SHELL.CALRES0 k) res0
      let s3 := if kind = 1 then s2 else s2.setReg page (SHELL.CALRES1 k) res1
      exec (.calibrationDone page k true res0 res1 err) s = .next (if pageKind page = some .axch then s3.anaIdle (pageInst page) else s3))
    ∧ (∀ res0 res1 err, s.por = false → s.on page (SHELL.CALSTAT_BUSY k) = true → s.st page = 2 → 32 * page.val + k.val ∈ s.autoRuns →
      ∃ t, exec (.calibrationDone page k false res0 res1 err) s = .next t ∧ t.rd page HDR.PSTAT_STATE = 1 ∧ t.rd page HDR.PCTL_RUN = 0
        ∧ t.rd page HDR.PSTAT_CFGREJ = 1 ∧ t.rd page (SHELL.CALSTAT_FAIL k) = 1 ∧ t.rd page (SHELL.CALSTAT_ERR k) = err.toNat
        ∧ t.reg page (SHELL.CALRES0 k) = s.reg page (SHELL.CALRES0 k) ∧ t.reg page (SHELL.CALRES1 k) = s.reg page (SHELL.CALRES1 k)
        ∧ (s.reg page HDR.ECAP0 = 0#32 → t.rd page HDR.ECAP0_CODE = blockCode page 0xF4)
        ∧ (page.val ∈ s.tack.starts → t.on pgTACK TACK.STAT_PARTIAL = true))
    ∧ (∀ res0 res1 err, s.por = false → s.on page (SHELL.CALSTAT_BUSY k) = true → s.st page ≠ 2 ∨ 32 * page.val + k.val ∉ s.autoRuns →
      exec (.calibrationDone page k false res0 res1 err) s =
        .next ((((s.wr page (SHELL.CALSTAT_BUSY k) 0).setAutoRun page k false).wr page (SHELL.CALSTAT_FAIL k) 1).wr page (SHELL.CALSTAT_ERR k) err.toNat))
    ∧ (∀ res0 res1 err ok, s.on page (SHELL.CALSTAT_BUSY k) = false → s.por = false → exec (.calibrationDone page k ok res0 res1 err) s = .next s)
    ∧ (∀ value : BitVec 16, s.por = false → s.pageOn page = true → s.on page (SHELL.MONCTL_EN k) = true → s.rd page (SHELL.MONCTL_SELECT k) = 0 →
      let v := if pageKind page = some .axch
        then ((if s.on page AXCH.CFG_DIR then s.rd page AXCH.OUTNOW_CODE else s.rd page AXCH.SAMP_LAST / 16) + 0x800) % 0x1000 else value.toNat
      ∃ t, exec (.shellMonitorMeasure page k value) s = .next t ∧ t.rd page (SHELL.MONVAL_VALUE k) = v
        ∧ (t.on page (SHELL.MONSTAT_BELOW k) = true ↔ s.on page (SHELL.MONSTAT_BELOW k) = true
            ∨ (s.rd page (SHELL.MONLIM_LO k) ≠ 0 ∧ v < s.rd page (SHELL.MONLIM_LO k)))
        ∧ (t.on page (SHELL.MONSTAT_ABOVE k) = true ↔ s.on page (SHELL.MONSTAT_ABOVE k) = true
            ∨ (s.rd page (SHELL.MONLIM_HI k) ≠ 0xFFFF ∧ s.rd page (SHELL.MONLIM_HI k) < v))
        ∧ t = { s with regs := t.regs })

/-! ### Memory, gates and the host interface (R35–R41, R64, R458–R477, R536) -/

/-- No code word that `[a, a + n)` touches has an inverted bit, and no injection is armed. -/
def Sys2Proof.cleanWords (s : State) (a n : Nat) : Prop :=
  (∀ w ∈ wordsOf a n, s.flip w = 0) ∧ s.on pgECC ECC.INJCTL_ARM = false

/-- The access of a command master to `[a, a + n)` of memory is permitted and performed: its gate permits it (R468), it lies outside the
register space, and a write does not go to the local memory of an Awl that is neither STOPPED nor FROZEN (R37). -/
def Sys2Proof.Permits (s : State) (m a n : Nat) (write : Bool) : Prop :=
  s.por = false ∧ s.commandMaster m = true ∧ 0 < n ∧ s.gateKind m a n write = none ∧ isReg a = false
    ∧ (write = true → ∀ w ∈ wordsOf a n, s.localShut w = none)

/-- DEBUG_PORT_ACCESS and HOST_BAR2_ACCESS, stores (R27, R35, R40, R458, R536): a permitted store puts its bytes at its addresses, of OUTFLAGS in
the record of a mapped axis READY alone, and leaves every other byte, every register outside the counting BENCH page, and the rest of the block as they are. -/
def Obligations.PermittedStoreWritesItsBytes : Prop :=
  ∀ (s : State) (a : Word) (bs : List Byte), bs.length ≤ 4096 → cleanWords s a.toNat bs.length →
    (∀ m c, ((m = mDebug ∧ c = Instr.debugPortAccess a 0 (some bs)) ∨ (m = mHost ∧ c = Instr.hostBar2Access a 0 (some (bs.map some)))) →
      Permits s m a.toNat bs.length true →
      ∃ t, exec c s = .next t
        ∧ (∀ i (h : i < bs.length), t.byte (a.toNat + i) =
            (if (a.toNat + i) % 0x400 / 4 = 0x25 ∧ (s.axisAt (a.toNat + i)).isSome = true
              then (if (a.toNat + i) % 4 = 0 then (s.byte (a.toNat + i) &&& 0xFE) ||| (bs[i] &&& 1) else s.byte (a.toNat + i)) else bs[i]))
        ∧ (∀ x, x < a.toNat ∨ a.toNat + bs.length ≤ x → t.byte x = s.byte x)
        ∧ (∀ p off, off < 0x1000 → (∀ b, b < 8 → p ≠ pgBENCH b) → ¬(p = pgMSIX ∧ (off = MSIX.ARMED0 ∨ off = MSIX.ARMED1)) →
            t.reg p off = s.reg p off)
        ∧ t = { s with mem := t.mem, flips := t.flips, regs := t.regs, wire := t.wire })

/-- DEBUG_PORT_ACCESS and HOST_BAR2_ACCESS, reads (R39, R458, R536): a permitted read of words without errors returns the bytes stored there
and changes no byte of memory. -/
def Obligations.PermittedReadReturnsTheBytes : Prop :=
  ∀ (s : State) (a : Word) (n : Nat), cleanWords s a.toNat n →
    (∀ m c, ((m = mDebug ∧ c = Instr.debugPortAccess a n none) ∨ (m = mHost ∧ c = Instr.hostBar2Access a n none)) →
      Permits s m a.toNat n false →
      ∃ t, exec c s = .next t ∧ t.reply = .data ((List.range n).map fun i => s.byte (a.toNat + i)) ∧ t.mem = s.mem ∧ t.flips = s.flips
        ∧ (∀ p off, off < 0x1000 → (∀ b, b < 8 → p ≠ pgBENCH b) → ¬(p = pgMSIX ∧ (off = MSIX.ARMED0 ∨ off = MSIX.ARMED1)) →
            t.reg p off = s.reg p off))

/-- R36, R458, R468, R469: an access that its master's gate does not permit is not performed, and is recorded: the host's is aborted, counted in
REFUSED and reported as 0xA002; the debug port's is aborted; an Awl is frozen.  A write of the host to the registers is one such access for
each DW: of two whole DWs each is judged, and performed or refused, by itself, the lower first; of another master it is one access. -/
def Obligations.RefusedAccessIsRecorded : Prop :=
  ∀ (s : State) (m : Fin 96) (a : Word) (bs : List Byte) (k : Nat), bs ≠ [] → s.por = false → s.commandMaster m = true →
    s.gateKind m a.toNat bs.length true = some k →
    let r := s.gateRecord m a.toNat (accKind a.toNat bs.length true) k
    (m.val = mHost → isReg a.toNat = false ∨ bs.length = 4 → exec (.registerWrite m a bs) s =
      .next { ((((r.bump pgHOST HOST.REFUSED).setReg pgHOST HOST.REFADDR a).evt pgHOST 1).fault pgHOST 0xA002 a.toNat) with reply := .abort })
    ∧ (m.val = mDebug → exec (.registerWrite m a bs) s = .next { r with reply := .abort })
    ∧ (m.val < 64 → exec (.registerWrite m a bs) s = .next (({ r with reply := .abort } : State).awlFreeze m))
    ∧ (m.val = mHost → isReg a.toNat = true → a.toNat % 4 = 0 → bs.length = 8 →
        let dw (t : State) (a : Nat) (bs : List Byte) : State := match t.gateKind mHost a 4 true with
          | some k => t.hostRefuse a 1 k
          | none => t.regWrite mHost (a / 0x1000 % 0x1000) (a % 0x1000) (BitVec.ofNat 32 (leToNat bs))
        isReg (a.toNat + 4) = true → exec (.registerWrite m a bs) s = .next (dw (dw s a.toNat (bs.take 4)) (a.toNat + 4) (bs.drop 4)))

/-- R469: the record of a violation: VALID is set; VADDR, ACC and KIND hold the first violation since VALID was last cleared; VCNT counts
while the page runs; memory and every other page but FLT and the ARMED words are as before. -/
def Obligations.GateRecordsTheFirstViolation : Prop :=
  ∀ (s : State) (m : Fin 96) (a acc kind : Nat), a < 2 ^ 32 → acc < 3 → kind < 6 →
    let t := s.gateRecord m a acc kind
    let p := pgGATE m
    t.on p GATE.STAT_VALID = true
      ∧ (s.on p GATE.STAT_VALID = false → t.reg p GATE.VADDR = BitVec.ofNat 32 a ∧ t.rd p GATE.VINFO_KIND = kind ∧ t.rd p GATE.VINFO_ACC = acc
          ∧ t.rd p GATE.VINFO_CYC = s.girth.cyc.toNat % 0x10000)
      ∧ (s.on p GATE.STAT_VALID = true → t.reg p GATE.VADDR = s.reg p GATE.VADDR ∧ t.reg p GATE.VINFO = s.reg p GATE.VINFO)
      ∧ (s.running p = true → t.reg p GATE.VCNT = satInc (s.reg p GATE.VCNT))
      ∧ t.reg pgFLT FLT.TOTAL = satInc (s.reg pgFLT FLT.TOTAL)
      ∧ (∀ x, t.byte x = s.byte x)
      ∧ (∀ q off, off < 0x1000 → q ≠ p → q ≠ pgFLT → q ≠ pgMSIX → t.reg q off = s.reg q off)

/-- WINDOW_WRITE, GATE_RELEASE (R470, R471, R477): a window register takes a write of the host or the boot loader while the master's block is OFF, STOPPED or
FROZEN, if the window's size lies in 12–32 and its base is aligned to the size, and is refused with CFGREJ otherwise
(that it is judged with the other register's present value is the model's reading, notes/assumptions/56.md); writing 1 to FROZEN
returns a frozen master with RUN 0 to STOPPED and releases its claims, and with RUN 1 is refused. -/
def Obligations.GateWindowsAndRelease : Prop :=
  ∀ (s : State) (m g : Fin 96),
    (∀ (k : Fin 8) (ctl : Bool) (v : Word), Reaches s m (pgGATE g) (if ctl then GATE.WCTL k else GATE.WBASE k) true →
      let off := if ctl then GATE.WCTL k else GATE.WBASE k
      let base := 0x1000 * (if ctl then s.rd (pgGATE g) (GATE.WBASE_BASE k) else (GATE.WBASE_BASE k).get v)
      let sz := if ctl then (GATE.WCTL_SZ k).get v else s.rd (pgGATE g) (GATE.WCTL_SZ k)
      let fits := s.windowOpen g m = true ∧ 12 ≤ sz ∧ sz ≤ 32 ∧ base % 2 ^ sz = 0
      (fits → ∃ t, exec (.windowWrite m g k ctl v) s = .next t ∧ t = s.setReg (pgGATE g) off (t.reg (pgGATE g) off)
        ∧ (∀ f ∈ regFields (pgGATE g) off, f.get (t.reg (pgGATE g) off) = f.get v))
      ∧ (¬ fits → exec (.windowWrite m g k ctl v) s = .next (s.wr (pgGATE g) HDR.PSTAT_CFGREJ 1)))
    ∧ (∀ p, masterPage g = some p → Reaches s m (pgGATE g) GATE.STAT true →
      (s.st p = 6 → s.rd p HDR.PCTL_RUN = 0 →
        exec (.gateRelease m g) s = .next (((s.wr (pgGATE g) GATE.STAT_FROZEN 0).wr p HDR.PSTAT_STATE 1).releaseClaims p))
      ∧ (s.st p = 6 → s.rd p HDR.PCTL_RUN ≠ 0 → exec (.gateRelease m g) s = .next (s.wr (pgGATE g) HDR.PSTAT_CFGREJ 1)))

/-- REARM_WRITE, and writes of MSIX.MAP and the MSI-X table (R460, R461, R474): each vector written to REARM is armed again, and sends at once, disarming
itself, where a request routed to it is active and it is unmasked; the other vectors keep their ARMED bit.  A word of the map or of the table
takes the written fields, and every vector that is armed, unmasked and requested under what is then in force sends its message, in ascending order,
and is disarmed; nothing else changes.  (Where map and table stand on the page, and that of a table entry the mask bit alone acts, is the model's
reading, notes/assumptions/92.md.) -/
def Obligations.RearmArmsAndResends : Prop :=
  (∀ (s : State) (m : Fin 96) (half : Fin 2) (v : Word), Reaches s m pgMSIX (MSIX.REARM0 + 4 * half) true →
    let sends (i : Nat) : Bool := s.vecReq (32 * half + i) && !s.masked (32 * half + i)
    ∃ t, exec (.rearmWrite m half v) s = .next t
      ∧ (∀ i, i < 32 → v.getLsbD i = true → t.armed (32 * half + i) = !sends i)
      ∧ (∀ i, i < 64 → ¬(i / 32 = half ∧ v.getLsbD (i % 32) = true) → t.armed i = s.armed i)
      ∧ t.wire = s.wire ++ (((List.range 32).filter fun i => v.getLsbD i && sends i).map fun i => Tx.msix (32 * half + i))
      ∧ (∀ q off, off < 0x1000 → ¬(q = pgMSIX ∧ off = MSIX.ARMED0 + 4 * half) → t.reg q off = s.reg q off)
      ∧ t = { s with regs := t.regs, wire := t.wire })
  ∧ (∀ (s : State) (m : Fin 96) (off : Nat) (v : Word), 0x400 ≤ off → off < 0xC00 → off % 4 = 0 → Reaches s m pgMSIX off true →
      ∃ w t, (∀ f ∈ regFields pgMSIX off, f.get w = f.get v)
        ∧ (∀ i, i < 32 → (∀ f ∈ regFields pgMSIX off, i < f.lo ∨ f.hi < i) → w.getLsbD i = (s.reg pgMSIX off).getLsbD i)
        ∧ exec (.registerWrite m (BitVec.ofNat 32 (regAddr pgMSIX off)) (leBytes 4 v.toNat)) s = .next t
        ∧ (let u := s.setReg pgMSIX off w
          let sends (i : Nat) : Bool := u.armed i && !u.masked i && u.vecReq i
          t.reg pgMSIX off = w ∧ (∀ i, i < 64 → t.armed i = (u.armed i && !sends i))
            ∧ t.wire = s.wire ++ ((List.range 64).filter sends).map Tx.msix
            ∧ (∀ q o, o < 0x1000 → ¬(q = pgMSIX ∧ (o = off ∨ o = MSIX.ARMED0 ∨ o = MSIX.ARMED1)) → t.reg q o = s.reg q o)
            ∧ t = { s with regs := t.regs, wire := t.wire }))

/-- The lengths R466 allows a kind. -/
def Sys2Proof.lengthAllowed (kind len : Nat) : Prop :=
  (kind = 0 ∧ 8 ≤ len ∧ len ≤ 65528 ∧ len % 8 = 0) ∨ ((kind = 1 ∨ kind = 2) ∧ 4 ≤ len ∧ len ≤ 1024)
    ∨ (kind = 3 ∧ 14 ≤ len ∧ len ≤ 1518) ∨ (kind = 4 ∧ 64 ≤ len ∧ len ≤ 65528 ∧ len % 8 = 0)

/-- The ring of a channel lies in words without errors, and no injection is armed. -/
def Sys2Proof.cleanRing (s : State) (k : Nat) : Prop :=
  s.rd (pgDMA k) DMA.RING_RLOG2 ≤ 12 ∧ cleanWords s (32 * s.rd (pgDMA k) DMA.RBASE_ADDR) (32 * 2 ^ s.rd (pgDMA k) DMA.RING_RLOG2)

/-- TAIL_WRITE, DMA_DESCRIPTOR (R101, R462–R466): TAIL takes an index below the ring size and refuses another with CFGREJ; a channel that
does not fetch or whose ring is empty does nothing.  The descriptor at HEAD is written back with STATUS 3 where it is not owned, 2 where its LEN is outside
R466, 4 where its mailbox frame is longer than the window (MBXDROP) or its port not CYCLIC, or its plant port is down, 5 with fault 0xA101 where it,
its source or its target answers with an error, 6 where its channel is frozen at it, and 1 with the byte count where its copy moved whole.  Each
write-back clears OWN, sets STATUS and counts DONE or FAIL, and LENERR for status 2, and HEAD advances.  Where a ring is drained (a stop or a reset: status 7;
a freeze: 7 after the 6), each owned descriptor from HEAD to TAIL takes the status, the others stay, and HEAD is TAIL. -/
def Obligations.DmaRing : Prop :=
  ∀ (s : State) (m : Fin 96) (k : Fin 8),
    (∀ index : BitVec 12, Reaches s m (pgDMA k) DMA.TAIL true →
      exec (.tailWrite m k index) s =
        .next (if index.toNat < 2 ^ s.rd (pgDMA k) DMA.RING_RLOG2 then s.wr (pgDMA k) DMA.TAIL_INDEX index.toNat
          else s.wr (pgDMA k) HDR.PSTAT_CFGREJ 1))
    ∧ (∀ pcie bit, s.por = false → (s.running (pgDMA k) = false ∨ s.rd (pgDMA k) DMA.HEAD_INDEX = s.rd (pgDMA k) DMA.TAIL_INDEX) →
      exec (.dmaDescriptor k pcie bit) s = .next s)
    ∧ (∀ pcie bit b s1, s.por = false → s.running (pgDMA k) = true → s.on pgHOST HOST.LINKSTAT_D3 = false → (s.dma k).offer = none →
      s.rd (pgDMA k) DMA.HEAD_INDEX ≠ s.rd (pgDMA k) DMA.TAIL_INDEX → s.descRead k (s.rd (pgDMA k) DMA.HEAD_INDEX) = (b, true, s1) →
      let d := Desc.of b
      let g := pgNPORT d.port
      (fieldAt b 0 1 % 2 = 0 → exec (.dmaDescriptor k pcie bit) s = .next (s1.finish k b 3))
      ∧ (fieldAt b 0 1 % 2 = 1 → s1.dmaKind k ≤ 4 → ¬ lengthAllowed (s1.dmaKind k) d.len → exec (.dmaDescriptor k pcie bit) s = .next (s1.finish k b 2))
      ∧ (descBad (s1.dmaKind k) d = none → s1.dmaKind k = 1 →
          let long := s1.rd g NPORT.ACYWIN_END - s1.rd g NPORT.ACYWIN_START < s1.mailboxTicks d.port d.len
          (s1.pageOn g = true → long → exec (.dmaDescriptor k pcie bit) s = .next ((s1.bumpE g NPORT.MBXDROP 4).finish k b 4))
          ∧ (¬ long → s1.portSt d.port ≠ 4 → exec (.dmaDescriptor k pcie bit) s = .next (s1.finish k b 4)))
      ∧ (descBad 3 d = none → s1.dmaKind k = 3 →
          (s1.running (pgPLNT (s1.rd (pgDMA k) DMA.CFG_PLNT)) = false ∨ s1.on (pgPLNT (s1.rd (pgDMA k) DMA.CFG_PLNT)) PLNT.MACSTAT_LINK = false) →
          exec (.dmaDescriptor k pcie bit) s = .next (s1.finish k b 4))
      ∧ (∀ bytes s2 n s3 r w, descBad 0 d = none → s1.dmaKind k = 0 → s1.sourceRead k d pcie = (r, bytes, s2) →
          bitOf d.ctl 5 = true → s2.bufWrite k d.tstamp bytes = (w, n, s3) →
          (w = .ok → r = .ok → exec (.dmaDescriptor k pcie bit) s =
            .next ((s3.writeBack k (s3.dmaHead k) b 1 n d.port none (s3.cyc % 2 ^ 32)).headNext k))
          ∧ (w = .bus ∨ (w = .ok ∧ r = .bus) → exec (.dmaDescriptor k pcie bit) s = .next (s3.busError k b n))
          ∧ (∀ at' acc kind, w = .gate at' acc kind ∨ (w = .ok ∧ r = .gate at' acc kind) →
              exec (.dmaDescriptor k pcie bit) s = .next (s3.dmaFreeze k b n at' acc kind))))
    ∧ (∀ pcie bit b s1, s.por = false → s.running (pgDMA k) = true → s.on pgHOST HOST.LINKSTAT_D3 = false → (s.dma k).offer = none →
      s.rd (pgDMA k) DMA.HEAD_INDEX ≠ s.rd (pgDMA k) DMA.TAIL_INDEX → s.descRead k (s.rd (pgDMA k) DMA.HEAD_INDEX) = (b, false, s1) →
      exec (.dmaDescriptor k pcie bit) s = .next (s1.busError k b 0))
    ∧ (∀ (b : List Byte) (n at' acc kind : Nat), b.length = 32 → cleanRing s k →
      s.rd (pgDMA k) DMA.HEAD_INDEX < 2 ^ s.rd (pgDMA k) DMA.RING_RLOG2 →
      let p := pgDMA k
      let h := s.rd p DMA.HEAD_INDEX
      let size := 2 ^ s.rd p DMA.RING_RLOG2
      let a (i : Nat) : Nat := 32 * s.rd p DMA.RBASE_ADDR + 32 * i
      let written (t : State) (i status : Nat) : Prop := t.byte (a i + 1) = BitVec.ofNat 8 status ∧ (t.byte (a i)).getLsbD 0 = false
      (∀ status, status < 8 → let t := s.finish k b status
        written t h status ∧ t.rd p DMA.HEAD_INDEX = (h + 1) % size
          ∧ (status ≠ 1 → t.reg p DMA.FAIL = satInc (s.reg p DMA.FAIL) ∧ t.reg p DMA.DONE = s.reg p DMA.DONE)
          ∧ (status = 1 → t.reg p DMA.DONE = satInc (s.reg p DMA.DONE) ∧ t.reg p DMA.FAIL = s.reg p DMA.FAIL)
          ∧ (t.reg p DMA.LENERR = if status = 2 then satInc (s.reg p DMA.LENERR) else s.reg p DMA.LENERR))
      ∧ (let t := s.busError k b n
        written t h 5 ∧ t.rd p DMA.HEAD_INDEX = (h + 1) % size ∧ (s.reg p HDR.ECAP0 = 0#32 → t.rd p HDR.ECAP0_CODE = 0xA101))
      ∧ (s.rd p DMA.TAIL_INDEX < size →
        (∀ status, status < 8 → let t := s.drainRing k status
          t.rd p DMA.HEAD_INDEX = s.rd p DMA.TAIL_INDEX
            ∧ ∀ j, j < (s.rd p DMA.TAIL_INDEX + size - h) % size → let i := (h + j) % size
              ((s.byte (a i)).getLsbD 0 = true → written t i status)
                ∧ ((s.byte (a i)).getLsbD 0 = false → ∀ x, x < 32 → t.byte (a i + x) = s.byte (a i + x)))
        ∧ (s.pageOn p = true → h ≠ s.rd p DMA.TAIL_INDEX →
          let t := s.dmaFreeze k b n at' acc kind
          written t h 6 ∧ t.st p = 6 ∧ t.on (pgGATE (mDma k)) GATE.STAT_FROZEN = true ∧ t.rd p DMA.HEAD_INDEX = s.rd p DMA.TAIL_INDEX)))

/-- PLANT_FRAME_RECEIVE, PLANT_LINK_CHANGE (R150, R151, R467, R476): a plant port that runs with its link up counts a frame with a bad FCS
and drops a pause frame; it passes over a frame for another address; it counts one it accepts, which is dropped where no channel receives
for the port, and else goes to the channel's descriptor with its time stamp.  That RXOK counts an accepted frame that is then dropped is the model's
reading (notes/assumptions/53.md), and so is the stamp as T64 of the edge plus the bit's place (54.md). -/
def Obligations.PlantFrames : Prop :=
  ∀ (s : State) (x : Fin 2) (bytes : List Byte) (fcsOk : Bool) (bit : Nat), s.por = false →
    (∀ up, s.pageOn (pgPLNT x) = true →
      exec (.plantLinkChange x up) s = .next (s.wr (pgPLNT x) PLNT.MACSTAT_LINK (if up then 1 else 0)))
    ∧ (s.running (pgPLNT x) = true → s.on (pgPLNT x) PLNT.MACSTAT_LINK = true →
      (fcsOk = false → exec (.plantFrameReceive x bytes fcsOk bit) s = .next (s.bump (pgPLNT x) PLNT.RXFCS))
      ∧ (fcsOk = true → beToNat (slice bytes 12 2) = 0x8808 →
          exec (.plantFrameReceive x bytes fcsOk bit) s = .next (s.bump (pgPLNT x) PLNT.RXDROP))
      ∧ (fcsOk = true → beToNat (slice bytes 12 2) ≠ 0x8808 → s.plantAccepts x bytes = false →
          exec (.plantFrameReceive x bytes fcsOk bit) s = .next s)
      ∧ (fcsOk = true → beToNat (slice bytes 12 2) ≠ 0x8808 → s.plantAccepts x bytes = true →
          (∀ k, k < 8 → ¬(s.running (pgDMA k) = true ∧ s.rd (pgDMA k) DMA.CFG_KIND = 4 ∧ s.rd (pgDMA k) DMA.CFG_PLNT = x)) →
          exec (.plantFrameReceive x bytes fcsOk bit) s = .next ((s.bump (pgPLNT x) PLNT.RXOK).bump (pgPLNT x) PLNT.RXDROP))
      ∧ (∀ k s2, fcsOk = true → beToNat (slice bytes 12 2) ≠ 0x8808 → s.plantAccepts x bytes = true → k < 8 →
          s.running (pgDMA k) = true → s.rd (pgDMA k) DMA.CFG_KIND = 4 → s.rd (pgDMA k) DMA.CFG_PLNT = x →
          (∀ j, j < k → ¬(s.running (pgDMA j) = true ∧ s.rd (pgDMA j) DMA.CFG_KIND = 4 ∧ s.rd (pgDMA j) DMA.CFG_PLNT = x)) →
          (s.bump (pgPLNT x) PLNT.RXOK).receiveInto k bytes 0
            (s.t64 + BitVec.ofNat 64 (bit * 64 / 5) - BitVec.ofNat 64 (s.rd (pgPLNT x) PLNT.TSCFG_RXLAT)) (s.girth.cyc.toNat % 2 ^ 32) = (true, s2) →
          exec (.plantFrameReceive x bytes fcsOk bit) s = .next s2))

/-- HOST_RESET, PCIE_LINK_UP, PCIE_POWER_STATE_CHANGE (R457–R459): a host-side reset returns every register of the MSIX page (map, table, ARMED, REARM)
and of the HOST page (REFUSED, REFADDR, CPLERR) to its reset value but RESETCNT, which counts it; a function-level reset keeps the link and returns the
function to D0 (the model's reading, notes/assumptions/55.md), any other leaves L0 and, from L0, raises 0xA001.  Every DMA channel that is STARTING, RUNNING
or STOPPING is STOPPED with RUN 0, holds nothing, and its ring is drained with status 7, as is that of a FROZEN one, which stays so (55.md).  Nothing else changes.  The link trained shows UP
with its speed and width.  With PD_HOST off nothing happens.  The Device ID is 0x0256, before and after. -/
def Obligations.HostLink : Prop :=
  ∀ s : State, s.por = false →
    (s.pageOn pgHOST = true →
      (∀ kind : Fin 4, ∃ t, exec (.hostReset kind) s = .next t
        ∧ t.reg pgHOST HOST.RESETCNT = satInc (s.reg pgHOST HOST.RESETCNT)
        ∧ (∀ off, off < 0x1000 → t.reg pgMSIX off = regResetAt pgMSIX off) ∧ (∀ v, v < 64 → t.masked v = true)
        ∧ (∀ off, off < 0x1000 → off ≠ HOST.RESETCNT → (kind.val = 0 → off ≠ HOST.LINKSTAT) →
            (kind.val ≠ 0 → s.on pgHOST HOST.LINKSTAT_UP = true → off ≠ HDR.EVT ∧ off ≠ HDR.ECAP0 ∧ off ≠ HDR.ECAP1) →
            t.reg pgHOST off = regResetAt pgHOST off)
        ∧ (kind.val = 0 → t.rd pgHOST HOST.LINKSTAT_D3 = 0 ∧ t.rd pgHOST HOST.LINKSTAT_UP = s.rd pgHOST HOST.LINKSTAT_UP
            ∧ t.rd pgHOST HOST.LINKSTAT_GEN = s.rd pgHOST HOST.LINKSTAT_GEN ∧ t.rd pgHOST HOST.LINKSTAT_WIDTH = s.rd pgHOST HOST.LINKSTAT_WIDTH)
        ∧ (kind.val ≠ 0 → t.rd pgHOST HOST.LINKSTAT_UP = 0)
        ∧ (kind.val ≠ 0 → s.on pgHOST HOST.LINKSTAT_UP = true → t.rd pgHOST HDR.ECAP0_CODE = 0xA001)
        ∧ (∀ k : Fin 8, (s.st (pgDMA k) = 2 ∨ s.st (pgDMA k) = 3 ∨ s.st (pgDMA k) = 4 →
              t.st (pgDMA k) = 1 ∧ t.rd (pgDMA k) HDR.PCTL_RUN = 0 ∧ t.dma k = {} ∧ (∀ r, t.holder r ≠ some (pgDMA k)))
            ∧ (s.st (pgDMA k) = 6 → t.st (pgDMA k) = 6 ∧ t.dma k = {})
            ∧ (s.st (pgDMA k) = 2 ∨ s.st (pgDMA k) = 3 ∨ s.st (pgDMA k) = 4 ∨ s.st (pgDMA k) = 6 →
                t.rd (pgDMA k) DMA.HEAD_INDEX = s.rd (pgDMA k) DMA.TAIL_INDEX
                  ∧ ((∀ j : Fin 8, j ≠ k → s.st (pgDMA j) ≤ 1 ∨ s.st (pgDMA j) = 5) → t.mem = (s.drainRing k 7).mem))
            ∧ (s.st (pgDMA k) ≤ 1 ∨ s.st (pgDMA k) = 5 → ∀ off, off < 0x1000 → t.reg (pgDMA k) off = s.reg (pgDMA k) off))
        ∧ ((∀ j : Fin 8, s.st (pgDMA j) ≤ 1 ∨ s.st (pgDMA j) = 5) → t.mem = s.mem ∧ t.claims = s.claims)
        ∧ (∀ p off, off < 0x1000 → pageKind p ≠ some .host → pageKind p ≠ some .msix → pageKind p ≠ some .dma → pageKind p ≠ some .plnt →
            pageKind p ≠ some .flt → pageKind p ≠ some .ecc → pageKind p ≠ some .bench → t.reg p off = s.reg p off)
        ∧ t = { s with regs := t.regs, mem := t.mem, flips := t.flips, wire := t.wire, dmas := t.dmas, claims := t.claims, axes := t.axes,
                       autoRuns := s.autoRuns.filter fun k => k / 32 != pgHOST, freeCtr := t.freeCtr, logRun := t.logRun })
      ∧ (∀ gen width, exec (.pcieLinkUp gen width) s =
          .next (((s.wr pgHOST HOST.LINKSTAT_UP 1).wr pgHOST HOST.LINKSTAT_GEN gen).wr pgHOST HOST.LINKSTAT_WIDTH width))
      ∧ (∀ d3, exec (.pciePowerStateChange d3) s = .next (s.wr pgHOST HOST.LINKSTAT_D3 (if d3 then 1 else 0))))
    ∧ (s.pageOn pgHOST = false → (∀ kind, exec (.hostReset kind) s = .next s) ∧ (∀ gen width, exec (.pcieLinkUp gen width) s = .next s)
        ∧ (∀ d3, exec (.pciePowerStateChange d3) s = .next s))
    ∧ State.reset.configId.extractLsb' 16 16 = 0x0256#16

/-! ### Time (chapter 06) -/

/-- RATE_WRITE, OFFLO_WRITE, OFFHI_WRITE, STEPLO_WRITE, STEPHI_WRITE (R142, R143, R145–R148): a write of RATE by the permitted master within the limit, and the
high word of OFFSET or STEP while GIRTH is neither STARTING, RUNNING nor STOPPING, is taken; T64 follows it from the next TCLK edge on and is the same until
then.  At that edge a RATE is in force with RREF the raw time of the edge, and T64 there is what the old rate gives: no step; an OFFSET is set, or the
step added to it.  The low words are staged.  A change of RATE beyond RATELIM while Girth runs is refused with 0x1002, OFFSET and STEP in those states of GIRTH with 0x1001,
another master with 0x1003, alone (which code stands where two apply is the model's choice, notes/assumptions/121.md); each refusal counts REFUSED with the page's event.  (That
the register RATE shows the written value at once, and that the edge is the step on an empty queue, are the model's choice, notes/assumptions/7.md.) -/
def Obligations.TimeWrites : Prop :=
  (∀ (s : State) (m : Fin 96) (v : Word),
      let refused (code : Nat) := ((s.bump pgTIME TIME.REFUSED).evt pgTIME 0).faultU pgTIME code
      let later (s : State) (c : TimeChange) : State := { s with time := { s.time with staged := s.time.staged ++ [c] } }
      (Reaches s m pgTIME TIME.RATE true → exec (.rateWrite m v) s =
        .next (if s.timeMaster m then (if s.rateOver v then refused 0x1002 else later (s.setReg pgTIME TIME.RATE v) (.rate v)) else refused 0x1003))
      ∧ (Reaches s m pgTIME TIME.OFFLO true → exec (.offloWrite m v) s =
        .next (if s.timeMaster m then { s with time := { s.time with offStage := v } } else refused 0x1003))
      ∧ (Reaches s m pgTIME TIME.STEPLO true → exec (.steploWrite m v) s =
        .next (if s.timeMaster m then { s with time := { s.time with stepStage := v } } else refused 0x1003))
      ∧ (Reaches s m pgTIME TIME.OFFHI true → exec (.offhiWrite m v) s =
        .next (if s.timeMaster m then (if s.girthBusy then refused 0x1001 else later s (.offset (v ++ s.time.offStage))) else refused 0x1003))
      ∧ (Reaches s m pgTIME TIME.STEPHI true → exec (.stephiWrite m v) s =
        .next (if s.timeMaster m then (if s.girthBusy then refused 0x1001 else later s (.step (v ++ s.time.stepStage))) else refused 0x1003))
      ∧ (∀ c, (later s c).t64 = s.t64))
  ∧ (∀ s t : State, s.pending = [] → s.por = false → s.on pgBOOT BOOT.STAT_DONE = true → Machine.step s = .next t →
      let edge := s.time.raw + 64
      let old : BitVec 64 := edge + s.time.offset + BitVec.ofInt 64 ((((edge - s.time.rref).toNat : Int) * s.time.rate.toInt) / 2 ^ 40)
      t.time.staged = []
        ∧ (s.time.staged = [] → t.time.offset = s.time.offset ∧ t.time.rref = s.time.rref ∧ t.time.rate = s.time.rate ∧ t.t64 = old)
        ∧ (∀ v, s.time.staged = [.rate v] → t.time.rate = v ∧ t.time.rref = edge ∧ t.t64 = old)
        ∧ (∀ x, s.time.staged = [.offset x] → t.time.offset = x ∧ t.time.rref = s.time.rref ∧ t.time.rate = s.time.rate)
        ∧ (∀ x, s.time.staged = [.step x] → t.time.offset = s.time.offset + x ∧ t.time.rref = s.time.rref ∧ t.time.rate = s.time.rate
            ∧ t.t64 = old + x))

/-- NOWLO_READ, OFFLO_READ, RREFLO_READ, CYCLO_READ, TGTLO_READ (R134, R149, R158, R160): each read of a low word returns it and latches for the
reading master what belongs to it: the whole snapshot of the edge for NOWLO, the high word for the others; the latches of other masters stay, and
nothing else changes.  NOWHI, RAWLO, RAWHI, SCYCLO, SCYCHI and SPHASE return the reading master's snapshot and change nothing (R149). -/
def Obligations.LowWordReadsLatchTheHighWord : Prop :=
  ∀ (s : State) (m : Fin 96),
    let latch (k : Nat) (hi lo : Word) : State :=
      { s with time := { s.time with latches := Sp.set (fun _ => 0) s.time.latches (m.val * 16 + k) hi }, reply := .data (leBytes 4 lo.toNat) }
    (Reaches s m pgTIME TIME.NOWLO false → ∃ t, exec (.nowloRead m) s = .next t
      ∧ t.reply = .data (leBytes 4 (s.t64.toNat % 2 ^ 32))
      ∧ (t.snapOf m).t64 = s.t64 ∧ (t.snapOf m).raw = s.time.raw ∧ (t.snapOf m).valid = s.girthOn
      ∧ (s.girthOn = true → (t.snapOf m).cyc = s.girth.cyc ∧ (t.snapOf m).phase = s.phase)
      ∧ (s.girthOn = false → (t.snapOf m).cyc = 0 ∧ (t.snapOf m).phase = 0)
      ∧ (∀ j, j ≠ m.val → t.snapOf j = s.snapOf j)
      ∧ t = { s with time := { s.time with snaps := t.time.snaps }, reply := t.reply })
    ∧ (Reaches s m pgTIME TIME.OFFLO false → exec (.offloRead m) s =
        .next (latch 0 (s.time.offset.extractLsb' 32 32) (s.time.offset.extractLsb' 0 32)))
    ∧ (Reaches s m pgTIME TIME.RREFLO false → exec (.rrefloRead m) s =
        .next (latch 1 (s.time.rref.extractLsb' 32 32) (s.time.rref.extractLsb' 0 32)))
    ∧ (Reaches s m pgGIRTH GIRTH.CYCLO false → exec (.cycloRead m) s =
        .next (latch 2 (BitVec.ofNat 32 (s.girth.cyc.toNat / 2 ^ 32)) (s.girth.cyc.extractLsb' 0 32)))
    ∧ (∀ k : Fin 8, Reaches s m pgTPIN (TPIN.TGTLO k) false → exec (.tgtloRead m k) s =
        .next (latch (8 + k) (s.reg pgTPIN (TPIN.TGTHI k)) (s.reg pgTPIN (TPIN.TGTLO k))))
    ∧ (let u := s.snapOf m
      ∀ x ∈ [(TIME.NOWHI, u.t64.extractLsb' 32 32), (TIME.RAWLO, u.raw.extractLsb' 0 32), (TIME.RAWHI, u.raw.extractLsb' 32 32),
          (TIME.SCYCLO, u.cyc.extractLsb' 0 32), (TIME.SCYCHI, BitVec.ofNat 32 (u.cyc.toNat / 2 ^ 32)),
          (TIME.SPHASE, BitVec.ofNat 32 (u.phase + if u.valid then 2 ^ 31 else 0))],
        Reaches s m pgTIME x.1 false → s.cmdRead m pgTIME x.1 = { s with reply := .data (leBytes 4 x.2.toNat) })

/-- Writes of TGTLO, TGTHI, PERLO, PERHI and CFG of a pin (R5, R72, R154, R160): of an armed pin the first four are ignored and set CFGREJ; else their fields take the
written values, and CFG its own in STOPPED alone.  PIN_ARM, PIN_DISARM: a write of CTL sets WIDTH, and PERIODIC where the pin is not armed; ARM = 1 is refused with
CFGREJ, leaving the pin disarmed (also where it was armed, with the new WIDTH, the model's reading, notes/assumptions/93.md), where the page does not run, the pin is not enabled, WIDTH is 0 or the period is below WIDTH + 1 ticks; where the target has been
reached the pin is left disarmed and LATE; else it is armed.  ARM = 0 disarms.

PIN_FIRE, PULSE_END (R155): an armed pin whose target T64 has reached fires: FIRED and ACTIVE are set; a single pin is then
disarmed; a periodic one stays armed, with its target moved by whole periods past T64 and the targets passed over counted in SKIP; it is LATE where
it passed over one or time stepped at this edge (that such a step tells in that tick alone is the model's reading, notes/assumptions/70.md).  Its pulse lasts WIDTH ticks, counted anew from each firing; then PULSE_END clears ACTIVE alone.  A pin
that is not armed, not due or whose page does not run does not fire. -/
def Obligations.TimedPins : Prop :=
  (∀ (s : State) (m : Fin 96) (k : Fin 8) (v : Word),
      let write (off : Nat) : Instr := .registerWrite m (BitVec.ofNat 32 (regAddr pgTPIN off)) (leBytes 4 v.toNat)
      (∀ off ∈ [TPIN.TGTLO k, TPIN.TGTHI k, TPIN.PERLO k, TPIN.PERHI k], Reaches s m pgTPIN off true →
        (s.on pgTPIN (TPIN.CTL_ARM k) = true → exec (write off) s = .next (s.wr pgTPIN HDR.PSTAT_CFGREJ 1))
        ∧ (s.on pgTPIN (TPIN.CTL_ARM k) = false → exec (write off) s =
            .next (if off = TPIN.PERHI k then s.wr pgTPIN (TPIN.PERHI_PERIOD k) (v.toNat % 2 ^ 16) else s.setReg pgTPIN off v)))
      ∧ (Reaches s m pgTPIN (TPIN.CFG k) true → s.st pgTPIN = 1 → exec (write (TPIN.CFG k)) s =
          .next ((s.wr pgTPIN (TPIN.CFG_EN k) ((TPIN.CFG_EN k).get v)).wr pgTPIN (TPIN.CFG_POL k) ((TPIN.CFG_POL k).get v)))
      ∧ (Reaches s m pgTPIN (TPIN.CFG k) true → s.st pgTPIN ≠ 1 → (v ^^^ s.reg pgTPIN (TPIN.CFG k)) &&& 3#32 ≠ 0#32 → Formed s →
          exec (write (TPIN.CFG k)) s = .next ((s.wr pgTPIN HDR.PSTAT_CFGREJ 1).fault pgTPIN (blockCode pgTPIN 0xF2) (0x10000 * m.val + TPIN.CFG k))))
  ∧ (∀ (s : State) (m : Fin 96) (k : Fin 8) (v : Word), Reaches s m pgTPIN (TPIN.CTL k) true →
      let c := if s.on pgTPIN (TPIN.CTL_ARM k) then s.wr pgTPIN (TPIN.CTL_WIDTH k) ((TPIN.CTL_WIDTH k).get v)
        else (s.wr pgTPIN (TPIN.CTL_WIDTH k) ((TPIN.CTL_WIDTH k).get v)).wr pgTPIN (TPIN.CTL_PERIODIC k) ((TPIN.CTL_PERIODIC k).get v)
      let width := (TPIN.CTL_WIDTH k).get v
      let bad := s.running pgTPIN = false ∨ s.on pgTPIN (TPIN.CFG_EN k) = false ∨ width = 0
        ∨ (c.on pgTPIN (TPIN.CTL_PERIODIC k) = true ∧ s.pinPeriod k < (width + 1) * 64)
      (bad → exec (.pinArm m k v) s = .next ((c.wr pgTPIN (TPIN.CTL_ARM k) 0).wr pgTPIN HDR.PSTAT_CFGREJ 1))
      ∧ (¬ bad → geT64 s.t64 (s.pinTarget k) = true → exec (.pinArm m k v) s =
          .next (((c.wr pgTPIN (TPIN.CTL_ARM k) 0).wr pgTPIN (TPIN.STAT_LATE k) 1).evt pgTPIN (8 + k)))
      ∧ (¬ bad → geT64 s.t64 (s.pinTarget k) = false → exec (.pinArm m k v) s = .next (c.wr pgTPIN (TPIN.CTL_ARM k) 1))
      ∧ exec (.pinDisarm m k v) s = .next (c.wr pgTPIN (TPIN.CTL_ARM k) 0))
  ∧ (∀ (s : State) (k : Fin 8), s.por = false →
      (s.running pgTPIN = true → s.on pgTPIN (TPIN.CTL_ARM k) = true → geT64 s.t64 (s.pinTarget k) = true →
        ∃ t, exec (.pinFire k) s = .next t ∧ t.rd pgTPIN (TPIN.STAT_FIRED k) = 1 ∧ t.rd pgTPIN (TPIN.STAT_ACTIVE k) = 1
          ∧ t.pulseUntil k = s.time.raw + BitVec.ofNat 64 (64 * s.rd pgTPIN (TPIN.CTL_WIDTH k))
          ∧ (s.on pgTPIN (TPIN.CTL_PERIODIC k) = false →
              t.rd pgTPIN (TPIN.CTL_ARM k) = 0 ∧ t.pinTarget k = s.pinTarget k
                ∧ (t.on pgTPIN (TPIN.STAT_LATE k) = (s.time.stepEdge || s.on pgTPIN (TPIN.STAT_LATE k))))
          ∧ (s.on pgTPIN (TPIN.CTL_PERIODIC k) = true → 0 < s.pinPeriod k →
              let n := (s.t64 - s.pinTarget k).toNat / s.pinPeriod k + 1
              t.on pgTPIN (TPIN.CTL_ARM k) = true ∧ t.pinTarget k = s.pinTarget k + BitVec.ofNat 64 (n * s.pinPeriod k)
                ∧ t.reg pgTPIN (TPIN.SKIP k) = satAdd (s.reg pgTPIN (TPIN.SKIP k)) (n - 1)
                ∧ (t.on pgTPIN (TPIN.STAT_LATE k) = (s.time.stepEdge || decide (1 < n) || s.on pgTPIN (TPIN.STAT_LATE k)))))
      ∧ (s.running pgTPIN = false ∨ s.on pgTPIN (TPIN.CTL_ARM k) = false ∨ geT64 s.t64 (s.pinTarget k) = false →
          exec (.pinFire k) s = .next s)
      ∧ (s.on pgTPIN (TPIN.STAT_ACTIVE k) = true → geT64 s.time.raw (s.pulseUntil k) = true →
          exec (.pulseEnd k) s = .next (s.wr pgTPIN (TPIN.STAT_ACTIVE k) 0))
      ∧ (s.on pgTPIN (TPIN.STAT_ACTIVE k) = false ∨ geT64 s.time.raw (s.pulseUntil k) = false → exec (.pulseEnd k) s = .next s))

/-! ### The Glifen link (chapters 04, 05) -/

/-- R103 steps 1 and 2 and the plain form of a frame: FCS correct, no /V/ and no code-group error, no uncorrectable word in the frame buffer; ETHERTYPE, VER, PORT and NODE as the port
has them (a JOIN carries no node number yet); the payload as long as LEN says. -/
def Sys2Proof.cleanFrame (s : State) (n : Nat) (f : RxFrame) : Prop :=
  f.cgErr = 0 ∧ f.vErr = false ∧ f.fcsOk = true ∧ f.frame.etype = s.rd (pgNPORT n) NPORT.LINKCFG_ETYPE ∧ f.frame.ver = 1 ∧ f.frame.port = n
    ∧ (f.frame.cls = 5 ∨ f.frame.node = s.rd (pgNPORT n) NPORT.NODEID_NODE) ∧ f.frame.len < 0xFFFF ∧ f.frame.axcnt < 0xFF
    ∧ f.frame.payload.length = f.frame.len ∧ f.upset = false

/-- A frame lies in a window: it starts at W0 or later and ends by W1 (R116). -/
def Sys2Proof.insideWindow (s : State) (n : Nat) (f : RxFrame) (w0 w1 : Int) : Prop :=
  w0 ≤ s.startTick n f ∧ s.startTick n f + f.wire * (if s.on (pgNPORT n) NPORT.LINKSTAT_RATE then 2 else 1) ≤ w1

/-- A port that listens: Girth serves it, it is neither IDLE nor BLOCKED, and its lane holds SYNC. -/
def Sys2Proof.openPort (s : State) (n : Nat) : Prop :=
  s.por = false ∧ s.girthServes = true ∧ s.portSt n ≠ 0 ∧ s.portSt n ≠ 5 ∧ s.on (pgNPORT n) NPORT.LINKSTAT_SYNC = true

/-- CYCLE_UP, WINDOW_TRUNCATION (R103, R114–R117): a cyclic uplink before W0 counts EARLY, after W1 LATE, one that runs past W1 TRUNC, each one
violation; inside the window a damaged frame counts FCSERR, as does one with an uncorrectable word in the frame buffer, counted and reported first (R504), a wrong header HDRERR, a wrong length LENERR; the blocks of an older cycle are
discarded and, once in a cycle (the model's choice, notes/assumptions/94.md), counted STALE where the port has been CYCLIC; a frame of a later
cycle and a second frame of the cycle count HDRERR; the first of the cycle with SYNC set is delivered: ALIGN becomes CYCLIC, every axis of the port
takes its block, and the arrival event of a CYCLIC port is posted (which ports take a frame, and that the frame which brings a port to CYCLIC posts the
event, is the model's reading, notes/assumptions/27.md).

ARRIVAL_TIMEOUT (R118, R144, R168): a port with axes of a running network, whatever its state, whose arrival event of the cycle is not posted, once T64 has reached UPCLOSE + GUARD + 24: where no
frame was delivered, the blocks of its axes count MISSING, unless an older frame counted them STALE, once the port has been CYCLIC, and their records
say which; the arrival event is posted (that the records of a port that has never been CYCLIC say so too, MISSING set and AGE counting, is the model's
choice, notes/assumptions/89.md).  A port without axes, or one whose event is posted, does nothing. -/
def Obligations.UplinkReception : Prop :=
  (∀ (s : State) (n : Fin 32) (f : RxFrame), openPort s n → f.cgErr = 0 → f.frame.cls = 2 →
      let g := pgNPORT n
      let w0 : Int := (s.rd g NPORT.UPWIN_OPEN : Int) - s.rd g NPORT.PORTCFG_GUARD
      let w1 : Int := (s.rd g NPORT.UPWIN_CLOSE : Int) + s.rd g NPORT.PORTCFG_GUARD
      let long := f.frame.len = 16 * s.axcnt n ∧ f.frame.axcnt = s.axcnt n
      (s.startTick n f < w0 → exec (.cycleUp n f) s = .next ((s.bump g NPORT.EARLY).violation n))
      ∧ (w0 ≤ s.startTick n f → w1 < s.startTick n f → exec (.cycleUp n f) s = .next ((s.bump g NPORT.LATE).violation n))
      ∧ (w0 ≤ s.startTick n f → s.startTick n f ≤ w1 → ¬ insideWindow s n f w0 w1 →
          exec (.cycleUp n f) s = .next ((s.bump g NPORT.TRUNC).violation n)
            ∧ exec (.windowTruncation n f) s = .next ((s.bump g NPORT.TRUNC).violation n))
      ∧ (insideWindow s n f w0 w1 →
          exec (.windowTruncation n f) s = .next s
          ∧ (f.upset = true → exec (.cycleUp n f) s = .next ((s.stateWord (some 89)).bumpE g NPORT.FCSERR 4))
          ∧ (f.upset = false → f.vErr = true ∨ f.fcsOk = false → exec (.cycleUp n f) s = .next (s.bumpE g NPORT.FCSERR 4))
          ∧ (f.upset = false → f.vErr = false → f.fcsOk = true → f.frame.etype ≠ s.rd g NPORT.LINKCFG_ETYPE ∨ f.frame.ver ≠ 1 ∨ f.frame.port ≠ n
                ∨ f.frame.node ≠ s.rd g NPORT.NODEID_NODE → exec (.cycleUp n f) s = .next (s.bumpE g NPORT.HDRERR 4))
          ∧ (cleanFrame s n f → ¬ long → exec (.cycleUp n f) s = .next (s.bumpE g NPORT.LENERR 4))
          ∧ (cleanFrame s n f → long →
            let d := (s.girth.cyc.truncate 32 - f.frame.cyc).toNat
            let counted := if (s.port n).everCyclic then s.bumpByE g NPORT.STALE (s.portAxes n).length 4 else s
            (1 ≤ d → d ≤ 2 ^ 31 → exec (.cycleUp n f) s =
              .next (if (s.port n).stale then s else counted.modPort n fun q => { q with stale := true }))
            ∧ (2 ^ 31 < d → exec (.cycleUp n f) s = .next (s.bumpE g NPORT.HDRERR 4))
            ∧ (d = 0 → (s.port n).passed = true → exec (.cycleUp n f) s = .next (s.bumpE g NPORT.HDRERR 4))
            ∧ (d = 0 → (s.port n).passed = false →
                let p := s.modPort n fun q => { q with passed := true }
                (bitOf f.frame.flags 2 = false → exec (.cycleUp n f) s = .next p)
                ∧ (bitOf f.frame.flags 2 = true →
                    let cyclic := if s.portSt n = 3 then (p.setPortSt n 4).modPort n fun q => { q with everCyclic := true } else p
                    let kept := (cyclic.modPort n fun q => { q with delivered := true, usedB := bitOf f.frame.flags 3 }).modPort n fun q =>
                      (List.range (s.axcnt n)).foldl (fun q k =>
                        State.keepBlock q k { cyc := s.girth.cyc, bytes := slice f.frame.payload (16 * k) 16 }) q
                    let given := (s.portAxes n).foldl (fun t e =>
                      t.inputs e.1 e.2 .delivered (slice f.frame.payload (16 * State.slotOf e.2) 16) f.frame.flags) kept
                    exec (.cycleUp n f) s = .next (if given.portSt n = 4 then given.portArrival n else given))))))
  ∧ (∀ (s : State) (n : Fin 32), s.por = false →
      let due := s.due (s.rd (pgNPORT n) NPORT.UPWIN_CLOSE + s.rd (pgNPORT n) NPORT.PORTCFG_GUARD + 24)
      (s.girthServes = false ∨ s.axcnt n = 0 ∨ (s.port n).arrived = true ∨ due = false → exec (.arrivalTimeout n) s = .next s)
      ∧ (s.girthServes = true → due = true → s.axcnt n ≠ 0 → (s.port n).arrived = false → (s.port n).delivered = true →
        exec (.arrivalTimeout n) s = .next (s.portArrival n))
      ∧ (s.girthServes = true → due = true → s.axcnt n ≠ 0 → (s.port n).arrived = false → (s.port n).delivered = false →
        let counted := if (s.port n).stale = false ∧ (s.port n).everCyclic = true
          then s.bumpByE (pgNPORT n) NPORT.MISSING (s.portAxes n).length 4 else s
        exec (.arrivalTimeout n) s = .next
          (((s.portAxes n).foldl (fun t e => t.inputs e.1 e.2 (if (s.port n).stale then .stale else .missing) [] 0) counted).portArrival n)))

/-- CYCLE_MARK_SEND, DOWNLINK_SEND, ACYCLIC_WINDOW, RELAY_SEND (R87, R90, R98, R100, R102, R120, R121, R125, R128, R144, R504): each at its tick, once T64 has
reached it.  The mark carries the low byte of the next cycle at the port's lead.  CYCLE-DOWN goes out in CYCLIC and BLOCKED, and in ALIGN unless a join window waits for its
grant, with the safety word and the port's blocks, a BLOCKED port's with REST set, unless a word of its buffer is uncorrectable.  In the acyclic window COLDSTART (NOSYNC, COLD, ALIGN),
DELAY-REQ (where due) and GRANT (an answer to a JOIN of an earlier cycle, in ALIGN and CYCLIC) follow each other 84 byte times apart, each where it still fits, COLDSTART only where the
DELAY-REQ due fits behind it; then a CYCLIC port sends the mailbox frame offered for it where that fits (states in which GRANT and MAILBOX are sent: the
model's reading, notes/assumptions/29.md).  The RELAY frame leaves a CYCLIC port that has entries.  Otherwise nothing is sent and nothing changes: an IDLE
port, a BLOCKED port in the acyclic window, before the tick.  Every frame goes out with the destination FF-FF-FF-FF-FF-FF, the source
02-00-00-00-0k-pp, its pad to 64 bytes and its FCS. -/
def Obligations.PortTransmission : Prop :=
  ∀ (s : State) (n : Fin 32), s.por = false →
    let g := pgNPORT n
    let q := s.port n
    let st := s.portSt n
    let serves := s.girthServes = true ∧ s.silent = false
    let ticks := if s.on g NPORT.LINKSTAT_RATE then 2 else 1
    let lead := if s.on g NPORT.LINKSTAT_LDVALID = false then s.rd g NPORT.LDCFG_LDMAX
      else if ticks = 2 then 2 * ((s.rd g NPORT.LDELAY_VALUE + 127) / 128) else (s.rd g NPORT.LDELAY_VALUE + 63) / 64
    (serves → st ≠ 0 → s.due (s.tc - lead) = true → exec (.cycleMarkSend n) s = .next (s.send (.mark n ((s.cyc + 1) % 256) lead)))
    ∧ (s.girthServes = false ∨ st = 0 ∨ s.silent = true ∨ s.due (s.tc - lead) = false → exec (.cycleMarkSend n) s = .next s)
    ∧ (let gives := st = 4 ∨ st = 5 ∨ (st = 3 ∧ (s.reg g NPORT.JOINWIN = 0 ∨ s.on g NPORT.SCHSTAT_GRANTED = true))
      let due := s.due (s.rd g NPORT.DLWIN_DLSTART) = true
      (∀ upset, ¬ (serves ∧ gives ∧ due) → exec (.downlinkSend n upset) s = .next s)
      ∧ (serves → gives → due →
        let blocks := if st = 5 then (List.range (s.axcnt n)).flatMap fun k => State.restBlock (slice q.down (16 * k) 16) else q.down
        let f := s.downFrame n 1 (s.axcnt n) (s.portInvalid n || s.selfPinv n) (s.safetyWord n ++ blocks)
        let counted := if s.selfPinv n then s.bumpE pgLAT LAT.SELFINV 8 else s
        exec (.downlinkSend n false) s =
            .next ((counted.setPort n { q with seq := (q.seq + 1) % 0x10000, dcrc := (crc32 blocks).toNat }).sendFrame n f)
          ∧ exec (.downlinkSend n true) s = .next (s.stateWord (some 89)) ∧ (s.stateWord (some 89)).ports = s.ports))
    ∧ (∀ f : Frame, s.sendFrame n f =
          (s.modPort n fun q => { q with pinv := q.pinv || bitOf f.flags 1 }).send (.frame n f (s.macFrame f))
        ∧ (s.macFrame f).length = max 64 (34 + f.payload.length)
        ∧ slice (s.macFrame f) 0 12 = List.replicate 6 0xFF ++ [2, 0, 0, 0, BitVec.ofNat 8 (s.rd pgGLOB GLOB.STRAP_PAIRID), BitVec.ofNat 8 f.port]
        ∧ slice (s.macFrame f) 30 f.payload.length = f.payload
        ∧ (s.macFrame f).drop ((s.macFrame f).length - 4) = leBytes 4 (crc32 ((s.macFrame f).take ((s.macFrame f).length - 4))).toNat)
    ∧ (let start := s.rd g NPORT.ACYWIN_START
      let stop := s.rd g NPORT.ACYWIN_END
      let at_ (i : Nat) : Nat := start + 84 * ticks * i
      let fits (i : Nat) : Bool := decide (at_ i + 72 * ticks ≤ stop)
      let req : Bool := st == 1 || st == 2 || ((st == 3 || st == 4) && (match q.delayDue with | some c => decide (c.toNat ≤ s.cyc) | none => false))
      let cold : Bool := (st == 1 || st == 2 || st == 3) && fits 0 && (!req || fits 1)
      let i1 := if cold then 1 else 0
      let s1 := if cold then s.sendPort n (s.downFrame n 0xB 0 (s.portInvalid n) (s.coldPayload (s.girth.cyc + 1))) else s
      let i2 := if req && fits i1 then i1 + 1 else i1
      let s2 := if req && fits i1 then s1.delayReqSend n (at_ i1) else s1
      let grant (j : JoinRx) : Bool := (st == 3 || st == 4) && decide (j.cyc.toNat < s.cyc) && fits i2
      let i3 := match q.join with | some j => if grant j then i2 + 1 else i2 | none => i2
      let s3 := match q.join with
        | some j => if grant j then (s2.sendPort n (s.downFrame n 6 0 (s.portInvalid n) (s.grantPayload n j))).modPort n fun q => { q with join := none } else s2
        | none => s2
      let offers (k : Nat) := s.running (pgDMA k) = true ∧ ∃ b, (s.dma k).offer = some (n.val, b)
      (s.girthServes = false ∨ st = 0 ∨ st = 5 ∨ s.due start = false → exec (.acyclicWindow n) s = .next s)
      ∧ (s.girthServes = true → st ≠ 0 → s.due start = true →
        (st ≠ 4 ∨ s.silent = true ∨ (∀ k, k < 8 → ¬ offers k) → exec (.acyclicWindow n) s = .next s3)
        ∧ (∀ k b, st = 4 → s.silent = false → k < 8 → offers k → (∀ j, j < k → ¬ offers j) → (s.dma k).offer = some (n.val, b) →
            let ends := at_ i3 + max 72 (42 + b.length) * ticks
            (stop < ends → exec (.acyclicWindow n) s = .next s3)
            ∧ (ends ≤ stop → ∃ t, exec (.acyclicWindow n) s = .next t ∧ t.reg g NPORT.MBXSENT = satInc (s.reg g NPORT.MBXSENT) ∧ (t.dma k).offer = none
                ∧ t.port n = { s3.port n with pinv := (s3.port n).pinv || s.portInvalid n }
                ∧ (s.fatal = false → let f := s.downFrame n 4 0 (s.portInvalid n) b; Tx.frame n f (s.macFrame f) ∈ t.wire)))))
    ∧ (let sends := serves ∧ st = 4 ∧ s.rd g NPORT.RELAYCFG_COUNT ≠ 0 ∧ s.due (s.rd g NPORT.RELAYCFG_RLYSTART) = true
      (sends → exec (.relaySend n) s = .next (s.sendFrame n
        (s.downFrame n 3 0 (s.portInvalid n) ([BitVec.ofNat 8 (s.rd g NPORT.RELAYCFG_COUNT), 0, 0, 0]
          ++ (List.range (s.rd g NPORT.RELAYCFG_COUNT)).flatMap fun k => s.relayEntry n k))))
      ∧ (¬ sends → exec (.relaySend n) s = .next s))

/-- FORBIDDEN_ORDERED_SET, PORT_BLOCK, BLOCKED_WRITE, CODE_GROUP_ERROR (R88, R112, R123, R124): on a port that listens a K28.1 or a class reserved to Girth
sets BABMARK, raises 0x2103 and is one violation; on a BLOCKED port it is a violation once the host has asked for its re-enable, else nothing.  A violation counts VIOL and enters the history of its cycle, unless a re-enable is
asked for; the one that brings the history to BABN blocks the port: BLOCKED, 0x2104 and event 5, and a cause of REST for its started axes.  So no port stands unblocked
with a full history after a violation, and PORT_BLOCK, which tells of the same event, then finds nothing to do (the model's reading, notes/assumptions/28.md); in a
state with a full history it blocks.  The host alone re-enables a port, from the next I0; an error between frames counts CGERR alone. -/
def Obligations.PortContainment : Prop :=
  ∀ (s : State) (n : Fin 32), s.por = false →
    let g := pgNPORT n
    let q := s.port n
    let sum := (q.hist.map (·.2)).sum
    let marked := ((s.wr g NPORT.LINKSTAT_BABMARK 1).faultU g 0x2103).evt g 3
    (∀ what, (∀ c, what = .frame c → c = 1 ∨ c = 3 ∨ c = 6 ∨ c = 7 ∨ c = 0xB) →
        (openPort s n → exec (.forbiddenOrderedSet n what) s = .next (marked.violation n)
          ∧ (q.reenable = false → sum + 1 = s.rd g NPORT.BABCFG_BABN → ∃ t, exec (.forbiddenOrderedSet n what) s = .next t
              ∧ t.portSt n = 5 ∧ t.rd g NPORT.SCHSTAT_BLOCKED = 1 ∧ t.reg g NPORT.VIOL = satInc (s.reg g NPORT.VIOL)))
        ∧ (s.girthServes = true → s.sync n = true → s.portSt n = 5 → q.reenable = true → exec (.forbiddenOrderedSet n what) s = .next (s.violation n)))
    ∧ (∀ what, s.girthServes = false ∨ s.portSt n = 0 ∨ s.sync n = false ∨ (s.portSt n = 5 ∧ q.reenable = false) →
        exec (.forbiddenOrderedSet n what) s = .next s)
    ∧ (q.reenable = true → s.violation n = s.bump g NPORT.VIOL)
    ∧ (q.reenable = false →
        let hist := match q.hist with | [] => [(s.girth.cyc, 1)] | (c, k) :: r => if c = s.girth.cyc then (c, k + 1) :: r else (s.girth.cyc, 1) :: q.hist
        let counted := ((s.bump g NPORT.VIOL).setPort n { q with hist := hist }).wr g NPORT.SCHSTAT_HIST (min 0xFFFF (sum + 1))
        (hist.map (·.2)).sum = sum + 1
        ∧ (sum + 1 < s.rd g NPORT.BABCFG_BABN → s.violation n = counted)
        ∧ (s.rd g NPORT.BABCFG_BABN ≤ sum + 1 → s.portSt n = 0 ∨ s.portSt n = 5 → s.violation n = counted)
        ∧ (s.rd g NPORT.BABCFG_BABN ≤ sum + 1 → s.portSt n ≠ 0 → s.portSt n ≠ 5 → s.violation n = counted.blockPort n)
        ∧ (s.violation n).blockDue n = false)
    ∧ (let noted := s.markRest fun m => match m.place with | .port k _ => k == n.val | _ => false
      s.blockPort n = (((noted.wr g NPORT.SCHSTAT_BLOCKED 1).wr g NPORT.SCHSTAT_PORTST 5).faultU g 0x2104).evt g 5
        ∧ ∀ a m slot, (s.axis a).map = some m → m.place = .port n slot → (s.axis a).state.started = true →
            noted.axis a = { s.axis a with placeRest := true })
    ∧ (s.blockDue n = false → exec (.portBlock n) s = .next s)
    ∧ (s.rd g NPORT.BABCFG_BABN ≤ sum → sum ≠ 0 → s.portSt n ≠ 0 → s.portSt n ≠ 5 → exec (.portBlock n) s = .next (s.blockPort n))
    ∧ (∀ m : Fin 96, Reaches s m g NPORT.SCHSTAT true → exec (.blockedWrite m n) s = .next
        (if m.val ≠ 64 then s.wr g HDR.PSTAT_CFGREJ 1 else if s.portSt n = 5 then s.setPort n { q with reenable := true } else s))
    ∧ exec (.codeGroupError n) s = .next (if s.girthServes = true ∧ s.portSt n ≠ 0 ∧ s.portSt n ≠ 5 then s.bumpE g NPORT.CGERR 4 else s)

/-- PORT_SYNC_GAIN, PORT_SYNC_LOSS, DELAY_RESP (R86, R89, R100, R125): a lane that gains SYNC takes its port from NOSYNC to COLD; one that loses it
clears SYNC and sets SYNCLOSS with 0x2101 and event 0, and a port that is neither IDLE nor BLOCKED returns to NOSYNC without a valid delay; a response that matches its request of the cycle gives the link delay
half of the round trip less the turnaround, which comes into use at the next I0, unless it is above LDMAX (0x2102) or the turnaround is not below
the round trip; one that does not match counts HDRERR.

JOIN, MAILBOX_RECEIVE (R101, R127, R128, R467): a JOIN inside the join window gets RESULT 1 where another node holds the grant, 2 for a wrong
node class, 3 for wrong frame lengths, 4 for a wrong axis count and else 0, which grants the slot from the second next cycle; a refusal counts JOINREJ; each sets event
6, and a second JOIN in the cycle counts HDRERR.  A MAILBOX goes to the channel that receives for it and is counted received, or
dropped where no channel does or one came in the cycle before it. -/
def Obligations.PortLinkAndJoin : Prop :=
  (∀ (s : State) (n : Fin 32), s.por = false →
      let g := pgNPORT n
      (s.pageOn g = false → exec (.portSyncGain n) s = .next s ∧ exec (.portSyncLoss n) s = .next s)
      ∧ (s.pageOn g = true → s.sync n = false →
          let t := (s.wr g NPORT.LINKSTAT_SYNC 1).modPort n fun q => { q with delayDue := some s.girth.cyc }
          exec (.portSyncGain n) s = .next (if s.portSt n = 1 then t.wr g NPORT.SCHSTAT_PORTST 2 else t))
      ∧ (s.pageOn g = true → s.sync n = true → s.portSt n ≠ 0 → s.portSt n ≠ 5 →
          ∃ t, exec (.portSyncLoss n) s = .next t ∧ t.portSt n = 1 ∧ t.sync n = false ∧ t.ldValid n = false
            ∧ t.on g NPORT.LINKSTAT_SYNCLOSS = true ∧ bitOf (t.reg g HDR.EVT).toNat 0 = true
            ∧ (s.reg g HDR.ECAP0 = 0 → t.rd g HDR.ECAP0_CODE = 0x2101))
      ∧ (s.pageOn g = true → s.sync n = true → s.portSt n = 0 ∨ s.portSt n = 5 →
          exec (.portSyncLoss n) s = .next ((((s.wr g NPORT.LINKSTAT_SYNC 0).wr g NPORT.LINKSTAT_SYNCLOSS 1).faultU g 0x2101).evt g 0))
      ∧ (s.pageOn g = true → s.sync n = true → exec (.portSyncGain n) s = .next s)
      ∧ (s.pageOn g = true → s.sync n = false → exec (.portSyncLoss n) s = .next s)
      ∧ (∀ f : RxFrame, openPort s n → f.frame.cls = 8 → cleanFrame s n f → f.frame.len = 20 →
          insideWindow s n f (s.rd g NPORT.ACYWIN_START) ((s.tc : Int) - 1) →
          ((s.port n).delayReq = none → exec (.delayResp n f) s = .next (s.bumpE g NPORT.HDRERR 4))
          ∧ (∀ r, (s.port n).delayReq = some r →
              let b := f.frame.payload
              let matches_ := r.cyc = s.girth.cyc ∧ fieldAt b 0 2 = r.seq ∧ fieldAt b 4 8 = r.t1.toNat
              let trip := (s.frameStart n f - r.t1).toInt
              let turn : Int := fieldAt b 12 4
              let ld := (trip - turn) / 2
              let t := s.modPort n fun q => { q with delayReq := none }
              (¬ matches_ → exec (.delayResp n f) s = .next (s.bumpE g NPORT.HDRERR 4))
              ∧ (matches_ → trip ≤ turn → exec (.delayResp n f) s = .next t)
              ∧ (matches_ → turn < trip → s.rd g NPORT.LDCFG_LDMAX * 64 < ld →
                  exec (.delayResp n f) s = .next (((t.wr g NPORT.LINKSTAT_LDOVER 1).faultU g 0x2102).evt g 2))
              ∧ (matches_ → turn < trip → ld ≤ s.rd g NPORT.LDCFG_LDMAX * 64 →
                  exec (.delayResp n f) s = .next (t.modPort n fun q => { q with delayNew := some ld.toNat })))))
  ∧ (∀ (s : State) (n : Fin 32) (f : RxFrame), openPort s n → cleanFrame s n f →
      let g := pgNPORT n
      let b := f.frame.payload
      let nuid := BitVec.ofNat 64 (fieldAt b 8 8)
      let result := if ∃ x, (s.port n).grant = some x ∧ x.1 ≠ nuid then 1 else if fieldAt b 0 2 ≠ s.rd g NPORT.PORTCFG_NCLASS then 2
        else if fieldAt b 4 2 ≠ max 72 (42 + 16 * s.axcnt n) ∨ fieldAt b 6 2 ≠ max 72 (50 + 16 * s.axcnt n) then 3
        else if fieldAt b 2 1 ≠ s.axcnt n then 4 else 0
      (f.frame.cls = 5 → f.frame.len = 16 → s.reg g NPORT.JOINWIN ≠ 0 →
        insideWindow s n f (s.rd g NPORT.JOINWIN_OPEN) (s.rd g NPORT.JOINWIN_CLOSE) →
        ((s.port n).joined = true → exec (.join n f) s = .next (s.bumpE g NPORT.HDRERR 4))
        ∧ ((s.port n).joined = false →
          let t := s.modPort n fun q => { q with
            joined := true, join := some { cyc := s.girth.cyc, result := result, nuid := nuid },
            grant := if result = 0 ∧ q.grant = none then some (nuid, s.girth.cyc + 2) else q.grant }
          exec (.join n f) s = .next ((if result = 0 then t else t.bump g NPORT.JOINREJ).evt g 6)))
      ∧ (f.frame.cls = 4 → 4 ≤ f.frame.len → f.frame.len ≤ 1024 →
        insideWindow s n f (s.rd g NPORT.ACYWIN_START) (s.rd g NPORT.ACYWIN_END) →
        ((s.port n).mbxRx = true → exec (.mailboxReceive n f) s = .next (s.bumpE g NPORT.MBXDROP 4))
        ∧ ((s.port n).mbxRx = false →
          let t := s.modPort n fun q => { q with mbxRx := true }
          let receives (k : Nat) := s.running (pgDMA k) = true ∧ s.rd (pgDMA k) DMA.CFG_KIND = 2 ∧ bitOf (s.rd (pgDMA k) DMA.PORTS_MASK) n = true
          ((∀ k, k < 8 → ¬ receives k) → exec (.mailboxReceive n f) s = .next (t.bumpE g NPORT.MBXDROP 4))
          ∧ (∀ k t1, k < 8 → receives k → (∀ j, j < k → ¬ receives j) →
              t.receiveInto k b n (s.frameStart n f) f.frame.cyc.toNat = (true, t1) → exec (.mailboxReceive n f) s = .next (t1.bumpE g NPORT.MBXRECV 4)))))

/-! ### The control cycle (chapters 01, 05, 07) -/

/-- I0 (R8, R131, R144, R504): once T64 has reached the ideal I0 of the next cycle, an I0 of a network that Girth serves begins that cycle: CYC and
Cinch's cycle number count one, T64 of the ideal I0s is unchanged, what Cinch reported is forgotten; the I0 after two CUTOFFs of a stopping network leaves GIRTH STOPPED (the model's reading, notes/assumptions/31.md).  Without a network, or before that time, I0 has no effect.  An uncorrectable word of the state of Girth or
of the time base is counted and raises 0x0604 before it, whatever the state of GIRTH (that the word comes with this row is the model's choice, notes/assumptions/72.md).

CYCLE_ZERO (R126, R380): GIRTH in STARTING enters RUNNING with CYC 0 once its ideal I0 has been reached: 2 × Tc ticks after the start (held in
t0; corrected time, and an instant that comes late is placed there still: the model's reading, notes/assumptions/32.md) where EPOCH is 0, else EPOCH plus the least number of
whole cycles that is not before that instant; a follower of a pair takes the leader's cycle number and grid, at an I0 of the leader that is not before 2 × Tc ticks after its own
start; before that, while a follower is not yet locked, and in any other state nothing happens. -/
def Obligations.CycleInstants : Prop :=
  (∀ s : State, s.por = false →
      (∀ idle, s.st pgGIRTH ≠ 3 → s.st pgGIRTH ≠ 4 → exec (.i0 false idle) s = .next s)
      ∧ (∀ idle, geT64 s.t64 (s.tI0 (s.girth.cyc.toNat + 1)) = false → exec (.i0 false idle) s = .next s)
      ∧ (∀ idle, exec (.i0 true idle) s = exec (.i0 false idle) ((s.stateWord none).faultU pgFLT 0x0604))
      ∧ (s.stateWord none).reg pgECC ECC.UNCORR = satInc (s.reg pgECC ECC.UNCORR)
      ∧ (s.st pgGIRTH = 3 ∨ s.st pgGIRTH = 4 → geT64 s.t64 (s.tI0 (s.girth.cyc.toNat + 1)) = true →
          ∀ idle, ∃ t, exec (.i0 false idle) s = .next t ∧ t.girth.cyc = s.girth.cyc + 1 ∧ t.girth.t0 = s.girth.t0 ∧ t.girth.report = none
            ∧ t.girth.stopCuts = s.girth.stopCuts
            ∧ (s.st pgGIRTH = 4 → 2 ≤ s.girth.stopCuts → t.st pgGIRTH = 1)
            ∧ (s.st pgGIRTH = 4 → s.girth.stopCuts < 2 → t.st pgGIRTH = 4) ∧ (s.st pgGIRTH = 3 → t.st pgGIRTH = 3)))
  ∧ (∀ (s : State) (idle : BitVec 16), s.por = false →
      let e := s.reg64 pgGIRTH GIRTH.EPOCHLO
      let ideal := if e = 0 then s.girth.t0 else if geT64 e s.girth.t0 then e
        else e + BitVec.ofNat 64 (((s.girth.t0 - e).toNat + s.tc * 64 - 1) / (s.tc * 64) * (s.tc * 64))
      (s.st pgGIRTH ≠ 2 → exec (.cycleZero idle) s = .next s)
      ∧ (s.st pgGIRTH = 2 → s.isFollower = false → geT64 s.t64 ideal = false → exec (.cycleZero idle) s = .next s)
      ∧ (s.st pgGIRTH = 2 → s.isFollower = false → geT64 s.t64 ideal = true →
          ∃ t, exec (.cycleZero idle) s = .next t ∧ t.st pgGIRTH = 3 ∧ t.girth.cyc = 0 ∧ t.girth.cinchCyc = 0 ∧ t.girth.t0 = ideal)
      ∧ (s.st pgGIRTH = 2 → s.isFollower = true → s.latPstate = psUNPAIRED ∨ s.latPstate = psLOCKING ∨ s.lat.twinRunning = false →
          exec (.cycleZero idle) s = .next s)
      ∧ (s.st pgGIRTH = 2 → s.isFollower = true → s.latPstate ≠ psUNPAIRED → s.latPstate ≠ psLOCKING → s.lat.twinRunning = true →
          let k := if geT64 s.t64 s.lat.twinI0 then (s.t64 - s.lat.twinI0).toNat / (s.tc * 64) else 0
          let c := s.lat.twinCyc + BitVec.ofNat 48 k
          let place := s.lat.twinI0 + BitVec.ofNat 64 (k * s.tc * 64)
          (geT64 place s.girth.t0 = false → exec (.cycleZero idle) s = .next s)
          ∧ (geT64 place s.girth.t0 = true → ∃ t, exec (.cycleZero idle) s = .next t ∧ t.st pgGIRTH = 3 ∧ t.girth.cyc = c ∧ t.girth.cinchCyc = c
            ∧ t.girth.t0 = place - BitVec.ofNat 64 (c.toNat * s.tc * 64) ∧ t.latPstate = psRESYNC)))

/-- NETWORK_STOP, CUTOFF (R14, R21, R98, R131, R144, R426): RUN of a running GIRTH written 0 makes it STOPPING with no CUTOFF counted.  CUTOFF samples the safety
word for the downlinks, while Buckle runs that of the latest evaluation at least 2 ticks old (R426), unless the device has failed silent; it leaves an axis that is UNMAPPED, STOPPED or in REST as it is, and in a stopping network it sends every other
mapped axis to REST and counts itself.  Without a network, or before its tick, CUTOFF has no effect.

HOLD_LIMIT (R20–R22): at the CUTOFF tick an axis in HOLD whose HOLDCNT has reached HOLDMAX and whose OUT section is not READY for the cycle enters REST, with HOLDCNT 0 (the model's
choice, notes/assumptions/100.md); an axis that is not in HOLD, not yet at the limit, or READY keeps its state, and nothing changes.  (The row tells of what CUTOFF does to every axis:
the model's reading, notes/assumptions/28.md.) -/
def Obligations.Cutoff : Prop :=
  (∀ s : State,
      (∀ m : Fin 96, Reaches s m pgGIRTH HDR.PCTL true →
        (s.st pgGIRTH = 3 → ∃ t, exec (.networkStop m) s = .next t
            ∧ t = { ((s.wr pgGIRTH HDR.PCTL_RUN 0).wr pgGIRTH HDR.PSTAT_STATE 4) with girth := { s.girth with stopCuts := 0 } })
        ∧ (s.st pgGIRTH = 1 ∨ s.st pgGIRTH = 4 → s.rd pgTACK TACK.STAT_PHASE ≠ 2 → exec (.networkStop m) s = .next s))
      ∧ (∀ trip high low, s.por = false →
        let due := s.due (s.rd pgGIRTH GIRTH.CWIN_CUTOFF)
        ((s.st pgGIRTH ≠ 3 ∧ s.st pgGIRTH ≠ 4) ∨ due = false → exec (.cutoff trip high low) s = .next s)
        ∧ (s.st pgGIRTH = 3 ∨ s.st pgGIRTH = 4 → due = true → ∃ t, exec (.cutoff trip high low) s = .next t
            ∧ (t.fatal = false → t.reg pgSTO STO.SENT =
                (if s.running pgBUCKLE = true ∧ (s.time.raw - s.buckle.evalAt).toNat < 2 * 64 then s.buckle.before else s.reg pgSTO STO.WORD))
            ∧ t.girth.cyc = s.girth.cyc
            ∧ (∀ a, (s.axis a).state.started = false → (t.axis a).state = (s.axis a).state)
            ∧ (s.st pgGIRTH = 4 → t.girth.stopCuts = s.girth.stopCuts + 1
                ∧ ∀ a, (s.axis a).map ≠ none → (s.axis a).state.started = true → (t.axis a).state = .rest))))
  ∧ (∀ (s : State) (a : Fin 256), s.por = false →
      let due := s.due (s.rd pgGIRTH GIRTH.CWIN_CUTOFF)
      ((s.axis a).map = none ∨ (s.axis a).state ≠ .hold ∨ s.girthServes = false ∨ due = false → exec (.holdLimit a) s = .next s)
      ∧ (∀ m, (s.axis a).map = some m → (s.axis a).holdCnt < s.holdMax m → exec (.holdLimit a) s = .next s)
      ∧ (∀ m b s1, (s.axis a).map = some m → (s.axis a).state = .hold → s.girthServes = true → due = true → s.holdMax m ≤ (s.axis a).holdCnt →
          (s.axis a).standstill = false → s.fixRead mGirth (m.base + 0x80) 0x20 = (some b, s1) →
          let ready := fieldAt b 20 4 % 2 = 1 ∧ fieldAt b 24 4 = s.cyc % 2 ^ 32 ∧ (s.axis a).late = false
          (¬ ready → ∃ t, exec (.holdLimit a) s = .next t ∧ (t.axis a).state = .rest ∧ (t.axis a).holdCnt = 0)
          ∧ (ready → s1.restCause a m = false → exec (.holdLimit a) s = .next s)))

/-- LOCAL_ARRIVAL, CWSTART, PG_ENGINE_DONE (R11, R118, R130, R144, R166, R299, R358, R504): each at its tick, once T64 has reached it.  The samples of the local
and ANALOG axes are written and their arrival event follows; at CWSTART Cinch reports its cycle number where it runs, and reports nothing where it does
not; an uncorrectable word of its state makes it FAULTED with 0x0605, to be restarted by the next I0.

TOKEN_CREATE, within CWSTART (R166): the cycle has a token of each CYCLIC task of the graph whose Bench's CINCHB page runs and whose axis, if it has one, is started
once the commands are applied, and of no other task; none is dispatched, none waits for the commands any longer, and each waits for the profile generators
until their event of the cycle.

The engine's end shows its time in ticks, not more than 0xFFFF, and the longest so
far, where PG runs, and satisfies code 0x8200 where Cinch does: no token of the cycle waits for it any longer; where Cinch does not, the event is kept for
a Cinch that enters RUNNING in the cycle (the model's choice, notes/assumptions/107.md). -/
def Obligations.ComputeWindow : Prop :=
  ∀ s : State, s.por = false →
    let locals := s.mapped.filter fun e => match e.2.place with | .port _ _ => false | _ => true
    let due := s.due (s.rd pgGIRTH GIRTH.CWIN_CWSTART)
    (s.girthServes = false ∨ s.due s.arrivalTick = false → exec .localArrival s = .next s)
    ∧ (s.girthServes = true → s.due s.arrivalTick = true → exec .localArrival s =
        .next ((locals.foldl (fun t e => t.localSample e.1 e.2) s).arrival evLocal (locals.map (·.1))))
    ∧ (s.girthServes = false ∨ due = false → ∀ upset, exec (.cwstart upset) s = .next s)
    ∧ (s.girthServes = true → due = true →
        ∃ t, exec (.cwstart false) s = .next t ∧ t.girth.cw = some s.girth.cyc
          ∧ t.girth.report = (if s.running pgCINCH then some s.girth.cinchCyc else none)
          ∧ t.rd pgGIRTH GIRTH.CTLSTAT_REPORT = (if s.running pgCINCH then 1 else 0)
          ∧ (s.running pgCINCH = true → t.cinch.cwCyc = some s.girth.cinchCyc)
          ∧ (s.running pgCINCH = true → (∀ u ∈ s.cinch.tokens, u.cyc ≠ s.girth.cinchCyc) →
              let made (i : Nat) (u : Token) : Prop := u ∈ t.cinch.tokens ∧ u.task = i ∧ u.cyc = s.girth.cinchCyc
              (∀ i, (∃ u, made i u) ↔ ∃ d, t.task i = some d ∧ d.service = false ∧ t.running (pgCINCHB d.home) = true
                  ∧ ∀ a, d.axis = some a → (t.axis a).state.started = true)
              ∧ ∀ i u, made i u → u.on = none ∧ 0x8300 ∉ u.waits ∧ ((s.girth.cinchCyc, 0x8200) ∉ t.cinch.events → 0x8200 ∈ u.waits)))
    ∧ (s.girthServes = true → due = true → 2 ≤ s.st pgCINCH → s.st pgCINCH ≤ 4 →
        ∃ t, exec (.cwstart true) s = .next t ∧ t.st pgCINCH = 5 ∧ t.girth.disagree = true ∧ t.girth.report = none
          ∧ t.rd pgGIRTH GIRTH.CTLSTAT_REPORT = 0 ∧ (s.reg pgFLT HDR.ECAP0 = 0 → t.rd pgFLT HDR.ECAP0_CODE = 0x0605))
    ∧ (∀ ticks : Nat, ∃ t, exec (.pgEngineDone ticks) s = .next t
        ∧ t.rd pgPG PG.PGTIME_LAST = (if s.active pgPG then min 0xFFFF ticks else s.rd pgPG PG.PGTIME_LAST)
        ∧ t.rd pgPG PG.PGTIME_MAX = (if s.active pgPG then max (min 0xFFFF ticks) (s.rd pgPG PG.PGTIME_MAX) else s.rd pgPG PG.PGTIME_MAX)
        ∧ (s.cinchActive = true → (s.girth.cyc, 0x8200) ∈ t.cinch.events ∧ ∀ u ∈ t.cinch.tokens, u.cyc = s.girth.cyc → 0x8200 ∉ u.waits)
        ∧ (s.cinchActive = false →
            let w := s.mapped.foldl (fun u e => u.spWrite e.1 e.2) s
            (∀ p off, off < 0x1000 → ¬ (p = pgPG ∧ off = PG.PGTIME) → t.reg p off = w.reg p off)
            ∧ t.cinch.events = (s.girth.cyc, 0x8200) :: w.cinch.events.filter (fun e => e.1 == s.girth.cyc && e.2 != 0x8200)
            ∧ t = { w with regs := t.regs, cinch := { w.cinch with events := t.cinch.events } }))

/-! ### Cinch (chapter 07) -/

/-- Awl `n` has been given a task's instance (R169, R206): the bank is the active one, D14 holds the fabric address of the axis's record, D15
the descriptor's ARG, SR is 0, CYCL the instance's cycle, PC the task's entry, the repeat buffer is invalid. -/
def Sys2Proof.loaded (s u : State) (n k task : Nat) (cyc : BitVec 48) (svc : Bool) (axis : Option Nat) : Prop :=
  (u.awl n).bank = k ∧ (u.act n).D 14 = BitVec.ofNat 32 (s.recordOf axis)
    ∧ (∀ d, s.task task = some d → (u.act n).D 15 = BitVec.ofNat 32 d.arg ∧ (u.act n).pc = d.entry % 0x4000)
    ∧ (u.act n).sr = 0 ∧ (u.act n).cycl = BitVec.ofNat 32 cyc.toNat ∧ (u.act n).tag = none
    ∧ (u.act n).ctx = ctxWord (decide (s.lastAwl task ≠ n)) svc n task axis ∧ u.lastAwl task = n

/-- Awl `n` has been given a task's instance, and no other Awl has changed. -/
def Sys2Proof.preloaded (s u : State) (n k task : Nat) (cyc : BitVec 48) (svc : Bool) (axis : Option Nat) : Prop :=
  loaded s u n k task cyc svc axis ∧ (∀ j, j ≠ n → u.awl j = s.awl j)

/-- The tokens with that of a task and cycle running on bank `k` of Awl `n`. -/
def Sys2Proof.placed (t : Token) (n k : Nat) (l : List Token) : List Token :=
  l.map fun x => if x.task = t.task ∧ x.cyc = t.cyc then { x with on := some (n, k) } else x

/-- TASK_DISPATCH (R171): a Bench's ready tokens are taken in ascending (deadline, task ID), first to their last Awls where those are available, then, where they may migrate, to the Awl the
migration pass takes.  One ready token goes to its last Awl, or migrates; the token runs there and the Awl is preloaded.  Of two, each goes to its own last Awl; where both have the same, the first goes there and the
second waits unless another Awl takes it; a token whose last Awl is available goes before one that would migrate there.  Where none can be dispatched, where none is ready or Cinch does not
run, nothing changes. -/
def Obligations.TaskDispatch : Prop :=
  ∀ (s : State) (b : Fin 8), s.por = false →
    (s.running pgCINCH = false ∨ s.readyTokens b = [] → exec (.taskDispatch b) s = .next s)
    ∧ (∀ t, t ∈ s.readyTokens b ↔ t ∈ s.cinch.tokens ∧ t.on = none ∧ t.readyAt.isSome = true ∧ s.homeOf t.task = b ∧ s.drains t.task t.axis = false)
    ∧ (s.readyTokens b).Pairwise (fun t u => s.deadlineOf t.task < s.deadlineOf u.task ∨ (s.deadlineOf t.task = s.deadlineOf u.task ∧ t.task ≤ u.task))
    ∧ (∀ t n, s.running pgCINCH = true → s.readyTokens b = [t] → n < 64 →
        (s.available (s.lastAwl t.task) = true ∧ n = s.lastAwl t.task)
          ∨ (s.available (s.lastAwl t.task) = false ∧ s.migratable t = true ∧ s.migrationAwl b = some n) →
        ∃ u k, exec (.taskDispatch b) s = .next u ∧ preloaded s u n k t.task t.cyc false t.axis
          ∧ u.cinch.tokens = placed t n k s.cinch.tokens)
    ∧ (∀ t, s.running pgCINCH = true → s.readyTokens b = [t] → s.available (s.lastAwl t.task) = false →
        s.migratable t = false ∨ s.migrationAwl b = none → exec (.taskDispatch b) s = .next s)
    ∧ (∀ t v, s.running pgCINCH = true → (s.cinch.tokens.map fun x => (x.task, x.cyc)).Nodup → s.readyTokens b = [t, v] →
        let n := s.lastAwl t.task
        let m := s.lastAwl v.task
        (s.available n = true → s.available m = true → n ≠ m →
          ∃ u k j, exec (.taskDispatch b) s = .next u ∧ loaded s u n k t.task t.cyc false t.axis ∧ loaded s u m j v.task v.cyc false v.axis
            ∧ (∀ i, i ≠ n → i ≠ m → u.awl i = s.awl i) ∧ u.cinch.tokens = placed v m j (placed t n k s.cinch.tokens))
        ∧ (s.available n = true → n = m → s.migratable v = false ∨ (∀ e, e < 8 → s.available (8 * b.val + e) = true → 8 * b.val + e = n) →
          ∃ u k, exec (.taskDispatch b) s = .next u ∧ preloaded s u n k t.task t.cyc false t.axis ∧ u.cinch.tokens = placed t n k s.cinch.tokens)
        ∧ (s.available n = false → s.available m = true → s.migratable t = false ∨ (∀ e, e < 8 → s.available (8 * b.val + e) = true → 8 * b.val + e = m) →
          ∃ u k, exec (.taskDispatch b) s = .next u ∧ preloaded s u m k v.task v.cyc false v.axis ∧ u.cinch.tokens = placed v m k s.cinch.tokens))

/-- SERVICE_DISPATCH, SERVICE_RESUME (R174): a queued instance goes to its last Awl where that can take it, else to the lowest that can, and to none
otherwise (one that holds a preempted instance takes none: the model's choice, notes/assumptions/115.md); a preempted instance resumes in its own bank once its Awl is RUNNING, not halted, idle and without a CYCLIC token, and, while Cinch is RUNNING, eligible and within its budget.

DEADLINE, INSTANCE_BUDGET_PASSED (R144, R163, R177): before its tick a deadline does nothing; it is kept for the tokens created later in the cycle, which are LATE from their creation (the model's
reading, notes/assumptions/108.md); a token of the present cycle that stands
at it without ENDT goes LATE with event 0 of CINCH, and with OUTFLAGS.LATE of its axis; an instance past its BUDGET is counted in OVERBUD of its engine, once. -/
def Obligations.ServiceAndDeadlines : Prop :=
  (∀ s : State, s.por = false →
      (∀ b : Fin 8,
        (s.running pgCINCH = false ∨ s.svcQueue b = [] → exec (.serviceDispatch b) s = .next s)
        ∧ (∀ v n, s.running pgCINCH = true → s.svcQueue b = [v] → s.drains v.task ((s.task v.task).bind (·.axis)) = false →
            n / 8 = b → s.canServe n = true → n = s.lastAwl v.task ∨ (s.canServe (s.lastAwl v.task) = false ∧ ∀ j, 8 * b.val ≤ j → j < n → s.canServe j = false) →
            ∃ u k, exec (.serviceDispatch b) s = .next u ∧ preloaded s u n k v.task v.cyc true ((s.task v.task).bind (·.axis)))
        ∧ (∀ v, s.running pgCINCH = true → s.svcQueue b = [v] → (∀ e, e < 8 → s.canServe (8 * b.val + e) = false) →
            exec (.serviceDispatch b) s = .next s))
      ∧ (∀ n : Fin 64, let k := 1 - (s.awl n).bank
        (s.svcAt n k = none → exec (.serviceResume n) s = .next s)
        ∧ (∀ v, s.svcAt n k = some v →
            let may := s.running (pgAWL n) = true ∧ s.halted n = false ∧ s.awlBusy n = false ∧ s.tokenFor n = false
              ∧ (s.st pgCINCH = 4 ∨ (s.running pgCINCH = true ∧ s.eligible n = true ∧ s.budgetOk n = true))
            (may → exec (.serviceResume n) s = .next { s.setAwl n { s.awl n with bank := k, qwait := false } with
              cinch := { s.cinch with svcs := s.cinch.svcs.map fun u => if u.id = v.id then { u with preempted := false } else u } })
            ∧ (¬ may → exec (.serviceResume n) s = .next s))))
  ∧ (∀ s : State, s.por = false →
      (∀ ns : Nat,
        let due := s.cinch.tokens.filter fun t => t.cyc == s.girth.cyc && !t.late && s.deadlineOf t.task == ns
        let kept := (s.girth.cyc, ns) :: s.cinch.due.filter fun e => e.1 == s.girth.cyc && e.2 != ns
        (s.due (ns / 4) = false → exec (.deadline ns) s = .next s)
        ∧ (s.due (ns / 4) = true → s.cinchActive = false ∨ due = [] → exec (.deadline ns) s = .next { s with cinch := { s.cinch with due := kept } })
        ∧ (∀ t, s.due (ns / 4) = true → s.cinchActive = true → due = [t] →
            let l := ({ s with cinch := { s.cinch with due := kept, tokens := s.cinch.tokens.map fun u =>
              if u.task = t.task ∧ u.cyc = t.cyc then { u with late := true } else u } } : State).evt pgCINCH 0
            exec (.deadline ns) s = .next (match t.axis with | some a => l.setLate a true | none => l)))
      ∧ (∀ n : Fin 64,
        let k := (s.awl n).bank
        let u := s.useOf n
        let d := (s.instOf n k).bind fun i => s.task i.1
        (d = none → exec (.instanceBudgetPassed n) s = .next s)
        ∧ (∀ x, d = some x → x.budget = 0 ∨ k ∈ u.overBanks → exec (.instanceBudgetPassed n) s = .next s)
        ∧ (∀ x, d = some x → x.budget ≠ 0 → k ∉ u.overBanks → exec (.instanceBudgetPassed n) s =
            .next ((s.setUse n { u with overBanks := k :: u.overBanks }).bumpE (pgCINCHB (n / 8)) (CINCHB.OVERBUD (n % 8)) 1))))

/-- SVCTRIG_WRITE, CMDTAIL_WRITE, BUDGET_WRITE, STATCLR, BENCH_STATCLR (R173, R176, R184, R195, R234, R384): a trigger releases a SERVICE task, is merged with
an instance of it that is queued or running, or counts TRIGREJ where Cinch does not run or the task is no SERVICE task of the graph; CMDTAIL takes an index of the
ring, which a pair's follower refuses as it does one beyond the ring; BUDGETe takes at most 1 000 000 ns; STATCLR resets the maxima and WAITMIN of its
page alone, and that of a BENCH page QLATMAX.

COMMAND_RING_SERVE, within CWSTART (R184–R186, R504): the entry at the head of a ring is left where its APPLY is not 0 and lies after the cycle; else it is taken: HEAD advances past it, it acts,
and STATUS and APPLY, the cycle that served it, are written back and it is counted, with the writes of the axis where R12 holds those back; an entry that cannot be read is passed over and counts as
refused; at most CMDMAX entries are looked at, none behind one that waits.  CMDAPP, CMDREJ and SVCMERGE are saturating RC counters (R195). -/
def Obligations.CinchRegisters : Prop :=
  ∀ (s : State) (m : Fin 96),
    (∀ task : BitVec 12, Reaches s m pgCINCH CINCH.SVCTRIG true →
      (∀ d, s.task task.toNat = some d → s.running pgCINCH = true → d.service = true → task.toNat < s.rd pgCINCH CINCH.GRAPHCFG_TASKCNT →
        ((∃ v ∈ s.cinch.svcs, v.task = task.toNat ∧ (v.queued.isSome = true ∨ v.on.isSome = true)) → exec (.svctrigWrite m task) s = .next (s.bumpE (pgCINCHB d.home) CINCHB.SVCMERGE 1))
        ∧ ((∀ v ∈ s.cinch.svcs, v.task = task.toNat → v.queued = none ∧ v.on = none) → exec (.svctrigWrite m task) s =
            .next ({ s with cinch := { s.cinch with nextSvc := s.cinch.nextSvc + 1, svcs := s.cinch.svcs ++ [{
              task := task.toNat, id := s.cinch.nextSvc, cyc := s.girth.cyc,
              waits := d.preds.filter fun p => !s.cinch.events.contains (s.girth.cyc, p) }] } } : State).readyScan))
      ∧ (s.running pgCINCH = false ∨ s.task task.toNat = none ∨ (∃ d, s.task task.toNat = some d ∧ d.service = false)
          ∨ s.rd pgCINCH CINCH.GRAPHCFG_TASKCNT ≤ task.toNat →
        exec (.svctrigWrite m task) s = .next (s.bumpE pgCINCH CINCH.TRIGREJ 4)))
    ∧ (∀ b : Fin 8, let p := pgCINCHB b
      (∀ off ∈ [0x054, 0x058, 0x05C], counter32 p off)
      ∧ (∀ index : BitVec 12, Reaches s m p CINCHB.CMDTAIL true → exec (.cmdtailWrite m b index) s =
        .next (if s.refusesTail = false ∧ index.toNat < 2 ^ s.rd p CINCHB.CMDCFG_RINGLOG2 then s.wr p CINCHB.CMDTAIL_INDEX index.toNat
          else s.wr p HDR.PSTAT_CFGREJ 1))
      ∧ (∀ (e : Fin 8) (v : Word), Reaches s m p (0x80 + 4 * e) true → exec (.budgetWrite m b e v) s =
        .next (if v.toNat ≤ 1000000 then s.wr p (CINCHB.BUDGET_NS e) v.toNat else s.wr p HDR.PSTAT_CFGREJ 1))
      ∧ (Reaches s m p CINCHB.STATCLR true → ∃ t, exec (.statclr m b) s = .next t ∧ t = { s with regs := t.regs }
        ∧ t.rd p CINCHB.WAITMIN_NS = 0xFFFF ∧ t.rd p CINCHB.WAITMAX_NS = 0 ∧ (∀ e, e < 8 → t.rd p (CINCHB.BUSYMAX_NS e) = 0)
        ∧ (∀ k, k < 32 → t.rd p (CINCHB.COMPMAX_TICK k) = 0) ∧ (∀ q off, off < 0x1000 → q ≠ p → t.reg q off = s.reg q off)
        ∧ t.rd p CINCHB.WAITLAST_NS = s.rd p CINCHB.WAITLAST_NS)
      ∧ (let head := s.rd p CINCHB.CMDHEAD_INDEX
        let addr := s.rd p CINCHB.CMDBASE_ADDR * 32 + 32 * head
        let n := s.girth.cinchCyc
        let passed (t : State) : State := t.wr p CINCHB.CMDHEAD_INDEX ((head + 1) % 2 ^ t.rd p CINCHB.CMDCFG_RINGLOG2)
        (head = s.rd p CINCHB.CMDTAIL_INDEX → s.serveEntry b = (false, s))
        ∧ (∀ t, head ≠ s.rd p CINCHB.CMDTAIL_INDEX → s.fixRead mCinch addr 32 = (none, t) → s.serveEntry b = (true, (passed t).cmdCount b 0))
        ∧ (∀ d t, head ≠ s.rd p CINCHB.CMDTAIL_INDEX → s.fixRead mCinch addr 32 = (some d, t) →
            let e : Entry := { op := fieldAt d 0 1, status := fieldAt d 1 1, axis := fieldAt d 2 2, apply := fieldAt d 4 6, offset := fieldAt d 10 2,
                               len := fieldAt d 12 1, rsvd := fieldAt d 13 3, data := slice d 16 16 }
            let r := (passed t).cmdApply b e
            let mine := ∃ m, (r.2.axis e.axis).map = some m ∧ m.home = b.val
            let behind := mine ∧ (r.2.heldBack e.axis n = true ∨ r.2.held e.axis n = true) ∧ r.1 ≠ 7 ∧ ¬ (0x30 ≤ e.op ∧ e.op ≤ 0x37)
            (e.apply ≠ 0 → n.toNat < e.apply → s.serveEntry b = (false, t))
            ∧ (e.apply = 0 ∨ e.apply ≤ n.toNat →
                (behind → s.serveEntry b = (true, r.2.modAxis e.axis fun x => { x with heldCmd := x.heldCmd ++ [
                  { bench := b, addr := some addr, cyc := n, entry := e, status := r.1 }] }))
                ∧ (¬ behind → let w := r.2.cmdRecord e r.1
                    s.serveEntry b = (true, ((w.2.fixPut mCinch (addr + 4) (leBytes 6 n.toNat)).fixPut mCinch (addr + 1) [BitVec.ofNat 8 w.1]).cmdCount b w.1))))
        ∧ s.serveRing b 0 = s
        ∧ ∀ k, s.serveRing b (k + 1) = if (s.serveEntry b).1 = true then (s.serveEntry b).2.serveRing b k else (s.serveEntry b).2)
      ∧ (Reaches s m (pgBENCH b) BENCH.STATCLR true → exec (.benchStatclr m b) s = .next (s.wr (pgBENCH b) BENCH.QLATMAX_NS 0)))

/-! ### Commands of the rings (R21, R187, R305, R306, R318) -/

/-- The commands of Bench `b` for an axis are not held back: no token of an earlier cycle is unresolved, and no write before them waits (R12, R186). -/
def Sys2Proof.unheld (s : State) (b a : Nat) : Prop :=
  ∀ m, (s.axis a).map = some m → m.home = b → s.heldBack a s.girth.cinchCyc = false ∧ s.held a s.girth.cinchCyc = false

/-- A command of Bench `b` that is held back (R12, R186): its effect on states and generators is had at once; its writes of the record and its
count wait, behind what waits already. -/
def Sys2Proof.kept (s : State) (b : Fin 8) (e : Entry) (i : Instr) : Prop :=
  exec i s = .next (let r := s.cmdApply b e
    r.2.modAxis e.axis fun x => { x with heldCmd := x.heldCmd ++ [{ bench := b, addr := none, cyc := s.girth.cinchCyc, entry := e, status := r.1 }] })

/-- START, STOP, AXRESET, PARWRITE (R12, R21, R28, R186, R187, R505): each for an axis mapped to the ring's Bench, with its reserved bytes 0; else STATUS 2 or 5.  START takes a STOPPED axis
with its domains on to STARTING, its generator IDLE at the position latched for the last cycle, or with STARTSRC at its own, with RESUME, HOLDCNT, DETLOST and LATE clear;
STOP makes a RUNNING axis STOPPING and sets RESUME of one in HOLD, its generator stopping; AXRESET returns an axis in REST without a cause of REST to
STOPPED; PARWRITE writes its bytes into the record's parameters.  What an axis's state does not allow has STATUS 3, a domain off 4, a cause of REST
6, a generator that refuses 8, the word of R505 still uncorrectable 9 at START and 6 at AXRESET.  Of several conditions the first of 7, 5, 2, 3, 4, 9, 8 gives the STATUS (the model's choice,
notes/assumptions/22.md).  While a token of an earlier cycle of the axis is unresolved, the command's record writes and its count wait for its end. -/
def Obligations.AxisCommands : Prop :=
  ∀ (s : State) (b : Fin 8) (e : Entry), s.por = false →
    let row (op : Nat) : Instr := if op = 1 then .start b e else if op = 2 then .stop b e else if op = 3 then .axreset b e else .parwrite b e
    let x := s.axis e.axis
    (∀ op, 1 ≤ op → op ≤ 4 → ¬ unheld s b e.axis → kept s b { e with op := op } (row op))
    ∧ (unheld s b e.axis →
    (∀ op, 1 ≤ op → op ≤ 4 → e.rsvd ≠ 0 → exec (row op) s = .next (s.cmdCount b 5))
    ∧ (∀ op, 1 ≤ op → op ≤ 4 → e.rsvd = 0 → (∀ m, x.map = some m → m.home ≠ b) → exec (row op) s = .next (s.cmdCount b 2))
    ∧ (∀ m s1, e.rsvd = 0 → x.map = some m → m.home = b → s.eccPresent e.axis m = (true, s1) →
      (x.state = .stopped → s.domainsOn m = true → exec (.start b e) s = .next (s1.cmdCount b 9))
      ∧ (x.state = .rest → exec (.axreset b e) s = .next (s1.cmdCount b 6)))
    ∧ (∀ m, e.rsvd = 0 → x.map = some m → m.home = b → x.eccOff = none →
      (x.state ≠ .stopped → exec (.start b e) s = .next (s.cmdCount b 3))
      ∧ (x.state = .stopped → s.domainsOn m = false → exec (.start b e) s = .next (s.cmdCount b 4))
      ∧ (x.state = .stopped → s.domainsOn m = true → s.on (pgPGB m.home) (PGB.SCFG_STARTSRC m.rslot) = false →
          (∀ c ∈ x.posCopy, c.1 ≠ s.girth.cyc - 1) → exec (.start b e) s = .next ((s.pgRefuse 1 e.axis 6).cmdCount b 8))
      ∧ (∀ q, x.state = .stopped → s.domainsOn m = true →
          (if s.on (pgPGB m.home) (PGB.SCFG_STARTSRC m.rslot) then q = (s.pg e.axis).plan.pout
            else ∃ c, x.posCopy.find? (fun c => c.1 = s.girth.cyc - 1) = some c ∧ q = pos32 c.2) →
          ∃ t, exec (.start b e) s = .next t ∧ (t.axis e.axis).state = .starting ∧ (t.axis e.axis).resume = false ∧ (t.axis e.axis).holdCnt = 0
            ∧ (t.axis e.axis).detLost = false ∧ (t.axis e.axis).late = false ∧ (t.pg e.axis).mode = .idle ∧ (t.pg e.axis).plan.q = q
            ∧ (t.pg e.axis).plan.w = 0 ∧ t.cinch.lastStatus = 1 ∧ (∀ a, a ≠ e.axis → (t.axis a).state = (s.axis a).state ∧ t.pg a = s.pg a))
      ∧ (x.state ≠ .running → x.state ≠ .hold → exec (.stop b e) s = .next (s.cmdCount b 3))
      ∧ (x.state = .running ∨ x.state = .hold → ∃ t, exec (.stop b e) s = .next t ∧ (t.pg e.axis).mode = .stop ∧ t.cinch.lastStatus = 1
            ∧ (x.state = .running → t.axis e.axis = { x with state := .stopping }) ∧ (x.state = .hold → t.axis e.axis = { x with resume := true })
            ∧ (∀ a, a ≠ e.axis → t.axis a = s.axis a ∧ t.pg a = s.pg a))
      ∧ (x.state ≠ .rest → exec (.axreset b e) s = .next (s.cmdCount b 3))
      ∧ (x.state = .rest → s.portBlocked m = true ∨ bitOf x.stat 1 = true ∨ s.lxTripped m = true ∨ s.st pgCINCH = 5 →
          exec (.axreset b e) s = .next (s.cmdCount b 6))
      ∧ (x.state = .rest → s.portBlocked m = false → bitOf x.stat 1 = false → s.lxTripped m = false → s.st pgCINCH ≠ 5 →
          ∃ t, exec (.axreset b e) s = .next t ∧ t.cinch.lastStatus = 1
            ∧ t.axis e.axis = { x with state := .stopped, resume := false, holdCnt := 0, detLost := false, standstill := false })
      ∧ (let fits := (e.len = 4 ∨ e.len = 8 ∨ e.len = 12 ∨ e.len = 16) ∧ 0xC0 ≤ e.offset ∧ e.offset ≤ 0x1FC ∧ e.offset % 4 = 0
          ∧ e.offset + e.len ≤ 0x200
        let w := s.fixWrite mCinch (m.base + e.offset) (slice e.data 0 e.len)
        (¬ fits → exec (.parwrite b e) s = .next (s.cmdCount b 5))
        ∧ (fits → exec (.parwrite b e) s = .next (w.2.cmdCount b (if w.1 then 1 else 10))))))

/-- The rows of the commands to a profile generator, with their op codes (R305). -/
def Sys2Proof.motionRows (b : Fin 8) (e : Entry) : List (Nat × Instr) :=
  [(0x10, .moveabs b e), (0x11, .moverel b e), (0x12, .velocity b e), (0x13, .halt b e), (0x14, .setpos b e), (0x15, .setlim b e),
   (0x16, .setstop b e), (0x17, .setmaster b e), (0x18, .gearin b e), (0x19, .camin b e), (0x1A, .phase b e), (0x1B, .gearout b e),
   (0x1C, .camsel b e), (0x20, .igtgt b e), (0x21, .igstart b e), (0x22, .ighalt b e)]

/-- Every command to a profile generator (R12, R187, R305, R306): one that an unresolved token of an earlier cycle holds back keeps its count until that has ended;
else reserved bytes or OFFSET not 0 have STATUS 5, an axis not mapped to the Bench 2, in this order (the model's choice, notes/assumptions/22.md); a command that a
reason of R306 refuses has STATUS 8 and changes nothing but what the refusal records: REFUSED, LASTREF with op code, reason and axis, and event 0 of PG; a PG or PGB
page that does not run is reason 1, an axis not started, in HOLD with RESUME, or for SETPOS not STOPPED, reason 2; of several the lowest counts (the model's choice, notes/assumptions/21.md).

What an accepted command to a profile generator does (R305, R307, R309, R313, R316–R318): MOVEABS and MOVEREL set the mode and target of a move, VELOCITY its signed speed, HALT brakes;
SETPOS sets the position of an axis at rest; SETLIM, SETSTOP and SETMASTER their fields of the axis's slot; GEARIN and CAMIN couple to the master, PHASE shifts the target, GEAROUT
uncouples, CAMSEL makes a table pending; IGTGT a member's target; IGHALT halts a moving group; IGSTART begins the group's move. -/
def Obligations.MotionCommands : Prop :=
  (∀ (s : State) (b : Fin 8) (e : Entry), s.por = false → ∀ x ∈ motionRows b e,
      let refused (r : Nat) (t : State) : State :=
        ((((t.bumpE pgPG PG.REFUSED 4).setReg pgPG PG.LASTREF (BitVec.ofNat 32 (0x1000000 * x.1 + 0x10000 * r + e.axis % 0x10000))).evt pgPG 0).cmdCount b 8)
      let ax := s.axis e.axis
      (¬ unheld s b e.axis → kept s b { e with op := x.1 } x.2)
      ∧ (unheld s b e.axis →
      (e.rsvd ≠ 0 ∨ e.offset ≠ 0 → exec x.2 s = .next (s.cmdCount b 5))
      ∧ (e.rsvd = 0 → e.offset = 0 → (∀ m, ax.map = some m → m.home ≠ b) → exec x.2 s = .next (s.cmdCount b 2))
      ∧ (∀ m, e.rsvd = 0 → e.offset = 0 → ax.map = some m → m.home = b →
          (s.running pgPG = false ∨ s.running (pgPGB m.home) = false → exec x.2 s = .next (refused 1 s))
          ∧ (s.running pgPG = true → s.running (pgPGB m.home) = true →
              (x.1 = 0x14 ∧ ax.state ≠ .stopped) ∨ (isMotion x.1 = true ∧ x.1 ≠ 0x21
                ∧ (ax.state.started = false ∨ ax.state = .stopping ∨ (ax.state = .hold ∧ ax.resume = true))) →
              exec x.2 s = .next (refused 2 s))
          ∧ (∀ r s1, s.pgReason x.1 e.axis m e.len e.data = (r, s1) → r ≠ 0 → exec x.2 s = .next (refused r s1)))))
  ∧ (∀ (s : State) (b : Fin 8) (e : Entry) (m : AxisMap), s.por = false → e.rsvd = 0 → e.offset = 0 → (s.axis e.axis).map = some m → m.home = b → unheld s b e.axis →
      let a := e.axis
      let g := s.pg a
      let v := BitVec.ofNat 64 (fieldAt e.data 0 8)
      let y := BitVec.ofNat 64 (fieldAt e.data 8 8)
      let pb := pgPGB m.home
      let gen (op : Nat) (i : Instr) (p : Pg → Prop) : Prop :=
        ∀ s1, s.pgReason op a m e.len e.data = (0, s1) → ∃ t, exec i s = .next t ∧ p (t.pg a) ∧ t.cinch.lastStatus = 1 ∧ t.axes = s1.axes
          ∧ (∀ j, j ≠ a → t.pg j = s.pg j)
      gen 0x10 (.moveabs b e) (fun h => h.mode = .move ∧ h.tgt = v ∧ h.plan = g.plan)
      ∧ gen 0x11 (.moverel b e) (fun h => h.mode = .move ∧ h.tgt = (if g.mode = .move then g.tgt else g.plan.q) + v ∧ h.plan = g.plan)
      ∧ gen 0x12 (.velocity b e) (fun h => h.mode = .velocity ∧ h.vcmd = v.toInt ∧ h.plan = g.plan)
      ∧ gen 0x13 (.halt b e) (fun h => h.mode = .halt ∧ h.haltDstop = false ∧ h.plan = g.plan)
      ∧ gen 0x14 (.setpos b e) (fun h => h.plan.q = v ∧ h.plan.pout = v ∧ h.mode = g.mode)
      ∧ gen 0x18 (.gearin b e) (fun h => h.mode = .gear ∧ h.sync = 1 ∧ h.num = toSigned 32 (fieldAt e.data 0 4) ∧ h.den = fieldAt e.data 4 4
          ∧ h.g = g.plan.q + y ∧ h.plan = g.plan)
      ∧ gen 0x1A (.phase b e) (fun h => h.g = g.g + v ∧ h.sync = 1 ∧ h.mode = g.mode)
      ∧ gen 0x1B (.gearout b e) (fun h => h.sync = 0 ∧ h.mode = (if e.len = 0 then .halt else .velocity) ∧ (e.len ≠ 0 → h.vcmd = g.plan.w))
      ∧ gen 0x1C (.camsel b e) (fun h => h = { g with camNext := some e.len })
      ∧ gen 0x20 (.igtgt b e) (fun h => h.pend = some v ∧ h.mode = g.mode)
      ∧ (∀ h s1, s.pgReason 0x19 a m e.len e.data = (0, s) → s.camHead e.len = (some h, s1) →
          ∃ t, exec (.camin b e) s = .next t ∧ (t.pg a).mode = .cam ∧ (t.pg a).sync = 1 ∧ (t.pg a).camTab = e.len ∧ (t.pg a).g = g.plan.q + y
            ∧ (∀ j, j ≠ a → t.pg j = s.pg j))
      ∧ (s.pgReason 0x15 a m e.len e.data = (0, s) → exec (.setlim b e) s =
          .next (((s.setReg64 pb (PGB.VLIMLO m.rslot) v).setReg64 pb (PGB.ALIMLO m.rslot) y).cmdCount b 1))
      ∧ (s.pgReason 0x16 a m e.len e.data = (0, s) → exec (.setstop b e) s =
          .next ((let t := s.setReg64 pb (PGB.DSTOPLO m.rslot) v; if e.len = 0 then t else t.wr pb (PGB.SCFG_JN m.rslot) e.len).cmdCount b 1))
      ∧ (s.pgReason 0x17 a m e.len e.data = (0, s) → exec (.setmaster b e) s =
          .next (((s.wr pb (PGB.SCFG_MKIND m.rslot) e.len).wr pb (PGB.SCFG_MIDX m.rslot) (fieldAt e.data 0 1)).cmdCount b 1))
      ∧ (s.pgReason 0x22 a m e.len e.data = (0, s) → exec (.ighalt b e) s = .next ((if s.grpState e.len = 0 then s
            else (s.setIgrp e.len { s.igrp e.len with dstop := (s.igrp e.len).dstop }).wr (pgIGRP e.len) IGRP.GSTAT_STATE 2).cmdCount b 1))
      ∧ (s.pgReason 0x21 a m e.len e.data = (0, s) → (s.members e.len).Nodup →
          ∃ t, exec (.igstart b e) s = .next t ∧ t.cinch.lastStatus = 1 ∧ (∀ j, j ∉ s.members e.len → t.pg j = s.pg j)
            ∧ (∀ j ∈ s.members e.len, (t.pg j).mode = .group ∧ (t.pg j).group = some e.len ∧ (t.pg j).pend = none
                ∧ (t.pg j).start = (s.pg j).plan.pout
                ∧ (t.pg j).dist = (match (s.pg j).pend with | some z => sub64 z (s.pg j).plan.pout | none => 0))))

/-- VMSET, VMVEL, VM_PENDING_APPLY (R318): a virtual master's position and velocity commands wait for the cycle whose ideal I0 reaches TSTART; then
the velocity is taken, and the position where the master is at rest, else it is discarded with DISC and event 3; one already passed, its TSTART strictly before the ideal I0 (the model's
reading, notes/assumptions/23.md), acts at once and sets LATE; a PG page that does not run refuses them with reason 1, before a bad selector with reason 3 (the order is the model's
choice, notes/assumptions/21.md).

PG_ENGINE_RUN, within CWSTART (R298, R299, R302, R307, R309, R310, R312): the engine does nothing while PG is neither RUNNING nor STOPPING; else the virtual masters step first, then the
measured positions are latched from the blocks delivered for the previous cycle, then the groups step in ascending order with the members on their path, then all
other generators of started axes in ascending index, each with a new SP section for the cycle; a generator that takes no step keeps its position.  A gear follower of a set-point
master reads the output of this cycle where the master comes earlier in this order, else that of the cycle before; one of a measured master reads the latch, and without a
sample keeps its last one and shows MASTERBAD. -/
def Obligations.VirtualMasters : Prop :=
  ∀ (s : State) (k : Fin 4), s.por = false →
    let now := s.tI0 s.cyc
    let vm := s.vm k
    (∀ (b : Fin 8) (e : Entry), e.rsvd = 0 → e.offset = 0 →
      let t0 := BitVec.ofNat 64 (fieldAt e.data 0 8)
      let x := BitVec.ofNat 64 (fieldAt e.data 8 8)
      (s.running pgPG = false → exec (.vmset b k e) s = .next ((s.pgRefuse (0x30 + k) e.axis 1).cmdCount b 8)
        ∧ exec (.vmvel b k e) s = .next ((s.pgRefuse (0x34 + k) e.axis 1).cmdCount b 8))
      ∧ (s.running pgPG = true → e.len ≠ 0 → exec (.vmset b k e) s = .next ((s.pgRefuse (0x30 + k) e.axis 3).cmdCount b 8)
        ∧ exec (.vmvel b k e) s = .next ((s.pgRefuse (0x34 + k) e.axis 3).cmdCount b 8))
      ∧ (s.running pgPG = true → e.len = 0 → geT64 now t0 = false ∨ t0 = now →
        (∃ t, exec (.vmset b k e) s = .next t ∧ t.vm k = { vm with setPend := some (t0, x) } ∧ (∀ j, j ≠ k.val → t.vm j = s.vm j))
        ∧ (∃ t, exec (.vmvel b k e) s = .next t ∧ t.vm k = { vm with velPend := some (t0, x) } ∧ (∀ j, j ≠ k.val → t.vm j = s.vm j)))
      ∧ (s.running pgPG = true → e.len = 0 → geT64 now t0 = true → t0 ≠ now → vm.velPend = none → vm.setPend = none →
        (∃ t, exec (.vmvel b k e) s = .next t ∧ t.vm k = { vm with vcmd := x.toInt } ∧ t.on pgPG (PG.VMSTAT_LATE k) = true)
        ∧ (vm.plan.atRest = true → ∃ t, exec (.vmset b k e) s = .next t ∧ t.vm k = { vm with plan := Plan.at x } ∧ t.on pgPG (PG.VMSTAT_LATE k) = true)
        ∧ (vm.plan.atRest = false → ∃ t, exec (.vmset b k e) s = .next t ∧ t.vm k = vm ∧ t.on pgPG (PG.VMSTAT_LATE k) = true
            ∧ t.on pgPG (PG.VMSTAT_DISC k) = true)))
    ∧ (∃ t, exec (.vmPendingApply k) s = .next t
        ∧ (∀ tm p, vm.setPend = some (tm, p) → geT64 now tm = true → (t.vm k).setPend = none ∧ (vm.plan.atRest = true → (t.vm k).plan = Plan.at p)
            ∧ (vm.plan.atRest = false → (t.vm k).plan = vm.plan ∧ t.on pgPG (PG.VMSTAT_DISC k) = true))
        ∧ (∀ tm p, vm.setPend = some (tm, p) → geT64 now tm = false → (t.vm k).setPend = vm.setPend ∧ (t.vm k).plan = vm.plan)
        ∧ (∀ tm w, vm.velPend = some (tm, w) → (t.vm k).velPend = (if geT64 now tm then none else vm.velPend)
            ∧ (t.vm k).vcmd = (if geT64 now tm then w.toInt else vm.vcmd))
        ∧ (∀ j, j ≠ k.val → t.vm j = s.vm j))
    ∧ (s.active pgPG = false → s.engineRun = s)
    ∧ (s.active pgPG = true → (s.axes.map (·.1)).Pairwise (· < ·) →
      let t := s.engineRun
      let pos (a : Nat) : Option (BitVec 48 × Word) := (s.axis a).posCopy.find? fun c => c.1 = s.girth.cyc - 1
      (vm.setPend = none → vm.velPend = none →
        (t.vm k).plan = vm.plan.toward (s.reg64 pgPG (PG.VMALO k)).toNat (State.jn (s.rd pgPG (PG.VMCFG_JN k)))
          (if s.st pgPG = 4 then 0 else clipTo (2 ^ 63 - 1) vm.vcmd))
      ∧ (∀ g, g < 32 → s.active (pgIGRP g) = true →
          (s.grpState g = 1 → (t.igrp g).plan = ((s.igrp g).plan.seek (s.grpV g) (s.grpA g) (s.grpM g) (BitVec.ofInt 64 (s.igrp g).dlead) 0).1)
          ∧ (s.grpState g = 2 → (t.igrp g).plan = (s.igrp g).plan.toward (if (s.igrp g).dstop then s.grpDstop g else s.grpA g) (s.grpM g) 0)
          ∧ (∀ a m, (s.axis a).map = some m → s.rides a = some g → s.grpState g ≠ 0 → s.pgSteps a m = true →
              (t.pg a).plan.pout = (s.pg a).start + BitVec.ofInt 64 (Int.fdiv ((t.igrp g).plan.pout.toInt * (s.pg a).dist) (s.igrp g).dlead)
                ∧ (t.pg a).spCyc = s.girth.cyc))
      ∧ (∀ a m, (s.axis a).map = some m →
          let g := s.pg a
          let u := t.pg a
          (∀ c, pos a = some c → u.latch = State.pos32 c.2 ∧ u.latchBad = false)
          ∧ (pos a = none → u.latch = g.latch ∧ u.latchBad = true)
          ∧ (s.pgSteps a m = false → u.plan = g.plan ∧ u.sp = g.sp)
          ∧ (s.pgSteps a m = true → s.riding a = false → g.waiting = [] → s.pgWaits a m s.girth.cyc 256 = false → m.mode ≠ 4 →
              u.spCyc = s.girth.cyc ∧ u.sp.isSome = true
              ∧ (g.mode = .move → u.plan = (g.plan.seek (s.slotV m) (s.slotA m) (s.slotM m) g.tgt 0).1)
              ∧ (g.mode = .velocity → u.plan = g.plan.toward (s.slotA m) (s.slotM m) (clipTo (s.slotV m) g.vcmd))
              ∧ (g.mode = .stop → u.plan = g.plan.toward (s.slotDstop m) (s.slotM m) 0 ∧ u.mode = if u.plan.atRest then .idle else .stop)
              ∧ (g.mode = .gear → s.slotKind m = 1 → let k := s.slotIdx m
                  u.mlast = if s.riding k = true ∨ k < a then (t.pg k).plan.pout else (s.pg k).plan.pout)
              ∧ (g.mode = .gear → s.slotKind m = 2 → u.mlast = (if (t.pg (s.slotIdx m)).latchBad then g.mlast else (t.pg (s.slotIdx m)).latch)
                  ∧ u.masterBad = (t.pg (s.slotIdx m)).latchBad))))

/-! ### Power, clocks, memory protection, boot and tack sets (chapters 02, 20, 21) -/

/-- PWR_TARGET_WRITE (R49, R50): a new vector of domains is judged whole: it is refused while a switch runs (1), where it leaves out what a domain
requires (2), would switch off a domain with a block that is neither OFF nor STOPPED (3) or that holds a claimed resource (4), or PD_HOST with the PCIe link up
(5); of several the lowest reason stands in REFUSE (the model's choice, notes/assumptions/50.md), with event 0 of PWR and fault 0x0201, and the vector stays.  Else TARGET takes it, and BUSY is set where a domain changes.

POWER_STEP_DONE (R42, R48, R49, R51): while BUSY, the next domain in the order of R49, those going off first, changes its state: its memory reads 0 with valid
check bits, its pages hold their reset values; no other memory changes, no page elsewhere but PWR, and MSIX by a message; BUSY falls once no domain
is left.  While not BUSY nothing happens. -/
def Obligations.PowerSwitching : Prop :=
  (∀ (s : State) (m : Fin 96) (v : Word), Reaches s m pgPWR PWR.TARGET true →
      let new := v.toNat % 2 ^ 18
      let wants (d : Nat) : Prop := bitOf new d = true
      let leaves (d : Nat) : Prop := d < 18 ∧ s.domOn d = true ∧ ¬ wants d
      let c1 := s.on pgPWR PWR.STATUS_BUSY = true
      let c2 := ∃ d, d < 18 ∧ wants d ∧ ((d ≠ 8 ∧ ¬ wants 8) ∨ (d = 15 ∧ ¬ wants 14))
      let c3 := ∃ d p, leaves d ∧ p ∈ allPages ∧ pageDomain p = some d ∧ 1 < s.st p
      let c4 := ∃ d r q, leaves d ∧ (r, some q) ∈ s.claims ∧ idDomain r = some d
      let c5 := leaves 14 ∧ s.on pgHOST HOST.LINKSTAT_UP = true
      let refused (r : Nat) : Prop := ∃ ds, exec (.pwrTargetWrite m v) s =
        .next ((((s.wr pgPWR PWR.REFUSE_REASON r).wr pgPWR PWR.REFUSE_DOMAIN ds).evt pgPWR 0).faultU pgPWR 0x0201)
      (c1 → refused 1) ∧ (¬ c1 → c2 → refused 2) ∧ (¬ c1 → ¬ c2 → c3 → refused 3) ∧ (¬ c1 → ¬ c2 → ¬ c3 → c4 → refused 4)
        ∧ (¬ c1 → ¬ c2 → ¬ c3 → ¬ c4 → c5 → refused 5)
        ∧ (¬ c1 → ¬ c2 → ¬ c3 → ¬ c4 → ¬ c5 → ∃ t, exec (.pwrTargetWrite m v) s = .next t ∧ t.rd pgPWR PWR.TARGET_DOMAIN = new
            ∧ (t.on pgPWR PWR.STATUS_BUSY = true ↔ ∃ d, d < 18 ∧ (s.domOn d = true ↔ ¬ wants d))
            ∧ (∀ p off, off < 0x1000 → ¬(p = pgPWR ∧ (off = PWR.TARGET ∨ off = PWR.STATUS)) → t.reg p off = s.reg p off)
            ∧ t = { s with regs := t.regs }))
  ∧ (∀ s : State, s.por = false →
      (s.on pgPWR PWR.STATUS_BUSY = false → exec .powerStepDone s = .next s)
      ∧ (∀ d, s.on pgPWR PWR.STATUS_BUSY = true →
          let target (k : Nat) := bitOf (s.rd pgPWR PWR.TARGET_DOMAIN) k
          ((offOrder.find? fun k => s.domOn k && !target k) = some d
            ∨ ((offOrder.find? fun k => s.domOn k && !target k) = none ∧ (onOrder.find? fun k => !s.domOn k && target k) = some d)) →
          ∃ t, exec .powerStepDone s = .next t ∧ t.domOn d = !s.domOn d ∧ (∀ k, k < 18 → k ≠ d → t.domOn k = s.domOn k)
            ∧ (∀ a, memDomain a = some d → t.byte a = 0 ∧ t.flip a = 0)
            ∧ (∀ a, memDomain a ≠ some d → t.byte a = s.byte a ∧ t.flip a = s.flip a)
            ∧ (∀ p off, off < 0x1000 → p ≠ pgMSIX → pageDomain p = some d → t.reg p off = regReset (0x1000 * p + off))
            ∧ (∀ p off, off < 0x1000 → p ≠ pgMSIX → p ≠ pgPWR → pageDomain p ≠ some d → t.reg p off = s.reg p off)
            ∧ (t.on pgPWR PWR.STATUS_BUSY = true ↔ ∃ k, k < 18 ∧ t.domOn k ≠ target k)))

/-- CLOCK_MONITOR_MEASURE, PLL_LOSS_OF_LOCK, PLL_RELOCK, PCIE_REFCLK_LOSS, PCIE_REFCLK_RETURN, TEMPERATURE_WARNING, TEMPERATURE_WARNING_REARM,
TEMPERATURE_SHUTDOWN, SUPPLY_OUT_OF_WINDOW (R45–R47, R507): a measurement shows in WDCNT; one inside its limits ends a run, and the second in a row outside them,
or the first of 0, raises 0x0302, once a run (that 0 raises it at its first measurement and the others at their second, and that a run raises it once, is the model's reading,
notes/assumptions/51.md), and stops Buckle; the loss of lock counts LOLCNT and raises 0x0301; the PCIe reference shows in
PLLSTAT; the warning is raised above TWARN, once until the temperature has fallen 5 K below it; a temperature above 125 °C raises 0x0602 and a supply outside its window 0x0603.

FAIL_SILENT (R499, R502): the first class-D fault sets FATAL and stands in FATALCODE, a later one leaves both; the STO word and the commands of the safety outputs become 0, the
outputs of every powered Stitch unit 0, every powered analog output takes RESTCODE, a tack switch ends, nothing is transmitted any more, and, while the field link works, every
output of the field die enters its safe state. -/
def Obligations.ClocksAndSupervision : Prop :=
  ∀ s : State, s.por = false →
    (∀ count : BitVec 16, s.rd pgCLK HDR.PCTL_RUN = 1 →
      let n := count.toNat
      let lo := s.rd pgCLK CLK.WDLIM_LO
      let hi := s.rd pgCLK CLK.WDLIM_HI
      let outside := (lo ≠ 0 ∧ n < lo) ∨ (hi ≠ 0xFFFF ∧ hi < n) ∨ n = 0
      let t := s.wr pgCLK CLK.WDCNT_LAST n
      (¬ outside → exec (.clockMonitorMeasure count) s = .next { t with clk := { out := 0, raised := false } })
      ∧ (outside → s.clk.raised = true ∨ (n ≠ 0 ∧ s.clk.out = 0) → exec (.clockMonitorMeasure count) s =
          .next { t with clk := { out := min 2 (s.clk.out + 1), raised := s.clk.raised } })
      ∧ (outside → s.clk.raised = false → n = 0 ∨ 1 ≤ s.clk.out → exec (.clockMonitorMeasure count) s =
          .next ((((({ t with clk := { out := min 2 (s.clk.out + 1), raised := true } } : State).wr pgCLK CLK.PLLSTAT_WDFAIL 1).evt pgCLK 1).faultU
            pgCLK 0x0302).buckleFault 0x8004 BUCKLE.STAT_CLOCK)))
    ∧ (∀ count : BitVec 16, s.rd pgCLK HDR.PCTL_RUN = 0 → exec (.clockMonitorMeasure count) s = .next s)
    ∧ exec .pllLossOfLock s = .next (if s.on pgCLK CLK.PLLSTAT_LOCK = true
        then (((((s.wr pgCLK CLK.PLLSTAT_LOCK 0).wr pgCLK CLK.PLLSTAT_LOL 1).bump pgCLK CLK.LOLCNT).evt pgCLK 0).faultU pgCLK 0x0301) else s)
    ∧ exec .pllRelock s = .next (s.wr pgCLK CLK.PLLSTAT_LOCK 1)
    ∧ exec .pcieRefclkLoss s = .next (((s.wr pgCLK CLK.PLLSTAT_PCIEREF 0).evt pgCLK 2).faultU pgCLK 0x0303)
    ∧ exec .pcieRefclkReturn s = .next (s.wr pgCLK CLK.PLLSTAT_PCIEREF 1)
    ∧ (∀ kelvin : Nat, exec (.temperatureWarning kelvin) s = .next (if s.tempFired = true ∨ kelvin ≤ s.rd pgFLT FLT.TCFG_TWARN then s
        else ({ s with tempFired := true } : State).faultU pgFLT 0x0601))
    ∧ (∀ kelvin : Nat, exec (.temperatureWarningRearm kelvin) s = .next (if kelvin + 5 * 16 ≤ s.rd pgFLT FLT.TCFG_TWARN then { s with tempFired := false } else s))
    ∧ exec .temperatureShutdown s = .next (s.faultU pgFLT 0x0602)
    ∧ (∀ k : Fin 5, exec (.supplyOutOfWindow k) s =
        .next ((s.setReg pgFLT FLT.SUPSTAT (s.reg pgFLT FLT.SUPSTAT ||| BitVec.ofNat 32 (2 ^ k.val))).faultU pgFLT 0x0603))
    ∧ (∀ p code detail : Nat, codeClass code = .d →
      let t := s.fault p code detail
      t.fatal = true ∧ t.rd pgFLT FLT.STAT_FATALCODE = (if s.fatal then s.rd pgFLT FLT.STAT_FATALCODE else code)
        ∧ t.reg pgSTO STO.WORD = 0 ∧ t.rd pgSTO STO.OUTSTAT_CMD = 0
        ∧ (∀ n, n < 8 → s.pageOn (pgSTITCH n) = true → t.rd (pgSTITCH n) STITCH.OUTSTAT_OUT = 0)
        ∧ (∀ n, n < 16 → s.pageOn (pgAXCH n) = true → s.on (pgAXCH n) AXCH.CFG_DIR = true →
            t.rd (pgAXCH n) AXCH.OUTNOW_CODE = s.rd (pgAXCH n) AXCH.OCFG_RESTCODE)
        ∧ t.on pgTACK TACK.STAT_BUSY = false ∧ (∀ x, t.send x = t)
        ∧ (s.on pgFLD FLD.STAT_LINK = true → ∀ x, x < 16 → t.safeAct x = true))

/-- SCRUB_SLOT, ERROR_INJECT_ARM (R39, R41, R63, R64): while ECC runs the scrubber reads the next powered word: one without errors stays, one with one or two is corrected, counted in
CORR1 or CORR2 and located, one with three is counted in UNCORR and keeps its errors; memory reads as before; the walk goes on at
the next word, or, past the last powered one, begins anew with PASSCNT, as it does where all that lay ahead has gone off.  Injection is armed once where COUNT and the bit positions allow; while armed a second arming is
refused and ARM = 0 disarms. -/
def Obligations.MemoryProtection : Prop :=
  ∀ s : State,
    (s.por = false → s.running pgECC = false → exec .scrubSlot s = .next s)
    ∧ (s.por = false → s.poweredFrom s.scrub = none → s.poweredFrom 0 = none → exec .scrubSlot s = .next s)
    ∧ (∀ w wrap, s.por = false → s.running pgECC = true → popCount 80 (s.flip w).toNat ≤ 3 →
      (s.poweredFrom s.scrub = some w ∧ wrap = false) ∨ (s.poweredFrom s.scrub = none ∧ s.poweredFrom 0 = some w ∧ wrap = true) →
      let n := popCount 80 (s.flip w).toNat
      let passes := if wrap then satInc (s.reg pgECC ECC.PASSCNT) else s.reg pgECC ECC.PASSCNT
      ∃ t, exec .scrubSlot s = .next t ∧ (∀ a, t.byte a = s.byte a)
        ∧ t.flip w = (if n = 3 then s.flip w else 0) ∧ (∀ x, x ≠ w → t.flip x = s.flip x)
        ∧ t.scrub = (if (s.poweredFrom (w + 8)).isSome then w + 8 else 0)
        ∧ t.reg pgECC ECC.PASSCNT = (if (s.poweredFrom (w + 8)).isSome then passes else satInc passes)
        ∧ t.reg pgECC ECC.CORR1 = (if n = 1 then satInc (s.reg pgECC ECC.CORR1) else s.reg pgECC ECC.CORR1)
        ∧ t.reg pgECC ECC.CORR2 = (if n = 2 then satInc (s.reg pgECC ECC.CORR2) else s.reg pgECC ECC.CORR2)
        ∧ t.reg pgECC ECC.UNCORR = (if n = 3 then satInc (s.reg pgECC ECC.UNCORR) else s.reg pgECC ECC.UNCORR)
        ∧ (n ≠ 0 → t.reg pgECC ECC.LASTADDR = BitVec.ofNat 32 (w / 8 * 8)))
    ∧ (∀ (m : Fin 96) (v : Word), Reaches s m pgECC ECC.INJCTL true →
      let fits := ECC.INJCTL_COUNT.get v = 1 ∧ ECC.INJCTL_BITA.get v < 80
        ∨ ECC.INJCTL_COUNT.get v = 2 ∧ ECC.INJCTL_BITA.get v < 80 ∧ ECC.INJCTL_BITB.get v < 80 ∧ ECC.INJCTL_BITA.get v ≠ ECC.INJCTL_BITB.get v
        ∨ ECC.INJCTL_COUNT.get v = 3 ∧ ECC.INJCTL_BITA.get v < 80 ∧ ECC.INJCTL_BITB.get v < 80 ∧ ECC.INJCTL_BITC.get v < 80
          ∧ ECC.INJCTL_BITA.get v ≠ ECC.INJCTL_BITB.get v ∧ ECC.INJCTL_BITA.get v ≠ ECC.INJCTL_BITC.get v
          ∧ ECC.INJCTL_BITB.get v ≠ ECC.INJCTL_BITC.get v
      (s.on pgECC ECC.INJCTL_ARM = true → exec (.errorInjectArm m v) s =
        .next (if ECC.INJCTL_ARM.get v = 1 then s.wr pgECC HDR.PSTAT_CFGREJ 1 else s.wr pgECC ECC.INJCTL_ARM 0))
      ∧ (s.on pgECC ECC.INJCTL_ARM = false → ECC.INJCTL_ARM.get v = 1 → ∃ t, exec (.errorInjectArm m v) s = .next t
          ∧ (t.on pgECC ECC.INJCTL_ARM = true ↔ fits) ∧ (fits → t.rd pgECC ECC.INJCTL_COUNT = ECC.INJCTL_COUNT.get v
            ∧ t.rd pgECC ECC.INJCTL_BITA = ECC.INJCTL_BITA.get v ∧ t.rd pgECC ECC.INJCTL_BITB = ECC.INJCTL_BITB.get v
            ∧ t.rd pgECC ECC.INJCTL_BITC = ECC.INJCTL_BITC.get v)
          ∧ t = s.setReg pgECC ECC.INJCTL (t.reg pgECC ECC.INJCTL))
      ∧ (s.on pgECC ECC.INJCTL_ARM = false → ECC.INJCTL_ARM.get v = 0 → exec (.errorInjectArm m v) s = .next s))

/-- What happens in the field die, which POR_N does not reset (R34, R441): it goes on while the controller die is in reset. -/
def Sys2Proof.dieRow (c : Instr) : Prop :=
  (∃ n, c = .safeStateTimeout n) ∨ (∃ a b, c = .readback a b) ∨ (∃ n, c = .thermalShutdown n) ∨ (∃ n, c = .retry n)
    ∨ (∃ n low, c = .openLoad n low) ∨ (∃ mv k, c = .vfldMeasure mv k)

/-- POR_N_FALL, POWER_ON_RESET (R34, R441, R479–R481): while POR_N is low every command but these and what happens in the field die leaves the state as it is; POR_N low returns the
whole controller die to reset: memory reads 0, every register but the fuses' and the chip identity holds its reset value, while the field die keeps its state and its output levels; at its rise the straps are latched in GLOB.STRAP and the loader begins at flash slot A, or waits for the host. -/
def Obligations.PowerOnReset : Prop :=
  ∀ s : State,
    (∀ c : Instr, s.por = true → c ≠ .porNFall → (∀ r b p k, c ≠ .powerOnReset r b p k) → ¬ dieRow c → exec c s = .next s)
    ∧ (∃ t, exec .porNFall s = .next t ∧ t.por = true ∧ (∀ a, t.byte a = 0 ∧ t.flip a = 0) ∧ t.time.raw = 0 ∧ t.girth.cyc = 0 ∧ t.axes = [] ∧ t.claims = []
      ∧ t.die = s.die ∧ (∀ x, (t.fout x).level = (s.fout x).level ∧ (t.fout x).held = (s.fout x).held)
      ∧ (∀ p off, off < 0x1000 → t.reg p off =
          if (p = pgGLOB ∧ (off = GLOB.UID0 ∨ off = GLOB.UID1)) ∨ (p = pgBOOT ∧ BOOT.OTPRD 0 ≤ off ∧ off ≤ BOOT.OTPRD 9) then s.reg p off
          else regReset (0x1000 * p + off)))
    ∧ (∀ refmode bootsrc (pairid : Fin 8) (tacksel : Fin 4),
      (s.por = false → exec (.powerOnReset refmode bootsrc pairid tacksel) s = .next s)
      ∧ (s.por = true → ∃ t, exec (.powerOnReset refmode bootsrc pairid tacksel) s = .next t ∧ t.por = false
          ∧ t.rd pgGLOB GLOB.STRAP_REFMODE = (if refmode then 1 else 0) ∧ t.rd pgGLOB GLOB.STRAP_BOOTSRC = (if bootsrc then 1 else 0)
          ∧ t.rd pgGLOB GLOB.STRAP_PAIRID = pairid ∧ t.rd pgGLOB GLOB.STRAP_TACKSEL = tacksel ∧ t.boot.phase = (if bootsrc then 2 else 0)
          ∧ (∀ p off, off < 0x1000 → ¬(p = pgGLOB ∧ off = GLOB.STRAP) → ¬(p = pgCLK ∧ off = CLK.REFCFG) → ¬(p = pgTACK ∧ off = TACK.STAT) →
              t.reg p off = s.reg p off)))

/-- BOOT_COMPLETE, HOST_LOAD_GO, OTP_PROGRAM, OTP_PROGRAM_DONE (R481, R482, R485–R487): flash slot A whose header does not meet R484 or cannot be read whole gives way to slot B with
0x0401, slot B to a host load with FAIL and 0x0402 (the model's reading, notes/assumptions/61.md), the header having been read with 0x13 at PCLK / 8 (R486); the reason is 7 where the header cannot be read
and 1 to 3 where it does not meet R484 (which of these is free: the model's choice, notes/assumptions/60.md).  An image that meets R484 in a flash slot, whose domains are on or come on, is read on with
0xEC and the mode clocks 1 and copied; where the OTP admits its key, signature and version, or KEYSET is 0, it sets DONE, SRC and IVER and event 0, and starts TACK where that is STOPPED; else its reason is 4, 5 or 6, and zeroes are
written over its destinations.  GO starts the waiting loader, and once DONE is refused; the OTP takes a word from the host alone, while BOOT runs and is not BUSY, words 0–7 before KEYSET and KEYSET only over a key; at the end of programming the bits
of the word are set, and none returns to 0. -/
def Obligations.BootAndOtp : Prop :=
  ∀ s : State,
    (∀ image r, s.por = false → r < 256 → s.boot.phase = 0 → exec (.bootComplete image (some r)) s =
        .next { ((s.emit (.flash 0x13 0 256 8 0)).wr pgBOOT BOOT.STAT_REASON 7).fault pgBOOT 0x0401 7 with boot := { s.boot with phase := 1 } })
    ∧ (∀ image r, s.por = false → r < 256 → s.boot.phase = 1 → exec (.bootComplete image (some r)) s =
        .next { ((((s.emit (.flash 0x13 0x01000000 256 8 0)).wr pgBOOT BOOT.STAT_REASON 7).wr pgBOOT BOOT.STAT_FAIL 1).evt pgBOOT 1).fault pgBOOT 0x0402 7 with
          boot := { s.boot with phase := 2 } })
    ∧ (∀ image, s.por = false → s.boot.phase = 0 → 256 ≤ image.length → slice image 0 4 ≠ [0x55, 0x42, 0x57, 0x4E] →
        ∃ t, exec (.bootComplete image none) s = .next t ∧ t.boot.phase = 1 ∧ t.on pgBOOT BOOT.STAT_DONE = s.on pgBOOT BOOT.STAT_DONE
          ∧ 1 ≤ t.rd pgBOOT BOOT.STAT_REASON ∧ t.rd pgBOOT BOOT.STAT_REASON ≤ 3 ∧ (∀ a, t.byte a = s.byte a))
    ∧ (∀ (image : List Byte) (s1 : State), s.por = false → s.boot.phase = 0 ∨ s.boot.phase = 1 → imageHeaderOk image = true → imageTableOk image = true →
        fieldAt image 12 4 ≤ image.length → 256 + 16 * fieldAt image 16 2 ≤ image.length →
        let n := fieldAt image 16 2
        let len := fieldAt image 12 4
        let slot := 0x01000000 * s.boot.phase
        let s0 := (s.emit (.flash 0x13 slot 256 8 0)).emit (.flash 0x13 (slot + 256) (16 * n) 8 0)
        let want := (imageDomains image).foldl withBit s.domains
        (if want = s.domains then s1 = s0 else s0.bootTarget want = (true, s1)) →
        let c := (s1.powerAll.emit (.flash 0xEC (slot + 256 + 16 * n) (len - 256 - 16 * n) (2 * (fieldAt image 18 1 + 1)) (fieldAt image 19 1) (some true))).imageCopy
          image len false
        let keyed := s.otpFlag 0 = true
        let why := if keyed ∧ s.keyKnown image = false then 4 else if keyed ∧ imageSigned image = false then 5
          else if fieldAt image 8 4 < s.minVersion then 6 else 0
        (why = 0 → ∃ t, exec (.bootComplete image none) s = .next t ∧ t = c.imageDone image ∧ t.on pgBOOT BOOT.STAT_DONE = true
          ∧ t.rd pgBOOT BOOT.STAT_SRC = s.boot.phase ∧ t.on pgBOOT BOOT.STAT_FAIL = false ∧ t.reg pgBOOT BOOT.IVER = BitVec.ofNat 32 (fieldAt image 8 4)
          ∧ bitOf (t.reg pgBOOT HDR.EVT).toNat 0 = true ∧ t.boot.phase = 4)
        ∧ (why ≠ 0 → ∃ t, exec (.bootComplete image none) s = .next t ∧ t = (c.imageCopy image len true).imageFail why
          ∧ t.rd pgBOOT BOOT.STAT_REASON = why ∧ t.boot.phase = s.boot.phase + 1 ∧ t.on pgBOOT BOOT.STAT_DONE = s.on pgBOOT BOOT.STAT_DONE))
    ∧ (∀ image, s.por = false → s.boot.phase ≠ 0 → s.boot.phase ≠ 1 → s.boot.phase ≠ 3 → exec (.bootComplete image none) s = .next s)
    ∧ (∀ m : Fin 96, Reaches s m pgBOOT BOOT.HLCTL true → exec (.hostLoadGo m) s =
        .next (if s.on pgBOOT BOOT.STAT_DONE = true then s.wr pgBOOT HDR.PSTAT_CFGREJ 1
          else if s.boot.phase = 2 then { s with boot := { s.boot with phase := 3 } } else s))
    ∧ (∀ (m : Fin 96) (v : Word), Reaches s m pgBOOT BOOT.OTPCTL true →
      let w := BOOT.OTPCTL_WORD.get v
      let d := s.reg pgBOOT BOOT.OTPDATA
      let keyset := bitOf (s.rd pgBOOT (BOOT.OTPRD_VALUE 8)) 0 = true
      let takes := m.val = 64 ∧ s.running pgBOOT = true ∧ s.on pgBOOT BOOT.OTPCTL_BUSY = false ∧ w < 10 ∧ (w < 8 → ¬ keyset)
        ∧ (w = 8 → d.getLsbD 0 = true → ∃ k, k < 8 ∧ s.reg pgBOOT (BOOT.OTPRD k) ≠ 0)
      (takes → exec (.otpProgram m v) s = .next { ((s.wr pgBOOT BOOT.OTPCTL_WORD w).wr pgBOOT BOOT.OTPCTL_BUSY 1) with
        boot := { s.boot with otp := some (w, d) } })
      ∧ (¬ takes → exec (.otpProgram m v) s = .next (s.wr pgBOOT HDR.PSTAT_CFGREJ 1)))
    ∧ (s.por = false → s.boot.otp = none → exec .otpProgramDone s = .next s)
    ∧ (∀ w d, s.por = false → s.boot.otp = some (w, d) → w < 10 → ∃ t, exec .otpProgramDone s = .next t
        ∧ t.reg pgBOOT (BOOT.OTPRD w) = s.reg pgBOOT (BOOT.OTPRD w) ||| d ∧ t.on pgBOOT BOOT.OTPCTL_BUSY = false ∧ t.boot.otp = none
        ∧ (∀ k, k < 10 → k ≠ w → t.reg pgBOOT (BOOT.OTPRD k) = s.reg pgBOOT (BOOT.OTPRD k)))

/-- What becomes of a request for tack set `k` at a running TACK (R488, R492, R495), in the state after it: refused, rejected with its reason, or begun. -/
def Sys2Proof.tackRequested (s : State) (k : Nat) (t : State) : Prop :=
  let base := s.rd pgTACK (TACK.TBASE_ADDR k) * 8
  let len := s.rd pgTACK (TACK.TLEN_LEN k)
  let begun := { ((s.wr pgTACK TACK.STAT_BUSY 1).wr pgTACK TACK.STAT_PHASE 1) with
    tack := { s.tack with set := k, base := base, len := len, deferred := [], failed := false } }
  let rejected (u : State) (r : Nat) : State :=
    (((((u.wr pgTACK TACK.STAT_REASON r).bump pgTACK TACK.REJECTS).evt pgTACK 1).fault pgTACK 0x0501 r).wr pgTACK TACK.STAT_BUSY 0).wr pgTACK TACK.STAT_PHASE 0
  let busy := s.on pgTACK TACK.STAT_BUSY = true ∨ len = 0
  (busy → t = (s.bump pgTACK TACK.REJECTS).wr pgTACK HDR.PSTAT_CFGREJ 1)
    ∧ (∀ s1, ¬ busy → begun.tackRead = (none, s1) → t = rejected s1 2)
    ∧ (∀ c s1 r d, ¬ busy → begun.tackRead = (some c, s1) → s1.tackJudge k len c = .error (r, d) → r ≠ 6 → t = rejected s1 r)
    ∧ (∀ c s1 task why, ¬ busy → begun.tackRead = (some c, s1) → s1.tackJudge k len c = .error (6, some (task, why)) →
        t = rejected (if s1.pageOn pgCINCH then (s1.wr pgCINCH CINCH.LOADERR_TASK task).wr pgCINCH CINCH.LOADERR_REASON why else s1) 6)
    ∧ (∀ c s1 set, ¬ busy → begun.tackRead = (some c, s1) → s1.tackJudge k len c = .ok set →
        t = (({ (s1.wr pgTACK TACK.STAT_PHASE 2) with tack := { s1.tack with pwrdom := set.pwrdom } } : State).bootAct pgGIRTH HDR.PCTL
          fun u => u.requestStop pgGIRTH).tackStops)

/-- The end of a switch: BUSY and PHASE 0, and the pins judged again (R488); where they ask for no other set, that is all. -/
def Sys2Proof.tackEnds (s t : State) : Prop :=
  let u := (s.wr pgTACK TACK.STAT_BUSY 0).wr pgTACK TACK.STAT_PHASE 0
  let asked := u.on pgTACK TACK.CFG_PINSEL = true ∧ u.rd pgTACK TACK.STAT_ACTIVE ≠ u.rd pgTACK TACK.STAT_PINS
  (¬ asked ∨ u.running pgTACK = false → t = u) ∧ (asked → u.running pgTACK = true → tackRequested u (u.rd pgTACK TACK.STAT_PINS) t)

/-- TACK_SWITCH, TACKSEL_PIN_REQUEST, TACK_STOP_DONE, TACK_POWER_DONE, TACK_DEFERRED_START (R488, R492–R495): a request by a write or, with PINSEL, by pins that name another set than the active one is refused while a switch is BUSY or where no
such set is stored, rejected with its reason where its content cannot be read or phase 1 finds a fault (in the order of notes/assumptions/62.md, the model's choice), and else begins with the stop of GIRTH.  Phase 3 writes PWR.TARGET once every
switched page is STOPPED or OFF; a switch that PWR refuses leaves no set active (what else it leaves: the model's reading, notes/assumptions/63.md).  Phase 4 waits for power and writes, as master 93, the register list, the axis map with its slots and routes, the data blocks and
SCRCEXP, and ACTIVE; it rejects the set where that can no longer be read (the model's choice, notes/assumptions/113.md).  Phase 5 starts the pages that wait for nothing in list order; one that does not start is the first in FAILPAGE, PARTIAL and 0x0502; a deferred page starts once
what it waits for runs, GIRTH the last of them (the model's reading, notes/assumptions/64.md).  At the end the pins are judged again, also after a refusal of PWR (the model's choice, notes/assumptions/126.md); a write of master 93 that its gate suppresses has no effect (the model's choice, notes/assumptions/127.md). -/
def Obligations.TackSwitching : Prop :=
  ∀ s : State,
    (∀ (m : Fin 96) (k : Fin 4), Reaches s m pgTACK TACK.CTL true →
      (s.running pgTACK = false → exec (.tackSwitch m k) s = .next s)
      ∧ (s.running pgTACK = true → ∃ t, exec (.tackSwitch m k) s = .next t ∧ tackRequested s k t))
    ∧ (∀ pins : Fin 4, s.por = false →
        let t := s.wr pgTACK TACK.STAT_PINS pins
        (s.on pgTACK TACK.CFG_PINSEL = false ∨ s.rd pgTACK TACK.STAT_ACTIVE = pins ∨ s.running pgTACK = false →
          exec (.tackselPinRequest pins) s = .next t)
        ∧ (s.on pgTACK TACK.CFG_PINSEL = true → s.rd pgTACK TACK.STAT_ACTIVE ≠ pins → s.running pgTACK = true →
            ∃ u, exec (.tackselPinRequest pins) s = .next u ∧ tackRequested t pins u))
    ∧ (s.por = false →
      let stopped := ∀ p ∈ allPages, switchedPage p = true → s.st p ≤ 1
      (s.rd pgTACK TACK.STAT_PHASE ≠ 2 ∨ ¬ stopped → exec .tackStopDone s = .next s)
      ∧ (∀ t, s.rd pgTACK TACK.STAT_PHASE = 2 → stopped → (s.wr pgTACK TACK.STAT_PHASE 3).bootTarget (s.tack.pwrdom ||| 0x4100) = (true, t) →
          exec .tackStopDone s = .next t)
      ∧ (∀ t, s.rd pgTACK TACK.STAT_PHASE = 2 → stopped → (s.wr pgTACK TACK.STAT_PHASE 3).bootTarget (s.tack.pwrdom ||| 0x4100) = (false, t) →
          ∃ v u, exec .tackStopDone s = .next u ∧ tackEnds v u ∧ v.rd pgTACK TACK.STAT_ACTIVE = 7 ∧ v.rd pgTACK TACK.STAT_REASON = 10
            ∧ (∀ a, (v.axis a).map = none ∧ (u.axis a).map = none))
      ∧ (s.rd pgTACK TACK.STAT_PHASE ≠ 3 ∨ s.on pgPWR PWR.STATUS_BUSY = true → exec .tackPowerDone s = .next s)
      ∧ (∀ c s1 axes blocks, s.rd pgTACK TACK.STAT_PHASE = 3 → s.on pgPWR PWR.STATUS_BUSY = false →
          (s.wr pgTACK TACK.STAT_PHASE 4).tackRead = (some c, s1) → tackAxes c = some axes → tackBlocks c = some blocks →
          let set : TackSet := { scrc := BitVec.ofNat 32 (fieldAt c 16 4), pwrdom := s1.tack.pwrdom, writes := tackWrites c, axes := axes, blocks := blocks, start := tackStart c }
          let w := (tackWrites c).foldl (fun u (e : Nat × Nat × Word) => u.bootReg e.1 e.2.1 e.2.2) s1
          let x := (w.installMap axes).installRoutes axes
          let y := blocks.foldl (fun u e => u.bootBlock e.1 e.2) x
          let z := ((y.bootReg pgBUCKLE BUCKLE.SCRCEXP set.scrc).wr pgTACK TACK.STAT_ACTIVE y.tack.set).wr pgTACK TACK.STAT_PHASE 5
          let kept : State := { z with tack := { z.tack with deferred := set.start.filter (tackDefers set), failed := false, blocks := blocks.map fun e => (e.1, e.2.length) } }
          let v := (set.start.filter fun p => !tackDefers set p).foldl (fun u p => u.tackStartPage p) kept
          (∀ a e, axes.find? (fun e => e.1 = a) = some e → (axes.map (·.1)).Nodup → (x.axis a).map = some e.2.1 ∧ (x.axis a).state = .stopped)
            ∧ (∀ a, (∀ e ∈ axes, e.1 ≠ a) → (x.axis a).map = none)
            ∧ z.rd pgTACK TACK.STAT_ACTIVE = y.tack.set % 8
            ∧ (y.gateKind mBoot (regAddr pgBUCKLE BUCKLE.SCRCEXP) 4 true = none → y.pageOn pgBUCKLE = true → y.st pgBUCKLE = 1 →
                z.reg pgBUCKLE BUCKLE.SCRCEXP = set.scrc)
            ∧ (v.rd pgTACK TACK.STAT_PHASE ≠ 5 ∨ v.tack.deferred ≠ [] → exec .tackPowerDone s = .next v)
            ∧ (v.rd pgTACK TACK.STAT_PHASE = 5 → v.tack.deferred = [] →
                ∃ t, exec .tackPowerDone s = .next t ∧ tackEnds ((v.bump pgTACK TACK.SWITCHES).evt pgTACK 0) t))
      ∧ (∀ s1, s.rd pgTACK TACK.STAT_PHASE = 3 → s.on pgPWR PWR.STATUS_BUSY = false →
          (s.wr pgTACK TACK.STAT_PHASE 4).tackRead = (none, s1) →
          exec .tackPowerDone s = .next ((((((s1.wr pgTACK TACK.STAT_REASON 2).bump pgTACK TACK.REJECTS).evt pgTACK 1).fault pgTACK 0x0501 2).wr
            pgTACK TACK.STAT_BUSY 0).wr pgTACK TACK.STAT_PHASE 0))
      ∧ (∀ p,
          let r := s.bootAct p HDR.PCTL (fun u => u.tryStart p)
          (1 < r.st p → s.tackStartPage p = { r with tack := { r.tack with starts := p :: r.tack.starts } })
          ∧ (r.st p ≤ 1 → s.tackStartPage p = r.tackFailed p)
          ∧ (let f := if s.tack.failed then s else { s.wr pgTACK TACK.FAILPAGE_PAGE p with tack := { s.tack with failed := true } }
            s.tackFailed p = ((f.wr pgTACK TACK.STAT_PARTIAL 1).evt pgTACK 2).fault pgTACK 0x0502 p))
      ∧ (s.rd pgTACK TACK.STAT_PHASE ≠ 5 ∨ (∀ p ∈ s.tack.deferred, s.tackDecides p = none ∨ (p = pgGIRTH ∧ s.tack.deferred.length ≠ 1)) →
          exec .tackDeferredStart s = .next s)
      ∧ (∀ p, s.rd pgTACK TACK.STAT_PHASE = 5 →
          s.tack.deferred.find? (fun p => (p ≠ pgGIRTH || s.tack.deferred.length == 1) && (s.tackDecides p).isSome) = some p →
          let t := { s with tack := { s.tack with deferred := s.tack.deferred.erase p } }
          let u := if s.tackDecides p = some true then t.tackStartPage p else t.tackFailed p
          (u.rd pgTACK TACK.STAT_PHASE = 5 → u.tack.deferred = [] →
              ∃ v, exec .tackDeferredStart s = .next v ∧ tackEnds ((u.bump pgTACK TACK.SWITCHES).evt pgTACK 0) v)
          ∧ (u.rd pgTACK TACK.STAT_PHASE ≠ 5 ∨ u.tack.deferred ≠ [] → exec .tackDeferredStart s = .next u)))

/-! ### Debug (R271–R277) -/

/-- HALT_REQUEST, HALT_RESUME, DEBUG_STEP, HARDWARE_BREAKPOINT, DBGRDATA_ACCESS (R271–R274, R277, R483): the host and the debug port halt a running Awl, which drains, with REASON 1, and resume it; a step issues
one instruction of a halted Awl; an armed breakpoint at the PC halts it before the instruction, with REASON 3 or 4, once; DBGRDATA reads the selected register of a halted Awl, else 0, and
takes a write of a halted Awl alone.  Another master, or any under the debug lock, is refused with CFGREJ, at
BP0, BP1 and DBGRSEL too, which take the write of the host and of the debug port (R274). -/
def Obligations.Debug : Prop :=
  ∀ (s : State) (n : Fin 64),
    let p := pgAWL n
    (∀ m : Fin 96, s.debugOpen m = false → Reaches s m p AWL.DBGCTL true →
      exec (.haltRequest m n) s = .next (s.wr p HDR.PSTAT_CFGREJ 1) ∧ exec (.haltResume m n) s = .next (s.wr p HDR.PSTAT_CFGREJ 1)
        ∧ exec (.debugStep m n) s = .next (s.wr p HDR.PSTAT_CFGREJ 1))
    ∧ (∀ m : Fin 96, (m.val = 64 ∨ m.val = 92) → s.debugLock = false → Reaches s m p AWL.DBGCTL true → s.rd p AWL.DBGCTL_STEP = 0 →
      (s.running p = true → s.halted n = false → ∃ t, exec (.haltRequest m n) s = .next t ∧ t.halted n = true ∧ t.rd p AWL.DBGSTAT_REASON = 1
          ∧ t.rd p AWL.DBGCTL_HALT = 1 ∧ t.rd p AWL.DBGCTL_BKEN = s.rd p AWL.DBGCTL_BKEN ∧ (t.act n).flight = [] ∧ (t.act n).pc = (s.act n).pc
          ∧ (∀ j, j ≠ n.val → t.awl j = s.awl j))
      ∧ (s.running p = false ∨ s.halted n = true → ∃ t, exec (.haltRequest m n) s = .next t ∧ t.rd p AWL.DBGCTL_HALT = 1
          ∧ (∀ q off, off < 0x1000 → ¬(q = p ∧ off = AWL.DBGCTL) → t.reg q off = s.reg q off) ∧ t = { s with regs := t.regs })
      ∧ (∃ t, exec (.haltResume m n) s = .next t ∧ t.halted n = false ∧ t.rd p AWL.DBGCTL_HALT = 0
          ∧ (∀ q off, off < 0x1000 → ¬(q = p ∧ (off = AWL.DBGCTL ∨ off = AWL.DBGSTAT)) → t.reg q off = s.reg q off)
          ∧ (s.halted n = true → (t.act n).bpSkip = (s.rd p AWL.DBGSTAT_REASON == 3 || s.rd p AWL.DBGSTAT_REASON == 4))
          ∧ (s.halted n = false → t = { s with regs := t.regs }))
      ∧ (s.halted n = true → s.running p = true → ∃ s0 : State, s0 = { s with regs := s0.regs } ∧ (∀ q off, off < 0x1000 → s0.reg q off = s.reg q off)
          ∧ exec (.debugStep m n) s = .next (let u := (s0.wr p AWL.DBGSTAT_HALTED 0).modAwl n fun w => { w with stepping := true }
              (u.setAct n { u.act n with bpSkip := true }).issueWord n (s0.localWord n (s.act n).pc)
                (s0.localWord n (((s.act n).pc + 4) % 0x4000)))))
    ∧ (s.por = false →
      let hit (en addr : Fld) : Prop := s.on p en = true ∧ s.rd p addr / 4 = (s.act n).pc / 4
      let armed := s.running p = true ∧ s.halted n = false ∧ s.awlBusy n = true ∧ s.on p AWL.DBGCTL_BKEN = true ∧ (s.act n).bpSkip = false
      (armed → hit AWL.BP0_EN AWL.BP0_ADDR → exec (.hardwareBreakpoint n) s = .next (s.halt n 3))
      ∧ (armed → ¬ hit AWL.BP0_EN AWL.BP0_ADDR → hit AWL.BP1_EN AWL.BP1_ADDR → exec (.hardwareBreakpoint n) s = .next (s.halt n 4))
      ∧ (¬ armed ∨ (¬ hit AWL.BP0_EN AWL.BP0_ADDR ∧ ¬ hit AWL.BP1_EN AWL.BP1_ADDR) → exec (.hardwareBreakpoint n) s = .next s))
    ∧ (∀ m : Fin 96, Reaches s m p AWL.DBGRDATA false →
      let b := (s.awl n).get (s.rd p AWL.DBGRSEL_BANK)
      let r := s.rd p AWL.DBGRSEL_REG
      (s.halted n = false → exec (.dbgrdataAccess m n none) s = .next { s with reply := .data [0, 0, 0, 0] })
      ∧ (s.halted n = true → 64 ≤ r → r ≤ 79 → exec (.dbgrdataAccess m n none) s = .next { s with reply := .data (leBytes 4 (b.D (r - 64)).toNat) })
      ∧ (s.halted n = true → r = 92 → exec (.dbgrdataAccess m n none) s = .next { s with reply := .data (leBytes 4 (b.pc % 2 ^ 32)) }))
    ∧ (∀ (m : Fin 96) (v : Word), Reaches s m p AWL.DBGRDATA true →
      let k := s.rd p AWL.DBGRSEL_BANK
      let b := (s.awl n).get k
      let r := s.rd p AWL.DBGRSEL_REG
      (s.debugOpen m = false ∨ s.halted n = false → exec (.dbgrdataAccess m n (some v)) s = .next (s.wr p HDR.PSTAT_CFGREJ 1))
      ∧ (s.debugOpen m = true → s.halted n = true → 64 ≤ r → r ≤ 79 →
          exec (.dbgrdataAccess m n (some v)) s = .next (s.setAwl n ((s.awl n).put k (b.putD (r - 64) v))))
      ∧ (s.debugOpen m = true → s.halted n = true → r = 92 →
          exec (.dbgrdataAccess m n (some v)) s = .next (s.setAwl n ((s.awl n).put k { b with pc := v.toNat % 0x4000 }))))
    ∧ (∀ m : Fin 96, s.debugOpen m = true ↔ (m.val = 64 ∨ m.val = 92) ∧ s.debugLock = false)
    ∧ (∀ (m : Fin 96) (v : Word), ∀ off ∈ [AWL.BP0, AWL.BP1, AWL.DBGRSEL], Reaches s m p off true →
      (s.debugOpen m = false → exec (.registerWrite m (BitVec.ofNat 32 (regAddr p off)) (leBytes 4 v.toNat)) s = .next (s.wr p HDR.PSTAT_CFGREJ 1))
      ∧ (s.debugOpen m = true → ∃ t, exec (.registerWrite m (BitVec.ofNat 32 (regAddr p off)) (leBytes 4 v.toNat)) s = .next t
          ∧ (∀ f ∈ regFields p off, f.get (t.reg p off) = f.get v) ∧ t = s.setReg p off (t.reg p off)))

/-! ### Pairs (chapter 15) -/

/-- A tether frame that passes R103 and R376: no error inside it, the tether's header, and as many payload bytes as LEN says, or 30 of which the
rest is pad. -/
def Sys2Proof.cleanTether (f : RxFrame) (cls len : Nat) : Prop :=
  f.cgErr = 0 ∧ f.vErr = false ∧ f.fcsOk = true ∧ f.frame.etype = 0x88B5 ∧ f.frame.ver = 1 ∧ f.frame.port = 0xFF ∧ f.frame.node = 0
    ∧ f.frame.cls = cls ∧ f.frame.axcnt < 0xFF ∧ f.frame.len = len
    ∧ (f.frame.payload.length = len ∨ (f.frame.payload.length = 30 ∧ len ≤ 30 ∧ ∀ x ∈ f.frame.payload.drop len, x = 0))

/-- What Latigo sends (R376–R379, R385): on lane L0, or on L1 while L0 lacks SYNC, and nothing while both do: TETHER-SYNC with role, cycle, times and checks once roles are decided and the twin has been heard, while GIRTH runs at its tick SYNCT; COLDSTART while UNPAIRED without a configuration fault; ARRIVE at its tick with the map of delivered ports.  A page that is not RUNNING with EN neither
sends nor receives. -/
def Obligations.PairTransmission : Prop :=
  ∀ s : State, s.por = false →
    let lane : Option Nat := if s.on pgLAT LAT.STAT_LANE0 then some 0 else if s.on pgLAT LAT.STAT_LANE1 then some 1 else none
    let sent (t : State) (cls : Nat) (b : List Byte) : State :=
      match lane with | some k => t.send (.tether k (s.tetherFrame cls b) (s.macFrame (s.tetherFrame cls b))) | none => t
    let on := s.running pgLAT = true ∧ s.on pgLAT LAT.PCFG_EN = true
    let role := s.rd pgLAT LAT.STAT_ROLE
    (¬ on → exec .tetherSyncSend s = .next s ∧ exec .tetherColdstartSend s = .next s ∧ exec .arriveSend s = .next s
      ∧ ∀ f, exec (.tetherSyncReceive f) s = .next s ∧ exec (.coldstartReceive f) s = .next s ∧ exec (.arriveReceive f) s = .next s
        ∧ exec (.cmdReceive f) s = .next s ∧ exec (.rreq f) s = .next s ∧ (∀ g, exec (.rcopyReceive f g) s = .next s)
        ∧ (∀ g, exec (.rblockReceive f g) s = .next s))
    ∧ (on → role = 0 ∨ s.lat.coldOff = false ∨ (s.girthOn = true ∧ s.due (s.rd pgLAT LAT.SCHED_SYNCT) = false) → exec .tetherSyncSend s = .next s)
    ∧ (on → role ≠ 0 → s.lat.coldOff = true → s.girthOn = false ∨ s.due (s.rd pgLAT LAT.SCHED_SYNCT) = true → exec .tetherSyncSend s = .next (sent s 9 (s.syncPayload role)))
    ∧ (on → s.latPstate ≠ psUNPAIRED ∨ role ≠ 0 ∨ s.on pgLAT LAT.STAT_CFGERR = true → exec .tetherColdstartSend s = .next s)
    ∧ (on → s.latPstate = psUNPAIRED → role = 0 → s.on pgLAT LAT.STAT_CFGERR = false → exec .tetherColdstartSend s =
        .next (sent s 0xB (leBytes 6 (if s.girthOn then s.girth.cyc + 1 else 0).toNat ++ leBytes 2 0 ++ leBytes 4 s.tc ++ leBytes 1 s.perdiv
          ++ leBytes 3 0)))
    ∧ (on → s.girthOn = false ∨ role = 0 ∨ s.due s.arrTick = false → exec .arriveSend s = .next s)
    ∧ (on → s.girthOn = true → role ≠ 0 → s.due s.arrTick = true → ∃ map, (∀ p, p < 32 → bitOf map p = (s.port p).delivered) ∧ exec .arriveSend s =
        .next (sent { s with lat := { s.lat with mine := some (s.girth.cyc, map) } } 0xA ([1, 0, 0, 0] ++ leBytes 4 map)))

/-- The twin's COLDSTART, ARRIVE and TETHER-SYNC. -/
def Sys2Proof.pairMessages : Prop :=
  ∀ (s : State) (f : RxFrame), s.por = false → s.latOn = true →
    let b := f.frame.payload
    let seen := s.twinSeen
    let me := s.rd pgGLOB GLOB.STRAP_PAIRID
    (f.fcsOk = false ∨ f.vErr = true ∨ f.cgErr ≠ 0 ∨ f.frame.ver ≠ 1 ∨ f.frame.port ≠ 0xFF →
      let t := s.bumpE pgLAT LAT.SYNCERR 8
      exec (.tetherSyncReceive f) s = .next t ∧ exec (.coldstartReceive f) s = .next t ∧ exec (.arriveReceive f) s = .next t
        ∧ exec (.cmdReceive f) s = .next t ∧ exec (.rreq f) s = .next t ∧ (∀ g, exec (.rcopyReceive f g) s = .next t)
        ∧ (∀ g, exec (.rblockReceive f g) s = .next t))
    ∧ (cleanTether f 0xA 8 → fieldAt b 0 1 = 1 → exec (.arriveReceive f) s = .next (if f.frame.cyc = s.girth.cyc.truncate 32
        then { seen with lat := { seen.lat with his := some (s.girth.cyc, fieldAt b 4 4) } } else seen))
    ∧ (cleanTether f 0xB 16 →
        let alone := s.on pgLAT LAT.STAT_CFGERR = false ∧ (s.latPstate = psUNPAIRED ∨ s.latPstate = psSOLO ∨ (s.lat.lost = true ∧ s.latRole = 1))
        let t := seen.wr pgLAT LAT.STAT_TWINID f.srcK
        let differs := fieldAt b 8 4 ≠ s.tc ∨ fieldAt b 12 1 ≠ s.perdiv ∨ f.frame.flags % 2 = s.planeBit ∨ (fieldAt b 0 6 ≠ 0 ∧ s.girthOn = true)
        let leads := s.girthOn = true ∨ (fieldAt b 0 6 = 0 ∧ me < f.srcK)
        (¬ alone → exec (.coldstartReceive f) s = .next seen)
        ∧ (alone → f.srcK = me → exec (.coldstartReceive f) s = .next ((t.wr pgLAT LAT.STAT_CFGERR 1).faultU pgLAT 0x2201))
        ∧ (alone → f.srcK ≠ me → differs → exec (.coldstartReceive f) s = .next ((t.wr pgLAT LAT.STAT_CFGERR 1).faultU pgLAT 0x2202))
        ∧ (alone → f.srcK ≠ me → ¬ differs → leads → ∃ u, exec (.coldstartReceive f) s = .next u ∧ u.latRole = 1 ∧ u.latPstate = psACTIVE
            ∧ u.on pgLAT LAT.STAT_LOCKED = true ∧ u.lat.lost = false)
        ∧ (alone → f.srcK ≠ me → ¬ differs → ¬ leads → ∃ u, exec (.coldstartReceive f) s = .next u ∧ u.latRole = 2 ∧ u.latPstate = psLOCKING
            ∧ u.on pgLAT LAT.STAT_LOCKED = false ∧ u.lat.listen = true))
    ∧ (cleanTether f 9 192 →
        let role := fieldAt b 6 1
        let twinRuns := bitOf (fieldAt b 44 4) 0
        let alone := s.latPstate = psUNPAIRED ∨ s.latPstate = psSOLO ∨ (s.lat.lost = true ∧ s.latRole = 1 ∧ fieldAt b 7 1 = psSOLO)
        let fresh := s.on pgLAT LAT.STAT_CFGERR = false ∧ alone
        let settled := s.on pgLAT LAT.STAT_CFGERR = false ∧ ¬ alone
        let fits := f.srcK ≠ me ∧ f.frame.flags % 2 ≠ s.planeBit
        let f4 := s.tetherStart f
        let l3 := BitVec.ofNat 64 (fieldAt b 8 8)
        let f1 := BitVec.ofNat 64 (fieldAt b 16 8)
        let l2 := BitVec.ofNat 64 (fieldAt b 24 8)
        let delay := Int.fdiv ((f4 - f1).toInt - (l3 - l2).toInt) 2
        let err := Int.fdiv ((l2 - f1).toInt + (l3 - f4).toInt) 2
        ∃ u, exec (.tetherSyncReceive f) s = .next u ∧ u.lat.since = 0 ∧ u.lat.rxAt = f4 ∧ u.lat.rxTx = l3
          ∧ u.lat.twinCyc = BitVec.ofNat 48 (fieldAt b 0 6) ∧ u.lat.twinRunning = twinRuns ∧ u.lat.twinI0 = BitVec.ofNat 64 (fieldAt b 32 8)
          ∧ u.lat.twinPstate = fieldAt b 7 1
          ∧ (role = 0 → s.latRole = 0 ∨ s.lat.lost = true → u.latRole = s.latRole ∧ u.latPstate = s.latPstate)
          ∧ (role = 0 → s.latRole ≠ 0 → u.lat.lost = true ∧ u.latRole = s.latRole)
          ∧ (role ≠ 0 → fresh → f.srcK = me ∨ f.frame.flags % 2 = s.planeBit ∨ (twinRuns = true ∧ s.girthOn = true) →
              u.on pgLAT LAT.STAT_CFGERR = true ∧ u.latRole = s.latRole ∧ u.latPstate = s.latPstate ∧ u.time = s.time)
          ∧ (role ≠ 0 → s.on pgLAT LAT.STAT_CFGERR = true → u.latRole = s.latRole ∧ u.latPstate = s.latPstate ∧ u.time = s.time)
          ∧ (role = 1 → fresh → fits → s.girthOn = false → u.latRole = 2 ∧ u.latPstate = psLOCKING ∧ u.lat.listen = false)
          ∧ (role = 2 → fresh → fits → twinRuns = false → u.latRole = 1 ∧ u.latPstate = psACTIVE)
          ∧ (role ≠ 0 → fresh → fits → twinRuns = false → s.girthOn = true → u.latRole = 1 ∧ u.latPstate = psACTIVE ∧ u.lat.lost = false)
          ∧ (role = 1 → settled → s.latRole = 2 → f1 ≠ 0 → delay ≤ s.rd pgLAT LAT.TCFG_TDMAX * 64 →
              u.rd pgLAT LAT.TDELAY_D = ofSigned 24 delay ∧ u.reg pgLAT LAT.TERR = BitVec.ofInt 32 (clampSigned 32 err))
          ∧ (role = 2 → settled → s.latRole = 1 → u.lat.unacked = s.lat.unacked.filter fun x =>
              !decide ((((slice b 48 8).getD x.bench 0).toNat + 256 - x.seq) % 256 < 128) && decide (s.girth.cyc.toNat < x.apply)))

/-- Forwarded commands and copies. -/
def Sys2Proof.pairCopies : Prop :=
  ∀ (s : State) (f : RxFrame), s.por = false → s.latOn = true →
    let b := f.frame.payload
    let seen := s.twinSeen
    (∀ count, 1 ≤ count → count ≤ 16 → cleanTether f 0xA (8 + 32 * count) → fieldAt b 0 1 = 2 → fieldAt b 5 1 = count →
        (s.latRole = 0 → exec (.cmdReceive f) s = .next seen)
        ∧ (s.latRole ≠ 0 → exec (.cmdReceive f) s = .next ((List.range count).foldl (fun u i =>
            u.takeForwarded (fieldAt b 4 1 % 8) ((fieldAt b 6 1 + i) % 256) (slice b (8 + 32 * i) 32)) seen)))
    ∧ (∀ (u : State) (n q : Nat) (bytes : List Byte), n < 8 → q < 256 →
        let p := pgCINCHB n
        let d := (q + 256 - u.expected n) % 256
        let tail := u.rd p CINCHB.CMDTAIL_INDEX
        let next := (tail + 1) % 2 ^ u.rd p CINCHB.CMDCFG_RINGLOG2
        (128 ≤ d → u.takeForwarded n q bytes = u)
        ∧ (d < 128 → d ≠ 0 ∨ next = u.rd p CINCHB.CMDHEAD_INDEX → ∃ v, u.takeForwarded n q bytes = v ∧ v = { u with lat := { u.lat with gap := v.lat.gap } }
            ∧ (n, q, fieldAt bytes 4 6) ∈ v.lat.gap)
        ∧ (d = 0 → next ≠ u.rd p CINCHB.CMDHEAD_INDEX → u.latRole ≠ 2 ∨ (∀ c, u.girth.cw = some c → c.toNat < fieldAt bytes 4 6) →
            ∃ v, u.takeForwarded n q bytes = v ∧ v.rd p CINCHB.CMDTAIL_INDEX = next % 4096 ∧ v.expected n = (q + 1) % 256
              ∧ v.reg pgLAT LAT.CMDFWD = satInc (u.reg pgLAT LAT.CMDFWD) ∧ (∀ g ∈ v.lat.gap, ¬(g.1 = n ∧ g.2.1 = q))
              ∧ v.mem = (u.fixPut mLatigo (u.rd p CINCHB.CMDBASE_ADDR * 32 + 32 * tail) bytes).mem)
        ∧ (∀ c, d = 0 → next ≠ u.rd p CINCHB.CMDHEAD_INDEX → u.latRole = 2 → u.girth.cw = some c → fieldAt bytes 4 6 ≤ c.toNat →
            ∃ v, u.takeForwarded n q bytes = v ∧ v.rd p CINCHB.CMDTAIL_INDEX = next % 4096 ∧ v.expected n = (q + 1) % 256
              ∧ bitOf (v.reg pgLAT HDR.EVT).toNat 3 = true
              ∧ (u.actsAlone = true → v.latPstate = u.latPstate ∧ v.lat.plane = u.lat.plane)
              ∧ (u.actsAlone = false → v.lat.plane = true ∧ v.lat.want = v.wholePlane
                  ∧ v.latPstate = (if u.latPstate = psLOCKING then psLOCKING else psRESYNC))))
    ∧ (cleanTether f 0xA 8 → fieldAt b 0 1 = 5 →
        let asked := if fieldAt b 4 4 = 0xFFFFFFFF then s.wholePlane
          else (s.mapped.filter fun e => match e.2.place with | .port n _ => bitOf (fieldAt b 4 4) n | _ => false).map fun e => (0, e.1)
        exec (.rreq f) s = .next ({ seen with lat := { seen.lat with
          give := s.wholePlane.filter fun w => asked.contains w || s.lat.give.contains w } } : State).latGive)
    ∧ (∀ (kind index : Nat) (copy : CopyMsg) (row : Instr),
        (cleanTether f 0xA 1552 ∧ fieldAt b 0 1 = 3 ∧ kind = 0 ∧ index = fieldAt b 4 2 ∧ ∃ g, row = .rcopyReceive f g
            ∧ copy = { kind := 0, index := index, cyc := BitVec.ofNat 48 (fieldAt b 6 6), bytes := slice b 16 896, image := .pg g })
          ∨ (cleanTether f 0xA 1040 ∧ fieldAt b 0 1 = 4 ∧ fieldAt b 4 2 < 3 ∧ kind = fieldAt b 4 2 + 1 ∧ index = fieldAt b 12 4 ∧ ∃ g, row = .rblockReceive f g
            ∧ copy = { kind := kind, index := index, cyc := BitVec.ofNat 48 (fieldAt b 6 6), bytes := slice b 16 1024, image := g }) →
        let late := ∃ c, s.girth.cw = some c ∧ copy.cyc.toNat < c.toNat
        (s.wanted kind index = false → exec row s = .next seen)
        ∧ (s.wanted kind index = true → ¬ late → exec row s = .next { seen with lat := { seen.lat with
            held := (seen.lat.held.filter fun h => !(h.kind == kind && h.index == index)) ++ [copy] } })
        ∧ (s.wanted kind index = true → late → ∃ ports, exec row s = .next ((seen.bumpE pgLAT LAT.COPYDISC 8).sendRreq ports)))
    ∧ (∀ (kind : Fin 4) (index : Nat),
        let mine := s.lat.held.filter fun m => m.kind == kind.val && m.index == index
        (mine = [] → exec (.copyInstall kind index) s = .next s)
        ∧ (∀ m, mine = [m] → s.copyReady m = false → exec (.copyInstall kind index) s = .next s)
        ∧ (∀ m, mine = [m] → s.copyReady m = true → ∃ v,
            exec (.copyInstall kind index) s = .next (if kind.val = 0 ∧ s.girth.cw ≠ some m.cyc then v.pgAgain index else v)
              ∧ v.lat.held = s.lat.held.filter (fun h => !(h.kind == kind.val && h.index == index)) ∧ (kind.val, index) ∉ v.lat.want
              ∧ v.reg pgLAT LAT.COPIES = satInc (s.reg pgLAT LAT.COPIES)
              ∧ (∀ x g, kind.val = 0 → m.image = .pg g → (s.axis index).map = some x → v.pg index = { g with sp := none, waiting := [] }
                  ∧ v.mem = (s.fixPut mLatigo (x.base + 0x80) m.bytes).mem ∧ (∀ t d, s.task t = some d → d.axis = some index → v.lastAwl t = 64))
              ∧ (kind.val = 1 → v.mem = (s.fixPut mLatigo index (s.pieceBytes index m.bytes)).mem)
              ∧ (∀ g, kind.val = 2 → m.image = .group g → v.igrp index = g) ∧ (∀ g, kind.val = 3 → m.image = .vm g → v.vm index = g)))

/-- What Latigo makes of the twin's messages (R103, R376–R391; the tether's EtherType is the model's presumption, notes/assumptions/43.md): a damaged frame counts SYNCERR; ARRIVE of the
cycle is recorded; COLDSTART decides leader and follower of a device that is UNPAIRED, in SOLO or a leader that has lost its twin, by PAIRID, a running network before an idle one, or is a
configuration fault (0x2201, 0x2202); every TETHER-SYNC is recorded with its times; one without a role is the loss of the tether; one with a role decides a device alone by
the same table, without TC and PERDIV, which it does not carry (the model's reading, notes/assumptions/44.md), and changes no role while CFGERR stands; a follower measures TDELAY and TERR by
it, divided with floor (the model's reading, notes/assumptions/45.md), and a leader drops the entries it confirms.

CMD_RECEIVE, RREQ, RCOPY_RECEIVE, RBLOCK_RECEIVE, COPY_INSTALL (R384, R387, R388): each entry of a CMD message in sequence enters the ring at CMDTAIL; one that finds the ring full or is out of
sequence declares a gap (the model's reading, notes/assumptions/48.md), one already had is dropped; one after the follower's CWSTART of its APPLY is divergence, which copies
the plane unless the follower acts alone (the model's choice, notes/assumptions/124.md).  RREQ makes the device give the copies asked for with those it still owes (notes/assumptions/48.md, the model's
reading; one it cannot read stays owed, notes/assumptions/97.md, its choice); a copy that is wanted is held until it is installed, one not wanted is dropped and a late one counted and asked for
again; COPY_INSTALL installs a held copy once its moment has come: record and generator of an axis, whose image travels as an operand (the model's presumption, notes/assumptions/47.md) and which takes the
step of the present cycle again where that has begun, the bytes of a shared block, the state of a group or virtual master. -/
def Obligations.PairReception : Prop := pairMessages ∧ pairCopies

/-- TETHER_LOSS, HOLDOVER_LIMIT, PAIRING_LISTEN_TIMEOUT, HANDOVER_WRITE, ROLE_EXCHANGE, SOLO_WRITE, TRATE_WRITE, TETHER_LANE_SYNC_CHANGE (R376, R379, R381, R390, R392, R393): TLOST whole cycles without a TETHER-SYNC, or both lanes without SYNC, lose the
tether with 0x2203: a follower whose uplinks all carry USEDB enters SOLO, another HOLDOVER, which ends SILENT with 0x2206 after HOLDLIM cycles; a follower no leader answers for three cycles is UNPAIRED
again; a handover is announced for 16 cycles on by a leader with the higher PAIRID and an ACTIVE twin, once (a second is refused: the model's choice, notes/assumptions/98.md), and
the roles exchange in that cycle: the new leader is LOCKED, and the old one keeps the entries not yet confirmed; SOLO is taken by an UNPAIRED device that heard nothing
for TLOST cycles; TRATE of the leader is RATE; a lane's SYNC shows in STAT, and moves a LAT in STARTING to RUNNING. -/
def Obligations.PairStates : Prop :=
  ∀ s : State,
    (s.por = false → s.latOn = true →
      let cycles (at' : BitVec 64) : Nat := (s.time.raw - at').toNat / (s.tc * 64)
      let gone := (s.laneSync 0 = false ∧ s.laneSync 1 = false) ∨ (s.girthOn = true ∧ s.rd pgLAT LAT.PCFG_TLOST < s.lat.since)
        ∨ (s.girthOn = false ∧ s.rd pgLAT LAT.PCFG_TLOST ≤ cycles s.lat.syncAt)
      (¬ gone ∨ s.latRole = 0 ∨ s.lat.lost = true → exec .tetherLoss s = .next s)
      ∧ (gone → s.latRole = 1 ∨ s.latRole = 2 → s.lat.lost = false → ∃ t, exec .tetherLoss s = .next t ∧ t.lat.lost = true ∧ t.latRole = s.latRole
          ∧ (s.reg pgLAT HDR.ECAP0 = 0 → t.rd pgLAT HDR.ECAP0_CODE = 0x2203)
          ∧ t.latPstate = (if s.latRole = 1 then s.latPstate else if s.lat.allB then psSOLO else psHOLDOVER))
      ∧ exec .holdoverLimit s = .next (if s.latPstate = psHOLDOVER ∧ s.rd pgLAT LAT.HOLDCFG_HOLDLIM ≤ s.lat.hold
          then (((s.wr pgLAT LAT.STAT_PSTATE psSILENT).faultU pgLAT 0x2206).evt pgLAT 6) else s)
      ∧ (s.latRole = 2 → s.lat.listen = true → 3 ≤ cycles s.lat.syncAt → ∃ t, exec .pairingListenTimeout s = .next t ∧ t.latRole = 0 ∧ t.latPstate = psUNPAIRED
          ∧ t.on pgLAT LAT.STAT_LOCKED = false ∧ t.lat = { s.lat with listen := false, coldOff := false })
      ∧ (s.latRole ≠ 2 ∨ s.lat.listen = false ∨ cycles s.lat.syncAt < 3 → exec .pairingListenTimeout s = .next s)
      ∧ (s.lat.hcyc ≠ some s.girth.cyc ∨ s.latRole = 0 → exec .roleExchange s = .next s)
      ∧ (s.lat.hcyc = some s.girth.cyc → s.latRole = 1 ∨ s.latRole = 2 → ∃ t, exec .roleExchange s = .next t ∧ t.latRole = 3 - s.latRole
          ∧ t.rd pgLAT LAT.STAT_HPEND = 0 ∧ t.lat.hcyc = none ∧ (s.latRole = 2 → t.on pgLAT LAT.STAT_LOCKED = true)
          ∧ t.lat.unacked = (if s.latRole = 1 then s.lat.unacked else []) ∧ bitOf (t.reg pgLAT HDR.EVT).toNat 7 = true))
    ∧ (∀ m : Fin 96, Reaches s m pgLAT LAT.CTL true → s.latOn = true →
      (s.latRole = 1 → s.rd pgLAT LAT.STAT_TWINID < s.rd pgGLOB GLOB.STRAP_PAIRID → s.lat.twinPstate = psACTIVE → s.lat.lost = false →
          s.lat.hcyc = none → exec (.handoverWrite m) s = .next (({ s with lat := { s.lat with hcyc := some (s.girth.cyc + 16) } } : State).wr pgLAT LAT.STAT_HPEND 1
            |>.setReg pgLAT LAT.HCYCLO ((s.girth.cyc + 16).truncate 32)))
      ∧ (s.latRole ≠ 1 ∨ s.rd pgGLOB GLOB.STRAP_PAIRID ≤ s.rd pgLAT LAT.STAT_TWINID ∨ s.lat.twinPstate ≠ psACTIVE ∨ s.lat.lost = true
          ∨ s.lat.hcyc ≠ none → exec (.handoverWrite m) s = .next (s.wr pgLAT HDR.PSTAT_CFGREJ 1))
      ∧ (let quiet := (s.st pgGIRTH = 3 ∨ s.st pgGIRTH = 1) ∧ s.rd pgLAT LAT.PCFG_TLOST ≤ (s.time.raw - s.lat.heardAt).toNat / (s.tc * 64)
        (s.latPstate = psUNPAIRED → quiet → exec (.soloWrite m) s = .next ((s.wr pgLAT LAT.STAT_PSTATE psSOLO).evt pgLAT 5))
        ∧ (s.latPstate ≠ psUNPAIRED ∨ ¬ quiet → exec (.soloWrite m) s = .next (s.wr pgLAT HDR.PSTAT_CFGREJ 1))))
    ∧ (∀ (m : Fin 96) (v : Word), Reaches s m pgLAT LAT.TRATE true → exec (.trateWrite m v) s = .next
        (if s.latOn = true ∧ s.latRole = 1 then (s.setReg pgLAT LAT.TRATE v).rateWrite mLatigo v else s.setReg pgLAT LAT.TRATE v))
    ∧ (∀ (lane : Fin 2) (up : Bool), s.por = false →
      let t := s.wr pgLAT (if lane.val = 0 then LAT.STAT_LANE0 else LAT.STAT_LANE1) (if up then 1 else 0)
      (s.pageOn pgLAT = false → exec (.tetherLaneSyncChange lane up) s = .next s)
      ∧ (s.pageOn pgLAT = true → up = true → s.st pgLAT ≠ 2 → exec (.tetherLaneSyncChange lane up) s = .next t)
      ∧ (s.pageOn pgLAT = true → up = true → s.st pgLAT = 2 → s.on pgLAT (SHELL.CALSTAT_BUSY 0) = false → s.on pgLAT (SHELL.CALSTAT_BUSY 1) = false →
          ∃ u, exec (.tetherLaneSyncChange lane up) s = .next u ∧ u.st pgLAT = 3 ∧ u.latPstate = psUNPAIRED ∧ u.latRole = 0
            ∧ u.laneSync lane = true ∧ u.lat = { heardAt := s.time.raw } ∧ u.reg pgLAT LAT.HCYCLO = 0)
      ∧ (s.pageOn pgLAT = true → up = false → s.latOn = false ∨ t.laneSync 0 = true ∨ t.laneSync 1 = true →
          exec (.tetherLaneSyncChange lane up) s = .next t))

/-! ### Stamp (chapter 16) -/

/-- The conditions of R405 as bits of CAUSE, the mask test of R407 and the hold-off of R406, for unit `n` and a sample `l`. -/
def Sys2Proof.stampConditions : Prop :=
  ∀ (s : State) (n : Fin 16) (l : List (Nat × Word)),
    let p := pgSTAMP n
    let u := s.stamp n
    let at' (f : Fld) : Int := s.sigOf n l (s.rd p f)
    let lim (off : Nat) (f : Fld) : Int := s.thr n off (s.rd p f)
    let e := at' STAMP.CONDCFG_ESIG
    let t := lim STAMP.EDGETHR STAMP.CONDCFG_ESIG
    let within := lim STAMP.WINLO STAMP.CONDCFG_WSIG ≤ at' STAMP.CONDCFG_WSIG ∧ at' STAMP.CONDCFG_WSIG ≤ lim STAMP.WINHI STAMP.CONDCFG_WSIG
    let sig := s.rd p STAMP.MASKCFG_MSIG
    let outside (y : State) (b : List Byte) : Prop :=
      y.sigOf n l sig < sigInt (y.on p (STAMP.SIG_SIGNED sig)) (BitVec.ofNat 32 (fieldAt b 0 4))
        ∨ sigInt (y.on p (STAMP.SIG_SIGNED sig)) (BitVec.ofNat 32 (fieldAt b 4 4)) < y.sigOf n l sig
    (∀ (v : Bool) (k : Nat), k ≤ 6 → (bitOf (s.conditions n l v) k = true ↔ (k = 6 ∧ u.force = true) ∨ (bitOf (s.rd p STAMP.CONDCFG_TRIGEN) k = true ∧
        ((k = 0 ∧ (if s.on p STAMP.CONDCFG_LABOVE then lim STAMP.LVLTHR STAMP.CONDCFG_LSIG < at' STAMP.CONDCFG_LSIG
            else at' STAMP.CONDCFG_LSIG < lim STAMP.LVLTHR STAMP.CONDCFG_LSIG))
          ∨ (k = 1 ∧ ∃ w, u.prev = some w ∧
              let q := sigInt (s.on p (STAMP.SIG_SIGNED (s.rd p STAMP.CONDCFG_ESIG))) w
              (bitOf (s.rd p STAMP.CONDCFG_EDIR) 0 = true ∧ q < t ∧ t ≤ e) ∨ (bitOf (s.rd p STAMP.CONDCFG_EDIR) 1 = true ∧ t ≤ q ∧ e < t))
          ∨ (k = 2 ∧ (within ↔ s.on p STAMP.CONDCFG_WOUT = false))
          ∨ (k = 3 ∧ v = true) ∨ (k = 4 ∧ u.extSeen = true) ∨ (k = 5 ∧ u.tpSeen &&& s.rd p STAMP.EXTCFG_TPSEL ≠ 0)))))
    ∧ (s.on p STAMP.MASKCFG_MEN = false → s.maskTest n l = (some false, s))
    ∧ (∀ b s1, s.on p STAMP.MASKCFG_MEN = true →
        s.stampGet n (s.regionBase n + s.regionSize n - s.maskBytes n + 8 * (s.cyc / s.rd p STAMP.ACQCFG_SDIV % s.rd p STAMP.MASKCFG_MLEN)) 8 = (some b, s1) →
        (outside s1 b → ∃ t, s.maskTest n l = (some true, t) ∧ t.reg p STAMP.VIOL = satInc (s1.reg p STAMP.VIOL) ∧ bitOf (t.reg p HDR.EVT).toNat 3 = true)
          ∧ (¬ outside s1 b → s.maskTest n l = (some false, s1)))
    ∧ (s.holdoffOver n = true ↔ (s.on p STAMP.HOLDCFG_MODE = true ∧ u.evLeft = 0) ∨ (s.on p STAMP.HOLDCFG_MODE = false
        ∧ ∀ w, u.lastTrig = some w → geT64 s.t64 (w + BitVec.ofNat 64 (16 * (s.reg p STAMP.HOLDOFF).toNat)) = true))

/-- The sample of unit `n` at CUTOFF and what it does to the acquisition (R398, R400–R402, R405, R408, R409). -/
def Sys2Proof.stampSampling : Prop :=
  (∀ (s : State) (trip high low : Nat), s.por = false → s.girthServes = true → s.due (s.rd pgGIRTH GIRTH.CWIN_CUTOFF) = true →
      exec (.cutoff trip high low) s = .next ((List.range 16).foldl (fun u n => u.stampUnit n trip high low) s).cutoffSend)
  ∧ (∀ (s : State) (n : Fin 16),
    let p := pgSTAMP n
    let u := s.stamp n
    let pre := s.rd p STAMP.SEGCFG_PRE
    let wr := s.rd p STAMP.IDX_WR
    let takes (a : Nat) : Prop := a = acqFILL ∨ a = acqARMED ∨ a = acqPOST
    (∀ trip high low : Nat,
      let x := s.rd p STAMP.EXTCFG_XIDX
      let kind := s.rd p STAMP.EXTCFG_XKIND
      let pol := s.on p STAMP.EXTCFG_XPOL
      let level : Bool := if kind = 0 then false else if kind = 1 then bitOf (s.rd pgFLDDI FLDDI.LEVEL_LEVEL) x == pol
        else s.on (pgSTITCH (x / 4)) (STITCH.XSTAT_ACTIVE (x % 4))
      let pin := bitOf (if pol then high ||| trip else low ||| (255 - trip % 256)) x
      let s1 := s.setStamp n { u with extSeen := u.extSeen || level || (kind == 0 && pin) }
      let samples := s.girthOn = true ∧ s.acq n ≠ acqIDLE ∧ s.acq n ≠ acqDONE ∧ s.cyc % s.rd p STAMP.ACQCFG_SDIV = 0
      (s.running p = false → s.stampUnit n trip high low = s.stampLate n)
      ∧ (s.running p = true → ¬ samples → s.stampUnit n trip high low = s1.stampLate n)
      ∧ (s.running p = true → samples → s.stampUnit n trip high low = (s1.stampStep n trip level).stampLate n))
    ∧ (∀ (trip : Nat) (ext v : Bool) l s1 s2, s.readSample n trip = (l, s1) → s1.maskTest n l = (some v, s2) →
      let c := s2.conditions n l v
      let s3 := s2.setStamp n { s2.stamp n with prev := (l.find? (·.1 = s2.rd p STAMP.CONDCFG_ESIG)).map (·.2), extSeen := ext, tpSeen := 0 }
      let stop := v = true ∧ s3.on p STAMP.MASKCFG_MSTOP = true
      l.map (·.1) = s.sigs n
      ∧ (s3.acq n = acqQWAIT → s3.slotFree n = false →
          let s4 := s3.bumpE p STAMP.NOSLOT 4
          s.stampStep n trip ext = if v && s3.on p STAMP.MASKCFG_MSTOP then s4.stampDone n else s4)
      ∧ (∀ s4 s5, s3.acq n = acqQWAIT → s3.slotFree n = true → s3.takeSlot n = (true, s4) → takes (s4.acq n) → s4.storeSample n l v = (true, s5) →
          s.stampStep n trip ext = s5.afterStore n c v)
      ∧ (∀ s5, takes (s3.acq n) → s3.storeSample n l v = (true, s5) → s.stampStep n trip ext = s5.afterStore n c v)
      ∧ (∀ s5, takes (s3.acq n) → s3.storeSample n l v = (false, s5) → s.stampStep n trip ext = s5)
      ∧ (stop → s3.acq n = acqQWAIT → s3.slotFree n = false → ∃ t, s.stampStep n trip ext = t ∧ t.acq n = acqDONE ∧ bitOf (t.reg p HDR.EVT).toNat 2 = true
          ∧ t.reg p STAMP.UNFILLED = s3.reg p STAMP.UNFILLED))
    ∧ (∀ ok t, s.takeSlot n = (ok, t) →
        ∃ w : State, w.stampPut n (s.slotAddr n wr + 6) [0, 0] = (ok, t) ∧ w.acq n = (if pre = 0 then acqARMED else acqFILL) ∧ w.mem = s.mem
          ∧ w.rd p STAMP.USE_BYTES = s.slotSize n * (s.rd p STAMP.HELD_HELD + 1) % 2 ^ 25
          ∧ w.stamp n = { u with stored := 0, nb := 0, np := 0, viols := [], stopAfter := false })
    ∧ (∀ (l : List (Nat × Word)) (v ok : Bool) s1,
        s.stampPut n (s.slotAddr n wr + 32 + u.stored % s.rlen n * s.ssize n) (l.flatMap fun e => leBytes 4 e.2.toNat) = (ok, s1) →
        (ok = false → s.storeSample n l v = (false, s1))
        ∧ (ok = true → s.storeSample n l v = (true, s1.setStamp n { s1.stamp n with
            stored := (s1.stamp n).stored + 1, viols := if v then (s1.stamp n).stored :: (s1.stamp n).viols else (s1.stamp n).viols })))
    ∧ (∀ (c : Nat) (v : Bool), takes (s.acq n) →
      let t := s.afterStore n c v
      let stop := v && s.on p STAMP.MASKCFG_MSTOP
      let accepted := s.acq n ≠ acqPOST ∧ c ≠ 0 ∧ pre ≤ u.nb ∧ s.holdoffOver n = true
      let np := (if s.acq n = acqPOST then u.np else 0) + 1
      (accepted → np ≠ s.rlen n - pre → t.acq n = acqPOST ∧ bitOf (t.reg p HDR.EVT).toNat 0 = true
          ∧ t.stamp n = { u with cause := c, np := 1, force := false, tcyc := s.girth.cyc, tt64 := s.t64, lastTrig := some s.t64,
                                 evLeft := (s.reg p STAMP.HOLDOFF).toNat, stopAfter := u.stopAfter || stop })
      ∧ (s.acq n = acqPOST → np ≠ s.rlen n - pre → t = s.setStamp n { u with np := np, stopAfter := u.stopAfter || stop })
      ∧ (accepted ∨ s.acq n = acqPOST → np = s.rlen n - pre → ∃ w : State, t = w.complete n ∧ w.acq n = acqPOST ∧ (w.stamp n).stored = u.stored
          ∧ (w.stamp n).np = np ∧ (w.stamp n).stopAfter = (u.stopAfter || stop)
          ∧ (accepted → (w.stamp n).cause = c ∧ (w.stamp n).tcyc = s.girth.cyc ∧ (w.stamp n).tt64 = s.t64))
      ∧ (¬ accepted → s.acq n ≠ acqPOST → stop = false →
          t.acq n = (if pre ≤ u.nb + 1 then acqARMED else s.acq n) ∧ (t.stamp n).nb = u.nb + 1
            ∧ t.reg p STAMP.TRIGIGN = (if c = 0 then s.reg p STAMP.TRIGIGN else satInc (s.reg p STAMP.TRIGIGN))
            ∧ (t.stamp n).evLeft = (if c ≠ 0 ∧ s.on p STAMP.HOLDCFG_MODE = true then u.evLeft - 1 else u.evLeft))
      ∧ (¬ accepted → s.acq n ≠ acqPOST → stop = true → t.acq n = acqDONE ∧ t.reg p STAMP.UNFILLED = satInc (s.reg p STAMP.UNFILLED)
            ∧ bitOf (t.reg p HDR.EVT).toNat 2 = true ∧ t.reg p STAMP.HELD = s.reg p STAMP.HELD ∧ t.reg p STAMP.IDX = s.reg p STAMP.IDX ∧ t.mem = s.mem))
    ∧ (let left := s.rd p STAMP.SEGLEFT_COUNT - 1
      let last : Bool := left == 0 || u.stopAfter
      let viol : Bool := u.viols.any fun k => u.stored ≤ k + s.rlen n
      let status : Nat := 1 + (if viol then 2 else 0) + (if last then 4 else 0) + (if u.stopAfter then 8 else 0)
      ∀ s1 s2, s.stampPut n (s.slotAddr n wr + 8) (leBytes 8 u.tt64.toNat ++ leBytes 4 u.seq ++ leBytes 2 u.cause ++ leBytes 2 (s.rlen n)
          ++ leBytes 2 (u.stored % s.rlen n) ++ leBytes 2 pre ++ leBytes 2 (s.ssize n) ++ leBytes 2 0) = (true, s1) →
        s1.stampPut n (s.slotAddr n wr) (leBytes 6 u.tcyc.toNat ++ leBytes 2 status) = (true, s2) → 0 < s2.nslot n →
        let t := s.complete n
        t.reg p STAMP.FILLED = satInc (s2.reg p STAMP.FILLED) ∧ bitOf (t.reg p HDR.EVT).toNat 1 = true ∧ (t.stamp n).seq = (s2.stamp n).seq + 1
          ∧ t.rd p STAMP.HELD_HELD = (s2.rd p STAMP.HELD_HELD + 1) % 2 ^ 16 ∧ t.rd p STAMP.IDX_WR = (wr + 1) % s2.nslot n
          ∧ t.rd p STAMP.SEGLEFT_COUNT = left ∧ t.acq n = (if last then acqDONE else acqQWAIT)
          ∧ (last = true → bitOf (t.reg p HDR.EVT).toNat 2 = true) ∧ t.mem = s2.mem)
    ∧ (∀ (a : Nat) (bs : List Byte) s1,
        (∀ k, s.gateKind (mStamp n) a bs.length true = some k →
          s.stampPut n a bs = (false, (s.gateRecord (mStamp n) a (accKind a bs.length true) k).stampFreeze n))
        ∧ (s.gateKind (mStamp n) a bs.length true = none → s.writeMem (mStamp n) a bs = (true, s1) → s.stampPut n a bs = (true, s1))
        ∧ (s.gateKind (mStamp n) a bs.length true = none → s.writeMem (mStamp n) a bs = (false, s1) →
            s.stampPut n a bs = (false, (s1.fault p 0x7001 a).stampDone n))))

/-- The control writes of a Stamp unit (R402, R404, R410). -/
def Sys2Proof.stampControl : Prop :=
  ∀ (s : State) (m : Fin 96) (n : Fin 16),
    let p := pgSTAMP n
    let u := s.stamp n
    let used (t : State) : Nat := (32 + s.rlen n * (4 * (s.sigs n).length)) * t.rd p STAMP.HELD_HELD
    let later (off : Nat) (v : Word) : State := s.setStamp n { u with late := u.late ++ [(off, v)] }
    (s.stampSoon n = true ↔ s.running p = true ∧ s.girthOn = true ∧ s.girth.cutDone = false ∧ s.cyc % s.rd p STAMP.ACQCFG_SDIV = 0
      ∧ (s.edgeFor (s.instant (s.rd pgGIRTH GIRTH.CWIN_CUTOFF)) - s.time.raw).toNat < 640)
    ∧ (Reaches s m p STAMP.CTL true → s.stampSoon n = true →
      exec (.arm m n) s = .next (later STAMP.CTL (STAMP.CTL_ARM.put 1 0)) ∧ exec (.force m n) s = .next (later STAMP.CTL (STAMP.CTL_FORCE.put 1 0))
        ∧ exec (.abort m n) s = .next (later STAMP.CTL (STAMP.CTL_ABORT.put 1 0)))
    ∧ (∀ count : BitVec 16, Reaches s m p STAMP.RELEASE true → s.stampSoon n = true →
      exec (.release m n count) s = .next (later STAMP.RELEASE (STAMP.RELEASE_COUNT.put count.toNat 0)))
    ∧ (∀ v : Word, Reaches s m p STAMP.QUOTA true → s.stampSoon n = true → exec (.quotaWrite m n v) s = .next (later STAMP.QUOTA v))
    ∧ (Reaches s m p STAMP.CTL true → s.stampSoon n = false →
      (s.running p = true → s.acq n = acqIDLE ∨ s.acq n = acqDONE → ∃ t, exec (.arm m n) s = .next t ∧ t.acq n = acqQWAIT
          ∧ t.rd p STAMP.SEGLEFT_COUNT = s.rd p STAMP.SEGCFG_NSEG
          ∧ t.stamp n = { u with seq := 0, force := false, prev := none, lastTrig := none, evLeft := 0 }
          ∧ (∀ q off, off < 0x1000 → ¬(q = p ∧ (off = STAMP.SEGLEFT ∨ off = STAMP.STAT)) → t.reg q off = s.reg q off)
          ∧ t = { s with regs := t.regs, stamps := t.stamps })
      ∧ (s.running p = false ∨ (s.acq n ≠ acqIDLE ∧ s.acq n ≠ acqDONE) → exec (.arm m n) s = .next (s.wr p HDR.PSTAT_CFGREJ 1))
      ∧ (s.acq n = acqQWAIT ∨ s.acq n = acqFILL ∨ s.acq n = acqARMED → exec (.force m n) s = .next (s.setStamp n { u with force := true }))
      ∧ (s.acq n = acqIDLE ∨ s.acq n = acqPOST ∨ s.acq n = acqDONE → exec (.force m n) s = .next s)
      ∧ (∃ t, exec (.abort m n) s = .next t ∧ t.acq n = acqIDLE ∧ t.rd p STAMP.USE_BYTES = used t % 2 ^ 25
          ∧ t.reg p STAMP.UNFILLED = (if s.acq n = acqFILL ∨ s.acq n = acqARMED ∨ s.acq n = acqPOST then satInc (s.reg p STAMP.UNFILLED)
              else s.reg p STAMP.UNFILLED)
          ∧ t.reg p STAMP.HELD = s.reg p STAMP.HELD ∧ t.reg p STAMP.IDX = s.reg p STAMP.IDX ∧ t.mem = s.mem))
    ∧ (∀ count : BitVec 16, Reaches s m p STAMP.RELEASE true → s.stampSoon n = false →
      let c := count.toNat
      let h := s.rd p STAMP.HELD_HELD
      (h < c → exec (.release m n count) s = .next (s.wr p HDR.PSTAT_CFGREJ 1))
      ∧ (c = 0 → exec (.release m n count) s = .next s)
      ∧ (0 < c → c ≤ h → 0 < s.nslot n → ∃ t, exec (.release m n count) s = .next t ∧ t.rd p STAMP.HELD_HELD = h - c
          ∧ t.rd p STAMP.IDX_RD = (s.rd p STAMP.IDX_RD + c) % s.nslot n ∧ t.rd p STAMP.IDX_WR = s.rd p STAMP.IDX_WR ∧ t.acq n = s.acq n
          ∧ (s.filling n = false → t.rd p STAMP.USE_BYTES = used t % 2 ^ 25) ∧ t = { s with regs := t.regs }))
    ∧ (∀ v : Word, Reaches s m p STAMP.QUOTA true → s.stampSoon n = false →
      exec (.quotaWrite m n v) s = .next (if v.toNat % 2 ^ 25 ≤ 2 ^ 24
        then s.wr p STAMP.QUOTA_BYTES v.toNat else s.wr p HDR.PSTAT_CFGREJ 1))

/-- ARM, FORCE, ABORT, RELEASE, QUOTA_WRITE (R402, R404, R410): a write less than 40 ns before the CUTOFF edge of a sampling cycle is kept and acts right after its sample (the model's reading, notes/assumptions/111.md);
any other acts at once.  ARM of a running unit in IDLE or DONE enters QWAIT with SEGLEFT = NSEG and the sequence at 0, and is refused with CFGREJ otherwise; FORCE is kept in QWAIT, FILL and
ARMED; ABORT enters IDLE and counts a slot in progress UNFILLED; RELEASE frees at most the slots held; QUOTA takes at most 16 MiB.

CUTOFF's sample and the record (R398, R400, R401, R405–R409): before anything else CUTOFF lets every running unit in an acquisition read its enabled signals in a cycle that SDIV divides; LEVEL, EDGE,
WINDOW, MASK, EXT, TPIN and FORCE give the bits of CAUSE; a sample outside its mask entry counts VIOL; QWAIT takes a slot, its STATUS 0 first, or counts NOSLOT; a slot stores each sample at the next position modulo
RLEN; a condition is accepted once PRE samples are stored and hold-off is over, and else counts TRIGIGN; after RLEN - PRE samples from the trigger on the record is complete: its header with the first word last, FILLED, HELD, IDX.WR,
SEGLEFT and the sequence, then DONE or QWAIT; a mask stop before a trigger ends the slot UNFILLED; an error response ends it with 0x7001, a gate violation freezes the unit. -/
def Obligations.StampControl : Prop := stampControl ∧ stampConditions ∧ stampSampling

/-! ### Buckle and the field die (chapters 17, 18) -/

/-- Buckle has been stopped by a fault of its own: FAULTED, the cause's sticky bit and event 0, the STO word 0 and the safety outputs off (R417, R419). -/
def Sys2Proof.buckleStopped (s t : State) (cause : Fld) (code : Nat) : Prop :=
  t.st pgBUCKLE = 5 ∧ t.on pgBUCKLE cause = true ∧ bitOf (t.reg pgBUCKLE HDR.EVT).toNat 0 = true ∧ t.reg pgSTO STO.WORD = 0
    ∧ t.rd pgSTO STO.OUTSTAT_CMD = 0 ∧ (s.reg pgBUCKLE HDR.ECAP0 = 0 → t.rd pgBUCKLE HDR.ECAP0_CODE = code)

/-- No safety function waits to be locked for its discrepancy, released for its second hand or reported for its reset input (R422–R424). -/
def Sys2Proof.buckleSettled (s : State) (k : Nat) : Prop :=
  (s.sfTwo k = false → s.rd (pgSF k) SF.CFG_DISC ≤ s.rd (pgSF k) SF.STAT_DCNT → s.sfSt k = sfLOCKED)
    ∧ (s.sfTwo k = true → s.sfSt k = sfDEMAND → (s.sf k).counting = true → s.rd (pgSF k) SF.STAT_DCNT < 4000)
    ∧ (s.sfTwo k = false → 24001 ≤ (s.sf k).active → (s.sf k).stuck = true)

/-- EVALUATION, DISCREPANCY_LOCK, TWO_HAND_TIMEOUT, RESET_STUCK, SELF_TEST, CONFIG_CRC_PASS, INPUT_TEST_PULSE, OUTPUT_TEST_PULSE (R417–R432): an evaluation that meets an uncorrectable word of safety state stops Buckle with
0x8005, one without a fresh sample of every claimed input with 0x8006; one with them counts EVAL, takes the permission from every function one of whose channels is at the safe level or faulty, counts DCNT while the channels differ and locks the function
at DISC with DISCLK and 0x8101, releases a two-hand function whose second hand comes at 4 000 evaluations and lets it permit before, reports a reset input at 24 001 active evaluations as stuck, and
forms the STO word: a group's bit is 1 where the group is disabled or every enabled function in it permits.  Every evaluation leaves each enabled function with a DISC above 0 settled, and on a
settled function DISCREPANCY_LOCK, TWO_HAND_TIMEOUT and RESET_STUCK, which tell again what the evaluation has done (the model's reading, notes/assumptions/28.md), change nothing; in any other state they do it.  A failed self-test stops Buckle with 0x8003, a
configuration CRC other than SCRCEXP with 0x8002.  A test pulse of an enabled source is one of every channel fed from it; those of the outputs begin on outputs that are on.  While Buckle does not run, none of these does anything. -/
def Obligations.Buckle : Prop :=
  ∀ s : State, s.por = false →
    (s.running pgBUCKLE = false → (∀ upset, exec (.evaluation upset) s = .next s) ∧ (∀ k, exec (.discrepancyLock k) s = .next s ∧ exec (.twoHandTimeout k) s = .next s
        ∧ exec (.resetStuck k) s = .next s ∧ (∀ c, exec (.inputTestPulse k c) s = .next s) ∧ exec (.outputTestPulse k) s = .next s)
      ∧ (∀ b, exec (.selfTest b) s = .next s) ∧ exec .configCrcPass s = .next s)
    ∧ (s.running pgBUCKLE = true → ∃ t, exec (.evaluation true) s = .next t ∧ buckleStopped s t BUCKLE.STAT_ECC 0x8005
        ∧ t.reg pgECC ECC.UNCORR = satInc (s.reg pgECC ECC.UNCORR))
    ∧ (s.running pgBUCKLE = true → (∃ i, i < 24 ∧ s.buckleIn i = true ∧ (s.fin i).fresh = false) →
        ∃ t, exec (.evaluation false) s = .next t ∧ buckleStopped s t BUCKLE.STAT_FIELD 0x8006)
    ∧ (s.running pgBUCKLE = true → (∀ i, i < 24 → s.buckleIn i = true → (s.fin i).fresh = true) → s.fatal = false →
        ∃ t, exec (.evaluation false) s = .next t ∧ t.reg pgBUCKLE BUCKLE.EVAL = satInc (s.reg pgBUCKLE BUCKLE.EVAL)
          ∧ (∀ g, g < 32 → ((t.reg pgSTO STO.WORD).getLsbD g = true ↔ (s.reg pgSTO STO.GRPEN).getLsbD g = false
              ∨ ∀ k, k < 16 → s.sfOn k = true → (s.reg (pgSF k) SF.GROUPS).getLsbD g = true → t.on (pgSF k) SF.STAT_PERMIT = true))
          ∧ (∀ k, k < 16 → s.sfOn k = true →
              let p := pgSF k
              let f := s.sf k
              let i1 := s.fin (s.rd p SF.INPUT_CH1)
              let i2 := s.fin (s.rd p SF.INPUT_CH2)
              let filt := s.rd p SF.CFG_FILT
              let l1 := if f.pulse1 then f.lvl1 else (filterStep f.lvl1 f.run1 filt (i1.cls == 1)).1
              let l2 := if f.pulse2 then f.lvl2 else (filterStep f.lvl2 f.run2 filt (i2.cls == 1)).1
              let faulty := (if f.pulse1 then f.brk1 || i1.raw == 1 else i1.cls == 2 || f.err1) || (if f.pulse2 then f.brk2 || i2.raw == 1 else i2.cls == 2 || f.err2)
              let b := if s.sfTwo k then l2 else l2 != s.on p SF.CFG_ANTIV
              let dcnt := s.rd p SF.STAT_DCNT
              let disc := s.rd p SF.CFG_DISC
              (l1 = false ∨ b = false ∨ faulty = true → t.on p SF.STAT_PERMIT = false)
              ∧ (s.sfTwo k = false → faulty = false → l1 = b → t.rd p SF.STAT_DCNT = 0)
              ∧ (s.sfTwo k = false → faulty = false → l1 ≠ b → t.rd p SF.STAT_DCNT = min 0xFFFF (dcnt + 1))
              ∧ (s.sfTwo k = false → faulty = false → l1 ≠ b → s.sfSt k ≠ sfLOCKED → dcnt + 1 = disc →
                  t.sfSt k = sfLOCKED ∧ t.on p SF.STAT_RSTREQ = true ∧ t.on p SF.STAT_DISCLK = true ∧ t.on p SF.STAT_PERMIT = false
                    ∧ (s.reg p HDR.ECAP0 = 0 → t.rd p HDR.ECAP0_CODE = 0x8101))
              ∧ (s.sfTwo k = false → faulty = false → l1 ≠ b → s.sfSt k ≠ sfLOCKED → dcnt + 1 < disc → t.sfSt k = sfDEMAND)
              ∧ (s.sfTwo k = true → faulty = false → s.sfSt k = sfDEMAND → l1 = true ∨ l2 = true → f.counting = true →
                  (4000 ≤ dcnt + 1 → t.sfSt k = sfRELEASE ∧ (t.sf k).counting = false)
                  ∧ (dcnt + 1 < 4000 → t.sfSt k = (if l1 && l2 then sfPERMIT else sfDEMAND) ∧ t.rd p SF.STAT_DCNT = dcnt + 1))
              ∧ (s.sfTwo k = false → (filterStep f.rlvl f.rrun 2 ((s.fin (s.rd p SF.INPUT_RST)).cls == 1)).1 = true →
                  (t.sf k).active = f.active + 1
                    ∧ (24001 ≤ f.active + 1 → (t.sf k).stuck = true ∧ (f.stuck = false → t.on p SF.STAT_RSTSTK = true)))
              ∧ (0 < disc → buckleSettled t k)))
    ∧ (∀ k : Fin 16, s.running pgBUCKLE = true → s.sfOn k = true → buckleSettled s k →
        exec (.discrepancyLock k) s = .next s ∧ exec (.twoHandTimeout k) s = .next s ∧ exec (.resetStuck k) s = .next s)
    ∧ (∀ k : Fin 16, s.running pgBUCKLE = true →
        let p := pgSF k
        (s.sfOn k = true → s.sfTwo k = false → s.rd p SF.CFG_DISC ≤ s.rd p SF.STAT_DCNT → s.sfSt k ≠ sfLOCKED →
          ∃ t, exec (.discrepancyLock k) s = .next t ∧ t.sfSt k = sfLOCKED ∧ t.on p SF.STAT_PERMIT = false ∧ t.on p SF.STAT_RSTREQ = true
            ∧ t.on p SF.STAT_DISCLK = true ∧ (s.reg p HDR.ECAP0 = 0 → t.rd p HDR.ECAP0_CODE = 0x8101))
        ∧ (s.sfOn k = false ∨ s.sfTwo k = true ∨ s.rd p SF.STAT_DCNT < s.rd p SF.CFG_DISC ∨ s.sfSt k = sfLOCKED →
            exec (.discrepancyLock k) s = .next s)
        ∧ (let late := s.sfOn k = true ∧ s.sfTwo k = true ∧ s.sfSt k = sfDEMAND ∧ (s.sf k).counting = true ∧ 4000 ≤ s.rd p SF.STAT_DCNT
          (late → ∃ t, exec (.twoHandTimeout k) s = .next t ∧ t.sfSt k = sfRELEASE ∧ t.on p SF.STAT_PERMIT = false ∧ (t.sf k).counting = false)
          ∧ (¬ late → exec (.twoHandTimeout k) s = .next s))
        ∧ (let stuck := s.sfOn k = true ∧ s.sfTwo k = false ∧ 24001 ≤ (s.sf k).active ∧ (s.sf k).stuck = false
          (stuck → exec (.resetStuck k) s = .next (((s.setSf k { s.sf k with stuck := true }).wr p SF.STAT_RSTSTK 1).faultU p 0x8103))
          ∧ (¬ stuck → exec (.resetStuck k) s = .next s))
        ∧ (∀ ch2 : Bool, let on := s.sfOn k = true ∧ s.on p (if ch2 then SF.TEST_T2EN else SF.TEST_T1EN) = true
          let src := s.rd p (if ch2 then SF.TEST_T2SRC else SF.TEST_T1SRC)
          (¬ on → exec (.inputTestPulse k ch2) s = .next s)
          ∧ (on → ∃ t, exec (.inputTestPulse k ch2) s = .next t ∧ t = { s with sfs := t.sfs } ∧ ∀ j, j < 16 → t.sf j = { s.sf j with
              pulse1 := (s.sf j).pulse1 || (s.sfOn j && s.on (pgSF j) SF.TEST_T1EN && s.rd (pgSF j) SF.TEST_T1SRC == src)
              pulse2 := (s.sf j).pulse2 || (s.sfOn j && s.on (pgSF j) SF.TEST_T2EN && s.rd (pgSF j) SF.TEST_T2SRC == src) }))
        ∧ (let on := s.safetyOutEn k = true ∧ bitOf (s.rd pgSTO STO.OUTSTAT_CMD) (k.val - 12) = true
          (¬ on → exec (.outputTestPulse k) s = .next s)
          ∧ (12 ≤ k.val → on → ∃ t, exec (.outputTestPulse k) s = .next t ∧ (t.safeOut k).pulse = 2
              ∧ bitOf (t.rd pgSTO STO.OUTSTAT_CMD) (k.val - 12) = false ∧ t.reg pgSTO STO.OTEST = satInc (s.reg pgSTO STO.OTEST)
              ∧ t.reg pgSTO STO.WORD = s.reg pgSTO STO.WORD)))
    ∧ (s.running pgBUCKLE = true →
        exec (.selfTest true) s = .next (s.bumpE pgBUCKLE BUCKLE.STPASS 1)
        ∧ (∃ t, exec (.selfTest false) s = .next t ∧ buckleStopped s t BUCKLE.STAT_SELFTEST 0x8003)
        ∧ (s.reg pgBUCKLE BUCKLE.SCRCEXP = crc32 s.safetyImage → exec .configCrcPass s = .next (s.setReg pgBUCKLE BUCKLE.SCRCNOW (crc32 s.safetyImage)))
        ∧ (s.reg pgBUCKLE BUCKLE.SCRCEXP ≠ crc32 s.safetyImage → ∃ t, exec .configCrcPass s = .next t
            ∧ buckleStopped s t BUCKLE.STAT_CRCRUN 0x8002 ∧ t.reg pgBUCKLE BUCKLE.SCRCNOW = crc32 s.safetyImage))

/-- MANAGEMENT_FRAME, FIELD_LINK_LOSS, INPUT_SAMPLE, OUTPUT_REFRESH, READBACK, THERMAL_SHUTDOWN, RETRY, OPEN_LOAD, SAFE_STATE_TIMEOUT, SAFEACT_RELEASE, VFLD_MEASURE (R440–R451): the controller's management frame carries the configuration to
the field die, and the first after a start of FLD ends its safe states (the model's reading, notes/assumptions/128.md); the field die's good frame sets LINK and brings its diagnostics into the
registers; a failed one counts LINKERR, and 16 in a row missing or failed lose the link: FLD is FAULTED with 0x9001 and Buckle stops.  An input's sample is classed by current and voltage, also for
a claimed input (the model's reading, notes/assumptions/42.md): BREAK, BRKSTK and BREAKS, TRANS, and LEVEL after FILT + 1 samples in a row; VALID is 1 while the newest is not older than two periods.  A
refresh carries the commanded level; readbacks follow the pins above 11 V and below 5 V; shutdown, open load and VLIM show while the link is up, and a shut-down channel is retried.  A channel
without refreshes enters its safe state, by the configuration that crossed last; the host ends it after 100 refreshes in a row on a working link, from the next refresh on; undervoltage and
overtemperature are part of the level in effect (the model's readings, notes/assumptions/41.md); a write that ends none sets CFGREJ and counts SAFEREF, one of another master is refused (the model's reading, notes/assumptions/111.md). -/
def Obligations.FieldDie : Prop :=
  ∀ s : State,
    let link := s.on pgFLD FLD.STAT_LINK = true
    let shows := link ∧ s.fieldServes = true
    let die (d : Die) : Prop := ∃ u, d = { s.die with tsd := d.tsd, unjudged := u }
    let shown := s.rd pgFLDDO FLDDO.TSD_NOW = s.die.tsd ∧ s.rd pgFLDDO FLDDO.EXTHIGH_NOW = s.die.exth ∧ s.rd pgFLDDO FLDDO.OPENLD_NOW = s.die.openld
    (∀ (x : Fin 16), s.safeAct x = true → ∃ t, exec (.safeStateTimeout x) s = .next t ∧ t.die = s.die ∧ t.fouts = s.fouts ∧ (¬ link → t = s))
    ∧ (∀ (x : Fin 16), s.safeAct x = false → ∃ t, exec (.safeStateTimeout x) s = .next t ∧ t.safeAct x = true
        ∧ (link → bitOf (t.rd pgFLDDO FLDDO.SAFEACT_SAFE) x = true ∧ (bitOf (s.rd pgFLDDO FLDDO.SAFEACT_SAFE) x = false →
            bitOf (t.reg pgFLDDO HDR.EVT).toNat 3 = true) ∧ bitOf (t.rd pgFLDDO FLDDO.RB_CMD) x = bitOf t.die.cmd x)
        ∧ (∀ y, y < 16 → y ≠ x.val → t.safeAct y = s.safeAct y)
        ∧ bitOf t.die.cmd x = (!s.die.uv && !s.die.ot && !(decide (12 ≤ x.val) || bitOf s.die.cfg.forced x)
            && (s.die.cfg.modes.getD x 0 == 1 || (s.die.cfg.modes.getD x 0 == 2 && (s.fout x).level))))
    ∧ (s.por = false →
      (s.fieldServes = false → ∀ r crossed, exec (.managementFrame r crossed) s = .next s)
      ∧ (∀ r crossed, s.fieldServes = true → ∃ t, exec (.managementFrame r crossed) s = .next t ∧ Tx.manage s.dieCfg [] s.fldNew ∈ t.wire
          ∧ (crossed = true → t.die.cfg = s.dieCfg ∧ t.fldNew = false ∧ t.die.safe = (if s.fldNew then 0 else s.die.safe)
              ∧ (s.fldNew = true → ∀ x, x < 16 → s.safeAct x = true → (t.fout x).waits = true))
          ∧ (crossed = false → t.die = { s.die with unjudged := t.die.unjudged } ∧ t.fldNew = s.fldNew)
          ∧ (r = 0 → s.die.unjudged = true → s.rd pgFLD FLD.VLIM_HI < s.die.vfld ∨ s.die.vfld < s.rd pgFLD FLD.VLIM_LO → t.on pgFLD FLD.STAT_VOUT = true)
          ∧ (r ≠ 0 → ¬ link → t.linkMiss = 0 ∧ t.st pgFLD = s.st pgFLD)
          ∧ (r = 0 → t.on pgFLD FLD.STAT_LINK = true ∧ t.linkMiss = 0 ∧ t.rd pgFLD FLD.MEAS_VFLD = s.die.vfld % 65536
              ∧ t.rd pgFLD FLD.MEAS_TEMP = s.die.temp % 65536 ∧ t.on pgFLD FLD.STAT_UV = s.die.uv ∧ t.on pgFLD FLD.STAT_OT = s.die.ot
              ∧ t.rd pgFLDDO FLDDO.RB_RB = s.die.rb % 65536 ∧ t.rd pgFLDDO FLDDO.TSD_NOW = s.die.tsd % 65536
              ∧ t.rd pgFLDDO FLDDO.OPENLD_NOW = s.die.openld % 65536 ∧ t.rd pgFLDDO FLDDO.EXTHIGH_NOW = s.die.exth % 65536)
          ∧ (r ≠ 0 → link → s.linkMiss < 15 → t.linkMiss = s.linkMiss + 1 ∧ t.on pgFLD FLD.STAT_LINK = true ∧ t.st pgFLD = s.st pgFLD
              ∧ t.reg pgFLD FLD.LINKERR = (if r = 1 then satInc (s.reg pgFLD FLD.LINKERR) else s.reg pgFLD FLD.LINKERR))
          ∧ (r ≠ 0 → link → 15 ≤ s.linkMiss → t.st pgFLD = 5 ∧ t.on pgFLD FLD.STAT_LINK = false))
      ∧ (s.fieldServes = true → 16 ≤ s.linkMiss → ∃ t, exec .fieldLinkLoss s = .next t ∧ t.st pgFLD = 5 ∧ t.on pgFLD FLD.STAT_LINK = false
          ∧ t.linkMiss = 0 ∧ (s.reg pgFLD HDR.ECAP0 = 0 → t.rd pgFLD HDR.ECAP0_CODE = 0x9001)
          ∧ (s.running pgBUCKLE = true → t.st pgBUCKLE = 5 ∧ t.reg pgSTO STO.WORD = 0))
      ∧ (s.fieldServes = false ∨ s.linkMiss < 16 → exec .fieldLinkLoss s = .next s)
      ∧ (∀ (n : Fin 32) (ua mv : Nat),
        let served := s.running pgFLD = true ∧ (s.buckleIn n = true ∨ s.running pgFLDDI = true)
        let cls := if s.die.uv then 3
          else if ua < 500 then (if bitOf s.die.cfg.wben n then 2 else 0)
          else if ua ≤ 1500 ∨ mv ≤ 5000 then 0
          else if 2000 < ua ∧ (if bitOf s.die.cfg.type1 n then 15000 else 11000) ≤ mv then 1 else 3
        (¬ served → exec (.inputSample n ua mv) s = .next s)
        ∧ (served → n.val < 24 → ∃ t, exec (.inputSample n ua mv) s = .next t ∧ (t.fin n).raw = cls ∧ (t.fin n).fresh = true
            ∧ (t.fin n).cls = (if cls = 3 then (s.fin n).cls else cls) ∧ (∀ k, k ≠ n.val → t.fin k = s.fin k) ∧ (t.fin n).at_ = some s.time.raw
            ∧ (let D := pgFLDDI
              let inv := s.on D (FLDDI.DICFG_INV n)
              let v := (cls == 1) != inv
              let new := cls ≠ 3 ∧ bitOf (s.rd D FLDDI.LEVEL_LEVEL) n ≠ v
              let same (f : Fld) (k : Nat) : Prop := bitOf (t.rd D f) k = bitOf (s.rd D f) k
              (∀ k, k < 24 → k ≠ n.val → same FLDDI.LEVEL_LEVEL k ∧ same FLDDI.BREAK_BREAK k ∧ same FLDDI.BRKSTK_BREAK k)
              ∧ (cls = 3 → same FLDDI.LEVEL_LEVEL n ∧ same FLDDI.BREAK_BREAK n ∧ (t.fin n).run = (s.fin n).run ∧ t.reg D FLDDI.TRANS = satInc (s.reg D FLDDI.TRANS))
              ∧ (cls ≠ 3 → bitOf (t.rd D FLDDI.BREAK_BREAK) n = decide (cls = 2) ∧ t.reg D FLDDI.TRANS = s.reg D FLDDI.TRANS)
              ∧ bitOf (t.rd D FLDDI.BRKSTK_BREAK) n = (decide (cls = 2) || bitOf (s.rd D FLDDI.BRKSTK_BREAK) n)
              ∧ t.reg D FLDDI.BREAKS = (if cls = 2 ∧ (s.fin n).cls ≠ 2 then satInc (s.reg D FLDDI.BREAKS) else s.reg D FLDDI.BREAKS)
              ∧ (cls = 2 → (s.fin n).cls ≠ 2 → s.reg D HDR.ECAP0 = 0 → t.rd D HDR.ECAP0_CODE = 0x9101 ∧ t.reg D HDR.ECAP1 = BitVec.ofNat 32 n)
              ∧ (cls ≠ 3 → ¬ new → same FLDDI.LEVEL_LEVEL n ∧ (t.fin n).run = 0)
              ∧ (new → (s.fin n).run < s.rd D (FLDDI.DICFG_FILT n) → same FLDDI.LEVEL_LEVEL n ∧ (t.fin n).run = (s.fin n).run + 1)
              ∧ (new → s.rd D (FLDDI.DICFG_FILT n) ≤ (s.fin n).run → bitOf (t.rd D FLDDI.LEVEL_LEVEL) n = v ∧ (t.fin n).run = 0
                  ∧ (bitOf (s.rd D FLDDI.CHGEN_EN) n = true → bitOf (t.reg D HDR.EVT).toNat 0 = true))
              ∧ (s.pageOn D = true → ∀ m : Nat, bitOf (s.regView m D FLDDI.VALID).toNat n = true ↔ ∃ a, (s.fin n).at_ = some a
                  ∧ (s.time.raw - a).toNat ≤ 2 * (if s.buckleIn n then 2000000 else 500000 * 2 ^ s.rd D (FLDDI.DICFG_PER n))))))
      ∧ (∀ (x : Fin 16) (crossed : Bool),
        (s.fieldServes = false → exec (.outputRefresh x crossed) s = .next s)
        ∧ (s.fieldServes = true → ∃ t, exec (.outputRefresh x crossed) s = .next t ∧ Tx.refresh x (s.outCmd x) ∈ t.wire
            ∧ (t.fout x).level = (if crossed then s.outCmd x else (s.fout x).level)
            ∧ (t.fout x).seen = (if crossed then min 100 ((s.fout x).seen + 1) else 0) ∧ (t.fout x).waits = (!crossed && (s.fout x).waits) ∧ (∀ y, y ≠ x.val → t.fout y = s.fout y)
            ∧ (crossed = true → s.safeAct x = false → bitOf t.die.cmd x = (s.outCmd x && !s.die.uv && !s.die.ot)))))
    ∧ (∀ above below : BitVec 16, ∃ t, exec (.readback above below) s = .next t
        ∧ (∀ x, x < 16 → bitOf t.die.rb x = (above.getLsbD x || (bitOf s.die.rb x && !below.getLsbD x)))
        ∧ (shows → ∀ x, x < 16 → bitOf (t.rd pgFLDDO FLDDO.RB_RB) x = bitOf t.die.rb x))
    ∧ (∀ x : Fin 16,
        let off := bitOf s.die.tsd x
        let cmd := bitOf s.die.cmd x
        (cmd = true → ∃ t, exec (.thermalShutdown x) s = .next t ∧ die t.die ∧ bitOf t.die.tsd x = true
            ∧ (∀ y, y ≠ x.val → bitOf t.die.tsd y = bitOf s.die.tsd y)
            ∧ (shows → bitOf (t.rd pgFLDDO FLDDO.TSD_NOW) x = true)
            ∧ (shows → shown → off = false → bitOf (t.rd pgFLDDO FLDDO.TSD_STK) x = true ∧ t.reg pgFLDDO FLDDO.SHORTS = satInc (s.reg pgFLDDO FLDDO.SHORTS)
                ∧ (s.reg pgFLDDO HDR.ECAP0 = 0 → t.rd pgFLDDO HDR.ECAP0_CODE = 0x9201 ∧ t.reg pgFLDDO HDR.ECAP1 = BitVec.ofNat 32 x)))
        ∧ (cmd = false → exec (.thermalShutdown x) s = .next s)
        ∧ (off = false ∨ s.die.uv = true → exec (.retry x) s = .next s)
        ∧ (off = true → s.die.uv = false → ∃ t, exec (.retry x) s = .next t ∧ die t.die ∧ bitOf t.die.tsd x = false
            ∧ (∀ y, y ≠ x.val → bitOf t.die.tsd y = bitOf s.die.tsd y)
            ∧ (shows → bitOf (t.rd pgFLDDO FLDDO.TSD_NOW) x = false
                ∧ t.reg pgFLDDO FLDDO.RETRIES = (if s.outWanted x then satInc (s.reg pgFLDDO FLDDO.RETRIES) else s.reg pgFLDDO FLDDO.RETRIES)))
        ∧ (bitOf s.die.cfg.olen x = true → cmd = true → ∃ t, exec (.openLoad x true) s = .next t ∧ bitOf t.die.openld x = true
            ∧ (shows → bitOf (t.rd pgFLDDO FLDDO.OPENLD_NOW) x = true)
            ∧ (shows → shown → bitOf s.die.openld x = false → bitOf (t.rd pgFLDDO FLDDO.OPENLD_STK) x = true
                ∧ (s.reg pgFLDDO HDR.ECAP0 = 0 → t.rd pgFLDDO HDR.ECAP0_CODE = 0x9203)))
        ∧ (bitOf s.die.cfg.olen x = false ∨ cmd = false → exec (.openLoad x true) s = .next s)
        ∧ (∃ t, exec (.openLoad x false) s = .next t ∧ bitOf t.die.openld x = false ∧ (shows → bitOf (t.rd pgFLDDO FLDDO.OPENLD_NOW) x = false)))
    ∧ (∀ mv kelvin : Nat, ∃ t, exec (.vfldMeasure mv kelvin) s = .next t ∧ t.die.vfld = mv ∧ t.die.temp = kelvin
        ∧ t.die.uv = (decide (mv < 16000) || (s.die.uv && decide (mv ≤ 17000)))
        ∧ t.die.ot = (decide (42315 * 16 < kelvin * 100) || (s.die.ot && decide (40815 * 16 ≤ kelvin * 100)))
        ∧ (t.die.uv = true ∨ t.die.ot = true → ∀ x, x < 16 → bitOf t.die.cmd x = false)
        ∧ (¬ shows → t.die.unjudged = true)
        ∧ (shows → t.rd pgFLD FLD.MEAS_VFLD = mv % 65536 ∧ t.rd pgFLD FLD.MEAS_TEMP = kelvin % 65536 ∧ t.on pgFLD FLD.STAT_UV = t.die.uv
            ∧ t.on pgFLD FLD.STAT_OT = t.die.ot ∧ (s.rd pgFLD FLD.VLIM_HI < mv ∨ mv < s.rd pgFLD FLD.VLIM_LO → t.on pgFLD FLD.STAT_VOUT = true)
            ∧ (s.reg pgFLD HDR.ECAP0 = 0 → s.on pgFLD FLD.STAT_UV = false → t.die.uv = true → t.rd pgFLD HDR.ECAP0_CODE = 0x9002)
            ∧ (s.reg pgFLD HDR.ECAP0 = 0 → s.on pgFLD FLD.STAT_OT = false → t.die.ot = true → t.die.uv = false → t.rd pgFLD HDR.ECAP0_CODE = 0x9003)))
    ∧ (∀ (m : Fin 96) (mask : BitVec 16), Reaches s m pgFLDDO FLDDO.SAFEACT true →
        let freed (x : Nat) : Bool := decide (m.val = 64) && s.on pgFLD FLD.STAT_LINK && decide ((s.fout x).seen = 100)
        let refused := (List.range 16).filter fun x => mask.getLsbD x && s.safeAct x && !freed x
        ∃ t, exec (.safeactRelease m mask) s = .next t
          ∧ (∀ x, x < 16 → t.safeAct x = (s.safeAct x && !(mask.getLsbD x && freed x))
              ∧ (t.fout x).waits = ((s.fout x).waits || (mask.getLsbD x && s.safeAct x && freed x)))
          ∧ t.die = { s.die with safe := t.die.safe }
          ∧ t.reg pgFLDDO FLDDO.SAFEREF = satAdd (s.reg pgFLDDO FLDDO.SAFEREF) refused.length
          ∧ t.on pgFLDDO HDR.PSTAT_CFGREJ = (s.on pgFLDDO HDR.PSTAT_CFGREJ || !refused.isEmpty))

/-! ### Feedback and analog channels (chapter 14) -/

/-- A counting step of a feedback channel (R350): a step in the direction of the last changes COUNT by one; one against it sets DIR and is absorbed. -/
def Sys2Proof.feedStepped (s t : State) (n : Nat) (back : Bool) : Prop :=
  let p := pgFBCH n
  (s.on p FBCH.STAT_DIR = back → t.reg p FBCH.COUNT = (if back then s.reg p FBCH.COUNT - 1 else s.reg p FBCH.COUNT + 1)
      ∧ t.reg p FBCH.ABSORB = s.reg p FBCH.ABSORB)
    ∧ (s.on p FBCH.STAT_DIR = !back → t.reg p FBCH.COUNT = s.reg p FBCH.COUNT ∧ t.reg p FBCH.ABSORB = satInc (s.reg p FBCH.ABSORB))
    ∧ t.on p FBCH.STAT_DIR = back ∧ t.reg p FBCH.ILLEGAL = s.reg p FBCH.ILLEGAL

/-- An illegal step of a feedback channel (R348): counted, sticky, event 0, and no count. -/
def Sys2Proof.feedIllegal (s t : State) (n : Nat) : Prop :=
  let p := pgFBCH n
  t.reg p FBCH.ILLEGAL = satInc (s.reg p FBCH.ILLEGAL) ∧ t.on p FBCH.STAT_ILLS = true ∧ bitOf (t.reg p HDR.EVT).toNat 0 = true
    ∧ t.reg p FBCH.COUNT = s.reg p FBCH.COUNT ∧ t.reg p FBCH.ABSORB = s.reg p FBCH.ABSORB

/-- The pins of a feedback channel after `k` further samples of those listed, at the levels listed (R346), and the sample in which each takes its new
level: a level is accepted after FILT + 1 samples in a row. -/
def Sys2Proof.sampled (s : State) (n : Nat) (ls : List (Nat × Bool)) (k : Nat) : List (Nat × Line × Option Nat) :=
  ls.map fun e =>
    let l := s.pin n e.1
    let had := if l.lev = e.2 then l.run else 0
    let at' := max 1 (s.rd (pgFBCH n) FBCH.CFG_FILT + 1 - had)
    let taken := l.filt ≠ e.2 ∧ at' ≤ k
    (e.1, { lev := e.2, run := min 64 (had + k), filt := if taken then e.2 else l.filt }, if taken then some at' else none)

/-- What a feedback channel makes of one sample in which its filtered pins, coded 4·A + 2·B + Z, change from `old` to `new` (R348, R349, R354). -/
def Sys2Proof.decodes (s t : State) (n old new : Nat) : Prop :=
  let p := pgFBCH n
  let f := s.feed n
  let quad := s.running p = true ∧ s.rd p FBCH.CFG_MODE = 0
  let hall := s.running p = true ∧ s.rd p FBCH.CFG_MODE = 1
  let q := (quadIndex (new / 2) + 4 - quadIndex (old / 2)) % 4
  let d := (hallIndex new + 6 - hallIndex f.hall) % 6
  let bad := new = 0 ∨ new = 7
  t.rd p FBCH.STAT_HALL = new ∧ (t.feed n).hall = (if bad then f.hall else new) ∧ (∀ k, k ≠ n → t.feed k = s.feed k)
    ∧ (¬quad → ¬hall → ∀ r off, off < 0x1000 → ¬(r = p ∧ off = FBCH.STAT) → t.reg r off = s.reg r off)
    ∧ (quad → q = 2 → feedIllegal s t n)
    ∧ (quad → q = 1 → feedStepped s t n (s.on p FBCH.CFG_REV)) ∧ (quad → q = 3 → feedStepped s t n (!s.on p FBCH.CFG_REV))
    ∧ (quad → q = 0 → t.reg p FBCH.COUNT = s.reg p FBCH.COUNT)
    ∧ (quad → q ≠ 2 → s.on p FBCH.CFG_ZEN = true → new % 2 = 1 → old % 2 = 0 → t.reg p FBCH.ZCAP = t.reg p FBCH.COUNT ∧ t.on p FBCH.STAT_ZSEEN = true
        ∧ bitOf (t.reg p HDR.EVT).toNat 2 = true)
    ∧ (quad → s.on p FBCH.CFG_ZEN = false ∨ new % 2 = 0 ∨ old % 2 = 1 → t.reg p FBCH.ZCAP = s.reg p FBCH.ZCAP)
    ∧ (hall → bad → t.reg p FBCH.HALLBAD = satInc (s.reg p FBCH.HALLBAD) ∧ t.on p FBCH.STAT_HALLS = true ∧ bitOf (t.reg p HDR.EVT).toNat 1 = true
        ∧ t.reg p FBCH.COUNT = s.reg p FBCH.COUNT)
    ∧ (hall → ¬bad → f.hall ≠ 0 → (d = 1 → feedStepped s t n (s.on p FBCH.CFG_REV)) ∧ (d = 5 → feedStepped s t n (!s.on p FBCH.CFG_REV))
        ∧ (d = 2 ∨ d = 3 ∨ d = 4 → feedIllegal s t n))
    ∧ (hall → ¬bad → f.hall = 0 ∨ d = 0 → t.reg p FBCH.COUNT = s.reg p FBCH.COUNT)

/-- QUADRATURE_STEP, HALL_CODE_CHANGE, INDEX_CAPTURE, ILLEGAL_STEP_FAULT, SERIAL_TRANSFER_DONE, SERIAL_FAULT, CONVERSION_DONE, CONTINUOUS_SLOT, AUXILIARY_CONVERSION, OUTVAL_WRITE, MONITOR_CONVERSION (R346–R366):
a row gives its lines further samples, which pass the filter in every state of a powered channel (the model's readings, notes/assumptions/34.md and 99.md), and each sample in which a level is
accepted is decoded; the two encodings step through their sequences, the first valid Hall code counting none (notes/assumptions/34.md); an index captures COUNT; illegal steps and failed transfers fault a channel at their limits, which ILLEGAL_STEP_FAULT and
SERIAL_FAULT tell again (the model's reading, notes/assumptions/28.md); a transfer sends its clock from I0 on where the line is idle (the model's reading, notes/assumptions/129.md); a passed one moves COUNT and, when it passes, POS
(notes/assumptions/34.md), a failed one does not; a conversion stores the corrected, rounded, saturated code with its range and valid bits; slots start on their grid; an activation of this tick not
yet met starts an auxiliary conversion or is dropped; a FREE output follows OUTVAL with the inverse correction, and RESTCODE under STO (the model's reading, notes/assumptions/36.md); a monitor outside its limits raises 0x6201. -/
def Obligations.FeedbackChannels : Prop :=
  ∀ (s : State) (n : Fin 16), s.por = false →
    let p := pgFBCH n
    let x := pgAXCH n
    let f := s.feed n
    (∀ (row : Instr) (ls : List (Nat × Bool)) (k : Nat),
      (∃ a b, row = .quadratureStep n a b k ∧ ls = [(0, a), (1, b)])
        ∨ (∃ code, row = .hallCodeChange n code k ∧ ls = [(0, bitOf code.val 2), (1, bitOf code.val 1), (2, bitOf code.val 0)])
        ∨ (∃ z, row = .indexCapture n z k ∧ ls = [(2, z)]) →
      let took := sampled s n ls k
      let u := s.setFeed n { f with pins := took.map (fun e => (e.1, e.2.1)) ++ f.pins.filter fun e => !(ls.map (·.1)).contains e.1 }
      let codeAt (j : Nat) : Nat := took.foldl (fun c e => match e.2.2 with
        | some i => if i ≤ j then (if e.2.1.filt then withBit c (2 - e.1) else withoutBit c (2 - e.1)) else c
        | none => c) (s.pinCode n)
      (s.pageOn p = false → exec row s = .next s)
      ∧ (s.pageOn p = true → exec row s = .next (((List.range 65).filter fun j => (took.map (·.2.2)).contains (some j)).foldl
          (fun v j => v.decodeSample n (codeAt (j - 1)) (codeAt j)) u)))
    ∧ (∀ old new, old < 8 → new < 8 → old ≠ new → ∃ t, s.decodeSample n old new = t ∧ decodes s t n old new)
    ∧ (let due := s.running p = true ∧ s.rd p FBCH.ILLCFG_ILLMAX ≠ 0 ∧ s.rd p FBCH.ILLCFG_ILLMAX ≤ s.illCount n
      (due → ∃ t, exec (.illegalStepFault n) s = .next t ∧ t.st p = 5 ∧ (t.feed n).latched = false
          ∧ (s.reg p HDR.ECAP0 = 0 → t.rd p HDR.ECAP0_CODE = 0x6101 ∧ t.reg p HDR.ECAP1 = BitVec.ofNat 32 (min 0xFFFF (s.illCount n))))
      ∧ (¬due → exec (.illegalStepFault n) s = .next s))
    ∧ (let due := s.running p = true ∧ s.rd p FBCH.SERPOLY_SERMAX ≠ 0 ∧ s.rd p FBCH.SERPOLY_SERMAX ≤ f.fails
      (due → ∃ t, exec (.serialFault n) s = .next t ∧ t.st p = 5 ∧ (t.feed n).latched = false ∧ (t.feed n).busy = false
          ∧ (s.reg p HDR.ECAP0 = 0 → t.rd p HDR.ECAP0_CODE = 0x6102))
      ∧ (¬due → exec (.serialFault n) s = .next s))
    ∧ (∀ (idle : Bool) (bits : BitVec 64),
      let open_ := s.running p = true ∧ s.rd p FBCH.CFG_MODE = 2 ∧ f.busy = true
      let pb := s.rd p FBCH.SERCFG_PBITS
      let r := bits.toNat / 2 ^ (s.rd p FBCH.SERCFG_CBITS + s.rd p FBCH.SERCFG_EEN) % 2 ^ pb
      let timely := idle && f.clocked
      (s.running p = true → s.rd p FBCH.CFG_MODE = 2 → ∃ t, s.feedI0 n idle = t ∧ (t.feed n).busy = true ∧ (t.feed n).latched = false ∧ (t.feed n).clocked = idle
        ∧ t.wire = s.wire ++ (if idle then [Tx.serialClock n (s.serBits n + 1) (2 * (s.rd p FBCH.SERCFG_CLKDIV + 1))] else []))
      ∧ (¬open_ → exec (.serialTransferDone n idle bits) s = .next s)
      ∧ (open_ → ∃ t, exec (.serialTransferDone n idle bits) s = .next t ∧ (t.feed n).busy = false
        ∧ (timely = false ∨ s.serCheck n bits.toNat ≠ none → (t.feed n).fails = f.fails + 1 ∧ t.reg p FBCH.SERERR = satInc (s.reg p FBCH.SERERR)
            ∧ bitOf (t.reg p HDR.EVT).toNat 3 = true ∧ t.reg p FBCH.COUNT = s.reg p FBCH.COUNT ∧ t.reg p FBCH.POS = s.reg p FBCH.POS)
        ∧ (timely = false → t.on p FBCH.STAT_TOUTS = true)
        ∧ (∀ e, timely = true → s.serCheck n bits.toNat = some e → t.on p e = true)
        ∧ (timely = true → s.serCheck n bits.toNat = none → (t.feed n).raw = some r ∧ (t.feed n).fails = 0 ∧ (t.feed n).latched = true
            ∧ t.reg p FBCH.COUNT = (match f.raw with
              | none => BitVec.ofNat 32 r
              | some q => s.reg p FBCH.COUNT + BitVec.ofInt 32 (toSigned pb (r + 2 ^ pb - q)))
            ∧ t.reg p FBCH.POS = t.reg p FBCH.COUNT ∧ t.reg p FBCH.SERERR = s.reg p FBCH.SERERR)))
    ∧ (∀ raw : BitVec 12,
      ((s.ana n).conv = none → exec (.conversionDone n raw) s = .next s)
      ∧ (∀ k, (s.ana n).conv = some k → ∃ (t : State) (c : Int), exec (.conversionDone n raw) s = .next t ∧ (t.ana n).conv = none
        ∧ (t.ana n).rawLast = raw.toNat
        ∧ (let exact_ : Int := (raw.toInt * 16 - (s.anaTrims n).1) * (s.anaTrims n).2
          let range := raw.toInt = -2048 ∨ raw.toInt = 2047 ∨ c < -2048 ∨ 2047 < c
          let word := ofSigned 12 (max (-2048) (min 2047 c)) * 16 + b2n (decide range) 1 + b2n (s.running x) 0
          2 * (c * 0x80000 - exact_).natAbs ≤ 0x80000 ∧ t.rd x AXCH.SAMP_LAST = word
          ∧ t.rd x AXCH.SAMP_I0 = (if k = .i0 then word else s.rd x AXCH.SAMP_I0)
          ∧ t.rd x AXCH.XSAMP_WORD = (if k = .aux then word else s.rd x AXCH.XSAMP_WORD)
          ∧ t.reg x AXCH.RANGE = (if range then satInc (s.reg x AXCH.RANGE) else s.reg x AXCH.RANGE))))
    ∧ (let go := s.anaIn n = true ∧ s.on x AXCH.CFG_CONT = true ∧ (s.ana n).conv = none ∧ s.phase + 64 ≤ s.tc
        ∧ s.phase % (64 * (s.rd x AXCH.RDIV_RDIV + 1)) = 0
      exec (.continuousSlot n) s = .next (if go then s.setAna n { s.ana n with conv := some .cont, convAt := s.time.raw } else s))
    ∧ (let sel := s.rd x AXCH.CFG_XSEL
      let unit := s.rd x AXCH.CFG_XUNIT
      let due := s.anaIn n = true ∧ sel ≠ 0 ∧ (sel - 1, s.time.raw) ∈ (s.stitch unit).xOn ∧ s.on (pgSTITCH unit) (STITCH.XSTAT_ACTIVE (sel - 1)) = true
        ∧ (s.ana n).xAt ≠ some s.time.raw
      let free := (s.ana n).conv = none ∨ ((s.ana n).conv = some .cont ∧ (s.ana n).convAt = s.time.raw)
      let met : Ana := { s.ana n with xAt := some s.time.raw }
      (¬ due → exec (.auxiliaryConversion n) s = .next s)
      ∧ (due → free → exec (.auxiliaryConversion n) s = .next (s.setAna n { met with conv := some .aux, convAt := s.time.raw }))
      ∧ (due → ¬ free → exec (.auxiliaryConversion n) s = .next (((s.setAna n met).bumpE x AXCH.XDROP 2).evt x 1)))
    ∧ (∀ (m : Fin 96) (v : Word), Reaches s m x AXCH.OUTVAL true → ∃ t, exec (.outvalWrite m n v) s = .next t
        ∧ t.rd x AXCH.OUTVAL_CODE = v.toNat % 0x1000
        ∧ t.rd x AXCH.OUTNOW_CODE = (if s.anaOut n = true ∧ s.on x AXCH.OCFG_FREE = true
            then (if (s.ana n).sto = true ∨ s.fatal = true then s.rd x AXCH.OCFG_RESTCODE else v.toNat % 0x1000) else s.rd x AXCH.OUTNOW_CODE)
        ∧ (s.anaOut n = true → s.on x AXCH.OCFG_FREE = true → (s.anaTrims n).2 ≠ 0 → ∃ c : Int, (t.ana n).dac = ofSigned 12 (max (-2048) (min 2047 c))
            ∧ 2 * (c * (16 * (s.anaTrims n).2) - (toSigned 12 (t.rd x AXCH.OUTNOW_CODE) * 0x80000 + (s.anaTrims n).1 * (s.anaTrims n).2)).natAbs
              ≤ 16 * (s.anaTrims n).2)
        ∧ (∀ q off, off < 0x1000 → ¬(q = x ∧ (off = AXCH.OUTVAL ∨ off = AXCH.OUTNOW)) → t.reg q off = s.reg q off)
        ∧ t = { s with regs := t.regs, anas := t.anas, freeCtr := t.freeCtr })
    ∧ (∀ (k : Fin 8) (v : BitVec 16),
      let hi := s.rd pgANA (ANA.MONLIM_HI k)
      let lo := s.rd pgANA (ANA.MONLIM_LO k)
      let above := hi ≠ 0xFFFF ∧ hi < v.toNat
      let below := lo ≠ 0 ∧ v.toNat < lo
      (s.running pgANA = false → exec (.monitorConversion k v) s = .next s)
      ∧ (s.running pgANA = true → ¬above → ¬below → exec (.monitorConversion k v) s = .next (s.wr pgANA (ANA.MONVAL_VALUE k) v.toNat))
      ∧ (s.running pgANA = true → above ∨ below → ∃ t, exec (.monitorConversion k v) s = .next t ∧ t.rd pgANA (ANA.MONVAL_VALUE k) = v.toNat
          ∧ (above → bitOf (t.rd pgANA ANA.MONSTAT_ABOVE) k = true) ∧ (¬above → bitOf (t.rd pgANA ANA.MONSTAT_BELOW) k = true)
          ∧ bitOf (t.reg pgANA HDR.EVT).toNat 0 = true
          ∧ (s.reg pgANA HDR.ECAP0 = 0 → t.rd pgANA HDR.ECAP0_CODE = 0x6201
              ∧ t.reg pgANA HDR.ECAP1 = BitVec.ofNat 32 (if above then 0x100 + k else k))))

/-! ### Stitch (chapter 13) -/

/-- The outputs of a unit after a change (R331): a leg forced off has both switches off; else the switch against its signal is off at once, and the other
keeps its level, or is on at once where DT is 0. -/
def Sys2Proof.legsSettled (s t : State) (n : Nat) : Prop :=
  let p := pgSTITCH n
  let old := s.rd p STITCH.OUTSTAT_OUT
  let out := t.rd p STITCH.OUTSTAT_OUT
  let dt0 := decide (s.rd p STITCH.DT_NS = 0)
  ∀ x, x < 3 →
    (t.legOff n x = true → bitOf out (2 * x) = false ∧ bitOf out (2 * x + 1) = false)
    ∧ (t.legOff n x = false → t.legH n x = true → bitOf out (2 * x) = (bitOf old (2 * x) || dt0) ∧ bitOf out (2 * x + 1) = false)
    ∧ (t.legOff n x = false → t.legH n x = false → bitOf out (2 * x) = false ∧ bitOf out (2 * x + 1) = (bitOf old (2 * x + 1) || dt0))

/-- A unit has tripped on the inputs `live` (R335): the latch and its source, all switches off, TRIPS, event 0, fault 0x6001 with the inputs. -/
def Sys2Proof.stitchTripped (s t : State) (n live : Nat) : Prop :=
  let p := pgSTITCH n
  t.on p STITCH.TRIPSTAT_LATCH = true ∧ t.rd p STITCH.TRIPSTAT_SRC = live ∧ t.on p STITCH.OUTSTAT_TRIPOFF = true ∧ t.rd p STITCH.OUTSTAT_OUT = 0
    ∧ t.reg p STITCH.TRIPS = satInc (s.reg p STITCH.TRIPS) ∧ bitOf (t.reg p HDR.EVT).toNat 0 = true
    ∧ (s.reg p HDR.ECAP0 = 0 → t.rd p HDR.ECAP0_CODE = 0x6001 ∧ t.reg p HDR.ECAP1 = BitVec.ofNat 32 live)

/-- PERIOD_START, COMPARE_MATCH, DEAD_TIME_END, AUX_CHANNEL_ACTIVATE, TRIP_INPUT, BLANK_WINDOW_END, TRIP_CLEAR, PERIOD_WRITE, COMPARE_WRITE, LEGOFF_WRITE, HALT_N_RISE (R330–R341): a period takes its length and ends what a
trip or STO held once their cause is gone, and all refreshes end at W (the model's reading, notes/assumptions/33.md, as the next three); FALL clears and RISE sets a leg at its compare time; a switch comes on at the end of its dead time; auxiliary channels become active and inactive at their times, and the analog channels that name one convert with it; a filtered, unblanked, selected input trips the unit once, in every powered state, and at the end of blanking; a clear is refused while an input is active, or becomes active in its tick, and does nothing to a latch that is 0; the writes of FREE mode change PERIOD, the edges and OFF, which a frozen unit does not follow, and act from the next tick; frozen units thaw at HALT_N's rise. -/
def Obligations.StitchUnits : Prop :=
  ∀ (s : State) (n : Fin 8), s.por = false →
    let p := pgSTITCH n
    let u := s.stitch n
    let run : Prop := s.running p = true
    (let starts : Prop := run ∧ (s.frozen n = true → u.thaw = true ∧ s.haltLow = false) ∧ (s.freeMode n = true ∨ s.cyc % s.perdiv = 0);
      (¬starts → exec (.periodStart n) s = .next s)
      ∧ (starts → ∃ t, exec (.periodStart n) s = .next t ∧ t.frozen n = false ∧ (t.stitch n).thaw = false
          ∧ (s.freeMode n = false → t.rd p STITCH.PERNOW_TICKS = s.perdiv * s.tc % 2 ^ 14)
          ∧ (∀ r old, s.freeMode n = true → u.perOld = some (r, old) → r = s.time.raw → t.rd p STITCH.PERNOW_TICKS = old % 2 ^ 14)
          ∧ (s.freeMode n = true → (∀ r old, u.perOld = some (r, old) → r ≠ s.time.raw) → t.rd p STITCH.PERNOW_TICKS = s.rd p STITCH.PERIOD_TICKS % 2 ^ 14)
          ∧ t.on p STITCH.OUTSTAT_STOOFF = s.stoDemand n ∧ (t.stitch n).h = (if s.freeMode n then s.idealAt n 0 else u.h)
          ∧ (s.rd p STITCH.TRIPSTAT_LIVE = 0 → legsSettled s t n
              ∧ t.on p STITCH.OUTSTAT_TRIPOFF = (s.on p STITCH.OUTSTAT_TRIPOFF && s.on p STITCH.TRIPSTAT_LATCH))
          ∧ (∀ k, k < 4 → s.on p (STITCH.XCFG_XMODE k) = false →
              t.on p (STITCH.XSTAT_ACTIVE k) = edgeState (s.rd p (STITCH.XCMP_START k)) (s.rd p (STITCH.XCMP_END k)) 0)
          ∧ (∀ k, k ≠ n.val → t.stitch k = s.stitch k)))
    ∧ (∀ ns : Nat,
      let counts := run ∧ s.frozen n = false ∧ ns < s.periodNs n
      let e := s.edgesOf n
      (¬counts → exec (.compareMatch n ns) s = .next s)
      ∧ (counts → ∃ t, exec (.compareMatch n ns) s = .next t ∧ legsSettled s t n
          ∧ (∀ x, x < 3 → bitOf (t.stitch n).h x = (if s.freeMode n && u.wrote.contains (x, s.time.raw) then bitOf u.h x
              else if e.fall.getD x 0 = ns then false else if e.rise.getD x 0 = ns then true else bitOf u.h x))
          ∧ (t.stitch n).refresh = (if s.rd p STITCH.REFRESH_W ≤ ns then 0 else u.refresh)
          ∧ (∀ off, off < 0x1000 → ¬(off = STITCH.OUTSTAT ∨ ∃ k, k < 4 ∧ off = STITCH.XSTAT k) → t.reg p off = s.reg p off)
          ∧ ((∀ j, j < 16 → s.auxDue j = false ∧ (s.anaIn j = true → s.rd (pgAXCH j) AXCH.CFG_XSEL ≠ 0 → s.rd (pgAXCH j) AXCH.CFG_XUNIT ≠ n.val)) →
              (∀ q off, off < 0x1000 → q ≠ p → t.reg q off = s.reg q off) ∧ t = { s with regs := t.regs, stitches := t.stitches, stamps := t.stamps })))
    ∧ (∀ leg : Fin 3, exec (.deadTimeEnd n leg) s = .next (if s.legOff n leg = true ∨ s.frozen n = true then s
        else s.wr p STITCH.OUTSTAT_OUT (withBit (s.rd p STITCH.OUTSTAT_OUT) (if s.legH n leg then 2 * leg.val else 2 * leg.val + 1))))
    ∧ (∀ (k : Fin 4) (ns : Nat) (row : Instr),
      row = .auxChannelActivate n k ns ∨ (row = .blankWindowEnd n ∧ s.rd p STITCH.TRIPCFG_BLANK = k.val + 1 ∧ ns = s.rd p (STITCH.XCMP_END k)) →
      let edge := s.on p (STITCH.XCFG_XMODE k) = true
      let now := edge ∨ (ns < 4 * s.rd p STITCH.PERNOW_TICKS ∧ u.wrote.contains (3 + k.val, s.time.raw) = false)
      let elapsed : Prop := ∃ e, u.xEnd.find? (fun e => e.1 = k.val) = some e ∧ s.on p (STITCH.XSTAT_ACTIVE k) = true ∧ geT64 (s.t64 + 63) e.2 = true
      let ends : Prop := run ∧ s.frozen n = false ∧ now ∧ ((edge ∧ elapsed) ∨ (¬edge ∧ s.rd p (STITCH.XCMP_END k) = ns))
      let begins : Prop := run ∧ s.frozen n = false ∧ now ∧ ¬edge ∧ s.rd p (STITCH.XCMP_END k) ≠ ns ∧ s.rd p (STITCH.XCMP_START k) = ns
      let judged := s.rd p STITCH.TRIPCFG_BLANK = k.val + 1 ∧ s.rd p STITCH.TRIPSTAT_LIVE ≠ 0 ∧ s.on p STITCH.TRIPSTAT_LATCH = false
      (¬ends → ¬begins → exec row s = .next s)
      ∧ (begins → ∃ t, exec row s = .next t ∧ t.on p (STITCH.XSTAT_ACTIVE k) = true
          ∧ (∀ j, j < 16 → s.running (pgSTAMP j) = true → s.rd (pgSTAMP j) STAMP.EXTCFG_XKIND = 2 →
              s.rd (pgSTAMP j) STAMP.EXTCFG_XIDX = 4 * n.val + k → (t.stamp j).extSeen = true)
          ∧ (let names (j : Nat) : Prop := s.anaIn j = true ∧ s.rd (pgAXCH j) AXCH.CFG_XSEL = k.val + 1 ∧ s.rd (pgAXCH j) AXCH.CFG_XUNIT = n.val
              let was := s.on p (STITCH.XSTAT_ACTIVE k) = true
              let free (j : Nat) : Prop := (s.ana j).conv = none ∨ ((s.ana j).conv = some .cont ∧ (s.ana j).convAt = s.time.raw)
              (∀ off, off < 0x1000 → off ≠ STITCH.XSTAT k → t.reg p off = s.reg p off)
              ∧ (was ∨ (∀ j, j < 16 → ¬ names j ∧ s.auxDue j = false) → ∀ q off, off < 0x1000 → q ≠ p → t.reg q off = s.reg q off)
              ∧ (∀ j, j < 16 → was ∨ (¬ names j ∧ s.auxDue j = false) → t.ana j = s.ana j)
              ∧ (∀ j, j < 16 → ¬ was → names j → (s.ana j).xAt ≠ some s.time.raw →
                  (free j → t.ana j = { s.ana j with xAt := some s.time.raw, conv := some .aux, convAt := s.time.raw })
                  ∧ (¬ free j → t.ana j = { s.ana j with xAt := some s.time.raw } ∧ t.reg (pgAXCH j) AXCH.XDROP = satInc (s.reg (pgAXCH j) AXCH.XDROP)
                      ∧ bitOf (t.reg (pgAXCH j) HDR.EVT).toNat 1 = true))))
      ∧ (ends → ¬judged → exec row s = .next (s.wr p (STITCH.XSTAT_ACTIVE k) 0))
      ∧ (ends → judged → ∃ t, exec row s = .next t ∧ t.on p (STITCH.XSTAT_ACTIVE k) = false ∧ stitchTripped s t n (s.rd p STITCH.TRIPSTAT_LIVE)))
    ∧ (¬(1 ≤ s.rd p STITCH.TRIPCFG_BLANK ∧ s.rd p STITCH.TRIPCFG_BLANK ≤ 4) → exec (.blankWindowEnd n) s = .next s)
    ∧ (∀ (levels : BitVec 8) (k : Nat),
      let new := (List.range 8).map fun i => (i, levels.getLsbD i, min 256 (match u.trip.find? (fun e => e.1 = i) with
        | some (_, lev, r) => if lev = levels.getLsbD i then r + k else k
        | none => k))
      let w := s.setStitch n { u with trip := new }
      (s.pageOn p = false → exec (.tripInput n levels k) s = .next s)
      ∧ (∀ live, s.pageOn p = true → live < 256 → (∀ i r, (i, levels.getLsbD i, r) ∈ new → bitOf live i = (bitOf (s.rd p STITCH.TRIPCFG_SEL) i
            && levels.getLsbD i == bitOf (s.rd p STITCH.TRIPCFG_ACTHI) i && decide (s.rd p STITCH.TRIPCFG_FILT < r))) →
          let again := live ≠ 0 ∧ u.cleared = some s.time.raw
          let trips := live ≠ 0 ∧ u.cleared ≠ some s.time.raw ∧ s.blanked n = false ∧ s.on p STITCH.TRIPSTAT_LATCH = false
          (¬again → ¬trips → exec (.tripInput n levels k) s = .next (w.wr p STITCH.TRIPSTAT_LIVE live))
          ∧ (trips → ∃ t, exec (.tripInput n levels k) s = .next t ∧ stitchTripped s t n live ∧ t.rd p STITCH.TRIPSTAT_LIVE = live)
          ∧ (again → ∃ t, exec (.tripInput n levels k) s = .next t ∧ t.on p STITCH.TRIPSTAT_LATCH = true ∧ t.on p STITCH.TRIPSTAT_TRIPACT = true
              ∧ t.on p STITCH.OUTSTAT_TRIPOFF = true ∧ t.rd p STITCH.OUTSTAT_OUT = 0 ∧ t.reg p STITCH.CLRREF = satInc (s.reg p STITCH.CLRREF)
              ∧ (s.reg p HDR.ECAP0 = 0 → t.rd p HDR.ECAP0_CODE = 0x6002))))
    ∧ (∀ m : Fin 96, Reaches s m p STITCH.TRIPSTAT true →
      ∃ t, exec (.tripClear m n) s = .next t
        ∧ (s.on p STITCH.TRIPSTAT_LATCH = true → s.rd p STITCH.TRIPSTAT_LIVE = 0 → t.on p STITCH.TRIPSTAT_LATCH = false
            ∧ (t.stitch n).cleared = some s.time.raw)
        ∧ (s.on p STITCH.TRIPSTAT_LATCH = true → s.rd p STITCH.TRIPSTAT_LIVE ≠ 0 → t.on p STITCH.TRIPSTAT_LATCH = true
            ∧ t.on p STITCH.TRIPSTAT_TRIPACT = true ∧ t.reg p STITCH.CLRREF = satInc (s.reg p STITCH.CLRREF)
            ∧ (s.reg p HDR.ECAP0 = 0 → t.rd p HDR.ECAP0_CODE = 0x6002))
        ∧ (s.on p STITCH.TRIPSTAT_LATCH = false → ∀ q off, off < 0x1000 → t.reg q off = s.reg q off))
    ∧ (∀ (m : Fin 96) (v : Word), Reaches s m p STITCH.PERIOD true → exec (.periodWrite m n v) s = .next (if 250 ≤ v.toNat % 0x4000
        then (s.wr p STITCH.PERIOD_TICKS (v.toNat % 0x4000)).setStitch n { u with perOld := some (s.time.raw, s.periodTaken n) } else s.wr p HDR.PSTAT_CFGREJ 1))
    ∧ (∀ (m : Fin 96) (leg : Fin 3) (v : Word), Reaches s m p (STITCH.LEGA + 4 * leg.val) true →
        exec (.compareWrite m n leg v) s = .next ((s.setReg p (STITCH.LEGA + 4 * leg.val) v).setStitch n { u with
          wrote := (leg.val, s.time.raw) :: u.wrote.filter fun e => e.1 ≠ leg.val }))
    ∧ (∀ (m : Fin 96) (v : Word), Reaches s m p STITCH.LEGOFF true → ∃ t, exec (.legoffWrite m n v) s = .next t
        ∧ t.rd p STITCH.LEGOFF_OFF = v.toNat % 8 ∧ (s.frozen n = false → legsSettled s t n)
        ∧ (∀ q off, off < 0x1000 → ¬(q = p ∧ (off = STITCH.LEGOFF ∨ off = STITCH.OUTSTAT)) → t.reg q off = s.reg q off))
    ∧ (s.haltLow = true → exec .haltNRise s = .next s)
    ∧ (s.haltLow = false → ∃ t, exec .haltNRise s = .next t ∧ t = { s with stitches := t.stitches }
        ∧ (∀ k, k < 8 → s.frozen k = true → t.stitch k = { s.stitch k with thaw := true })
        ∧ (∀ k, k < 8 → s.frozen k = false → t.stitch k = s.stitch k))

/-! ### The Awl instructions (chapters 9, 10) -/

/-- Instruction `i` issues on Awl `n` and takes effect: the Awl executes, matches no breakpoint and is not being stepped, no word of memory holds an error, `i` raises no exception of
R266 and does not stall. -/
def Sys2Proof.Ready (s : State) (n : Fin 64) (i : AwlIns) : Prop :=
  s.por = false ∧ s.issues n = true ∧ s.breakHit n = none ∧ (s.awl n).stepping = false ∧ s.flips = [] ∧ s.earlyCause n i = none ∧ s.stalls n i = false

/-- The command answers a next state in which the active bank of Awl `n` is as `f` says. -/
def Sys2Proof.Gives (s : State) (c : Instr) (n : Fin 64) (f : Bank → Prop) : Prop := ∃ t, exec c s = .next t ∧ f (t.act n)

/-- The coefficient at C0 or C1: the aligned word of program memory (R259). -/
def Sys2Proof.coefficient (s : State) (n : Fin 64) (j : Nat) : Word := s.localWord n (((s.act n).AV (32 + j)).toNat % 0x4000 / 4 * 4)

/-- The second source of a data operation. -/
def Sys2Proof.second (s : State) (n : Fin 64) : Src2 → Word
  | .d r => (s.act n).D r
  | .coef => coefficient s n 0

/-- The second source of a multiplication. -/
def Sys2Proof.factor (s : State) (n : Fin 64) : MulSrc → Word
  | .d r => (s.act n).D r
  | .k => coefficient s n 0
  | .c j => coefficient s n j

/-- The flags Z, N, C and V of SR (R207). -/
def Sys2Proof.flagsAre (b : Bank) (z n c v : Bool) : Prop :=
  b.sr.getLsbD 0 = z ∧ b.sr.getLsbD 1 = n ∧ b.sr.getLsbD 2 = c ∧ b.sr.getLsbD 3 = v

/-- An integer saturated to `w` signed bits (R220). -/
def Sys2Proof.saturated (w : Nat) (x : Int) : BitVec w := BitVec.ofInt w (max (-(2 ^ (w - 1))) (min (2 ^ (w - 1) - 1) x))

/-- Dd holds the exact result saturated, with Z and N of it, the carry given, V where it was saturated, and SV then set (R220, R240). -/
def Sys2Proof.saturates (b : Bank) (d : Fin 16) (x : Int) (c : Bool) : Prop :=
  let r := saturated 32 x
  b.D d = r ∧ flagsAre b (r == 0) r.msb c (decide (r.toInt ≠ x)) ∧ (r.toInt ≠ x → b.sr.getLsbD 4 = true)

/-- Dd holds a result that wraps: V where it is not the exact result (R221). -/
def Sys2Proof.wraps (b : Bank) (d : Fin 16) (r : Word) (x : Int) (c : Bool) : Prop := b.D d = r ∧ flagsAre b (r == 0) r.msb c (decide (r.toInt ≠ x))

/-- The same for a pair (R246). -/
def Sys2Proof.pairSaturates (b : Bank) (d : Fin 8) (x : Int) (c : Bool) : Prop :=
  let r := saturated 64 x
  b.D64 d = r ∧ flagsAre b (r == 0) r.msb c (decide (r.toInt ≠ x)) ∧ (r.toInt ≠ x → b.sr.getLsbD 4 = true)

/-- The same for a pair that wraps (R221). -/
def Sys2Proof.pairWraps (b : Bank) (d : Fin 8) (r : BitVec 64) (x : Int) (c : Bool) : Prop :=
  b.D64 d = r ∧ flagsAre b (r == 0) r.msb c (decide (r.toInt ≠ x))

/-- A shift by `k` of R241: left saturating, right arithmetic, right logical. -/
def Sys2Proof.shifts (b : Bank) (d : Fin 16) (op : BinOp) (x : Word) (k : Nat) : Prop :=
  match op with
  | .asl => saturates b d (x.toInt * 2 ^ k) false
  | .asr =>
    let r := BitVec.ofInt 32 (x.toInt / 2 ^ k)
    b.D d = r ∧ flagsAre b (r == 0) r.msb (decide (k ≠ 0 ∧ x.toInt / 2 ^ (k - 1) % 2 = 1)) false
  | _ =>
    let r := BitVec.ofNat 32 (x.toNat / 2 ^ k)
    b.D d = r ∧ flagsAre b (r == 0) r.msb (decide (k ≠ 0 ∧ x.toNat / 2 ^ (k - 1) % 2 = 1)) false

/-- The arithmetic of R221, R222, R229 and R240–R246 on D registers and pairs: MOV, ADD, SUB, ADDW, SUBW, NEG, ABS, AND, OR, XOR, NOT, MIN, MAX, CLIP, ASL, ASR, LSR, NORM, RCPS, RSQS, SCS, CADD, CSUB, CMP, TST, ADDI, ADDWI, ANDI, ORI, XORI,
LDI, CMPI, TSTI, ASLI, ASRI, LSRI, ADDW_64, SUBW_64, ADD_64, SUB_64, MOV_64, CMP_64: an instruction that takes effect gives the result and flags of its exact result; the seeds and SCS come one and two instructions later. -/
def Obligations.AwlArithmetic : Prop :=
  ∀ (s : State) (n : Fin 64) (d a : Fin 16) (x2 : Src2) (mv : Moves) (v : Imm) (k : Fin 32) (e p q : Fin 8),
    let x := (s.act n).D a
    let y := second s n x2
    let z := v.v
    let old := (s.act n).D d
    let P := (s.act n).D64 p
    let Q := (s.act n).D64 q
    let carry (y : Word) := decide (2 ^ 32 ≤ x.toNat + y.toNat)
    let least (c : Word) := 2 ^ 18 * (c.toNat / 2 ^ 18 % 2 ^ 13) + 2 ^ 17
    let inRange := 0x40000000 ≤ x.toNat ∧ x.toNat ≤ 0x7FFFFFFF
    let rootRange := 0x20000000 ≤ x.toNat ∧ x.toNat ≤ 0x7FFFFFFF
    (Ready s n (.una .mov d a mv) → Gives s (.mov n d a mv) n fun b => b.D d = x)
    ∧ (Ready s n (.bin .add d a x2 mv) → Gives s (.add n d a x2 mv) n fun b => saturates b d (x.toInt + y.toInt) (carry y))
    ∧ (Ready s n (.bin .sub d a x2 mv) → Gives s (.sub n d a x2 mv) n fun b => saturates b d (x.toInt - y.toInt) (decide (x.toNat < y.toNat)))
    ∧ (Ready s n (.bin .addw d a x2 mv) → Gives s (.addw n d a x2 mv) n fun b => wraps b d (x + y) (x.toInt + y.toInt) (carry y))
    ∧ (Ready s n (.bin .subw d a x2 mv) → Gives s (.subw n d a x2 mv) n fun b => wraps b d (x - y) (x.toInt - y.toInt) (decide (x.toNat < y.toNat)))
    ∧ (Ready s n (.una .neg d a mv) → Gives s (.neg n d a mv) n fun b => saturates b d (-x.toInt) false)
    ∧ (Ready s n (.una .abs d a mv) → Gives s (.abs n d a mv) n fun b => saturates b d x.toInt.natAbs false)
    ∧ (Ready s n (.bin .and d a x2 mv) → Gives s (.and n d a x2 mv) n fun b => wraps b d (x &&& y) (x &&& y).toInt false)
    ∧ (Ready s n (.bin .or d a x2 mv) → Gives s (.or n d a x2 mv) n fun b => wraps b d (x ||| y) (x ||| y).toInt false)
    ∧ (Ready s n (.bin .xor d a x2 mv) → Gives s (.xor n d a x2 mv) n fun b => wraps b d (x ^^^ y) (x ^^^ y).toInt false)
    ∧ (Ready s n (.una .not d a mv) → Gives s (.not n d a mv) n fun b => wraps b d (~~~x) (~~~x).toInt false)
    ∧ (Ready s n (.bin .min d a x2 mv) → Gives s (.min n d a x2 mv) n fun b => saturates b d (min x.toInt y.toInt) false)
    ∧ (Ready s n (.bin .max d a x2 mv) → Gives s (.max n d a x2 mv) n fun b => saturates b d (max x.toInt y.toInt) false)
    ∧ (Ready s n (.bin .clip d a x2 mv) → Gives s (.clip n d a x2 mv) n fun b =>
        let r := BitVec.ofInt 32 (min y.toInt (max x.toInt old.toInt))
        b.D d = r ∧ flagsAre b (r == 0) r.msb false (decide (r ≠ old)) ∧ (r ≠ old → b.sr.getLsbD 4 = true))
    ∧ (Ready s n (.bin .asl d a x2 mv) → Gives s (.asl n d a x2 mv) n fun b => shifts b d .asl x (y.toNat % 64))
    ∧ (Ready s n (.bin .asr d a x2 mv) → Gives s (.asr n d a x2 mv) n fun b => shifts b d .asr x (y.toNat % 64))
    ∧ (Ready s n (.bin .lsr d a x2 mv) → Gives s (.lsr n d a x2 mv) n fun b => shifts b d .lsr x (y.toNat % 64))
    ∧ (Ready s n (.una .norm d a mv) → Gives s (.norm n d a mv) n fun b => ∃ m : Nat, m ≤ 31 ∧ b.D d = BitVec.ofNat 32 m
        ∧ (∀ j, j < m → x.getLsbD (30 - j) = x.msb) ∧ (m < 31 → x.getLsbD (30 - m) = !x.msb))
    ∧ (Ready s n (.una .rcps d a mv) → Gives s (.rcps n d a mv) n fun b => b.sr.getLsbD 3 = decide ¬inRange ∧ ∃ m : Nat, ⟨1, .d d, m⟩ ∈ b.flight
        ∧ (inRange → 2 ^ 62 ≤ (2 * m + 1) * least x ∧ (2 * m - 1) * least x ≤ 2 ^ 62) ∧ (¬inRange → m = 0x7FFFFFFF ∧ b.sr.getLsbD 4 = true))
    ∧ (Ready s n (.una .rsqs d a mv) → Gives s (.rsqs n d a mv) n fun b => b.sr.getLsbD 3 = decide ¬rootRange ∧ ∃ m : Nat, ⟨1, .d d, m⟩ ∈ b.flight
        ∧ (rootRange → 2 ^ 93 < (2 * m + 1) ^ 2 * least x ∧ (2 * m - 1) ^ 2 * least x ≤ 2 ^ 93) ∧ (¬rootRange → m = 0x7FFFFFFF ∧ b.sr.getLsbD 4 = true))
    ∧ (Ready s n (.una .scs d a mv) → Gives s (.scs n d a mv) n fun b => ⟨2, .d d, (scs x).toNat⟩ ∈ b.flight)
    ∧ (Ready s n (.bin .cadd d a x2 mv) → Gives s (.cadd n d a x2 mv) n fun b =>
        let re := (reOf x).toInt + (reOf y).toInt
        let im := (imOf x).toInt + (imOf y).toInt
        let v := decide ((saturated 16 re).toInt ≠ re) || decide ((saturated 16 im).toInt ≠ im)
        b.D d = saturated 16 re ++ saturated 16 im ∧ flagsAre b (saturated 16 re == 0 && saturated 16 im == 0) (saturated 16 re).msb false v
          ∧ (v = true → b.sr.getLsbD 4 = true))
    ∧ (Ready s n (.bin .csub d a x2 mv) → Gives s (.csub n d a x2 mv) n fun b =>
        let re := (reOf x).toInt - (reOf y).toInt
        let im := (imOf x).toInt - (imOf y).toInt
        let v := decide ((saturated 16 re).toInt ≠ re) || decide ((saturated 16 im).toInt ≠ im)
        b.D d = saturated 16 re ++ saturated 16 im ∧ flagsAre b (saturated 16 re == 0 && saturated 16 im == 0) (saturated 16 re).msb false v
          ∧ (v = true → b.sr.getLsbD 4 = true))
    ∧ (Ready s n (.cmp a x2 mv) → Gives s (.cmp n a x2 mv) n fun b => flagsAre b (x == y) (x.slt y) (decide (x.toNat < y.toNat)) false)
    ∧ (Ready s n (.tst a x2 mv) → Gives s (.tst n a x2 mv) n fun b => flagsAre b (x &&& y == 0) (x &&& y).msb false false)
    ∧ (Ready s n (.binI .add d a v) → Gives s (.addi n d a v) n fun b => saturates b d (x.toInt + z.toInt) (carry z))
    ∧ (Ready s n (.binI .addw d a v) → Gives s (.addwi n d a v) n fun b => wraps b d (x + z) (x.toInt + z.toInt) (carry z))
    ∧ (Ready s n (.binI .and d a v) → Gives s (.andi n d a v) n fun b => wraps b d (x &&& z) (x &&& z).toInt false)
    ∧ (Ready s n (.binI .or d a v) → Gives s (.ori n d a v) n fun b => wraps b d (x ||| z) (x ||| z).toInt false)
    ∧ (Ready s n (.binI .xor d a v) → Gives s (.xori n d a v) n fun b => wraps b d (x ^^^ z) (x ^^^ z).toInt false)
    ∧ (Ready s n (.ldi d v) → Gives s (.ldi n d v) n fun b => b.D d = z)
    ∧ (Ready s n (.cmpi a v) → Gives s (.cmpi n a v) n fun b => flagsAre b (x == z) (x.slt z) (decide (x.toNat < z.toNat)) false)
    ∧ (Ready s n (.tsti a v) → Gives s (.tsti n a v) n fun b => flagsAre b (x &&& z == 0) (x &&& z).msb false false)
    ∧ (Ready s n (.shiftI .asl d a k) → Gives s (.asli n d a k) n fun b => shifts b d .asl x k)
    ∧ (Ready s n (.shiftI .asr d a k) → Gives s (.asri n d a k) n fun b => shifts b d .asr x k)
    ∧ (Ready s n (.shiftI .lsr d a k) → Gives s (.lsri n d a k) n fun b => shifts b d .lsr x k)
    ∧ (Ready s n (.wide .addw e p q) → Gives s (.addw64 n e p q) n fun b => pairWraps b e (P + Q) (P.toInt + Q.toInt) (decide (2 ^ 64 ≤ P.toNat + Q.toNat)))
    ∧ (Ready s n (.wide .subw e p q) → Gives s (.subw64 n e p q) n fun b => pairWraps b e (P - Q) (P.toInt - Q.toInt) (decide (P.toNat < Q.toNat)))
    ∧ (Ready s n (.wide .add e p q) → Gives s (.add64 n e p q) n fun b => pairSaturates b e (P.toInt + Q.toInt) (decide (2 ^ 64 ≤ P.toNat + Q.toNat)))
    ∧ (Ready s n (.wide .sub e p q) → Gives s (.sub64 n e p q) n fun b => pairSaturates b e (P.toInt - Q.toInt) (decide (P.toNat < Q.toNat)))
    ∧ (Ready s n (.mov64 e p) → Gives s (.mov64 n e p) n fun b => b.D64 e = P)
    ∧ (Ready s n (.cmp64 p q) → Gives s (.cmp64 n p q) n fun b => flagsAre b (P == Q) (P.slt Q) (decide (P.toNat < Q.toNat)) false)

/-- An accumulator takes a value: at once for accumulations, two instructions later for other reads (R209). -/
def Sys2Proof.accumulates (b : Bank) (a : Nat) (v : BitVec 72) : Prop := b.E a = v ∧ ⟨2, .ev a, v.toNat⟩ ∈ b.flight

/-- The product of R223: doubled in the mode of SR.FM, with its single case just below 2^63. -/
def Sys2Proof.product (sr x y : BitVec 32) : Int :=
  if sr.getLsbD 8 then min (2 ^ 63 - 1) (2 * (x.toInt * y.toInt)) else x.toInt * y.toInt

/-- The rounded value of a conversion of R224: the accumulator divided by 2^k, to nearest with ties upwards unless SR.RND. -/
def Sys2Proof.converted (sr : Word) (e : BitVec 72) (k : Nat) : Int :=
  (e.toInt + if sr.getLsbD 9 = true ∨ k = 0 then 0 else 2 ^ (k - 1)) / 2 ^ k

/-- The flags of an accumulation are on their way (R209, R225): V for it alone, and SV and SG where they are to be set. -/
def Sys2Proof.reports (b0 b : Bank) (v sv sg : Bool) : Prop :=
  ⟨2, .v, if v then 1 else 0⟩ ∈ b.flight ∧ (sv = true → ⟨2, .sv, 1⟩ ∈ b.flight) ∧ (sg = true → ⟨2, .sg, 1⟩ ∈ b.flight)
    ∧ (sv = false → ⟨2, .sv, 1⟩ ∈ b.flight → ⟨3, .sv, 1⟩ ∈ b0.flight) ∧ (sg = false → ⟨2, .sg, 1⟩ ∈ b.flight → ⟨3, .sg, 1⟩ ∈ b0.flight)

/-- MPY, MAC, MSU, CMPY, CMAC, CMACJ, CLR, MOV_E_LOAD, MOV_CONV, MOV_CCONV, NORM_E, MOVG_READ, MOVG_WRITE (R223–R228, R240, R246): the products and their sums in 72 and in 40 bits, clamped, with V of the instruction and the sticky SV and SG of what was clamped, which
come into SR with the accumulator's visible value; clears, loads and the guard bits; and the conversions of an accumulator, rounded and saturated into a register, a pair or a packed complex word. -/
def Obligations.AwlAccumulators : Prop :=
  ∀ (s : State) (n : Fin 64) (a : Fin 4) (c : Fin 2) (d x1 g : Fin 16) (m2 : MulSrc) (x2 : Src2) (mv : Moves) (k : Fin 64) (form : Option Moves) (p : Fin 8),
    let b0 := s.act n
    let x := b0.D x1
    let y := factor s n m2
    let P := product b0.sr x y
    let acc := (b0.E a).toInt
    let ar := (reOf x).toInt
    let ai := (imOf x).toInt
    let br := (reOf y).toInt
    let bi := (imOf y).toInt
    let re := 2 * c.val
    let im := 2 * c.val + 1
    let part (i : Nat) := (saturated 40 (b0.E i).toInt).toInt
    let put (i : Nat) (v : Int) := (saturated 40 (part i + v)).signExtend 72
    let v0 := converted b0.sr (b0.EV a) k
    let vr := converted b0.sr (b0.EV re) k
    let vi := converted b0.sr (b0.EV im) k
    let one := b0.sr.getLsbD 8 && decide (2 * (x.toInt * y.toInt) = 2 ^ 63)
    let beyond (w : Nat) (v : Int) : Bool := decide ((saturated w v).toInt ≠ v)
    let was := beyond 40 (b0.E re).toInt || beyond 40 (b0.E im).toInt
    let two (u v : Int) : Bool := beyond 40 (part re + u) || beyond 40 (part im + v)
    (∀ (b : Bank) (j : Nat) (v : Bool), (b.apply ⟨j, .v, if v then 1 else 0⟩).sr.getLsbD 3 = v ∧ (b.apply ⟨j, .sv, 1⟩).sr.getLsbD 4 = true
        ∧ (b.apply ⟨j, .sg, 1⟩).sr.getLsbD 5 = true)
    ∧ (Ready s n (.mul .mpy a x1 m2 mv) → Gives s (.mpy n a x1 m2 mv) n fun b => accumulates b a (BitVec.ofInt 72 P) ∧ reports b0 b one one false)
    ∧ (Ready s n (.mul .mac a x1 m2 mv) → Gives s (.mac n a x1 m2 mv) n fun b => accumulates b a (saturated 72 (acc + P))
        ∧ reports b0 b (one || beyond 72 (acc + P)) (one || beyond 72 (acc + P)) (beyond 72 (acc + P)))
    ∧ (Ready s n (.mul .msu a x1 m2 mv) → Gives s (.msu n a x1 m2 mv) n fun b => accumulates b a (saturated 72 (acc - P))
        ∧ reports b0 b (one || beyond 72 (acc - P)) (one || beyond 72 (acc - P)) (beyond 72 (acc - P)))
    ∧ (Ready s n (.cmul .cmpy c x1 m2 mv) → Gives s (.cmpy n c x1 m2 mv) n fun b =>
        accumulates b re (BitVec.ofInt 72 (ar * br - ai * bi)) ∧ accumulates b im (BitVec.ofInt 72 (ar * bi + ai * br)) ∧ reports b0 b false false false)
    ∧ (Ready s n (.cmul .cmac c x1 m2 mv) → Gives s (.cmac n c x1 m2 mv) n fun b =>
        accumulates b re (put re (ar * br - ai * bi)) ∧ accumulates b im (put im (ar * bi + ai * br))
          ∧ (let v := two (ar * br - ai * bi) (ar * bi + ai * br)
            reports b0 b v (v || was) (v || was)))
    ∧ (Ready s n (.cmul .cmacj c x1 m2 mv) → Gives s (.cmacj n c x1 m2 mv) n fun b =>
        accumulates b re (put re (ar * br + ai * bi)) ∧ accumulates b im (put im (ai * br - ar * bi))
          ∧ (let v := two (ar * br + ai * bi) (ai * br - ar * bi)
            reports b0 b v (v || was) (v || was)))
    ∧ (Ready s n (.clr a mv) → Gives s (.clr n a mv) n fun b => accumulates b a 0)
    ∧ (Ready s n (.movE a x1 x2 mv) → Gives s (.movELoad n a x1 x2 mv) n fun b => accumulates b a ((x ++ second s n x2).signExtend 72))
    ∧ (Ready s n (.conv (.d d) a k form) → Gives s (.movConv n (.d d) a k form) n fun b =>
        b.D d = saturated 32 v0 ∧ b.sr.getLsbD 3 = decide ((saturated 32 v0).toInt ≠ v0) ∧ ((saturated 32 v0).toInt ≠ v0 → b.sr.getLsbD 4 = true))
    ∧ (Ready s n (.conv (.pair p) a k form) → Gives s (.movConv n (.pair p) a k form) n fun b =>
        b.D64 p = saturated 64 v0 ∧ b.sr.getLsbD 3 = decide ((saturated 64 v0).toInt ≠ v0) ∧ ((saturated 64 v0).toInt ≠ v0 → b.sr.getLsbD 4 = true))
    ∧ (Ready s n (.cconv d c k form) → Gives s (.movCconv n d c k form) n fun b => b.D d = saturated 16 vr ++ saturated 16 vi
        ∧ b.sr.getLsbD 3 = decide ((saturated 16 vr).toInt ≠ vr ∨ (saturated 16 vi).toInt ≠ vi)
        ∧ ((saturated 16 vr).toInt ≠ vr ∨ (saturated 16 vi).toInt ≠ vi → b.sr.getLsbD 4 = true))
    ∧ (Ready s n (.normE d a) → Gives s (.normE n d a) n fun b => ∃ m : Nat, m ≤ 71 ∧ b.D d = BitVec.ofNat 32 m
        ∧ (∀ j, j < m → (b0.EV a).getLsbD (70 - j) = (b0.EV a).msb) ∧ (m < 71 → (b0.EV a).getLsbD (70 - m) = !(b0.EV a).msb))
    ∧ (Ready s n (.movgRead d a) → Gives s (.movgRead n d a) n fun b => b.D d = BitVec.ofInt 32 ((b0.EV a).toInt / 2 ^ 64))
    ∧ (Ready s n (.movgWrite a g p) → Gives s (.movgWrite n a g p) n fun b =>
        accumulates b a (BitVec.ofNat 72 ((b0.D g).toNat % 2 ^ 8 * 2 ^ 64 + (b0.D64 p).toNat)))

/-- The rows that only compute, move, load and store, with the instruction each spells. -/
def Sys2Proof.dataRow : Instr → Option (Fin 64 × AwlIns)
  | .nop n => some (n, .nop)
  | .nopMoves n mv => some (n, .nopMoves mv)
  | .mov n d a mv => some (n, .una .mov d a mv)
  | .add n d a x mv => some (n, .bin .add d a x mv)
  | .sub n d a x mv => some (n, .bin .sub d a x mv)
  | .addw n d a x mv => some (n, .bin .addw d a x mv)
  | .subw n d a x mv => some (n, .bin .subw d a x mv)
  | .neg n d a mv => some (n, .una .neg d a mv)
  | .abs n d a mv => some (n, .una .abs d a mv)
  | .and n d a x mv => some (n, .bin .and d a x mv)
  | .or n d a x mv => some (n, .bin .or d a x mv)
  | .xor n d a x mv => some (n, .bin .xor d a x mv)
  | .not n d a mv => some (n, .una .not d a mv)
  | .min n d a x mv => some (n, .bin .min d a x mv)
  | .max n d a x mv => some (n, .bin .max d a x mv)
  | .clip n d a x mv => some (n, .bin .clip d a x mv)
  | .asl n d a x mv => some (n, .bin .asl d a x mv)
  | .asr n d a x mv => some (n, .bin .asr d a x mv)
  | .lsr n d a x mv => some (n, .bin .lsr d a x mv)
  | .norm n d a mv => some (n, .una .norm d a mv)
  | .rcps n d a mv => some (n, .una .rcps d a mv)
  | .rsqs n d a mv => some (n, .una .rsqs d a mv)
  | .scs n d a mv => some (n, .una .scs d a mv)
  | .cadd n d a x mv => some (n, .bin .cadd d a x mv)
  | .csub n d a x mv => some (n, .bin .csub d a x mv)
  | .cmp n a x mv => some (n, .cmp a x mv)
  | .tst n a x mv => some (n, .tst a x mv)
  | .mpy n e a x mv => some (n, .mul .mpy e a x mv)
  | .mac n e a x mv => some (n, .mul .mac e a x mv)
  | .msu n e a x mv => some (n, .mul .msu e a x mv)
  | .cmpy n e a x mv => some (n, .cmul .cmpy e a x mv)
  | .cmac n e a x mv => some (n, .cmul .cmac e a x mv)
  | .cmacj n e a x mv => some (n, .cmul .cmacj e a x mv)
  | .clr n e mv => some (n, .clr e mv)
  | .movELoad n e a x mv => some (n, .movE e a x mv)
  | .movConv n d e k f => some (n, .conv d e k f)
  | .movCconv n d e k f => some (n, .cconv d e k f)
  | .addi n d a v => some (n, .binI .add d a v)
  | .addwi n d a v => some (n, .binI .addw d a v)
  | .andi n d a v => some (n, .binI .and d a v)
  | .ori n d a v => some (n, .binI .or d a v)
  | .xori n d a v => some (n, .binI .xor d a v)
  | .ldi n d v => some (n, .ldi d v)
  | .cmpi n a v => some (n, .cmpi a v)
  | .tsti n a v => some (n, .tsti a v)
  | .asli n d a k => some (n, .shiftI .asl d a k)
  | .asri n d a k => some (n, .shiftI .asr d a k)
  | .lsri n d a k => some (n, .shiftI .lsr d a k)
  | .normE n d e => some (n, .normE d e)
  | .movgRead n d e => some (n, .movgRead d e)
  | .movgWrite n e g p => some (n, .movgWrite e g p)
  | .addw64 n d p q => some (n, .wide .addw d p q)
  | .subw64 n d p q => some (n, .wide .subw d p q)
  | .add64 n d p q => some (n, .wide .add d p q)
  | .sub64 n d p q => some (n, .wide .sub d p q)
  | .mov64 n d p => some (n, .mov64 d p)
  | .cmp64 n p q => some (n, .cmp64 p q)
  | .movcRead n d r => some (n, .movcRead d r)
  | .movcWrite n r v => some (n, .movcWrite r v)
  | .ld n d a m => some (n, .ld d a m)
  | .st n d a m => some (n, .st d a m)
  | .ldc n d j => some (n, .ldc d j)
  | _ => none

/-- The rows that issue an instruction of an Awl, with the instruction each spells; ENDT, whose end Latigo sees too, stands for itself. -/
def Sys2Proof.awlRow (c : Instr) : Option (Fin 64 × AwlIns) :=
  match c with
  | .ldq n q r ak off => some (n, .ldq q r ak off)
  | .stq n q r ak off => some (n, .stq q r ak off)
  | .ldqB n q am ak off k => some (n, .ldqB q am ak off k)
  | .stqB n q am ak off k => some (n, .stqB q am ak off k)
  | .waitq n m => some (n, .waitq m)
  | .post n j => some (n, .post j)
  | .trap n k => some (n, .trap k)
  | .rte n => some (n, .rte)
  | .bkpt n k => some (n, .bkpt k)
  | .br n c off => some (n, .br c off)
  | .call n d off => some (n, .call d off)
  | .jmp n c d => some (n, .jmp c d)
  | .loop n c e => some (n, .loop c e)
  | .redo n c => some (n, .redo c)
  | c => dataRow c

/-- The results in flight that are due when instruction `i` has issued (R209). -/
def Sys2Proof.due (s : State) (n : Fin 64) (i : AwlIns) : List Flight :=
  ((s.act n).flight ++ (s.act n).effects (s.localVal n) (s.t64.truncate 32) (s.awl n).bank i).filter fun f => f.left ≤ 1

/-- A data instruction that takes effect is one whole: a register of a bank without a due result keeps its value, every byte of memory outside the stores due keeps its value, the other bank, but for the passes that the repeat buffer's capture breaks, the queue and the registers of every page but the Awl's
instruction counts and what their events change keep theirs, and the PC moves past the instruction where no delay slot, repeat or loop end stands there. -/
def Obligations.AwlDataFrame : Prop :=
  ∀ (s : State) (c : Instr) (n : Fin 64) (i : AwlIns), dataRow c = some (n, i) → Ready s n i → s.rd pgECC ECC.INJCTL_ARM = 0 →
    (∀ f ∈ (s.act n).flight, ∀ o, f.tgt = .mem o → o < 0x8000) →
    ∃ t, exec c s = .next t
      ∧ (∀ r, (∀ f ∈ due s n i, f.tgt ≠ .d r) → (t.act n).D r = (s.act n).D r)
      ∧ (∀ r, (∀ f ∈ due s n i, f.tgt ≠ .e r) → (t.act n).E r = (s.act n).E r)
      ∧ (∀ r, (∀ f ∈ due s n i, f.tgt ≠ .ev r) → (t.act n).EV r = (s.act n).EV r)
      ∧ (∀ r, r < 43 → (∀ f ∈ due s n i, f.tgt ≠ .cr r) → (t.act n).CR r = (s.act n).CR r)
      ∧ (∀ r, r < 43 → (∀ f ∈ due s n i, f.tgt ≠ .av r) → (t.act n).AV r = (s.act n).AV r)
      ∧ (∀ b, b < 32 → (∀ f ∈ due s n i, f.tgt ≠ .sr ∧ (f.tgt = .z → b ≠ 0) ∧ (f.tgt = .n → b ≠ 1) ∧ (f.tgt = .c → b ≠ 2) ∧ (f.tgt = .v → b ≠ 3)
          ∧ (f.tgt = .sv → b ≠ 4) ∧ (f.tgt = .sg → b ≠ 5) ∧ (f.tgt = .sq → b ≠ 6)) → (t.act n).sr.getLsbD b = (s.act n).sr.getLsbD b)
      ∧ (∀ a, (∀ f ∈ due s n i, ∀ o, f.tgt = .mem o → ¬(localBase n + o ≤ a ∧ a < localBase n + o + 4)) → t.byte a = s.byte a)
      ∧ (t.act n).q = (s.act n).q ∧ (t.act n).excm = (s.act n).excm ∧ (t.act n).ctx = (s.act n).ctx ∧ (t.act n).cycl = (s.act n).cycl
      ∧ (t.awl n).bank = (s.awl n).bank ∧ (let o := 1 - (s.awl n).bank
        (t.awl n).get o = { (s.awl n).get o with clean := ((t.awl n).get o).clean }) ∧ (t.awl n).fifo = (s.awl n).fifo
      ∧ (∀ k, k ≠ n.val → t.awl k = s.awl k)
      ∧ t.reg (pgAWL n) AWL.INSTR = satInc (s.reg (pgAWL n) AWL.INSTR)
      ∧ (∀ q off, off < 0x1000 → ¬(q = pgAWL n ∧ (off = AWL.INSTR ∨ off = AWL.COEFSTALL ∨ off = HDR.EVT)) → q ≠ pgMSIX → t.reg q off = s.reg q off)
      ∧ t = { s with mem := t.mem, regs := t.regs, awls := t.awls, wire := t.wire }
      ∧ ((s.act n).br = none → (s.act n).redo = 0 → (s.act n).atEnd (s.act n).pc (insLen i) = false →
          (t.act n).pc = ((s.act n).pc + insLen i) % 0x4000 ∧ (t.act n).br = none)

/-- A local data address through Ak: X memory through A0–A3, Y memory through A4–A7, modulo 8 KB, aligned (R201, R247). -/
def Sys2Proof.localData (s : State) (n : Fin 64) (k : Nat) (off : Word) (w : Nat) : Nat :=
  (if k < 4 then 0x4000 else 0x6000) + ((s.act n).AV k + off).toNat % 0x2000 / w * w

/-- The number of `w` bytes that stands at a local address. -/
def Sys2Proof.localNumber (s : State) (n : Fin 64) (o w : Nat) : Nat := leToNat (s.bytes (localBase n + o) w)

/-- The pointer Ak after a step (R258): plain addition where its length is 0, else within its circular buffer. -/
def Sys2Proof.stepped (s : State) (n : Fin 64) (k : Nat) (step : Int) : Word :=
  let b := s.act n
  let len : Nat := (b.AV (16 + k)).toNat % 2 ^ 14
  if len = 0 then b.AV k + BitVec.ofInt 32 step else b.AV (8 + k) + BitVec.ofInt 32 (((b.AV k - b.AV (8 + k)).toInt + step) % (len : Int))

/-- A pointer register holds a value, as data and in address formation. -/
def Sys2Proof.pointerIs (b : Bank) (r : Nat) (v : Word) : Prop := b.CR r = v ∧ b.AV r = v

/-- NOP, NOP_MOVES, LD, ST, LDC, MOVC_READ, MOVC_WRITE (R238, R247–R248, R258, R259): a local load is visible one instruction later, a store reaches memory three later, each through its pointer, which the modes and the moves then step; control registers are
read and written, those of the loop stack with their writable bits, an address-forming use three instructions later; and a store that is due reaches memory. -/
def Obligations.AwlMovesAndMemory : Prop :=
  ∀ (s : State) (n : Fin 64) (d : Fin 16) (p : Fin 8) (ak : Fin 8) (mode : MemMode) (mv : Moves) (cr : Fin 56) (src : CtlSrc) (j : Fin 2),
    let b0 := s.act n
    let off : Word := match mode with | .index o => o.v | _ => 0
    let o4 := localData s n ak off 4
    let o8 := localData s n ak off 8
    let post (b : Bank) (w : Int) : Prop := match mode with
      | .incr => pointerIs b ak (stepped s n ak w)
      | .step => pointerIs b ak (stepped s n ak (b0.AV (24 + ak)).toInt)
      | _ => True
    let value : Word := match src with | .d r => b0.D r | .imm v => v.v
    (Ready s n .nop → Gives s (.nop n) n fun b => ∀ o v, o < 0x8000 → o % 4 = 0 → b0.flight = [⟨1, .mem o, v⟩] → b.flight = [] ∧ ∃ t, exec (.nop n) s = .next t
        ∧ t.bytes (localBase n + o) 4 = leBytes 4 v ∧ ∀ a, ¬(localBase n + o ≤ a ∧ a < localBase n + o + 4) → t.byte a = s.byte a)
    ∧ (Ready s n (.ld (.d d) ak mode) → Gives s (.ld n (.d d) ak mode) n fun b => ⟨1, .d d, localNumber s n o4 4⟩ ∈ b.flight ∧ post b 4)
    ∧ (Ready s n (.ld (.pair p) ak mode) → Gives s (.ld n (.pair p) ak mode) n fun b => ⟨1, .d (2 * p.val), localNumber s n (o8 + 4) 4⟩ ∈ b.flight
        ∧ ⟨1, .d (2 * p.val + 1), localNumber s n o8 4⟩ ∈ b.flight ∧ post b 8)
    ∧ (Ready s n (.st (.d d) ak mode) → Gives s (.st n (.d d) ak mode) n fun b => ⟨3, .mem o4, (b0.D d).toNat⟩ ∈ b.flight ∧ post b 4)
    ∧ (Ready s n (.st (.pair p) ak mode) → Gives s (.st n (.pair p) ak mode) n fun b => ⟨3, .mem o8, (b0.D (2 * p.val + 1)).toNat⟩ ∈ b.flight
        ∧ ⟨3, .mem (o8 + 4), (b0.D (2 * p.val)).toNat⟩ ∈ b.flight ∧ post b 8)
    ∧ (Ready s n (.ldc d j) → Gives s (.ldc n d j) n fun b => ⟨1, .d d, (coefficient s n j).toNat⟩ ∈ b.flight
        ∧ (let len : Nat := (b0.AV (36 + j.val)).toNat % 2 ^ 14
          pointerIs b (32 + j) (if len = 0 then b0.AV (32 + j) + 4
            else b0.AV (34 + j) + BitVec.ofInt 32 (((b0.AV (32 + j) - b0.AV (34 + j)).toInt + 4) % (len : Int)))))
    ∧ (Ready s n (.nopMoves mv) → Gives s (.nopMoves n mv) n fun b => ∀ m : Move,
        let side (y : Bool) : Prop :=
          let a := m.areg.val + if y then 4 else 0
          let r := m.reg.val + if y then 12 else 8
          pointerIs b a (stepped s n a (b0.AV (24 + a)).toInt)
            ∧ (m.kind = .load → ⟨1, .d r, localNumber s n (localData s n a 0 4) 4⟩ ∈ b.flight)
            ∧ (m.kind = .store → ⟨3, .mem (localData s n a 0 4), (b0.D r).toNat⟩ ∈ b.flight)
            ∧ (m.kind = .loadPair → let k := m.reg.val + if y then 4 else 0
                ⟨1, .d (2 * k), localNumber s n (localData s n a 0 8 + 4) 4⟩ ∈ b.flight ∧ ⟨1, .d (2 * k + 1), localNumber s n (localData s n a 0 8) 4⟩ ∈ b.flight)
        (mv.x = some m → side false) ∧ (mv.y = some m → side true))
    ∧ (Ready s n (.movcRead d cr) → Gives s (.movcRead n d cr) n fun b => b.D d = (if cr.val = 38 then b0.sr else if cr.val = 39 then b0.ctx
        else if cr.val = 40 then b0.cycl else if cr.val = 41 then s.t64.truncate 32 else if cr.val = 42 then BitVec.ofNat 32 (s.awl n).bank else b0.CR cr))
    ∧ (Ready s n (.movcWrite cr src) → Gives s (.movcWrite n cr src) n fun b =>
        (cr.val < 38 → b.CR cr = value ∧ ⟨3, .av cr, value.toNat⟩ ∈ b.flight)
        ∧ (cr.val = 38 → b.sr = value &&& 0x37F)
        ∧ (43 ≤ cr.val → b0.lsp = 0 → b.CR cr = (if cr.val = 43 then (if 4 < value.toNat % 8 then 4 else value &&& 7)
            else if cr.val < 52 then value &&& 0x3FFF else value &&& 0xFFFF)))

/-- Instruction `i` would issue on Awl `n`, but for the queue entries it waits on (R213, R214, R216). -/
def Sys2Proof.Waits (s : State) (n : Fin 64) (i : AwlIns) : Prop :=
  s.por = false ∧ s.issues n = true ∧ s.breakHit n = none ∧ (s.awl n).stepping = false ∧ s.flips = [] ∧ s.earlyCause n i = none ∧ s.stalls n i = true

/-- The oldest-last access on the fabric after a post, and the entry it was posted to (R213, R249). -/
def Sys2Proof.posted (s t : State) (n : Fin 64) (q addr len : Nat) (block : Bool) (dest : Option QDest) (data : Option (List Byte)) : Prop :=
  (t.act n).q1 q = { st := .pending, dest := dest } ∧ (∀ k, k ≠ q → (t.act n).q1 k = (s.act n).q1 k)
    ∧ ∃ it : QItem, (t.awl n).fifo = (s.awl n).fifo ++ [it] ∧ it.q = q ∧ it.bank = (s.awl n).bank ∧ it.addr = addr ∧ it.n = len ∧ it.block = block ∧ it.data = data
      ∧ it.orphan = false

/-- LDQ, STQ, LDQ_B, STQ_B, WAITQ, QUEUE_ENTRY_COMPLETE, POST, ENDT (R27, R212–R216, R249, R251, R468): an access the gate grants is posted to its entry and to the end of the Awl's accesses, with its address, length and store data; one it does not grant freezes the Awl; an instruction
that meets a pending entry stalls; the oldest access is performed at its target, where a gate window shut since is not judged again (the model's reading, notes/assumptions/16.md) and of OUTFLAGS only READY takes the stored value; an access of an abandoned instance would be performed too (the model's reading, notes/assumptions/80.md), one of an instance that lives completes its entry; WAITQ commits what came and frees its entries; POST satisfies a stage; ENDT leaves SR, CTX and the sticky flags and counts the task DONE or LATE. -/
def Obligations.AwlQueue : Prop :=
  ∀ (s : State) (n : Fin 64) (q : Fin 16) (r : Fin 16) (p am ak : Fin 8) (k : Fin 8) (off : Imm) (mask : BitVec 16) (j : Fin 4),
    let b0 := s.act n
    let at_ (w : Nat) := (b0.AV ak + off.v).toNat / w * w
    let len := 8 * (k.val + 1)
    let calm := (b0.q1 q).st = .free ∧ (b0.q1 q).err = false
    let regs : List (QReg × Nat × List Byte) :=
      [(.w16 r, 2, leBytes 2 (b0.D r).toNat), (.w32 r, 4, leBytes 4 (b0.D r).toNat), (.w64 p, 8, leBytes 8 (b0.D64 p).toNat)]
    let block := (List.range (k.val + 1)).flatMap fun i => s.bytes (localBase n + localData s n am (BitVec.ofNat 32 (8 * i)) 8) 8
    (∀ x ∈ regs, calm → Ready s n (.ldq q x.1 ak off) → s.gateKind n (at_ x.2.1) x.2.1 false = none →
      ∃ t, exec (.ldq n q x.1 ak off) s = .next t ∧ posted s t n q (at_ x.2.1) x.2.1 false (some (.reg x.1)) none)
    ∧ (∀ x ∈ regs, calm → Ready s n (.stq q x.1 ak off) → s.gateKind n (at_ x.2.1) x.2.1 true = none →
      ∃ t, exec (.stq n q x.1 ak off) s = .next t ∧ posted s t n q (at_ x.2.1) x.2.1 false none (some x.2.2))
    ∧ (calm → Ready s n (.ldqB q am ak off k) → (∀ i, i ≤ k.val → s.gateKind n (at_ 8 + 8 * i) 8 false = none) →
      ∃ t, exec (.ldqB n q am ak off k) s = .next t ∧ posted s t n q (at_ 8) len true (some (.block (localData s n am 0 8) len)) none)
    ∧ (calm → Ready s n (.stqB q am ak off k) → (∀ i, i ≤ k.val → s.gateKind n (at_ 8 + 8 * i) 8 true = none) →
      ∃ t, exec (.stqB n q am ak off k) s = .next t ∧ posted s t n q (at_ 8) len true none (some block))
    ∧ (∀ x ∈ regs, (Ready s n (.ldq q x.1 ak off) → s.gateKind n (at_ x.2.1) x.2.1 false ≠ none →
        ∃ t, exec (.ldq n q x.1 ak off) s = .next t ∧ t.st (pgAWL n) = 6 ∧ t.on (pgGATE n) GATE.STAT_FROZEN = true)
      ∧ (Ready s n (.stq q x.1 ak off) → s.gateKind n (at_ x.2.1) x.2.1 true ≠ none →
        ∃ t, exec (.stq n q x.1 ak off) s = .next t ∧ t.st (pgAWL n) = 6 ∧ t.on (pgGATE n) GATE.STAT_FROZEN = true)
      ∧ (Ready s n (.ldq q x.1 ak off) → (b0.q1 q).st = .done → s.gateKind n (at_ x.2.1) x.2.1 false = none →
        ∃ t, exec (.ldq n q x.1 ak off) s = .next t ∧ (t.act n).sr.getLsbD 6 = true ∧ (s.reg (pgAWL n) HDR.ECAP0 = 0 → t.rd (pgAWL n) HDR.ECAP0_CODE = 0x4002)))
    ∧ (let stalled : Out := .next (s.modAwl n fun w => { w with qwait := true })
      (∀ x ∈ regs, (Waits s n (.ldq q x.1 ak off) → exec (.ldq n q x.1 ak off) s = stalled) ∧ (Waits s n (.stq q x.1 ak off) → exec (.stq n q x.1 ak off) s = stalled))
      ∧ (Waits s n (.ldqB q am ak off k) → exec (.ldqB n q am ak off k) s = stalled) ∧ (Waits s n (.stqB q am ak off k) → exec (.stqB n q am ak off k) s = stalled)
      ∧ (Waits s n (.waitq mask) → exec (.waitq n mask) s = stalled) ∧ (Waits s n (.post j) → exec (.post n j) s = stalled))
    ∧ (Ready s n (.waitq mask) → Gives s (.waitq n mask) n fun b =>
        (∀ e, e < 16 → mask.getLsbD e = true → (b0.q1 e).st = .done → b.q1 e = {})
        ∧ (∀ e, mask.getLsbD e = false → b.q1 e = b0.q1 e)
        ∧ ((∃ e, e < 16 ∧ mask.getLsbD e = true ∧ (b0.q1 e).err = true) → b.sr.getLsbD 6 = true)
        ∧ (∀ e, e < 16 → mask = BitVec.ofNat 16 (2 ^ e) → (b0.q1 e).st = .done → (b0.q1 e).ok = true → ((b0.q1 e).dest = some (.reg (.w32 r)) →
            b.D r = BitVec.ofNat 32 (leToNat (b0.q1 e).data))
          ∧ ((b0.q1 e).dest = some (.reg (.w16 r)) → b.D r = (BitVec.ofNat 16 (leToNat (b0.q1 e).data)).signExtend 32)
          ∧ ((b0.q1 e).dest = some (.reg (.w64 p)) → b.D64 p = BitVec.ofNat 64 (leToNat (b0.q1 e).data))))
    ∧ (s.por = false → (s.awl n).fifo = [] → exec (.queueEntryComplete n) s = .next s)
    ∧ (∀ (it : QItem) (rest : List QItem), s.por = false → (s.awl n).fifo = it :: rest → it.block = false → it.orphan = false → s.flips = [] →
        0x01000000 ≤ it.addr → it.addr + it.n ≤ 0x01800000 → (s.gateKind n it.addr it.n it.data.isSome).all (· < 3) = true →
        ∃ t, exec (.queueEntryComplete n) s = .next t ∧ (t.awl n).fifo = rest
          ∧ (it.data = none → ((t.awl n).get it.bank).q1 it.q
                = { (((s.awl n).get it.bank).q1 it.q) with st := .done, data := s.bytes it.addr it.n, ok := true, err := false } ∧ ∀ a, t.byte a = s.byte a)
          ∧ (∀ d, it.data = some d → d.length = it.n → ((t.awl n).get it.bank).q1 it.q = {} ∧ t.bytes it.addr it.n = s.storedBytes it.addr d
              ∧ ∀ a, ¬(it.addr ≤ a ∧ a < it.addr + it.n) → t.byte a = s.byte a))
    ∧ (∀ tok, Ready s n (.post j) → s.tokenAt n (s.awl n).bank = some tok → tok.posted.contains j.val = false →
        ∃ t, exec (.post n j) s = .next t ∧ (tok.cyc, 0x4000 + 0x1000 * j.val + tok.task) ∈ t.cinch.events
          ∧ ∀ u ∈ t.cinch.tokens, u.cyc = tok.cyc → 0x4000 + 0x1000 * j.val + tok.task ∉ u.waits)
    ∧ (Ready s n .endt → b0.flight = [] → b0.q = [] → ∃ t, exec (.endt n) s = .next t ∧ t.reg (pgAWL n) AWL.ENDSR = b0.sr ∧ t.reg (pgAWL n) AWL.ENDCTX = b0.ctx
        ∧ t.reg (pgAWL n) AWL.STICKY = s.reg (pgAWL n) AWL.STICKY ||| (b0.sr >>> 4 &&& 7) ∧ (t.act n).excm = false ∧ (t.act n).br = none ∧ (t.act n).redo = 0
        ∧ (∀ tok, s.tokenAt n (s.awl n).bank = some tok →
            t.reg pgCINCH (if tok.late then CINCH.LATE else CINCH.DONE) = satInc (s.reg pgCINCH (if tok.late then CINCH.LATE else CINCH.DONE))))

/-- Exception entry (R267, R268): the frame in the bank's exception area holds the return address and SR, the cause with its argument, and the detail; A3 points to it, LOOP, the repeat counter and the pending branch are put away, a branch that is not taken as none (the model's choice, notes/assumptions/122.md), and the PC is at the entry; a cause is kept and counted.  Entry is only possible once per bank and while EN is set; else the Awl is FAULTED with 0x4003 (R270). -/
def Sys2Proof.excepts (s : State) (c : Instr) (n : Fin 64) (cause arg detail epc : Nat) : Prop :=
  let p := pgAWL n
  let area := 0x1F00 + 0x80 * (s.awl n).bank
  let open_ := s.on p AWL.EXCCFG_EN = true ∧ (s.act n).excm = false
  (open_ → s.on p AWL.DBGCTL_EXCHALT = false → ∃ t, exec c s = .next t ∧ (t.act n).pc = s.rd p AWL.EXCCFG_ENTRY / 4 * 4 ∧ (t.act n).excm = true ∧ (t.act n).flight = []
      ∧ (t.act n).br = none ∧ (t.act n).redo = 0 ∧ pointerIs (t.act n) 3 (BitVec.ofNat 32 area) ∧ (t.act n).lsp = 0
      ∧ t.rd p AWL.EXCSTAT_LAST = cause ∧ t.reg p AWL.EXCCNT = satInc (s.reg p AWL.EXCCNT) ∧ bitOf (t.reg p HDR.EVT).toNat 3 = true
      ∧ t.bytes (localBase n + 0x4000 + area) 4 = leBytes 4 (epc % 0x4000) ∧ t.bytes (localBase n + 0x4000 + area + 4) 4 = leBytes 4 (t.act n).sr.toNat
      ∧ t.bytes (localBase n + 0x4000 + area + 8) 4 = leBytes 4 (0x100 * arg + cause) ∧ t.bytes (localBase n + 0x4000 + area + 12) 4 = leBytes 4 detail
      ∧ t.bytes (localBase n + 0x4000 + area + 20) 4 = leBytes 4 (match (s.act n).br with | some (k, some to_) => 2 ^ 31 + 0x10000 * (k % 4) + to_ | _ => 0)
      ∧ t.bytes (localBase n + 0x4000 + area + 28) 4 = leBytes 4 0)
    ∧ (¬open_ → ∃ t, exec c s = .next t ∧ t.st p = 5 ∧ (s.reg p HDR.ECAP0 = 0 → t.rd p HDR.ECAP0_CODE = 0x4003))

/-- BR, CALL, JMP, LOOP, REDO, TRAP, RTE, BKPT, ILLEGAL_INSTRUCTION (R252–R270): a branch takes effect after two delay slots; a call leaves the address after them; a loop pushes its level, and its end repeats the body or pops it; REDO repeats the next instruction; a count of 0 skips;
an instruction at END in a slot of a taken branch is LOOPSTR whatever it computes (in a slot of one that is not taken it counts, the model's choice, notes/assumptions/18.md);
a software trap, an armed breakpoint instruction and a reserved word enter the exception, RTE returns to the frame, whose slot count 0 is no pending branch (the model's choice, notes/assumptions/18.md), and a breakpoint instruction leaves its number for the debugger.  An Awl that does not execute does nothing, a breakpoint halts it, and a cause of R266 excepts, whatever row comes. -/
def Obligations.AwlFlow : Prop :=
  ∀ (s : State) (n : Fin 64),
    let b0 := s.act n
    let pc := b0.pc
    let next := (pc + 4) % 0x4000
    let p := pgAWL n
    let calm := b0.br = none ∧ b0.redo = 0
    let target (off : BitVec 13) : Nat := (((pc : Int) + 4 * off.toInt) % 0x4000).toNat
    let count : Count → Nat := fun c => match c with | .imm k => k.toNat | .reg r => (b0.D r).toNat % 0x10000
    (∀ (c : Fin 14) (off : BitVec 13), Ready s n (.br c off) → Gives s (.br n c off) n fun b =>
        b.pc = next ∧ b.br = some (2, if condTrue c b0.sr then some (target off) else none))
    ∧ (∀ (d : Fin 16) (off : BitVec 13), Ready s n (.call d off) → Gives s (.call n d off) n fun b =>
        let second := (next + s.lenAt n next) % 0x4000
        b.pc = next ∧ b.br = some (2, some (target off)) ∧ b.D d = BitVec.ofNat 32 ((second + s.lenAt n second) % 0x4000))
    ∧ (∀ (c : Fin 14) (d : Fin 16), Ready s n (.jmp c d) → Gives s (.jmp n c d) n fun b =>
        b.pc = next ∧ b.br = some (2, if condTrue c b0.sr then some ((b0.D d).toNat % 0x4000 / 4 * 4) else none))
    ∧ (∀ t : Option Nat, Ready s n .nop → b0.redo = 0 → b0.atEnd pc 4 = false →
        (b0.br = some (2, t) → Gives s (.nop n) n fun b => b.pc = next ∧ b.br = some (1, t))
        ∧ (b0.br = some (1, t) → Gives s (.nop n) n fun b => b.pc = t.getD next ∧ b.br = none))
    ∧ (∀ (c : Count) (e : LoopEnd) (last : Nat), Ready s n (.loop c e) → loopEnd pc e = some last → b0.lsp < 4 →
        let after := (pc + insLen (.loop c e)) % 0x4000
        (count c ≠ 0 → Gives s (.loop n c e) n fun b => b.pc = after ∧ b.lsp = b0.lsp + 1 ∧ b.lsStart b0.lsp = after ∧ b.lsEnd b0.lsp = last ∧ b.lsCount b0.lsp = count c)
        ∧ (count c = 0 → b0.flight = [] → Gives s (.loop n c e) n fun b => b.pc = s.afterBody n last 4096 after ∧ b.lsp = b0.lsp))
    ∧ (∀ l : Nat, Ready s n .nop → calm → b0.flight = [] → b0.lsp = l + 1 → l < 4 → b0.lsEnd l = pc →
        (2 ≤ b0.lsCount l → b0.lsCount l ≤ 0xFFFF → Gives s (.nop n) n fun b => b.pc = b0.lsStart l ∧ b.lsCount l = b0.lsCount l - 1 ∧ b.lsp = l + 1)
        ∧ (b0.lsCount l = 1 → (l = 0 ∨ b0.lsEnd (l - 1) ≠ pc) → Gives s (.nop n) n fun b => b.pc = next ∧ b.lsp = l))
    ∧ (∀ c : Count, Ready s n (.redo c) →
        (count c ≠ 0 → Gives s (.redo n c) n fun b => b.pc = next ∧ b.redo = count c)
        ∧ (count c = 0 → b0.atEnd next (s.lenAt n next) = false → Gives s (.redo n c) n fun b => b.pc = (next + s.lenAt n next) % 0x4000 ∧ b.redo = 0))
    ∧ (Ready s n (.nopMoves {}) → b0.br = none →
        (2 ≤ b0.redo → Gives s (.nopMoves n {}) n fun b => b.pc = pc ∧ b.redo = b0.redo - 1)
        ∧ (b0.redo = 1 → b0.atEnd pc 4 = false → Gives s (.nopMoves n {}) n fun b => b.pc = next ∧ b.redo = 0))
    ∧ (∀ (c : Instr) (i : AwlIns) (k to_ : Nat), dataRow c = some (n, i) → unencodable i = false → s.por = false → (s.awl n).stepping = false → s.issues n = true →
        s.breakHit n = none → s.flips = [] → b0.redo = 0 → b0.br = some (k, some to_) → b0.atEnd pc (insLen i) = true → excepts s c n 3 0 0 pc)
    ∧ (∀ k : BitVec 8, Ready s n (.trap k) → excepts s (.trap n k) n 4 k.toNat 0 next)
    ∧ (∀ k : BitVec 8, Ready s n (.bkpt k) → calm → b0.atEnd pc 4 = false →
        (s.on p AWL.DBGCTL_BKEN = true → ∃ t, exec (.bkpt n k) s = .next t ∧ t.halted n = true ∧ t.rd p AWL.DBGSTAT_REASON = 2 ∧ (t.act n).pc = next
            ∧ (t.awl n).bkpt = some k)
        ∧ (s.on p AWL.DBGCTL_BKEN = false → excepts s (.bkpt n k) n 5 k.toNat 0 next))
    ∧ (Ready s n .rte → b0.flight = [] →
        let f (i : Nat) : Word := s.localWord n (0x4000 + 0x1F00 + 0x80 * (s.awl n).bank + 4 * i)
        Gives s (.rte n) n fun b => b.pc = (f 0).toNat % 0x4000 ∧ b.sr = f 1 &&& 0x37F ∧ b.excm = false ∧ pointerIs b 3 (f 6) ∧ b.lsp = min 4 ((f 4).toNat % 8)
          ∧ b.redo = (f 4).toNat / 0x10000 ∧ (b.br = if (f 5).getLsbD 31 = true ∧ (f 5).toNat / 0x10000 % 4 ≠ 0
            then some ((f 5).toNat / 0x10000 % 4, some ((f 5).toNat % 0x4000)) else none))
    ∧ (∀ w x : Word, s.por = false → s.issues n = true → s.breakHit n = none → (s.awl n).stepping = false → s.flips = [] →
        (awlDecode w x = none → excepts s (.illegalInstruction n w x) n 1 0 w.toNat pc)
        ∧ (∀ i, awlDecode w x = some i → (∀ c e, i ≠ .loop c e) → exec (.illegalInstruction n w x) s = .next s))
    ∧ (∀ (c : Instr) (i : AwlIns), awlRow c = some (n, i) → s.por = false → (s.awl n).stepping = false →
        (s.issues n = false → exec c s = .next s)
        ∧ (∀ r, s.issues n = true → s.breakHit n = some r → ∃ t, exec c s = .next t ∧ t.halted n = true ∧ t.rd p AWL.DBGSTAT_REASON = r ∧ (t.act n).pc = pc
            ∧ (t.act n).flight = [])
        ∧ (∀ z, s.issues n = true → s.breakHit n = none → s.flips = [] → s.earlyCause n i = some z → excepts s c n z.1 0 z.2 pc))

end
end

