-- ==== Sys2Proof/Laws/Pages.lean ====
section
/-! SUPPORT. The kind and the instance of the pages of R65, family by family. -/
namespace Sys2Proof.Machine

@[simp] theorem kind_PLNT (n : Fin 2) : pageKind (pgPLNT n) = some .plnt := by revert n; decide
@[simp] theorem inst_PLNT (n : Fin 2) : pageInst (pgPLNT n) = n := by revert n; decide
@[simp] theorem kind_NPORT (n : Fin 32) : pageKind (pgNPORT n) = some .nport := by revert n; decide
@[simp] theorem inst_NPORT (n : Fin 32) : pageInst (pgNPORT n) = n := by revert n; decide
@[simp] theorem kind_CINCHB (n : Fin 8) : pageKind (pgCINCHB n) = some .cinchb := by revert n; decide
@[simp] theorem inst_CINCHB (n : Fin 8) : pageInst (pgCINCHB n) = n := by revert n; decide
@[simp] theorem kind_AWL (n : Fin 64) : pageKind (pgAWL n) = some .awl := by revert n; decide
@[simp] theorem inst_AWL (n : Fin 64) : pageInst (pgAWL n) = n := by revert n; decide
@[simp] theorem kind_BENCH (n : Fin 8) : pageKind (pgBENCH n) = some .bench := by revert n; decide
@[simp] theorem inst_BENCH (n : Fin 8) : pageInst (pgBENCH n) = n := by revert n; decide
@[simp] theorem kind_PGB (n : Fin 8) : pageKind (pgPGB n) = some .pgb := by revert n; decide
@[simp] theorem inst_PGB (n : Fin 8) : pageInst (pgPGB n) = n := by revert n; decide
@[simp] theorem kind_IGRP (n : Fin 32) : pageKind (pgIGRP n) = some .igrp := by revert n; decide
@[simp] theorem inst_IGRP (n : Fin 32) : pageInst (pgIGRP n) = n := by revert n; decide
@[simp] theorem kind_STITCH (n : Fin 8) : pageKind (pgSTITCH n) = some .stitch := by revert n; decide
@[simp] theorem inst_STITCH (n : Fin 8) : pageInst (pgSTITCH n) = n := by revert n; decide
@[simp] theorem kind_FBCH (n : Fin 16) : pageKind (pgFBCH n) = some .fbch := by revert n; decide
@[simp] theorem inst_FBCH (n : Fin 16) : pageInst (pgFBCH n) = n := by revert n; decide
@[simp] theorem kind_AXCH (n : Fin 16) : pageKind (pgAXCH n) = some .axch := by revert n; decide
@[simp] theorem inst_AXCH (n : Fin 16) : pageInst (pgAXCH n) = n := by revert n; decide
@[simp] theorem kind_STAMP (n : Fin 16) : pageKind (pgSTAMP n) = some .stamp := by revert n; decide
@[simp] theorem inst_STAMP (n : Fin 16) : pageInst (pgSTAMP n) = n := by revert n; decide
@[simp] theorem kind_SF (n : Fin 16) : pageKind (pgSF n) = some .sf := by revert n; decide
@[simp] theorem inst_SF (n : Fin 16) : pageInst (pgSF n) = n := by revert n; decide
@[simp] theorem kind_DMA (n : Fin 8) : pageKind (pgDMA n) = some .dma := by revert n; decide
@[simp] theorem inst_DMA (n : Fin 8) : pageInst (pgDMA n) = n := by revert n; decide
@[simp] theorem kind_GATE (n : Fin 96) : pageKind (pgGATE n) = some .gate := by revert n; decide
@[simp] theorem inst_GATE (n : Fin 96) : pageInst (pgGATE n) = n := by revert n; decide
@[simp] theorem kind_GLOB : pageKind pgGLOB = some .glob := by decide
@[simp] theorem inst_GLOB : pageInst pgGLOB = 0 := by decide
@[simp] theorem kind_PWR : pageKind pgPWR = some .pwr := by decide
@[simp] theorem inst_PWR : pageInst pgPWR = 0 := by decide
@[simp] theorem kind_CLK : pageKind pgCLK = some .clk := by decide
@[simp] theorem inst_CLK : pageInst pgCLK = 0 := by decide
@[simp] theorem kind_BOOT : pageKind pgBOOT = some .boot := by decide
@[simp] theorem inst_BOOT : pageInst pgBOOT = 0 := by decide
@[simp] theorem kind_TACK : pageKind pgTACK = some .tack := by decide
@[simp] theorem inst_TACK : pageInst pgTACK = 0 := by decide
@[simp] theorem kind_FLT : pageKind pgFLT = some .flt := by decide
@[simp] theorem inst_FLT : pageInst pgFLT = 0 := by decide
@[simp] theorem kind_ECC : pageKind pgECC = some .ecc := by decide
@[simp] theorem inst_ECC : pageInst pgECC = 0 := by decide
@[simp] theorem kind_TIME : pageKind pgTIME = some .time := by decide
@[simp] theorem inst_TIME : pageInst pgTIME = 0 := by decide
@[simp] theorem kind_TPIN : pageKind pgTPIN = some .tpin := by decide
@[simp] theorem inst_TPIN : pageInst pgTPIN = 0 := by decide
@[simp] theorem kind_GIRTH : pageKind pgGIRTH = some .girth := by decide
@[simp] theorem inst_GIRTH : pageInst pgGIRTH = 0 := by decide
@[simp] theorem kind_LAT : pageKind pgLAT = some .lat := by decide
@[simp] theorem inst_LAT : pageInst pgLAT = 0 := by decide
@[simp] theorem kind_CINCH : pageKind pgCINCH = some .cinch := by decide
@[simp] theorem inst_CINCH : pageInst pgCINCH = 0 := by decide
@[simp] theorem kind_PG : pageKind pgPG = some .pg := by decide
@[simp] theorem inst_PG : pageInst pgPG = 0 := by decide
@[simp] theorem kind_ANA : pageKind pgANA = some .ana := by decide
@[simp] theorem inst_ANA : pageInst pgANA = 0 := by decide
@[simp] theorem kind_BUCKLE : pageKind pgBUCKLE = some .buckle := by decide
@[simp] theorem inst_BUCKLE : pageInst pgBUCKLE = 0 := by decide
@[simp] theorem kind_STO : pageKind pgSTO = some .sto := by decide
@[simp] theorem inst_STO : pageInst pgSTO = 0 := by decide
@[simp] theorem kind_FLD : pageKind pgFLD = some .fld := by decide
@[simp] theorem inst_FLD : pageInst pgFLD = 0 := by decide
@[simp] theorem kind_FLDDI : pageKind pgFLDDI = some .flddi := by decide
@[simp] theorem inst_FLDDI : pageInst pgFLDDI = 0 := by decide
@[simp] theorem kind_FLDDO : pageKind pgFLDDO = some .flddo := by decide
@[simp] theorem inst_FLDDO : pageInst pgFLDDO = 0 := by decide
@[simp] theorem kind_HOST : pageKind pgHOST = some .host := by decide
@[simp] theorem inst_HOST : pageInst pgHOST = 0 := by decide
@[simp] theorem kind_MSIX : pageKind pgMSIX = some .msix := by decide
@[simp] theorem inst_MSIX : pageInst pgMSIX = 0 := by decide
@[simp] theorem kind_DBG : pageKind pgDBG = some .dbg := by decide
@[simp] theorem inst_DBG : pageInst pgDBG = 0 := by decide

end Sys2Proof.Machine
end

