-- ==== Sys2Proof/Laws/Sparse.lean ====
section
/-! SUPPORT. The laws of sparse maps: a read after a write, and the canonical form that every write keeps. -/
namespace Sys2Proof.Machine.Sp

variable {α : Type}

theorem get_erase (d : Nat → α) (m : List (Nat × α)) (k i : Nat) : get d (erase m k) i = if i = k then d i else get d m i := by
  induction m with
  | nil => simp [erase, get]
  | cons e m ih =>
    obtain ⟨j, v⟩ := e
    by_cases hj : j = k
    · subst hj
      simp only [erase, ↓reduceIte, ih, get]
      by_cases hi : i = j
      · simp [hi]
      · simp [hi, Ne.symm hi]
    · simp only [erase, if_neg hj, get, ih]
      by_cases hi : i = k
      · subst hi; simp [hj]
      · simp [hi]

theorem get_insert (d : Nat → α) (m : List (Nat × α)) (k i : Nat) (v : α) :
    get d (insert (erase m k) k v) i = if i = k then v else get d m i := by
  induction m with
  | nil => simp [erase, insert, get, eq_comm]
  | cons e m ih =>
    obtain ⟨j, w⟩ := e
    by_cases hj : j = k
    · subst hj
      simp only [erase, ↓reduceIte, ih, get]
      by_cases hi : i = j
      · simp [hi]
      · simp [hi, Ne.symm hi]
    · simp only [erase, if_neg hj, insert, get]
      by_cases hk : k < j
      · simp only [hk, if_true, get, get_erase]
        by_cases hi : i = k
        · simp [hi]
        · simp [hi, Ne.symm hi]
      · simp only [hk, if_false, get, ih]
        by_cases hi : i = k
        · subst hi; simp [hj]
        · simp [hi]

/-- A read after a write. -/
theorem get_set [DecidableEq α] (d : Nat → α) (m : List (Nat × α)) (k i : Nat) (v : α) :
    get d (set d m k v) i = if i = k then v else get d m i := by
  unfold set
  split
  · rename_i h
    rw [get_erase]
    split
    · rename_i hi; rw [hi, h]
    · rfl
  · exact get_insert d m k i v

@[simp] theorem get_set_same [DecidableEq α] (d : Nat → α) (m : List (Nat × α)) (k : Nat) (v : α) : get d (set d m k v) k = v := by
  simp [get_set]

theorem get_set_other [DecidableEq α] (d : Nat → α) (m : List (Nat × α)) {k i : Nat} (v : α) (h : i ≠ k) :
    get d (set d m k v) i = get d m i := by
  simp [get_set, h]

theorem above_trans {a b : Nat} {m : List (Nat × α)} (h : a ≤ b) (hb : above b m = true) : above a m = true := by
  induction m with
  | nil => rfl
  | cons e m ih =>
    simp only [above, Bool.and_eq_true, decide_eq_true_eq] at hb ⊢
    exact ⟨by omega, ih hb.2⟩

theorem above_erase {a k : Nat} {m : List (Nat × α)} (h : above a m = true) : above a (erase m k) = true := by
  induction m with
  | nil => rfl
  | cons e m ih =>
    obtain ⟨j, v⟩ := e
    simp only [above, Bool.and_eq_true, decide_eq_true_eq] at h
    simp only [erase]
    split
    · exact ih h.2
    · simp only [above, Bool.and_eq_true, decide_eq_true_eq]; exact ⟨h.1, ih h.2⟩

theorem above_insert {a k : Nat} {v : α} {m : List (Nat × α)} (hk : a < k) (h : above a m = true) : above a (insert m k v) = true := by
  induction m with
  | nil => simp [insert, above, hk]
  | cons e m ih =>
    obtain ⟨j, w⟩ := e
    simp only [above, Bool.and_eq_true, decide_eq_true_eq] at h
    simp only [insert]
    split
    · simp [above, hk, h]
    · simp [above, h, ih h.2]

theorem wf_erase [DecidableEq α] {d : Nat → α} {m : List (Nat × α)} (k : Nat) (h : wf d m = true) : wf d (erase m k) = true := by
  induction m with
  | nil => rfl
  | cons e m ih =>
    obtain ⟨j, v⟩ := e
    simp only [wf, Bool.and_eq_true] at h
    simp only [erase]
    split
    · exact ih h.2
    · simp only [wf, Bool.and_eq_true]; exact ⟨⟨above_erase h.1.1, h.1.2⟩, ih h.2⟩

theorem wf_insert [DecidableEq α] {d : Nat → α} {m : List (Nat × α)} {k : Nat} {v : α} (hv : v ≠ d k) (h : wf d m = true) :
    wf d (insert (erase m k) k v) = true := by
  induction m with
  | nil => simp [erase, insert, wf, above, hv]
  | cons e m ih =>
    obtain ⟨j, w⟩ := e
    simp only [wf, Bool.and_eq_true] at h
    simp only [erase]
    split
    · exact ih h.2
    · rename_i hj
      simp only [insert]
      split
      · rename_i hk
        simp only [wf, above, Bool.and_eq_true, decide_eq_true_eq]
        exact ⟨⟨⟨hk, above_erase (above_trans (Nat.le_of_lt hk) h.1.1)⟩, hv⟩, ⟨above_erase h.1.1, by simpa using h.1.2⟩, wf_erase k h.2⟩
      · rename_i hk
        simp only [wf, Bool.and_eq_true]
        exact ⟨⟨above_insert (by omega) (above_erase h.1.1), h.1.2⟩, ih h.2⟩

/-- Every write keeps the canonical form. -/
theorem wf_set [DecidableEq α] {d : Nat → α} {m : List (Nat × α)} (k : Nat) (v : α) (h : wf d m = true) : wf d (set d m k v) = true := by
  unfold set
  split
  · exact wf_erase k h
  · rename_i hv; exact wf_insert hv h

theorem above_filter {a : Nat} (f : Nat × α → Bool) {m : List (Nat × α)} (h : above a m = true) : above a (m.filter f) = true := by
  induction m with
  | nil => rfl
  | cons e m ih =>
    simp only [above, Bool.and_eq_true, decide_eq_true_eq] at h
    simp only [List.filter]
    split
    · simp only [above, Bool.and_eq_true, decide_eq_true_eq]; exact ⟨h.1, ih h.2⟩
    · exact ih h.2

/-- Dropping entries keeps the canonical form. -/
theorem wf_filter [DecidableEq α] {d : Nat → α} (f : Nat × α → Bool) {m : List (Nat × α)} (h : wf d m = true) :
    wf d (m.filter f) = true := by
  induction m with
  | nil => rfl
  | cons e m ih =>
    simp only [wf, Bool.and_eq_true] at h
    simp only [List.filter]
    split
    · simp only [wf, Bool.and_eq_true]; exact ⟨⟨above_filter f h.1.1, h.1.2⟩, ih h.2⟩
    · exact ih h.2

theorem erase_above {a k : Nat} {m : List (Nat × α)} (h : above a m = true) (hk : k ≤ a) : erase m k = m := by
  induction m with
  | nil => rfl
  | cons e m ih =>
    obtain ⟨j, v⟩ := e
    simp only [above, Bool.and_eq_true, decide_eq_true_eq] at h
    simp only [erase, if_neg (show j ≠ k by omega), ih h.2]

theorem get_above {d : Nat → α} {a k : Nat} {m : List (Nat × α)} (h : above a m = true) (hk : k ≤ a) : get d m k = d k := by
  induction m with
  | nil => rfl
  | cons e m ih =>
    obtain ⟨j, v⟩ := e
    simp only [above, Bool.and_eq_true, decide_eq_true_eq] at h
    simp only [get, if_neg (show j ≠ k by omega), ih h.2]

theorem insert_above {k : Nat} {v : α} {m : List (Nat × α)} (h : above k m = true) : insert m k v = (k, v) :: m := by
  cases m with
  | nil => rfl
  | cons e m =>
    obtain ⟨j, w⟩ := e
    simp only [above, Bool.and_eq_true, decide_eq_true_eq] at h
    simp only [insert, if_pos h.1]

/-- Writing what a key reads as changes nothing. -/
theorem set_get [DecidableEq α] {d : Nat → α} {m : List (Nat × α)} (k : Nat) (h : wf d m = true) : set d m k (get d m k) = m := by
  induction m with
  | nil => simp [set, get, erase]
  | cons e m ih =>
    obtain ⟨j, v⟩ := e
    simp only [wf, Bool.and_eq_true, decide_eq_true_eq] at h
    by_cases hj : j = k
    · subst hj
      simp only [get, ↓reduceIte, set, if_neg h.1.2, erase, erase_above h.1.1 (Nat.le_refl _), insert_above h.1.1]
    · have ih' := ih h.2
      simp only [get, if_neg hj, set, erase] at ih' ⊢
      split at ih' <;> rename_i hg
      · rw [if_pos hg, ih']
      · rw [if_neg hg]
        have hk : j < k := by
          rcases Nat.lt_or_ge j k with hlt | hge
          · exact hlt
          · exact absurd (get_above h.1.1 hge) hg
        simp only [insert, if_neg (show ¬ k < j by omega), ih']

end Sys2Proof.Machine.Sp
end

