-- ==== Sys2Proof/Laws/State.lean ====
section
/-! SUPPORT. One lemma per field of the state per update of it: what the update leaves, and what a read of the updated record gives. -/
namespace Sys2Proof.Machine.State

variable (s : State)

/-! ### setReg -/

@[simp] theorem mem_setReg (p off : Nat) (w : Word) : (s.setReg p off w).mem = s.mem := rfl
@[simp] theorem flips_setReg (p off : Nat) (w : Word) : (s.setReg p off w).flips = s.flips := rfl
@[simp] theorem time_setReg (p off : Nat) (w : Word) : (s.setReg p off w).time = s.time := rfl
@[simp] theorem girth_setReg (p off : Nat) (w : Word) : (s.setReg p off w).girth = s.girth := rfl
@[simp] theorem ports_setReg (p off : Nat) (w : Word) : (s.setReg p off w).ports = s.ports := rfl
@[simp] theorem axes_setReg (p off : Nat) (w : Word) : (s.setReg p off w).axes = s.axes := rfl
@[simp] theorem pgs_setReg (p off : Nat) (w : Word) : (s.setReg p off w).pgs = s.pgs := rfl
@[simp] theorem igrps_setReg (p off : Nat) (w : Word) : (s.setReg p off w).igrps = s.igrps := rfl
@[simp] theorem vms_setReg (p off : Nat) (w : Word) : (s.setReg p off w).vms = s.vms := rfl
@[simp] theorem cinch_setReg (p off : Nat) (w : Word) : (s.setReg p off w).cinch = s.cinch := rfl
@[simp] theorem awls_setReg (p off : Nat) (w : Word) : (s.setReg p off w).awls = s.awls := rfl
@[simp] theorem lat_setReg (p off : Nat) (w : Word) : (s.setReg p off w).lat = s.lat := rfl
@[simp] theorem stitches_setReg (p off : Nat) (w : Word) : (s.setReg p off w).stitches = s.stitches := rfl
@[simp] theorem feeds_setReg (p off : Nat) (w : Word) : (s.setReg p off w).feeds = s.feeds := rfl
@[simp] theorem anas_setReg (p off : Nat) (w : Word) : (s.setReg p off w).anas = s.anas := rfl
@[simp] theorem stamps_setReg (p off : Nat) (w : Word) : (s.setReg p off w).stamps = s.stamps := rfl
@[simp] theorem sfs_setReg (p off : Nat) (w : Word) : (s.setReg p off w).sfs = s.sfs := rfl
@[simp] theorem buckle_setReg (p off : Nat) (w : Word) : (s.setReg p off w).buckle = s.buckle := rfl
@[simp] theorem fins_setReg (p off : Nat) (w : Word) : (s.setReg p off w).fins = s.fins := rfl
@[simp] theorem fouts_setReg (p off : Nat) (w : Word) : (s.setReg p off w).fouts = s.fouts := rfl
@[simp] theorem die_setReg (p off : Nat) (w : Word) : (s.setReg p off w).die = s.die := rfl
@[simp] theorem linkMiss_setReg (p off : Nat) (w : Word) : (s.setReg p off w).linkMiss = s.linkMiss := rfl
@[simp] theorem fldNew_setReg (p off : Nat) (w : Word) : (s.setReg p off w).fldNew = s.fldNew := rfl
@[simp] theorem pciDevice_setReg (p off : Nat) (w : Word) : (s.setReg p off w).pciDevice = s.pciDevice := rfl
@[simp] theorem dmas_setReg (p off : Nat) (w : Word) : (s.setReg p off w).dmas = s.dmas := rfl
@[simp] theorem claims_setReg (p off : Nat) (w : Word) : (s.setReg p off w).claims = s.claims := rfl
@[simp] theorem autoRuns_setReg (p off : Nat) (w : Word) : (s.setReg p off w).autoRuns = s.autoRuns := rfl
@[simp] theorem boot_setReg (p off : Nat) (w : Word) : (s.setReg p off w).boot = s.boot := rfl
@[simp] theorem tack_setReg (p off : Nat) (w : Word) : (s.setReg p off w).tack = s.tack := rfl
@[simp] theorem clk_setReg (p off : Nat) (w : Word) : (s.setReg p off w).clk = s.clk := rfl
@[simp] theorem logRun_setReg (p off : Nat) (w : Word) : (s.setReg p off w).logRun = s.logRun := rfl
@[simp] theorem tempFired_setReg (p off : Nat) (w : Word) : (s.setReg p off w).tempFired = s.tempFired := rfl
@[simp] theorem scrub_setReg (p off : Nat) (w : Word) : (s.setReg p off w).scrub = s.scrub := rfl
@[simp] theorem por_setReg (p off : Nat) (w : Word) : (s.setReg p off w).por = s.por := rfl
@[simp] theorem wire_setReg (p off : Nat) (w : Word) : (s.setReg p off w).wire = s.wire := rfl
@[simp] theorem reply_setReg (p off : Nat) (w : Word) : (s.setReg p off w).reply = s.reply := rfl
@[simp] theorem freeCtr_setReg (p off : Nat) (w : Word) : (s.setReg p off w).freeCtr = s.freeCtr := rfl
@[simp] theorem pending_setReg (p off : Nat) (w : Word) : (s.setReg p off w).pending = s.pending := rfl
@[simp] theorem byte_setReg (p off : Nat) (w : Word) (k : Nat) : (s.setReg p off w).byte k = s.byte k := rfl
@[simp] theorem flip_setReg (p off : Nat) (w : Word) (k : Nat) : (s.setReg p off w).flip k = s.flip k := rfl
@[simp] theorem port_setReg (p off : Nat) (w : Word) (k : Nat) : (s.setReg p off w).port k = s.port k := rfl
@[simp] theorem axis_setReg (p off : Nat) (w : Word) (k : Nat) : (s.setReg p off w).axis k = s.axis k := rfl
@[simp] theorem pg_setReg (p off : Nat) (w : Word) (k : Nat) : (s.setReg p off w).pg k = s.pg k := rfl
@[simp] theorem igrp_setReg (p off : Nat) (w : Word) (k : Nat) : (s.setReg p off w).igrp k = s.igrp k := rfl
@[simp] theorem vm_setReg (p off : Nat) (w : Word) (k : Nat) : (s.setReg p off w).vm k = s.vm k := rfl
@[simp] theorem awl_setReg (p off : Nat) (w : Word) (k : Nat) : (s.setReg p off w).awl k = s.awl k := rfl
@[simp] theorem stitch_setReg (p off : Nat) (w : Word) (k : Nat) : (s.setReg p off w).stitch k = s.stitch k := rfl
@[simp] theorem feed_setReg (p off : Nat) (w : Word) (k : Nat) : (s.setReg p off w).feed k = s.feed k := rfl
@[simp] theorem ana_setReg (p off : Nat) (w : Word) (k : Nat) : (s.setReg p off w).ana k = s.ana k := rfl
@[simp] theorem stamp_setReg (p off : Nat) (w : Word) (k : Nat) : (s.setReg p off w).stamp k = s.stamp k := rfl
@[simp] theorem sf_setReg (p off : Nat) (w : Word) (k : Nat) : (s.setReg p off w).sf k = s.sf k := rfl
@[simp] theorem safeOut_setReg (p off : Nat) (w : Word) (k : Nat) : (s.setReg p off w).safeOut k = s.safeOut k := rfl
@[simp] theorem fin_setReg (p off : Nat) (w : Word) (k : Nat) : (s.setReg p off w).fin k = s.fin k := rfl
@[simp] theorem fout_setReg (p off : Nat) (w : Word) (k : Nat) : (s.setReg p off w).fout k = s.fout k := rfl
@[simp] theorem dma_setReg (p off : Nat) (w : Word) (k : Nat) : (s.setReg p off w).dma k = s.dma k := rfl
@[simp] theorem holder_setReg (p off : Nat) (w : Word) (k : Nat) : (s.setReg p off w).holder k = s.holder k := rfl

/-! ### setByte -/

@[simp] theorem regs_setByte (a : Nat) (b : Byte) : (s.setByte a b).regs = s.regs := rfl
@[simp] theorem flips_setByte (a : Nat) (b : Byte) : (s.setByte a b).flips = s.flips := rfl
@[simp] theorem time_setByte (a : Nat) (b : Byte) : (s.setByte a b).time = s.time := rfl
@[simp] theorem girth_setByte (a : Nat) (b : Byte) : (s.setByte a b).girth = s.girth := rfl
@[simp] theorem ports_setByte (a : Nat) (b : Byte) : (s.setByte a b).ports = s.ports := rfl
@[simp] theorem axes_setByte (a : Nat) (b : Byte) : (s.setByte a b).axes = s.axes := rfl
@[simp] theorem pgs_setByte (a : Nat) (b : Byte) : (s.setByte a b).pgs = s.pgs := rfl
@[simp] theorem igrps_setByte (a : Nat) (b : Byte) : (s.setByte a b).igrps = s.igrps := rfl
@[simp] theorem vms_setByte (a : Nat) (b : Byte) : (s.setByte a b).vms = s.vms := rfl
@[simp] theorem cinch_setByte (a : Nat) (b : Byte) : (s.setByte a b).cinch = s.cinch := rfl
@[simp] theorem awls_setByte (a : Nat) (b : Byte) : (s.setByte a b).awls = s.awls := rfl
@[simp] theorem lat_setByte (a : Nat) (b : Byte) : (s.setByte a b).lat = s.lat := rfl
@[simp] theorem stitches_setByte (a : Nat) (b : Byte) : (s.setByte a b).stitches = s.stitches := rfl
@[simp] theorem feeds_setByte (a : Nat) (b : Byte) : (s.setByte a b).feeds = s.feeds := rfl
@[simp] theorem anas_setByte (a : Nat) (b : Byte) : (s.setByte a b).anas = s.anas := rfl
@[simp] theorem stamps_setByte (a : Nat) (b : Byte) : (s.setByte a b).stamps = s.stamps := rfl
@[simp] theorem sfs_setByte (a : Nat) (b : Byte) : (s.setByte a b).sfs = s.sfs := rfl
@[simp] theorem buckle_setByte (a : Nat) (b : Byte) : (s.setByte a b).buckle = s.buckle := rfl
@[simp] theorem fins_setByte (a : Nat) (b : Byte) : (s.setByte a b).fins = s.fins := rfl
@[simp] theorem fouts_setByte (a : Nat) (b : Byte) : (s.setByte a b).fouts = s.fouts := rfl
@[simp] theorem die_setByte (a : Nat) (b : Byte) : (s.setByte a b).die = s.die := rfl
@[simp] theorem linkMiss_setByte (a : Nat) (b : Byte) : (s.setByte a b).linkMiss = s.linkMiss := rfl
@[simp] theorem fldNew_setByte (a : Nat) (b : Byte) : (s.setByte a b).fldNew = s.fldNew := rfl
@[simp] theorem pciDevice_setByte (a : Nat) (b : Byte) : (s.setByte a b).pciDevice = s.pciDevice := rfl
@[simp] theorem dmas_setByte (a : Nat) (b : Byte) : (s.setByte a b).dmas = s.dmas := rfl
@[simp] theorem claims_setByte (a : Nat) (b : Byte) : (s.setByte a b).claims = s.claims := rfl
@[simp] theorem autoRuns_setByte (a : Nat) (b : Byte) : (s.setByte a b).autoRuns = s.autoRuns := rfl
@[simp] theorem boot_setByte (a : Nat) (b : Byte) : (s.setByte a b).boot = s.boot := rfl
@[simp] theorem tack_setByte (a : Nat) (b : Byte) : (s.setByte a b).tack = s.tack := rfl
@[simp] theorem clk_setByte (a : Nat) (b : Byte) : (s.setByte a b).clk = s.clk := rfl
@[simp] theorem logRun_setByte (a : Nat) (b : Byte) : (s.setByte a b).logRun = s.logRun := rfl
@[simp] theorem tempFired_setByte (a : Nat) (b : Byte) : (s.setByte a b).tempFired = s.tempFired := rfl
@[simp] theorem scrub_setByte (a : Nat) (b : Byte) : (s.setByte a b).scrub = s.scrub := rfl
@[simp] theorem por_setByte (a : Nat) (b : Byte) : (s.setByte a b).por = s.por := rfl
@[simp] theorem wire_setByte (a : Nat) (b : Byte) : (s.setByte a b).wire = s.wire := rfl
@[simp] theorem reply_setByte (a : Nat) (b : Byte) : (s.setByte a b).reply = s.reply := rfl
@[simp] theorem freeCtr_setByte (a : Nat) (b : Byte) : (s.setByte a b).freeCtr = s.freeCtr := rfl
@[simp] theorem pending_setByte (a : Nat) (b : Byte) : (s.setByte a b).pending = s.pending := rfl
@[simp] theorem reg_setByte (a : Nat) (b : Byte) (q o : Nat) : (s.setByte a b).reg q o = s.reg q o := rfl
@[simp] theorem flip_setByte (a : Nat) (b : Byte) (k : Nat) : (s.setByte a b).flip k = s.flip k := rfl
@[simp] theorem port_setByte (a : Nat) (b : Byte) (k : Nat) : (s.setByte a b).port k = s.port k := rfl
@[simp] theorem axis_setByte (a : Nat) (b : Byte) (k : Nat) : (s.setByte a b).axis k = s.axis k := rfl
@[simp] theorem pg_setByte (a : Nat) (b : Byte) (k : Nat) : (s.setByte a b).pg k = s.pg k := rfl
@[simp] theorem igrp_setByte (a : Nat) (b : Byte) (k : Nat) : (s.setByte a b).igrp k = s.igrp k := rfl
@[simp] theorem vm_setByte (a : Nat) (b : Byte) (k : Nat) : (s.setByte a b).vm k = s.vm k := rfl
@[simp] theorem awl_setByte (a : Nat) (b : Byte) (k : Nat) : (s.setByte a b).awl k = s.awl k := rfl
@[simp] theorem stitch_setByte (a : Nat) (b : Byte) (k : Nat) : (s.setByte a b).stitch k = s.stitch k := rfl
@[simp] theorem feed_setByte (a : Nat) (b : Byte) (k : Nat) : (s.setByte a b).feed k = s.feed k := rfl
@[simp] theorem ana_setByte (a : Nat) (b : Byte) (k : Nat) : (s.setByte a b).ana k = s.ana k := rfl
@[simp] theorem stamp_setByte (a : Nat) (b : Byte) (k : Nat) : (s.setByte a b).stamp k = s.stamp k := rfl
@[simp] theorem sf_setByte (a : Nat) (b : Byte) (k : Nat) : (s.setByte a b).sf k = s.sf k := rfl
@[simp] theorem safeOut_setByte (a : Nat) (b : Byte) (k : Nat) : (s.setByte a b).safeOut k = s.safeOut k := rfl
@[simp] theorem fin_setByte (a : Nat) (b : Byte) (k : Nat) : (s.setByte a b).fin k = s.fin k := rfl
@[simp] theorem fout_setByte (a : Nat) (b : Byte) (k : Nat) : (s.setByte a b).fout k = s.fout k := rfl
@[simp] theorem dma_setByte (a : Nat) (b : Byte) (k : Nat) : (s.setByte a b).dma k = s.dma k := rfl
@[simp] theorem holder_setByte (a : Nat) (b : Byte) (k : Nat) : (s.setByte a b).holder k = s.holder k := rfl
theorem byte_setByte (a : Nat) (b : Byte) (k : Nat) : (s.setByte a b).byte k = if k = a then b else s.byte k := Sp.get_set _ _ _ _ _
@[simp] theorem byte_setByte_same (a : Nat) (b : Byte) : (s.setByte a b).byte a = b := Sp.get_set_same _ _ _ _
theorem byte_setByte_other (a : Nat) (b : Byte) (k : Nat) (h : k ≠ a) : (s.setByte a b).byte k = s.byte k := Sp.get_set_other _ _ _ h

/-! ### setFlip -/

@[simp] theorem regs_setFlip (a : Nat) (f : BitVec 80) : (s.setFlip a f).regs = s.regs := rfl
@[simp] theorem mem_setFlip (a : Nat) (f : BitVec 80) : (s.setFlip a f).mem = s.mem := rfl
@[simp] theorem time_setFlip (a : Nat) (f : BitVec 80) : (s.setFlip a f).time = s.time := rfl
@[simp] theorem girth_setFlip (a : Nat) (f : BitVec 80) : (s.setFlip a f).girth = s.girth := rfl
@[simp] theorem ports_setFlip (a : Nat) (f : BitVec 80) : (s.setFlip a f).ports = s.ports := rfl
@[simp] theorem axes_setFlip (a : Nat) (f : BitVec 80) : (s.setFlip a f).axes = s.axes := rfl
@[simp] theorem pgs_setFlip (a : Nat) (f : BitVec 80) : (s.setFlip a f).pgs = s.pgs := rfl
@[simp] theorem igrps_setFlip (a : Nat) (f : BitVec 80) : (s.setFlip a f).igrps = s.igrps := rfl
@[simp] theorem vms_setFlip (a : Nat) (f : BitVec 80) : (s.setFlip a f).vms = s.vms := rfl
@[simp] theorem cinch_setFlip (a : Nat) (f : BitVec 80) : (s.setFlip a f).cinch = s.cinch := rfl
@[simp] theorem awls_setFlip (a : Nat) (f : BitVec 80) : (s.setFlip a f).awls = s.awls := rfl
@[simp] theorem lat_setFlip (a : Nat) (f : BitVec 80) : (s.setFlip a f).lat = s.lat := rfl
@[simp] theorem stitches_setFlip (a : Nat) (f : BitVec 80) : (s.setFlip a f).stitches = s.stitches := rfl
@[simp] theorem feeds_setFlip (a : Nat) (f : BitVec 80) : (s.setFlip a f).feeds = s.feeds := rfl
@[simp] theorem anas_setFlip (a : Nat) (f : BitVec 80) : (s.setFlip a f).anas = s.anas := rfl
@[simp] theorem stamps_setFlip (a : Nat) (f : BitVec 80) : (s.setFlip a f).stamps = s.stamps := rfl
@[simp] theorem sfs_setFlip (a : Nat) (f : BitVec 80) : (s.setFlip a f).sfs = s.sfs := rfl
@[simp] theorem buckle_setFlip (a : Nat) (f : BitVec 80) : (s.setFlip a f).buckle = s.buckle := rfl
@[simp] theorem fins_setFlip (a : Nat) (f : BitVec 80) : (s.setFlip a f).fins = s.fins := rfl
@[simp] theorem fouts_setFlip (a : Nat) (f : BitVec 80) : (s.setFlip a f).fouts = s.fouts := rfl
@[simp] theorem die_setFlip (a : Nat) (f : BitVec 80) : (s.setFlip a f).die = s.die := rfl
@[simp] theorem linkMiss_setFlip (a : Nat) (f : BitVec 80) : (s.setFlip a f).linkMiss = s.linkMiss := rfl
@[simp] theorem fldNew_setFlip (a : Nat) (f : BitVec 80) : (s.setFlip a f).fldNew = s.fldNew := rfl
@[simp] theorem pciDevice_setFlip (a : Nat) (f : BitVec 80) : (s.setFlip a f).pciDevice = s.pciDevice := rfl
@[simp] theorem dmas_setFlip (a : Nat) (f : BitVec 80) : (s.setFlip a f).dmas = s.dmas := rfl
@[simp] theorem claims_setFlip (a : Nat) (f : BitVec 80) : (s.setFlip a f).claims = s.claims := rfl
@[simp] theorem autoRuns_setFlip (a : Nat) (f : BitVec 80) : (s.setFlip a f).autoRuns = s.autoRuns := rfl
@[simp] theorem boot_setFlip (a : Nat) (f : BitVec 80) : (s.setFlip a f).boot = s.boot := rfl
@[simp] theorem tack_setFlip (a : Nat) (f : BitVec 80) : (s.setFlip a f).tack = s.tack := rfl
@[simp] theorem clk_setFlip (a : Nat) (f : BitVec 80) : (s.setFlip a f).clk = s.clk := rfl
@[simp] theorem logRun_setFlip (a : Nat) (f : BitVec 80) : (s.setFlip a f).logRun = s.logRun := rfl
@[simp] theorem tempFired_setFlip (a : Nat) (f : BitVec 80) : (s.setFlip a f).tempFired = s.tempFired := rfl
@[simp] theorem scrub_setFlip (a : Nat) (f : BitVec 80) : (s.setFlip a f).scrub = s.scrub := rfl
@[simp] theorem por_setFlip (a : Nat) (f : BitVec 80) : (s.setFlip a f).por = s.por := rfl
@[simp] theorem wire_setFlip (a : Nat) (f : BitVec 80) : (s.setFlip a f).wire = s.wire := rfl
@[simp] theorem reply_setFlip (a : Nat) (f : BitVec 80) : (s.setFlip a f).reply = s.reply := rfl
@[simp] theorem freeCtr_setFlip (a : Nat) (f : BitVec 80) : (s.setFlip a f).freeCtr = s.freeCtr := rfl
@[simp] theorem pending_setFlip (a : Nat) (f : BitVec 80) : (s.setFlip a f).pending = s.pending := rfl
@[simp] theorem reg_setFlip (a : Nat) (f : BitVec 80) (q o : Nat) : (s.setFlip a f).reg q o = s.reg q o := rfl
@[simp] theorem byte_setFlip (a : Nat) (f : BitVec 80) (k : Nat) : (s.setFlip a f).byte k = s.byte k := rfl
@[simp] theorem port_setFlip (a : Nat) (f : BitVec 80) (k : Nat) : (s.setFlip a f).port k = s.port k := rfl
@[simp] theorem axis_setFlip (a : Nat) (f : BitVec 80) (k : Nat) : (s.setFlip a f).axis k = s.axis k := rfl
@[simp] theorem pg_setFlip (a : Nat) (f : BitVec 80) (k : Nat) : (s.setFlip a f).pg k = s.pg k := rfl
@[simp] theorem igrp_setFlip (a : Nat) (f : BitVec 80) (k : Nat) : (s.setFlip a f).igrp k = s.igrp k := rfl
@[simp] theorem vm_setFlip (a : Nat) (f : BitVec 80) (k : Nat) : (s.setFlip a f).vm k = s.vm k := rfl
@[simp] theorem awl_setFlip (a : Nat) (f : BitVec 80) (k : Nat) : (s.setFlip a f).awl k = s.awl k := rfl
@[simp] theorem stitch_setFlip (a : Nat) (f : BitVec 80) (k : Nat) : (s.setFlip a f).stitch k = s.stitch k := rfl
@[simp] theorem feed_setFlip (a : Nat) (f : BitVec 80) (k : Nat) : (s.setFlip a f).feed k = s.feed k := rfl
@[simp] theorem ana_setFlip (a : Nat) (f : BitVec 80) (k : Nat) : (s.setFlip a f).ana k = s.ana k := rfl
@[simp] theorem stamp_setFlip (a : Nat) (f : BitVec 80) (k : Nat) : (s.setFlip a f).stamp k = s.stamp k := rfl
@[simp] theorem sf_setFlip (a : Nat) (f : BitVec 80) (k : Nat) : (s.setFlip a f).sf k = s.sf k := rfl
@[simp] theorem safeOut_setFlip (a : Nat) (f : BitVec 80) (k : Nat) : (s.setFlip a f).safeOut k = s.safeOut k := rfl
@[simp] theorem fin_setFlip (a : Nat) (f : BitVec 80) (k : Nat) : (s.setFlip a f).fin k = s.fin k := rfl
@[simp] theorem fout_setFlip (a : Nat) (f : BitVec 80) (k : Nat) : (s.setFlip a f).fout k = s.fout k := rfl
@[simp] theorem dma_setFlip (a : Nat) (f : BitVec 80) (k : Nat) : (s.setFlip a f).dma k = s.dma k := rfl
@[simp] theorem holder_setFlip (a : Nat) (f : BitVec 80) (k : Nat) : (s.setFlip a f).holder k = s.holder k := rfl
theorem flip_setFlip (a : Nat) (f : BitVec 80) (k : Nat) : (s.setFlip a f).flip k = if k = a then f else s.flip k := Sp.get_set _ _ _ _ _
@[simp] theorem flip_setFlip_same (a : Nat) (f : BitVec 80) : (s.setFlip a f).flip a = f := Sp.get_set_same _ _ _ _
theorem flip_setFlip_other (a : Nat) (f : BitVec 80) (k : Nat) (h : k ≠ a) : (s.setFlip a f).flip k = s.flip k := Sp.get_set_other _ _ _ h

/-! ### setPort -/

@[simp] theorem regs_setPort (n : Nat) (x : Port) : (s.setPort n x).regs = s.regs := rfl
@[simp] theorem mem_setPort (n : Nat) (x : Port) : (s.setPort n x).mem = s.mem := rfl
@[simp] theorem flips_setPort (n : Nat) (x : Port) : (s.setPort n x).flips = s.flips := rfl
@[simp] theorem time_setPort (n : Nat) (x : Port) : (s.setPort n x).time = s.time := rfl
@[simp] theorem girth_setPort (n : Nat) (x : Port) : (s.setPort n x).girth = s.girth := rfl
@[simp] theorem axes_setPort (n : Nat) (x : Port) : (s.setPort n x).axes = s.axes := rfl
@[simp] theorem pgs_setPort (n : Nat) (x : Port) : (s.setPort n x).pgs = s.pgs := rfl
@[simp] theorem igrps_setPort (n : Nat) (x : Port) : (s.setPort n x).igrps = s.igrps := rfl
@[simp] theorem vms_setPort (n : Nat) (x : Port) : (s.setPort n x).vms = s.vms := rfl
@[simp] theorem cinch_setPort (n : Nat) (x : Port) : (s.setPort n x).cinch = s.cinch := rfl
@[simp] theorem awls_setPort (n : Nat) (x : Port) : (s.setPort n x).awls = s.awls := rfl
@[simp] theorem lat_setPort (n : Nat) (x : Port) : (s.setPort n x).lat = s.lat := rfl
@[simp] theorem stitches_setPort (n : Nat) (x : Port) : (s.setPort n x).stitches = s.stitches := rfl
@[simp] theorem feeds_setPort (n : Nat) (x : Port) : (s.setPort n x).feeds = s.feeds := rfl
@[simp] theorem anas_setPort (n : Nat) (x : Port) : (s.setPort n x).anas = s.anas := rfl
@[simp] theorem stamps_setPort (n : Nat) (x : Port) : (s.setPort n x).stamps = s.stamps := rfl
@[simp] theorem sfs_setPort (n : Nat) (x : Port) : (s.setPort n x).sfs = s.sfs := rfl
@[simp] theorem buckle_setPort (n : Nat) (x : Port) : (s.setPort n x).buckle = s.buckle := rfl
@[simp] theorem fins_setPort (n : Nat) (x : Port) : (s.setPort n x).fins = s.fins := rfl
@[simp] theorem fouts_setPort (n : Nat) (x : Port) : (s.setPort n x).fouts = s.fouts := rfl
@[simp] theorem die_setPort (n : Nat) (x : Port) : (s.setPort n x).die = s.die := rfl
@[simp] theorem linkMiss_setPort (n : Nat) (x : Port) : (s.setPort n x).linkMiss = s.linkMiss := rfl
@[simp] theorem fldNew_setPort (n : Nat) (x : Port) : (s.setPort n x).fldNew = s.fldNew := rfl
@[simp] theorem pciDevice_setPort (n : Nat) (x : Port) : (s.setPort n x).pciDevice = s.pciDevice := rfl
@[simp] theorem dmas_setPort (n : Nat) (x : Port) : (s.setPort n x).dmas = s.dmas := rfl
@[simp] theorem claims_setPort (n : Nat) (x : Port) : (s.setPort n x).claims = s.claims := rfl
@[simp] theorem autoRuns_setPort (n : Nat) (x : Port) : (s.setPort n x).autoRuns = s.autoRuns := rfl
@[simp] theorem boot_setPort (n : Nat) (x : Port) : (s.setPort n x).boot = s.boot := rfl
@[simp] theorem tack_setPort (n : Nat) (x : Port) : (s.setPort n x).tack = s.tack := rfl
@[simp] theorem clk_setPort (n : Nat) (x : Port) : (s.setPort n x).clk = s.clk := rfl
@[simp] theorem logRun_setPort (n : Nat) (x : Port) : (s.setPort n x).logRun = s.logRun := rfl
@[simp] theorem tempFired_setPort (n : Nat) (x : Port) : (s.setPort n x).tempFired = s.tempFired := rfl
@[simp] theorem scrub_setPort (n : Nat) (x : Port) : (s.setPort n x).scrub = s.scrub := rfl
@[simp] theorem por_setPort (n : Nat) (x : Port) : (s.setPort n x).por = s.por := rfl
@[simp] theorem wire_setPort (n : Nat) (x : Port) : (s.setPort n x).wire = s.wire := rfl
@[simp] theorem reply_setPort (n : Nat) (x : Port) : (s.setPort n x).reply = s.reply := rfl
@[simp] theorem freeCtr_setPort (n : Nat) (x : Port) : (s.setPort n x).freeCtr = s.freeCtr := rfl
@[simp] theorem pending_setPort (n : Nat) (x : Port) : (s.setPort n x).pending = s.pending := rfl
@[simp] theorem reg_setPort (n : Nat) (x : Port) (q o : Nat) : (s.setPort n x).reg q o = s.reg q o := rfl
@[simp] theorem byte_setPort (n : Nat) (x : Port) (k : Nat) : (s.setPort n x).byte k = s.byte k := rfl
@[simp] theorem flip_setPort (n : Nat) (x : Port) (k : Nat) : (s.setPort n x).flip k = s.flip k := rfl
@[simp] theorem axis_setPort (n : Nat) (x : Port) (k : Nat) : (s.setPort n x).axis k = s.axis k := rfl
@[simp] theorem pg_setPort (n : Nat) (x : Port) (k : Nat) : (s.setPort n x).pg k = s.pg k := rfl
@[simp] theorem igrp_setPort (n : Nat) (x : Port) (k : Nat) : (s.setPort n x).igrp k = s.igrp k := rfl
@[simp] theorem vm_setPort (n : Nat) (x : Port) (k : Nat) : (s.setPort n x).vm k = s.vm k := rfl
@[simp] theorem awl_setPort (n : Nat) (x : Port) (k : Nat) : (s.setPort n x).awl k = s.awl k := rfl
@[simp] theorem stitch_setPort (n : Nat) (x : Port) (k : Nat) : (s.setPort n x).stitch k = s.stitch k := rfl
@[simp] theorem feed_setPort (n : Nat) (x : Port) (k : Nat) : (s.setPort n x).feed k = s.feed k := rfl
@[simp] theorem ana_setPort (n : Nat) (x : Port) (k : Nat) : (s.setPort n x).ana k = s.ana k := rfl
@[simp] theorem stamp_setPort (n : Nat) (x : Port) (k : Nat) : (s.setPort n x).stamp k = s.stamp k := rfl
@[simp] theorem sf_setPort (n : Nat) (x : Port) (k : Nat) : (s.setPort n x).sf k = s.sf k := rfl
@[simp] theorem safeOut_setPort (n : Nat) (x : Port) (k : Nat) : (s.setPort n x).safeOut k = s.safeOut k := rfl
@[simp] theorem fin_setPort (n : Nat) (x : Port) (k : Nat) : (s.setPort n x).fin k = s.fin k := rfl
@[simp] theorem fout_setPort (n : Nat) (x : Port) (k : Nat) : (s.setPort n x).fout k = s.fout k := rfl
@[simp] theorem dma_setPort (n : Nat) (x : Port) (k : Nat) : (s.setPort n x).dma k = s.dma k := rfl
@[simp] theorem holder_setPort (n : Nat) (x : Port) (k : Nat) : (s.setPort n x).holder k = s.holder k := rfl
theorem port_setPort (n : Nat) (x : Port) (k : Nat) : (s.setPort n x).port k = if k = n then x else s.port k := Sp.get_set _ _ _ _ _
@[simp] theorem port_setPort_same (n : Nat) (x : Port) : (s.setPort n x).port n = x := Sp.get_set_same _ _ _ _
theorem port_setPort_other (n : Nat) (x : Port) (k : Nat) (h : k ≠ n) : (s.setPort n x).port k = s.port k := Sp.get_set_other _ _ _ h

/-! ### setAxis -/

@[simp] theorem regs_setAxis (n : Nat) (x : Axis) : (s.setAxis n x).regs = s.regs := rfl
@[simp] theorem mem_setAxis (n : Nat) (x : Axis) : (s.setAxis n x).mem = s.mem := rfl
@[simp] theorem flips_setAxis (n : Nat) (x : Axis) : (s.setAxis n x).flips = s.flips := rfl
@[simp] theorem time_setAxis (n : Nat) (x : Axis) : (s.setAxis n x).time = s.time := rfl
@[simp] theorem girth_setAxis (n : Nat) (x : Axis) : (s.setAxis n x).girth = s.girth := rfl
@[simp] theorem ports_setAxis (n : Nat) (x : Axis) : (s.setAxis n x).ports = s.ports := rfl
@[simp] theorem pgs_setAxis (n : Nat) (x : Axis) : (s.setAxis n x).pgs = s.pgs := rfl
@[simp] theorem igrps_setAxis (n : Nat) (x : Axis) : (s.setAxis n x).igrps = s.igrps := rfl
@[simp] theorem vms_setAxis (n : Nat) (x : Axis) : (s.setAxis n x).vms = s.vms := rfl
@[simp] theorem cinch_setAxis (n : Nat) (x : Axis) : (s.setAxis n x).cinch = s.cinch := rfl
@[simp] theorem awls_setAxis (n : Nat) (x : Axis) : (s.setAxis n x).awls = s.awls := rfl
@[simp] theorem lat_setAxis (n : Nat) (x : Axis) : (s.setAxis n x).lat = s.lat := rfl
@[simp] theorem stitches_setAxis (n : Nat) (x : Axis) : (s.setAxis n x).stitches = s.stitches := rfl
@[simp] theorem feeds_setAxis (n : Nat) (x : Axis) : (s.setAxis n x).feeds = s.feeds := rfl
@[simp] theorem anas_setAxis (n : Nat) (x : Axis) : (s.setAxis n x).anas = s.anas := rfl
@[simp] theorem stamps_setAxis (n : Nat) (x : Axis) : (s.setAxis n x).stamps = s.stamps := rfl
@[simp] theorem sfs_setAxis (n : Nat) (x : Axis) : (s.setAxis n x).sfs = s.sfs := rfl
@[simp] theorem buckle_setAxis (n : Nat) (x : Axis) : (s.setAxis n x).buckle = s.buckle := rfl
@[simp] theorem fins_setAxis (n : Nat) (x : Axis) : (s.setAxis n x).fins = s.fins := rfl
@[simp] theorem fouts_setAxis (n : Nat) (x : Axis) : (s.setAxis n x).fouts = s.fouts := rfl
@[simp] theorem die_setAxis (n : Nat) (x : Axis) : (s.setAxis n x).die = s.die := rfl
@[simp] theorem linkMiss_setAxis (n : Nat) (x : Axis) : (s.setAxis n x).linkMiss = s.linkMiss := rfl
@[simp] theorem fldNew_setAxis (n : Nat) (x : Axis) : (s.setAxis n x).fldNew = s.fldNew := rfl
@[simp] theorem pciDevice_setAxis (n : Nat) (x : Axis) : (s.setAxis n x).pciDevice = s.pciDevice := rfl
@[simp] theorem dmas_setAxis (n : Nat) (x : Axis) : (s.setAxis n x).dmas = s.dmas := rfl
@[simp] theorem claims_setAxis (n : Nat) (x : Axis) : (s.setAxis n x).claims = s.claims := rfl
@[simp] theorem autoRuns_setAxis (n : Nat) (x : Axis) : (s.setAxis n x).autoRuns = s.autoRuns := rfl
@[simp] theorem boot_setAxis (n : Nat) (x : Axis) : (s.setAxis n x).boot = s.boot := rfl
@[simp] theorem tack_setAxis (n : Nat) (x : Axis) : (s.setAxis n x).tack = s.tack := rfl
@[simp] theorem clk_setAxis (n : Nat) (x : Axis) : (s.setAxis n x).clk = s.clk := rfl
@[simp] theorem logRun_setAxis (n : Nat) (x : Axis) : (s.setAxis n x).logRun = s.logRun := rfl
@[simp] theorem tempFired_setAxis (n : Nat) (x : Axis) : (s.setAxis n x).tempFired = s.tempFired := rfl
@[simp] theorem scrub_setAxis (n : Nat) (x : Axis) : (s.setAxis n x).scrub = s.scrub := rfl
@[simp] theorem por_setAxis (n : Nat) (x : Axis) : (s.setAxis n x).por = s.por := rfl
@[simp] theorem wire_setAxis (n : Nat) (x : Axis) : (s.setAxis n x).wire = s.wire := rfl
@[simp] theorem reply_setAxis (n : Nat) (x : Axis) : (s.setAxis n x).reply = s.reply := rfl
@[simp] theorem freeCtr_setAxis (n : Nat) (x : Axis) : (s.setAxis n x).freeCtr = s.freeCtr := rfl
@[simp] theorem pending_setAxis (n : Nat) (x : Axis) : (s.setAxis n x).pending = s.pending := rfl
@[simp] theorem reg_setAxis (n : Nat) (x : Axis) (q o : Nat) : (s.setAxis n x).reg q o = s.reg q o := rfl
@[simp] theorem byte_setAxis (n : Nat) (x : Axis) (k : Nat) : (s.setAxis n x).byte k = s.byte k := rfl
@[simp] theorem flip_setAxis (n : Nat) (x : Axis) (k : Nat) : (s.setAxis n x).flip k = s.flip k := rfl
@[simp] theorem port_setAxis (n : Nat) (x : Axis) (k : Nat) : (s.setAxis n x).port k = s.port k := rfl
@[simp] theorem pg_setAxis (n : Nat) (x : Axis) (k : Nat) : (s.setAxis n x).pg k = s.pg k := rfl
@[simp] theorem igrp_setAxis (n : Nat) (x : Axis) (k : Nat) : (s.setAxis n x).igrp k = s.igrp k := rfl
@[simp] theorem vm_setAxis (n : Nat) (x : Axis) (k : Nat) : (s.setAxis n x).vm k = s.vm k := rfl
@[simp] theorem awl_setAxis (n : Nat) (x : Axis) (k : Nat) : (s.setAxis n x).awl k = s.awl k := rfl
@[simp] theorem stitch_setAxis (n : Nat) (x : Axis) (k : Nat) : (s.setAxis n x).stitch k = s.stitch k := rfl
@[simp] theorem feed_setAxis (n : Nat) (x : Axis) (k : Nat) : (s.setAxis n x).feed k = s.feed k := rfl
@[simp] theorem ana_setAxis (n : Nat) (x : Axis) (k : Nat) : (s.setAxis n x).ana k = s.ana k := rfl
@[simp] theorem stamp_setAxis (n : Nat) (x : Axis) (k : Nat) : (s.setAxis n x).stamp k = s.stamp k := rfl
@[simp] theorem sf_setAxis (n : Nat) (x : Axis) (k : Nat) : (s.setAxis n x).sf k = s.sf k := rfl
@[simp] theorem safeOut_setAxis (n : Nat) (x : Axis) (k : Nat) : (s.setAxis n x).safeOut k = s.safeOut k := rfl
@[simp] theorem fin_setAxis (n : Nat) (x : Axis) (k : Nat) : (s.setAxis n x).fin k = s.fin k := rfl
@[simp] theorem fout_setAxis (n : Nat) (x : Axis) (k : Nat) : (s.setAxis n x).fout k = s.fout k := rfl
@[simp] theorem dma_setAxis (n : Nat) (x : Axis) (k : Nat) : (s.setAxis n x).dma k = s.dma k := rfl
@[simp] theorem holder_setAxis (n : Nat) (x : Axis) (k : Nat) : (s.setAxis n x).holder k = s.holder k := rfl
theorem axis_setAxis (n : Nat) (x : Axis) (k : Nat) : (s.setAxis n x).axis k = if k = n then x else s.axis k := Sp.get_set _ _ _ _ _
@[simp] theorem axis_setAxis_same (n : Nat) (x : Axis) : (s.setAxis n x).axis n = x := Sp.get_set_same _ _ _ _
theorem axis_setAxis_other (n : Nat) (x : Axis) (k : Nat) (h : k ≠ n) : (s.setAxis n x).axis k = s.axis k := Sp.get_set_other _ _ _ h

/-! ### setPg -/

@[simp] theorem regs_setPg (n : Nat) (x : Pg) : (s.setPg n x).regs = s.regs := rfl
@[simp] theorem mem_setPg (n : Nat) (x : Pg) : (s.setPg n x).mem = s.mem := rfl
@[simp] theorem flips_setPg (n : Nat) (x : Pg) : (s.setPg n x).flips = s.flips := rfl
@[simp] theorem time_setPg (n : Nat) (x : Pg) : (s.setPg n x).time = s.time := rfl
@[simp] theorem girth_setPg (n : Nat) (x : Pg) : (s.setPg n x).girth = s.girth := rfl
@[simp] theorem ports_setPg (n : Nat) (x : Pg) : (s.setPg n x).ports = s.ports := rfl
@[simp] theorem axes_setPg (n : Nat) (x : Pg) : (s.setPg n x).axes = s.axes := rfl
@[simp] theorem igrps_setPg (n : Nat) (x : Pg) : (s.setPg n x).igrps = s.igrps := rfl
@[simp] theorem vms_setPg (n : Nat) (x : Pg) : (s.setPg n x).vms = s.vms := rfl
@[simp] theorem cinch_setPg (n : Nat) (x : Pg) : (s.setPg n x).cinch = s.cinch := rfl
@[simp] theorem awls_setPg (n : Nat) (x : Pg) : (s.setPg n x).awls = s.awls := rfl
@[simp] theorem lat_setPg (n : Nat) (x : Pg) : (s.setPg n x).lat = s.lat := rfl
@[simp] theorem stitches_setPg (n : Nat) (x : Pg) : (s.setPg n x).stitches = s.stitches := rfl
@[simp] theorem feeds_setPg (n : Nat) (x : Pg) : (s.setPg n x).feeds = s.feeds := rfl
@[simp] theorem anas_setPg (n : Nat) (x : Pg) : (s.setPg n x).anas = s.anas := rfl
@[simp] theorem stamps_setPg (n : Nat) (x : Pg) : (s.setPg n x).stamps = s.stamps := rfl
@[simp] theorem sfs_setPg (n : Nat) (x : Pg) : (s.setPg n x).sfs = s.sfs := rfl
@[simp] theorem buckle_setPg (n : Nat) (x : Pg) : (s.setPg n x).buckle = s.buckle := rfl
@[simp] theorem fins_setPg (n : Nat) (x : Pg) : (s.setPg n x).fins = s.fins := rfl
@[simp] theorem fouts_setPg (n : Nat) (x : Pg) : (s.setPg n x).fouts = s.fouts := rfl
@[simp] theorem die_setPg (n : Nat) (x : Pg) : (s.setPg n x).die = s.die := rfl
@[simp] theorem linkMiss_setPg (n : Nat) (x : Pg) : (s.setPg n x).linkMiss = s.linkMiss := rfl
@[simp] theorem fldNew_setPg (n : Nat) (x : Pg) : (s.setPg n x).fldNew = s.fldNew := rfl
@[simp] theorem pciDevice_setPg (n : Nat) (x : Pg) : (s.setPg n x).pciDevice = s.pciDevice := rfl
@[simp] theorem dmas_setPg (n : Nat) (x : Pg) : (s.setPg n x).dmas = s.dmas := rfl
@[simp] theorem claims_setPg (n : Nat) (x : Pg) : (s.setPg n x).claims = s.claims := rfl
@[simp] theorem autoRuns_setPg (n : Nat) (x : Pg) : (s.setPg n x).autoRuns = s.autoRuns := rfl
@[simp] theorem boot_setPg (n : Nat) (x : Pg) : (s.setPg n x).boot = s.boot := rfl
@[simp] theorem tack_setPg (n : Nat) (x : Pg) : (s.setPg n x).tack = s.tack := rfl
@[simp] theorem clk_setPg (n : Nat) (x : Pg) : (s.setPg n x).clk = s.clk := rfl
@[simp] theorem logRun_setPg (n : Nat) (x : Pg) : (s.setPg n x).logRun = s.logRun := rfl
@[simp] theorem tempFired_setPg (n : Nat) (x : Pg) : (s.setPg n x).tempFired = s.tempFired := rfl
@[simp] theorem scrub_setPg (n : Nat) (x : Pg) : (s.setPg n x).scrub = s.scrub := rfl
@[simp] theorem por_setPg (n : Nat) (x : Pg) : (s.setPg n x).por = s.por := rfl
@[simp] theorem wire_setPg (n : Nat) (x : Pg) : (s.setPg n x).wire = s.wire := rfl
@[simp] theorem reply_setPg (n : Nat) (x : Pg) : (s.setPg n x).reply = s.reply := rfl
@[simp] theorem freeCtr_setPg (n : Nat) (x : Pg) : (s.setPg n x).freeCtr = s.freeCtr := rfl
@[simp] theorem pending_setPg (n : Nat) (x : Pg) : (s.setPg n x).pending = s.pending := rfl
@[simp] theorem reg_setPg (n : Nat) (x : Pg) (q o : Nat) : (s.setPg n x).reg q o = s.reg q o := rfl
@[simp] theorem byte_setPg (n : Nat) (x : Pg) (k : Nat) : (s.setPg n x).byte k = s.byte k := rfl
@[simp] theorem flip_setPg (n : Nat) (x : Pg) (k : Nat) : (s.setPg n x).flip k = s.flip k := rfl
@[simp] theorem port_setPg (n : Nat) (x : Pg) (k : Nat) : (s.setPg n x).port k = s.port k := rfl
@[simp] theorem axis_setPg (n : Nat) (x : Pg) (k : Nat) : (s.setPg n x).axis k = s.axis k := rfl
@[simp] theorem igrp_setPg (n : Nat) (x : Pg) (k : Nat) : (s.setPg n x).igrp k = s.igrp k := rfl
@[simp] theorem vm_setPg (n : Nat) (x : Pg) (k : Nat) : (s.setPg n x).vm k = s.vm k := rfl
@[simp] theorem awl_setPg (n : Nat) (x : Pg) (k : Nat) : (s.setPg n x).awl k = s.awl k := rfl
@[simp] theorem stitch_setPg (n : Nat) (x : Pg) (k : Nat) : (s.setPg n x).stitch k = s.stitch k := rfl
@[simp] theorem feed_setPg (n : Nat) (x : Pg) (k : Nat) : (s.setPg n x).feed k = s.feed k := rfl
@[simp] theorem ana_setPg (n : Nat) (x : Pg) (k : Nat) : (s.setPg n x).ana k = s.ana k := rfl
@[simp] theorem stamp_setPg (n : Nat) (x : Pg) (k : Nat) : (s.setPg n x).stamp k = s.stamp k := rfl
@[simp] theorem sf_setPg (n : Nat) (x : Pg) (k : Nat) : (s.setPg n x).sf k = s.sf k := rfl
@[simp] theorem safeOut_setPg (n : Nat) (x : Pg) (k : Nat) : (s.setPg n x).safeOut k = s.safeOut k := rfl
@[simp] theorem fin_setPg (n : Nat) (x : Pg) (k : Nat) : (s.setPg n x).fin k = s.fin k := rfl
@[simp] theorem fout_setPg (n : Nat) (x : Pg) (k : Nat) : (s.setPg n x).fout k = s.fout k := rfl
@[simp] theorem dma_setPg (n : Nat) (x : Pg) (k : Nat) : (s.setPg n x).dma k = s.dma k := rfl
@[simp] theorem holder_setPg (n : Nat) (x : Pg) (k : Nat) : (s.setPg n x).holder k = s.holder k := rfl
theorem pg_setPg (n : Nat) (x : Pg) (k : Nat) : (s.setPg n x).pg k = if k = n then x else s.pg k := Sp.get_set _ _ _ _ _
@[simp] theorem pg_setPg_same (n : Nat) (x : Pg) : (s.setPg n x).pg n = x := Sp.get_set_same _ _ _ _
theorem pg_setPg_other (n : Nat) (x : Pg) (k : Nat) (h : k ≠ n) : (s.setPg n x).pg k = s.pg k := Sp.get_set_other _ _ _ h

/-! ### setIgrp -/

@[simp] theorem regs_setIgrp (n : Nat) (x : Igrp) : (s.setIgrp n x).regs = s.regs := rfl
@[simp] theorem mem_setIgrp (n : Nat) (x : Igrp) : (s.setIgrp n x).mem = s.mem := rfl
@[simp] theorem flips_setIgrp (n : Nat) (x : Igrp) : (s.setIgrp n x).flips = s.flips := rfl
@[simp] theorem time_setIgrp (n : Nat) (x : Igrp) : (s.setIgrp n x).time = s.time := rfl
@[simp] theorem girth_setIgrp (n : Nat) (x : Igrp) : (s.setIgrp n x).girth = s.girth := rfl
@[simp] theorem ports_setIgrp (n : Nat) (x : Igrp) : (s.setIgrp n x).ports = s.ports := rfl
@[simp] theorem axes_setIgrp (n : Nat) (x : Igrp) : (s.setIgrp n x).axes = s.axes := rfl
@[simp] theorem pgs_setIgrp (n : Nat) (x : Igrp) : (s.setIgrp n x).pgs = s.pgs := rfl
@[simp] theorem vms_setIgrp (n : Nat) (x : Igrp) : (s.setIgrp n x).vms = s.vms := rfl
@[simp] theorem cinch_setIgrp (n : Nat) (x : Igrp) : (s.setIgrp n x).cinch = s.cinch := rfl
@[simp] theorem awls_setIgrp (n : Nat) (x : Igrp) : (s.setIgrp n x).awls = s.awls := rfl
@[simp] theorem lat_setIgrp (n : Nat) (x : Igrp) : (s.setIgrp n x).lat = s.lat := rfl
@[simp] theorem stitches_setIgrp (n : Nat) (x : Igrp) : (s.setIgrp n x).stitches = s.stitches := rfl
@[simp] theorem feeds_setIgrp (n : Nat) (x : Igrp) : (s.setIgrp n x).feeds = s.feeds := rfl
@[simp] theorem anas_setIgrp (n : Nat) (x : Igrp) : (s.setIgrp n x).anas = s.anas := rfl
@[simp] theorem stamps_setIgrp (n : Nat) (x : Igrp) : (s.setIgrp n x).stamps = s.stamps := rfl
@[simp] theorem sfs_setIgrp (n : Nat) (x : Igrp) : (s.setIgrp n x).sfs = s.sfs := rfl
@[simp] theorem buckle_setIgrp (n : Nat) (x : Igrp) : (s.setIgrp n x).buckle = s.buckle := rfl
@[simp] theorem fins_setIgrp (n : Nat) (x : Igrp) : (s.setIgrp n x).fins = s.fins := rfl
@[simp] theorem fouts_setIgrp (n : Nat) (x : Igrp) : (s.setIgrp n x).fouts = s.fouts := rfl
@[simp] theorem die_setIgrp (n : Nat) (x : Igrp) : (s.setIgrp n x).die = s.die := rfl
@[simp] theorem linkMiss_setIgrp (n : Nat) (x : Igrp) : (s.setIgrp n x).linkMiss = s.linkMiss := rfl
@[simp] theorem fldNew_setIgrp (n : Nat) (x : Igrp) : (s.setIgrp n x).fldNew = s.fldNew := rfl
@[simp] theorem pciDevice_setIgrp (n : Nat) (x : Igrp) : (s.setIgrp n x).pciDevice = s.pciDevice := rfl
@[simp] theorem dmas_setIgrp (n : Nat) (x : Igrp) : (s.setIgrp n x).dmas = s.dmas := rfl
@[simp] theorem claims_setIgrp (n : Nat) (x : Igrp) : (s.setIgrp n x).claims = s.claims := rfl
@[simp] theorem autoRuns_setIgrp (n : Nat) (x : Igrp) : (s.setIgrp n x).autoRuns = s.autoRuns := rfl
@[simp] theorem boot_setIgrp (n : Nat) (x : Igrp) : (s.setIgrp n x).boot = s.boot := rfl
@[simp] theorem tack_setIgrp (n : Nat) (x : Igrp) : (s.setIgrp n x).tack = s.tack := rfl
@[simp] theorem clk_setIgrp (n : Nat) (x : Igrp) : (s.setIgrp n x).clk = s.clk := rfl
@[simp] theorem logRun_setIgrp (n : Nat) (x : Igrp) : (s.setIgrp n x).logRun = s.logRun := rfl
@[simp] theorem tempFired_setIgrp (n : Nat) (x : Igrp) : (s.setIgrp n x).tempFired = s.tempFired := rfl
@[simp] theorem scrub_setIgrp (n : Nat) (x : Igrp) : (s.setIgrp n x).scrub = s.scrub := rfl
@[simp] theorem por_setIgrp (n : Nat) (x : Igrp) : (s.setIgrp n x).por = s.por := rfl
@[simp] theorem wire_setIgrp (n : Nat) (x : Igrp) : (s.setIgrp n x).wire = s.wire := rfl
@[simp] theorem reply_setIgrp (n : Nat) (x : Igrp) : (s.setIgrp n x).reply = s.reply := rfl
@[simp] theorem freeCtr_setIgrp (n : Nat) (x : Igrp) : (s.setIgrp n x).freeCtr = s.freeCtr := rfl
@[simp] theorem pending_setIgrp (n : Nat) (x : Igrp) : (s.setIgrp n x).pending = s.pending := rfl
@[simp] theorem reg_setIgrp (n : Nat) (x : Igrp) (q o : Nat) : (s.setIgrp n x).reg q o = s.reg q o := rfl
@[simp] theorem byte_setIgrp (n : Nat) (x : Igrp) (k : Nat) : (s.setIgrp n x).byte k = s.byte k := rfl
@[simp] theorem flip_setIgrp (n : Nat) (x : Igrp) (k : Nat) : (s.setIgrp n x).flip k = s.flip k := rfl
@[simp] theorem port_setIgrp (n : Nat) (x : Igrp) (k : Nat) : (s.setIgrp n x).port k = s.port k := rfl
@[simp] theorem axis_setIgrp (n : Nat) (x : Igrp) (k : Nat) : (s.setIgrp n x).axis k = s.axis k := rfl
@[simp] theorem pg_setIgrp (n : Nat) (x : Igrp) (k : Nat) : (s.setIgrp n x).pg k = s.pg k := rfl
@[simp] theorem vm_setIgrp (n : Nat) (x : Igrp) (k : Nat) : (s.setIgrp n x).vm k = s.vm k := rfl
@[simp] theorem awl_setIgrp (n : Nat) (x : Igrp) (k : Nat) : (s.setIgrp n x).awl k = s.awl k := rfl
@[simp] theorem stitch_setIgrp (n : Nat) (x : Igrp) (k : Nat) : (s.setIgrp n x).stitch k = s.stitch k := rfl
@[simp] theorem feed_setIgrp (n : Nat) (x : Igrp) (k : Nat) : (s.setIgrp n x).feed k = s.feed k := rfl
@[simp] theorem ana_setIgrp (n : Nat) (x : Igrp) (k : Nat) : (s.setIgrp n x).ana k = s.ana k := rfl
@[simp] theorem stamp_setIgrp (n : Nat) (x : Igrp) (k : Nat) : (s.setIgrp n x).stamp k = s.stamp k := rfl
@[simp] theorem sf_setIgrp (n : Nat) (x : Igrp) (k : Nat) : (s.setIgrp n x).sf k = s.sf k := rfl
@[simp] theorem safeOut_setIgrp (n : Nat) (x : Igrp) (k : Nat) : (s.setIgrp n x).safeOut k = s.safeOut k := rfl
@[simp] theorem fin_setIgrp (n : Nat) (x : Igrp) (k : Nat) : (s.setIgrp n x).fin k = s.fin k := rfl
@[simp] theorem fout_setIgrp (n : Nat) (x : Igrp) (k : Nat) : (s.setIgrp n x).fout k = s.fout k := rfl
@[simp] theorem dma_setIgrp (n : Nat) (x : Igrp) (k : Nat) : (s.setIgrp n x).dma k = s.dma k := rfl
@[simp] theorem holder_setIgrp (n : Nat) (x : Igrp) (k : Nat) : (s.setIgrp n x).holder k = s.holder k := rfl
theorem igrp_setIgrp (n : Nat) (x : Igrp) (k : Nat) : (s.setIgrp n x).igrp k = if k = n then x else s.igrp k := Sp.get_set _ _ _ _ _
@[simp] theorem igrp_setIgrp_same (n : Nat) (x : Igrp) : (s.setIgrp n x).igrp n = x := Sp.get_set_same _ _ _ _
theorem igrp_setIgrp_other (n : Nat) (x : Igrp) (k : Nat) (h : k ≠ n) : (s.setIgrp n x).igrp k = s.igrp k := Sp.get_set_other _ _ _ h

/-! ### setVm -/

@[simp] theorem regs_setVm (n : Nat) (x : Vm) : (s.setVm n x).regs = s.regs := rfl
@[simp] theorem mem_setVm (n : Nat) (x : Vm) : (s.setVm n x).mem = s.mem := rfl
@[simp] theorem flips_setVm (n : Nat) (x : Vm) : (s.setVm n x).flips = s.flips := rfl
@[simp] theorem time_setVm (n : Nat) (x : Vm) : (s.setVm n x).time = s.time := rfl
@[simp] theorem girth_setVm (n : Nat) (x : Vm) : (s.setVm n x).girth = s.girth := rfl
@[simp] theorem ports_setVm (n : Nat) (x : Vm) : (s.setVm n x).ports = s.ports := rfl
@[simp] theorem axes_setVm (n : Nat) (x : Vm) : (s.setVm n x).axes = s.axes := rfl
@[simp] theorem pgs_setVm (n : Nat) (x : Vm) : (s.setVm n x).pgs = s.pgs := rfl
@[simp] theorem igrps_setVm (n : Nat) (x : Vm) : (s.setVm n x).igrps = s.igrps := rfl
@[simp] theorem cinch_setVm (n : Nat) (x : Vm) : (s.setVm n x).cinch = s.cinch := rfl
@[simp] theorem awls_setVm (n : Nat) (x : Vm) : (s.setVm n x).awls = s.awls := rfl
@[simp] theorem lat_setVm (n : Nat) (x : Vm) : (s.setVm n x).lat = s.lat := rfl
@[simp] theorem stitches_setVm (n : Nat) (x : Vm) : (s.setVm n x).stitches = s.stitches := rfl
@[simp] theorem feeds_setVm (n : Nat) (x : Vm) : (s.setVm n x).feeds = s.feeds := rfl
@[simp] theorem anas_setVm (n : Nat) (x : Vm) : (s.setVm n x).anas = s.anas := rfl
@[simp] theorem stamps_setVm (n : Nat) (x : Vm) : (s.setVm n x).stamps = s.stamps := rfl
@[simp] theorem sfs_setVm (n : Nat) (x : Vm) : (s.setVm n x).sfs = s.sfs := rfl
@[simp] theorem buckle_setVm (n : Nat) (x : Vm) : (s.setVm n x).buckle = s.buckle := rfl
@[simp] theorem fins_setVm (n : Nat) (x : Vm) : (s.setVm n x).fins = s.fins := rfl
@[simp] theorem fouts_setVm (n : Nat) (x : Vm) : (s.setVm n x).fouts = s.fouts := rfl
@[simp] theorem die_setVm (n : Nat) (x : Vm) : (s.setVm n x).die = s.die := rfl
@[simp] theorem linkMiss_setVm (n : Nat) (x : Vm) : (s.setVm n x).linkMiss = s.linkMiss := rfl
@[simp] theorem fldNew_setVm (n : Nat) (x : Vm) : (s.setVm n x).fldNew = s.fldNew := rfl
@[simp] theorem pciDevice_setVm (n : Nat) (x : Vm) : (s.setVm n x).pciDevice = s.pciDevice := rfl
@[simp] theorem dmas_setVm (n : Nat) (x : Vm) : (s.setVm n x).dmas = s.dmas := rfl
@[simp] theorem claims_setVm (n : Nat) (x : Vm) : (s.setVm n x).claims = s.claims := rfl
@[simp] theorem autoRuns_setVm (n : Nat) (x : Vm) : (s.setVm n x).autoRuns = s.autoRuns := rfl
@[simp] theorem boot_setVm (n : Nat) (x : Vm) : (s.setVm n x).boot = s.boot := rfl
@[simp] theorem tack_setVm (n : Nat) (x : Vm) : (s.setVm n x).tack = s.tack := rfl
@[simp] theorem clk_setVm (n : Nat) (x : Vm) : (s.setVm n x).clk = s.clk := rfl
@[simp] theorem logRun_setVm (n : Nat) (x : Vm) : (s.setVm n x).logRun = s.logRun := rfl
@[simp] theorem tempFired_setVm (n : Nat) (x : Vm) : (s.setVm n x).tempFired = s.tempFired := rfl
@[simp] theorem scrub_setVm (n : Nat) (x : Vm) : (s.setVm n x).scrub = s.scrub := rfl
@[simp] theorem por_setVm (n : Nat) (x : Vm) : (s.setVm n x).por = s.por := rfl
@[simp] theorem wire_setVm (n : Nat) (x : Vm) : (s.setVm n x).wire = s.wire := rfl
@[simp] theorem reply_setVm (n : Nat) (x : Vm) : (s.setVm n x).reply = s.reply := rfl
@[simp] theorem freeCtr_setVm (n : Nat) (x : Vm) : (s.setVm n x).freeCtr = s.freeCtr := rfl
@[simp] theorem pending_setVm (n : Nat) (x : Vm) : (s.setVm n x).pending = s.pending := rfl
@[simp] theorem reg_setVm (n : Nat) (x : Vm) (q o : Nat) : (s.setVm n x).reg q o = s.reg q o := rfl
@[simp] theorem byte_setVm (n : Nat) (x : Vm) (k : Nat) : (s.setVm n x).byte k = s.byte k := rfl
@[simp] theorem flip_setVm (n : Nat) (x : Vm) (k : Nat) : (s.setVm n x).flip k = s.flip k := rfl
@[simp] theorem port_setVm (n : Nat) (x : Vm) (k : Nat) : (s.setVm n x).port k = s.port k := rfl
@[simp] theorem axis_setVm (n : Nat) (x : Vm) (k : Nat) : (s.setVm n x).axis k = s.axis k := rfl
@[simp] theorem pg_setVm (n : Nat) (x : Vm) (k : Nat) : (s.setVm n x).pg k = s.pg k := rfl
@[simp] theorem igrp_setVm (n : Nat) (x : Vm) (k : Nat) : (s.setVm n x).igrp k = s.igrp k := rfl
@[simp] theorem awl_setVm (n : Nat) (x : Vm) (k : Nat) : (s.setVm n x).awl k = s.awl k := rfl
@[simp] theorem stitch_setVm (n : Nat) (x : Vm) (k : Nat) : (s.setVm n x).stitch k = s.stitch k := rfl
@[simp] theorem feed_setVm (n : Nat) (x : Vm) (k : Nat) : (s.setVm n x).feed k = s.feed k := rfl
@[simp] theorem ana_setVm (n : Nat) (x : Vm) (k : Nat) : (s.setVm n x).ana k = s.ana k := rfl
@[simp] theorem stamp_setVm (n : Nat) (x : Vm) (k : Nat) : (s.setVm n x).stamp k = s.stamp k := rfl
@[simp] theorem sf_setVm (n : Nat) (x : Vm) (k : Nat) : (s.setVm n x).sf k = s.sf k := rfl
@[simp] theorem safeOut_setVm (n : Nat) (x : Vm) (k : Nat) : (s.setVm n x).safeOut k = s.safeOut k := rfl
@[simp] theorem fin_setVm (n : Nat) (x : Vm) (k : Nat) : (s.setVm n x).fin k = s.fin k := rfl
@[simp] theorem fout_setVm (n : Nat) (x : Vm) (k : Nat) : (s.setVm n x).fout k = s.fout k := rfl
@[simp] theorem dma_setVm (n : Nat) (x : Vm) (k : Nat) : (s.setVm n x).dma k = s.dma k := rfl
@[simp] theorem holder_setVm (n : Nat) (x : Vm) (k : Nat) : (s.setVm n x).holder k = s.holder k := rfl
theorem vm_setVm (n : Nat) (x : Vm) (k : Nat) : (s.setVm n x).vm k = if k = n then x else s.vm k := Sp.get_set _ _ _ _ _
@[simp] theorem vm_setVm_same (n : Nat) (x : Vm) : (s.setVm n x).vm n = x := Sp.get_set_same _ _ _ _
theorem vm_setVm_other (n : Nat) (x : Vm) (k : Nat) (h : k ≠ n) : (s.setVm n x).vm k = s.vm k := Sp.get_set_other _ _ _ h

/-! ### setAwl -/

@[simp] theorem regs_setAwl (n : Nat) (x : Awl) : (s.setAwl n x).regs = s.regs := rfl
@[simp] theorem mem_setAwl (n : Nat) (x : Awl) : (s.setAwl n x).mem = s.mem := rfl
@[simp] theorem flips_setAwl (n : Nat) (x : Awl) : (s.setAwl n x).flips = s.flips := rfl
@[simp] theorem time_setAwl (n : Nat) (x : Awl) : (s.setAwl n x).time = s.time := rfl
@[simp] theorem girth_setAwl (n : Nat) (x : Awl) : (s.setAwl n x).girth = s.girth := rfl
@[simp] theorem ports_setAwl (n : Nat) (x : Awl) : (s.setAwl n x).ports = s.ports := rfl
@[simp] theorem axes_setAwl (n : Nat) (x : Awl) : (s.setAwl n x).axes = s.axes := rfl
@[simp] theorem pgs_setAwl (n : Nat) (x : Awl) : (s.setAwl n x).pgs = s.pgs := rfl
@[simp] theorem igrps_setAwl (n : Nat) (x : Awl) : (s.setAwl n x).igrps = s.igrps := rfl
@[simp] theorem vms_setAwl (n : Nat) (x : Awl) : (s.setAwl n x).vms = s.vms := rfl
@[simp] theorem cinch_setAwl (n : Nat) (x : Awl) : (s.setAwl n x).cinch = s.cinch := rfl
@[simp] theorem lat_setAwl (n : Nat) (x : Awl) : (s.setAwl n x).lat = s.lat := rfl
@[simp] theorem stitches_setAwl (n : Nat) (x : Awl) : (s.setAwl n x).stitches = s.stitches := rfl
@[simp] theorem feeds_setAwl (n : Nat) (x : Awl) : (s.setAwl n x).feeds = s.feeds := rfl
@[simp] theorem anas_setAwl (n : Nat) (x : Awl) : (s.setAwl n x).anas = s.anas := rfl
@[simp] theorem stamps_setAwl (n : Nat) (x : Awl) : (s.setAwl n x).stamps = s.stamps := rfl
@[simp] theorem sfs_setAwl (n : Nat) (x : Awl) : (s.setAwl n x).sfs = s.sfs := rfl
@[simp] theorem buckle_setAwl (n : Nat) (x : Awl) : (s.setAwl n x).buckle = s.buckle := rfl
@[simp] theorem fins_setAwl (n : Nat) (x : Awl) : (s.setAwl n x).fins = s.fins := rfl
@[simp] theorem fouts_setAwl (n : Nat) (x : Awl) : (s.setAwl n x).fouts = s.fouts := rfl
@[simp] theorem die_setAwl (n : Nat) (x : Awl) : (s.setAwl n x).die = s.die := rfl
@[simp] theorem linkMiss_setAwl (n : Nat) (x : Awl) : (s.setAwl n x).linkMiss = s.linkMiss := rfl
@[simp] theorem fldNew_setAwl (n : Nat) (x : Awl) : (s.setAwl n x).fldNew = s.fldNew := rfl
@[simp] theorem pciDevice_setAwl (n : Nat) (x : Awl) : (s.setAwl n x).pciDevice = s.pciDevice := rfl
@[simp] theorem dmas_setAwl (n : Nat) (x : Awl) : (s.setAwl n x).dmas = s.dmas := rfl
@[simp] theorem claims_setAwl (n : Nat) (x : Awl) : (s.setAwl n x).claims = s.claims := rfl
@[simp] theorem autoRuns_setAwl (n : Nat) (x : Awl) : (s.setAwl n x).autoRuns = s.autoRuns := rfl
@[simp] theorem boot_setAwl (n : Nat) (x : Awl) : (s.setAwl n x).boot = s.boot := rfl
@[simp] theorem tack_setAwl (n : Nat) (x : Awl) : (s.setAwl n x).tack = s.tack := rfl
@[simp] theorem clk_setAwl (n : Nat) (x : Awl) : (s.setAwl n x).clk = s.clk := rfl
@[simp] theorem logRun_setAwl (n : Nat) (x : Awl) : (s.setAwl n x).logRun = s.logRun := rfl
@[simp] theorem tempFired_setAwl (n : Nat) (x : Awl) : (s.setAwl n x).tempFired = s.tempFired := rfl
@[simp] theorem scrub_setAwl (n : Nat) (x : Awl) : (s.setAwl n x).scrub = s.scrub := rfl
@[simp] theorem por_setAwl (n : Nat) (x : Awl) : (s.setAwl n x).por = s.por := rfl
@[simp] theorem wire_setAwl (n : Nat) (x : Awl) : (s.setAwl n x).wire = s.wire := rfl
@[simp] theorem reply_setAwl (n : Nat) (x : Awl) : (s.setAwl n x).reply = s.reply := rfl
@[simp] theorem freeCtr_setAwl (n : Nat) (x : Awl) : (s.setAwl n x).freeCtr = s.freeCtr := rfl
@[simp] theorem pending_setAwl (n : Nat) (x : Awl) : (s.setAwl n x).pending = s.pending := rfl
@[simp] theorem reg_setAwl (n : Nat) (x : Awl) (q o : Nat) : (s.setAwl n x).reg q o = s.reg q o := rfl
@[simp] theorem byte_setAwl (n : Nat) (x : Awl) (k : Nat) : (s.setAwl n x).byte k = s.byte k := rfl
@[simp] theorem flip_setAwl (n : Nat) (x : Awl) (k : Nat) : (s.setAwl n x).flip k = s.flip k := rfl
@[simp] theorem port_setAwl (n : Nat) (x : Awl) (k : Nat) : (s.setAwl n x).port k = s.port k := rfl
@[simp] theorem axis_setAwl (n : Nat) (x : Awl) (k : Nat) : (s.setAwl n x).axis k = s.axis k := rfl
@[simp] theorem pg_setAwl (n : Nat) (x : Awl) (k : Nat) : (s.setAwl n x).pg k = s.pg k := rfl
@[simp] theorem igrp_setAwl (n : Nat) (x : Awl) (k : Nat) : (s.setAwl n x).igrp k = s.igrp k := rfl
@[simp] theorem vm_setAwl (n : Nat) (x : Awl) (k : Nat) : (s.setAwl n x).vm k = s.vm k := rfl
@[simp] theorem stitch_setAwl (n : Nat) (x : Awl) (k : Nat) : (s.setAwl n x).stitch k = s.stitch k := rfl
@[simp] theorem feed_setAwl (n : Nat) (x : Awl) (k : Nat) : (s.setAwl n x).feed k = s.feed k := rfl
@[simp] theorem ana_setAwl (n : Nat) (x : Awl) (k : Nat) : (s.setAwl n x).ana k = s.ana k := rfl
@[simp] theorem stamp_setAwl (n : Nat) (x : Awl) (k : Nat) : (s.setAwl n x).stamp k = s.stamp k := rfl
@[simp] theorem sf_setAwl (n : Nat) (x : Awl) (k : Nat) : (s.setAwl n x).sf k = s.sf k := rfl
@[simp] theorem safeOut_setAwl (n : Nat) (x : Awl) (k : Nat) : (s.setAwl n x).safeOut k = s.safeOut k := rfl
@[simp] theorem fin_setAwl (n : Nat) (x : Awl) (k : Nat) : (s.setAwl n x).fin k = s.fin k := rfl
@[simp] theorem fout_setAwl (n : Nat) (x : Awl) (k : Nat) : (s.setAwl n x).fout k = s.fout k := rfl
@[simp] theorem dma_setAwl (n : Nat) (x : Awl) (k : Nat) : (s.setAwl n x).dma k = s.dma k := rfl
@[simp] theorem holder_setAwl (n : Nat) (x : Awl) (k : Nat) : (s.setAwl n x).holder k = s.holder k := rfl
theorem awl_setAwl (n : Nat) (x : Awl) (k : Nat) : (s.setAwl n x).awl k = if k = n then x else s.awl k := Sp.get_set _ _ _ _ _
@[simp] theorem awl_setAwl_same (n : Nat) (x : Awl) : (s.setAwl n x).awl n = x := Sp.get_set_same _ _ _ _
theorem awl_setAwl_other (n : Nat) (x : Awl) (k : Nat) (h : k ≠ n) : (s.setAwl n x).awl k = s.awl k := Sp.get_set_other _ _ _ h

/-! ### setStitch -/

@[simp] theorem regs_setStitch (n : Nat) (x : Stitch) : (s.setStitch n x).regs = s.regs := rfl
@[simp] theorem mem_setStitch (n : Nat) (x : Stitch) : (s.setStitch n x).mem = s.mem := rfl
@[simp] theorem flips_setStitch (n : Nat) (x : Stitch) : (s.setStitch n x).flips = s.flips := rfl
@[simp] theorem time_setStitch (n : Nat) (x : Stitch) : (s.setStitch n x).time = s.time := rfl
@[simp] theorem girth_setStitch (n : Nat) (x : Stitch) : (s.setStitch n x).girth = s.girth := rfl
@[simp] theorem ports_setStitch (n : Nat) (x : Stitch) : (s.setStitch n x).ports = s.ports := rfl
@[simp] theorem axes_setStitch (n : Nat) (x : Stitch) : (s.setStitch n x).axes = s.axes := rfl
@[simp] theorem pgs_setStitch (n : Nat) (x : Stitch) : (s.setStitch n x).pgs = s.pgs := rfl
@[simp] theorem igrps_setStitch (n : Nat) (x : Stitch) : (s.setStitch n x).igrps = s.igrps := rfl
@[simp] theorem vms_setStitch (n : Nat) (x : Stitch) : (s.setStitch n x).vms = s.vms := rfl
@[simp] theorem cinch_setStitch (n : Nat) (x : Stitch) : (s.setStitch n x).cinch = s.cinch := rfl
@[simp] theorem awls_setStitch (n : Nat) (x : Stitch) : (s.setStitch n x).awls = s.awls := rfl
@[simp] theorem lat_setStitch (n : Nat) (x : Stitch) : (s.setStitch n x).lat = s.lat := rfl
@[simp] theorem feeds_setStitch (n : Nat) (x : Stitch) : (s.setStitch n x).feeds = s.feeds := rfl
@[simp] theorem anas_setStitch (n : Nat) (x : Stitch) : (s.setStitch n x).anas = s.anas := rfl
@[simp] theorem stamps_setStitch (n : Nat) (x : Stitch) : (s.setStitch n x).stamps = s.stamps := rfl
@[simp] theorem sfs_setStitch (n : Nat) (x : Stitch) : (s.setStitch n x).sfs = s.sfs := rfl
@[simp] theorem buckle_setStitch (n : Nat) (x : Stitch) : (s.setStitch n x).buckle = s.buckle := rfl
@[simp] theorem fins_setStitch (n : Nat) (x : Stitch) : (s.setStitch n x).fins = s.fins := rfl
@[simp] theorem fouts_setStitch (n : Nat) (x : Stitch) : (s.setStitch n x).fouts = s.fouts := rfl
@[simp] theorem die_setStitch (n : Nat) (x : Stitch) : (s.setStitch n x).die = s.die := rfl
@[simp] theorem linkMiss_setStitch (n : Nat) (x : Stitch) : (s.setStitch n x).linkMiss = s.linkMiss := rfl
@[simp] theorem fldNew_setStitch (n : Nat) (x : Stitch) : (s.setStitch n x).fldNew = s.fldNew := rfl
@[simp] theorem pciDevice_setStitch (n : Nat) (x : Stitch) : (s.setStitch n x).pciDevice = s.pciDevice := rfl
@[simp] theorem dmas_setStitch (n : Nat) (x : Stitch) : (s.setStitch n x).dmas = s.dmas := rfl
@[simp] theorem claims_setStitch (n : Nat) (x : Stitch) : (s.setStitch n x).claims = s.claims := rfl
@[simp] theorem autoRuns_setStitch (n : Nat) (x : Stitch) : (s.setStitch n x).autoRuns = s.autoRuns := rfl
@[simp] theorem boot_setStitch (n : Nat) (x : Stitch) : (s.setStitch n x).boot = s.boot := rfl
@[simp] theorem tack_setStitch (n : Nat) (x : Stitch) : (s.setStitch n x).tack = s.tack := rfl
@[simp] theorem clk_setStitch (n : Nat) (x : Stitch) : (s.setStitch n x).clk = s.clk := rfl
@[simp] theorem logRun_setStitch (n : Nat) (x : Stitch) : (s.setStitch n x).logRun = s.logRun := rfl
@[simp] theorem tempFired_setStitch (n : Nat) (x : Stitch) : (s.setStitch n x).tempFired = s.tempFired := rfl
@[simp] theorem scrub_setStitch (n : Nat) (x : Stitch) : (s.setStitch n x).scrub = s.scrub := rfl
@[simp] theorem por_setStitch (n : Nat) (x : Stitch) : (s.setStitch n x).por = s.por := rfl
@[simp] theorem wire_setStitch (n : Nat) (x : Stitch) : (s.setStitch n x).wire = s.wire := rfl
@[simp] theorem reply_setStitch (n : Nat) (x : Stitch) : (s.setStitch n x).reply = s.reply := rfl
@[simp] theorem freeCtr_setStitch (n : Nat) (x : Stitch) : (s.setStitch n x).freeCtr = s.freeCtr := rfl
@[simp] theorem pending_setStitch (n : Nat) (x : Stitch) : (s.setStitch n x).pending = s.pending := rfl
@[simp] theorem reg_setStitch (n : Nat) (x : Stitch) (q o : Nat) : (s.setStitch n x).reg q o = s.reg q o := rfl
@[simp] theorem byte_setStitch (n : Nat) (x : Stitch) (k : Nat) : (s.setStitch n x).byte k = s.byte k := rfl
@[simp] theorem flip_setStitch (n : Nat) (x : Stitch) (k : Nat) : (s.setStitch n x).flip k = s.flip k := rfl
@[simp] theorem port_setStitch (n : Nat) (x : Stitch) (k : Nat) : (s.setStitch n x).port k = s.port k := rfl
@[simp] theorem axis_setStitch (n : Nat) (x : Stitch) (k : Nat) : (s.setStitch n x).axis k = s.axis k := rfl
@[simp] theorem pg_setStitch (n : Nat) (x : Stitch) (k : Nat) : (s.setStitch n x).pg k = s.pg k := rfl
@[simp] theorem igrp_setStitch (n : Nat) (x : Stitch) (k : Nat) : (s.setStitch n x).igrp k = s.igrp k := rfl
@[simp] theorem vm_setStitch (n : Nat) (x : Stitch) (k : Nat) : (s.setStitch n x).vm k = s.vm k := rfl
@[simp] theorem awl_setStitch (n : Nat) (x : Stitch) (k : Nat) : (s.setStitch n x).awl k = s.awl k := rfl
@[simp] theorem feed_setStitch (n : Nat) (x : Stitch) (k : Nat) : (s.setStitch n x).feed k = s.feed k := rfl
@[simp] theorem ana_setStitch (n : Nat) (x : Stitch) (k : Nat) : (s.setStitch n x).ana k = s.ana k := rfl
@[simp] theorem stamp_setStitch (n : Nat) (x : Stitch) (k : Nat) : (s.setStitch n x).stamp k = s.stamp k := rfl
@[simp] theorem sf_setStitch (n : Nat) (x : Stitch) (k : Nat) : (s.setStitch n x).sf k = s.sf k := rfl
@[simp] theorem safeOut_setStitch (n : Nat) (x : Stitch) (k : Nat) : (s.setStitch n x).safeOut k = s.safeOut k := rfl
@[simp] theorem fin_setStitch (n : Nat) (x : Stitch) (k : Nat) : (s.setStitch n x).fin k = s.fin k := rfl
@[simp] theorem fout_setStitch (n : Nat) (x : Stitch) (k : Nat) : (s.setStitch n x).fout k = s.fout k := rfl
@[simp] theorem dma_setStitch (n : Nat) (x : Stitch) (k : Nat) : (s.setStitch n x).dma k = s.dma k := rfl
@[simp] theorem holder_setStitch (n : Nat) (x : Stitch) (k : Nat) : (s.setStitch n x).holder k = s.holder k := rfl
theorem stitch_setStitch (n : Nat) (x : Stitch) (k : Nat) : (s.setStitch n x).stitch k = if k = n then x else s.stitch k := Sp.get_set _ _ _ _ _
@[simp] theorem stitch_setStitch_same (n : Nat) (x : Stitch) : (s.setStitch n x).stitch n = x := Sp.get_set_same _ _ _ _
theorem stitch_setStitch_other (n : Nat) (x : Stitch) (k : Nat) (h : k ≠ n) : (s.setStitch n x).stitch k = s.stitch k := Sp.get_set_other _ _ _ h

/-! ### setFeed -/

@[simp] theorem regs_setFeed (n : Nat) (x : Feed) : (s.setFeed n x).regs = s.regs := rfl
@[simp] theorem mem_setFeed (n : Nat) (x : Feed) : (s.setFeed n x).mem = s.mem := rfl
@[simp] theorem flips_setFeed (n : Nat) (x : Feed) : (s.setFeed n x).flips = s.flips := rfl
@[simp] theorem time_setFeed (n : Nat) (x : Feed) : (s.setFeed n x).time = s.time := rfl
@[simp] theorem girth_setFeed (n : Nat) (x : Feed) : (s.setFeed n x).girth = s.girth := rfl
@[simp] theorem ports_setFeed (n : Nat) (x : Feed) : (s.setFeed n x).ports = s.ports := rfl
@[simp] theorem axes_setFeed (n : Nat) (x : Feed) : (s.setFeed n x).axes = s.axes := rfl
@[simp] theorem pgs_setFeed (n : Nat) (x : Feed) : (s.setFeed n x).pgs = s.pgs := rfl
@[simp] theorem igrps_setFeed (n : Nat) (x : Feed) : (s.setFeed n x).igrps = s.igrps := rfl
@[simp] theorem vms_setFeed (n : Nat) (x : Feed) : (s.setFeed n x).vms = s.vms := rfl
@[simp] theorem cinch_setFeed (n : Nat) (x : Feed) : (s.setFeed n x).cinch = s.cinch := rfl
@[simp] theorem awls_setFeed (n : Nat) (x : Feed) : (s.setFeed n x).awls = s.awls := rfl
@[simp] theorem lat_setFeed (n : Nat) (x : Feed) : (s.setFeed n x).lat = s.lat := rfl
@[simp] theorem stitches_setFeed (n : Nat) (x : Feed) : (s.setFeed n x).stitches = s.stitches := rfl
@[simp] theorem anas_setFeed (n : Nat) (x : Feed) : (s.setFeed n x).anas = s.anas := rfl
@[simp] theorem stamps_setFeed (n : Nat) (x : Feed) : (s.setFeed n x).stamps = s.stamps := rfl
@[simp] theorem sfs_setFeed (n : Nat) (x : Feed) : (s.setFeed n x).sfs = s.sfs := rfl
@[simp] theorem buckle_setFeed (n : Nat) (x : Feed) : (s.setFeed n x).buckle = s.buckle := rfl
@[simp] theorem fins_setFeed (n : Nat) (x : Feed) : (s.setFeed n x).fins = s.fins := rfl
@[simp] theorem fouts_setFeed (n : Nat) (x : Feed) : (s.setFeed n x).fouts = s.fouts := rfl
@[simp] theorem die_setFeed (n : Nat) (x : Feed) : (s.setFeed n x).die = s.die := rfl
@[simp] theorem linkMiss_setFeed (n : Nat) (x : Feed) : (s.setFeed n x).linkMiss = s.linkMiss := rfl
@[simp] theorem fldNew_setFeed (n : Nat) (x : Feed) : (s.setFeed n x).fldNew = s.fldNew := rfl
@[simp] theorem pciDevice_setFeed (n : Nat) (x : Feed) : (s.setFeed n x).pciDevice = s.pciDevice := rfl
@[simp] theorem dmas_setFeed (n : Nat) (x : Feed) : (s.setFeed n x).dmas = s.dmas := rfl
@[simp] theorem claims_setFeed (n : Nat) (x : Feed) : (s.setFeed n x).claims = s.claims := rfl
@[simp] theorem autoRuns_setFeed (n : Nat) (x : Feed) : (s.setFeed n x).autoRuns = s.autoRuns := rfl
@[simp] theorem boot_setFeed (n : Nat) (x : Feed) : (s.setFeed n x).boot = s.boot := rfl
@[simp] theorem tack_setFeed (n : Nat) (x : Feed) : (s.setFeed n x).tack = s.tack := rfl
@[simp] theorem clk_setFeed (n : Nat) (x : Feed) : (s.setFeed n x).clk = s.clk := rfl
@[simp] theorem logRun_setFeed (n : Nat) (x : Feed) : (s.setFeed n x).logRun = s.logRun := rfl
@[simp] theorem tempFired_setFeed (n : Nat) (x : Feed) : (s.setFeed n x).tempFired = s.tempFired := rfl
@[simp] theorem scrub_setFeed (n : Nat) (x : Feed) : (s.setFeed n x).scrub = s.scrub := rfl
@[simp] theorem por_setFeed (n : Nat) (x : Feed) : (s.setFeed n x).por = s.por := rfl
@[simp] theorem wire_setFeed (n : Nat) (x : Feed) : (s.setFeed n x).wire = s.wire := rfl
@[simp] theorem reply_setFeed (n : Nat) (x : Feed) : (s.setFeed n x).reply = s.reply := rfl
@[simp] theorem freeCtr_setFeed (n : Nat) (x : Feed) : (s.setFeed n x).freeCtr = s.freeCtr := rfl
@[simp] theorem pending_setFeed (n : Nat) (x : Feed) : (s.setFeed n x).pending = s.pending := rfl
@[simp] theorem reg_setFeed (n : Nat) (x : Feed) (q o : Nat) : (s.setFeed n x).reg q o = s.reg q o := rfl
@[simp] theorem byte_setFeed (n : Nat) (x : Feed) (k : Nat) : (s.setFeed n x).byte k = s.byte k := rfl
@[simp] theorem flip_setFeed (n : Nat) (x : Feed) (k : Nat) : (s.setFeed n x).flip k = s.flip k := rfl
@[simp] theorem port_setFeed (n : Nat) (x : Feed) (k : Nat) : (s.setFeed n x).port k = s.port k := rfl
@[simp] theorem axis_setFeed (n : Nat) (x : Feed) (k : Nat) : (s.setFeed n x).axis k = s.axis k := rfl
@[simp] theorem pg_setFeed (n : Nat) (x : Feed) (k : Nat) : (s.setFeed n x).pg k = s.pg k := rfl
@[simp] theorem igrp_setFeed (n : Nat) (x : Feed) (k : Nat) : (s.setFeed n x).igrp k = s.igrp k := rfl
@[simp] theorem vm_setFeed (n : Nat) (x : Feed) (k : Nat) : (s.setFeed n x).vm k = s.vm k := rfl
@[simp] theorem awl_setFeed (n : Nat) (x : Feed) (k : Nat) : (s.setFeed n x).awl k = s.awl k := rfl
@[simp] theorem stitch_setFeed (n : Nat) (x : Feed) (k : Nat) : (s.setFeed n x).stitch k = s.stitch k := rfl
@[simp] theorem ana_setFeed (n : Nat) (x : Feed) (k : Nat) : (s.setFeed n x).ana k = s.ana k := rfl
@[simp] theorem stamp_setFeed (n : Nat) (x : Feed) (k : Nat) : (s.setFeed n x).stamp k = s.stamp k := rfl
@[simp] theorem sf_setFeed (n : Nat) (x : Feed) (k : Nat) : (s.setFeed n x).sf k = s.sf k := rfl
@[simp] theorem safeOut_setFeed (n : Nat) (x : Feed) (k : Nat) : (s.setFeed n x).safeOut k = s.safeOut k := rfl
@[simp] theorem fin_setFeed (n : Nat) (x : Feed) (k : Nat) : (s.setFeed n x).fin k = s.fin k := rfl
@[simp] theorem fout_setFeed (n : Nat) (x : Feed) (k : Nat) : (s.setFeed n x).fout k = s.fout k := rfl
@[simp] theorem dma_setFeed (n : Nat) (x : Feed) (k : Nat) : (s.setFeed n x).dma k = s.dma k := rfl
@[simp] theorem holder_setFeed (n : Nat) (x : Feed) (k : Nat) : (s.setFeed n x).holder k = s.holder k := rfl
theorem feed_setFeed (n : Nat) (x : Feed) (k : Nat) : (s.setFeed n x).feed k = if k = n then x else s.feed k := Sp.get_set _ _ _ _ _
@[simp] theorem feed_setFeed_same (n : Nat) (x : Feed) : (s.setFeed n x).feed n = x := Sp.get_set_same _ _ _ _
theorem feed_setFeed_other (n : Nat) (x : Feed) (k : Nat) (h : k ≠ n) : (s.setFeed n x).feed k = s.feed k := Sp.get_set_other _ _ _ h

/-! ### setAna -/

@[simp] theorem regs_setAna (n : Nat) (x : Ana) : (s.setAna n x).regs = s.regs := rfl
@[simp] theorem mem_setAna (n : Nat) (x : Ana) : (s.setAna n x).mem = s.mem := rfl
@[simp] theorem flips_setAna (n : Nat) (x : Ana) : (s.setAna n x).flips = s.flips := rfl
@[simp] theorem time_setAna (n : Nat) (x : Ana) : (s.setAna n x).time = s.time := rfl
@[simp] theorem girth_setAna (n : Nat) (x : Ana) : (s.setAna n x).girth = s.girth := rfl
@[simp] theorem ports_setAna (n : Nat) (x : Ana) : (s.setAna n x).ports = s.ports := rfl
@[simp] theorem axes_setAna (n : Nat) (x : Ana) : (s.setAna n x).axes = s.axes := rfl
@[simp] theorem pgs_setAna (n : Nat) (x : Ana) : (s.setAna n x).pgs = s.pgs := rfl
@[simp] theorem igrps_setAna (n : Nat) (x : Ana) : (s.setAna n x).igrps = s.igrps := rfl
@[simp] theorem vms_setAna (n : Nat) (x : Ana) : (s.setAna n x).vms = s.vms := rfl
@[simp] theorem cinch_setAna (n : Nat) (x : Ana) : (s.setAna n x).cinch = s.cinch := rfl
@[simp] theorem awls_setAna (n : Nat) (x : Ana) : (s.setAna n x).awls = s.awls := rfl
@[simp] theorem lat_setAna (n : Nat) (x : Ana) : (s.setAna n x).lat = s.lat := rfl
@[simp] theorem stitches_setAna (n : Nat) (x : Ana) : (s.setAna n x).stitches = s.stitches := rfl
@[simp] theorem feeds_setAna (n : Nat) (x : Ana) : (s.setAna n x).feeds = s.feeds := rfl
@[simp] theorem stamps_setAna (n : Nat) (x : Ana) : (s.setAna n x).stamps = s.stamps := rfl
@[simp] theorem sfs_setAna (n : Nat) (x : Ana) : (s.setAna n x).sfs = s.sfs := rfl
@[simp] theorem buckle_setAna (n : Nat) (x : Ana) : (s.setAna n x).buckle = s.buckle := rfl
@[simp] theorem fins_setAna (n : Nat) (x : Ana) : (s.setAna n x).fins = s.fins := rfl
@[simp] theorem fouts_setAna (n : Nat) (x : Ana) : (s.setAna n x).fouts = s.fouts := rfl
@[simp] theorem die_setAna (n : Nat) (x : Ana) : (s.setAna n x).die = s.die := rfl
@[simp] theorem linkMiss_setAna (n : Nat) (x : Ana) : (s.setAna n x).linkMiss = s.linkMiss := rfl
@[simp] theorem fldNew_setAna (n : Nat) (x : Ana) : (s.setAna n x).fldNew = s.fldNew := rfl
@[simp] theorem pciDevice_setAna (n : Nat) (x : Ana) : (s.setAna n x).pciDevice = s.pciDevice := rfl
@[simp] theorem dmas_setAna (n : Nat) (x : Ana) : (s.setAna n x).dmas = s.dmas := rfl
@[simp] theorem claims_setAna (n : Nat) (x : Ana) : (s.setAna n x).claims = s.claims := rfl
@[simp] theorem autoRuns_setAna (n : Nat) (x : Ana) : (s.setAna n x).autoRuns = s.autoRuns := rfl
@[simp] theorem boot_setAna (n : Nat) (x : Ana) : (s.setAna n x).boot = s.boot := rfl
@[simp] theorem tack_setAna (n : Nat) (x : Ana) : (s.setAna n x).tack = s.tack := rfl
@[simp] theorem clk_setAna (n : Nat) (x : Ana) : (s.setAna n x).clk = s.clk := rfl
@[simp] theorem logRun_setAna (n : Nat) (x : Ana) : (s.setAna n x).logRun = s.logRun := rfl
@[simp] theorem tempFired_setAna (n : Nat) (x : Ana) : (s.setAna n x).tempFired = s.tempFired := rfl
@[simp] theorem scrub_setAna (n : Nat) (x : Ana) : (s.setAna n x).scrub = s.scrub := rfl
@[simp] theorem por_setAna (n : Nat) (x : Ana) : (s.setAna n x).por = s.por := rfl
@[simp] theorem wire_setAna (n : Nat) (x : Ana) : (s.setAna n x).wire = s.wire := rfl
@[simp] theorem reply_setAna (n : Nat) (x : Ana) : (s.setAna n x).reply = s.reply := rfl
@[simp] theorem freeCtr_setAna (n : Nat) (x : Ana) : (s.setAna n x).freeCtr = s.freeCtr := rfl
@[simp] theorem pending_setAna (n : Nat) (x : Ana) : (s.setAna n x).pending = s.pending := rfl
@[simp] theorem reg_setAna (n : Nat) (x : Ana) (q o : Nat) : (s.setAna n x).reg q o = s.reg q o := rfl
@[simp] theorem byte_setAna (n : Nat) (x : Ana) (k : Nat) : (s.setAna n x).byte k = s.byte k := rfl
@[simp] theorem flip_setAna (n : Nat) (x : Ana) (k : Nat) : (s.setAna n x).flip k = s.flip k := rfl
@[simp] theorem port_setAna (n : Nat) (x : Ana) (k : Nat) : (s.setAna n x).port k = s.port k := rfl
@[simp] theorem axis_setAna (n : Nat) (x : Ana) (k : Nat) : (s.setAna n x).axis k = s.axis k := rfl
@[simp] theorem pg_setAna (n : Nat) (x : Ana) (k : Nat) : (s.setAna n x).pg k = s.pg k := rfl
@[simp] theorem igrp_setAna (n : Nat) (x : Ana) (k : Nat) : (s.setAna n x).igrp k = s.igrp k := rfl
@[simp] theorem vm_setAna (n : Nat) (x : Ana) (k : Nat) : (s.setAna n x).vm k = s.vm k := rfl
@[simp] theorem awl_setAna (n : Nat) (x : Ana) (k : Nat) : (s.setAna n x).awl k = s.awl k := rfl
@[simp] theorem stitch_setAna (n : Nat) (x : Ana) (k : Nat) : (s.setAna n x).stitch k = s.stitch k := rfl
@[simp] theorem feed_setAna (n : Nat) (x : Ana) (k : Nat) : (s.setAna n x).feed k = s.feed k := rfl
@[simp] theorem stamp_setAna (n : Nat) (x : Ana) (k : Nat) : (s.setAna n x).stamp k = s.stamp k := rfl
@[simp] theorem sf_setAna (n : Nat) (x : Ana) (k : Nat) : (s.setAna n x).sf k = s.sf k := rfl
@[simp] theorem safeOut_setAna (n : Nat) (x : Ana) (k : Nat) : (s.setAna n x).safeOut k = s.safeOut k := rfl
@[simp] theorem fin_setAna (n : Nat) (x : Ana) (k : Nat) : (s.setAna n x).fin k = s.fin k := rfl
@[simp] theorem fout_setAna (n : Nat) (x : Ana) (k : Nat) : (s.setAna n x).fout k = s.fout k := rfl
@[simp] theorem dma_setAna (n : Nat) (x : Ana) (k : Nat) : (s.setAna n x).dma k = s.dma k := rfl
@[simp] theorem holder_setAna (n : Nat) (x : Ana) (k : Nat) : (s.setAna n x).holder k = s.holder k := rfl
theorem ana_setAna (n : Nat) (x : Ana) (k : Nat) : (s.setAna n x).ana k = if k = n then x else s.ana k := Sp.get_set _ _ _ _ _
@[simp] theorem ana_setAna_same (n : Nat) (x : Ana) : (s.setAna n x).ana n = x := Sp.get_set_same _ _ _ _
theorem ana_setAna_other (n : Nat) (x : Ana) (k : Nat) (h : k ≠ n) : (s.setAna n x).ana k = s.ana k := Sp.get_set_other _ _ _ h

/-! ### setStamp -/

@[simp] theorem regs_setStamp (n : Nat) (x : Stamp) : (s.setStamp n x).regs = s.regs := rfl
@[simp] theorem mem_setStamp (n : Nat) (x : Stamp) : (s.setStamp n x).mem = s.mem := rfl
@[simp] theorem flips_setStamp (n : Nat) (x : Stamp) : (s.setStamp n x).flips = s.flips := rfl
@[simp] theorem time_setStamp (n : Nat) (x : Stamp) : (s.setStamp n x).time = s.time := rfl
@[simp] theorem girth_setStamp (n : Nat) (x : Stamp) : (s.setStamp n x).girth = s.girth := rfl
@[simp] theorem ports_setStamp (n : Nat) (x : Stamp) : (s.setStamp n x).ports = s.ports := rfl
@[simp] theorem axes_setStamp (n : Nat) (x : Stamp) : (s.setStamp n x).axes = s.axes := rfl
@[simp] theorem pgs_setStamp (n : Nat) (x : Stamp) : (s.setStamp n x).pgs = s.pgs := rfl
@[simp] theorem igrps_setStamp (n : Nat) (x : Stamp) : (s.setStamp n x).igrps = s.igrps := rfl
@[simp] theorem vms_setStamp (n : Nat) (x : Stamp) : (s.setStamp n x).vms = s.vms := rfl
@[simp] theorem cinch_setStamp (n : Nat) (x : Stamp) : (s.setStamp n x).cinch = s.cinch := rfl
@[simp] theorem awls_setStamp (n : Nat) (x : Stamp) : (s.setStamp n x).awls = s.awls := rfl
@[simp] theorem lat_setStamp (n : Nat) (x : Stamp) : (s.setStamp n x).lat = s.lat := rfl
@[simp] theorem stitches_setStamp (n : Nat) (x : Stamp) : (s.setStamp n x).stitches = s.stitches := rfl
@[simp] theorem feeds_setStamp (n : Nat) (x : Stamp) : (s.setStamp n x).feeds = s.feeds := rfl
@[simp] theorem anas_setStamp (n : Nat) (x : Stamp) : (s.setStamp n x).anas = s.anas := rfl
@[simp] theorem sfs_setStamp (n : Nat) (x : Stamp) : (s.setStamp n x).sfs = s.sfs := rfl
@[simp] theorem buckle_setStamp (n : Nat) (x : Stamp) : (s.setStamp n x).buckle = s.buckle := rfl
@[simp] theorem fins_setStamp (n : Nat) (x : Stamp) : (s.setStamp n x).fins = s.fins := rfl
@[simp] theorem fouts_setStamp (n : Nat) (x : Stamp) : (s.setStamp n x).fouts = s.fouts := rfl
@[simp] theorem die_setStamp (n : Nat) (x : Stamp) : (s.setStamp n x).die = s.die := rfl
@[simp] theorem linkMiss_setStamp (n : Nat) (x : Stamp) : (s.setStamp n x).linkMiss = s.linkMiss := rfl
@[simp] theorem fldNew_setStamp (n : Nat) (x : Stamp) : (s.setStamp n x).fldNew = s.fldNew := rfl
@[simp] theorem pciDevice_setStamp (n : Nat) (x : Stamp) : (s.setStamp n x).pciDevice = s.pciDevice := rfl
@[simp] theorem dmas_setStamp (n : Nat) (x : Stamp) : (s.setStamp n x).dmas = s.dmas := rfl
@[simp] theorem claims_setStamp (n : Nat) (x : Stamp) : (s.setStamp n x).claims = s.claims := rfl
@[simp] theorem autoRuns_setStamp (n : Nat) (x : Stamp) : (s.setStamp n x).autoRuns = s.autoRuns := rfl
@[simp] theorem boot_setStamp (n : Nat) (x : Stamp) : (s.setStamp n x).boot = s.boot := rfl
@[simp] theorem tack_setStamp (n : Nat) (x : Stamp) : (s.setStamp n x).tack = s.tack := rfl
@[simp] theorem clk_setStamp (n : Nat) (x : Stamp) : (s.setStamp n x).clk = s.clk := rfl
@[simp] theorem logRun_setStamp (n : Nat) (x : Stamp) : (s.setStamp n x).logRun = s.logRun := rfl
@[simp] theorem tempFired_setStamp (n : Nat) (x : Stamp) : (s.setStamp n x).tempFired = s.tempFired := rfl
@[simp] theorem scrub_setStamp (n : Nat) (x : Stamp) : (s.setStamp n x).scrub = s.scrub := rfl
@[simp] theorem por_setStamp (n : Nat) (x : Stamp) : (s.setStamp n x).por = s.por := rfl
@[simp] theorem wire_setStamp (n : Nat) (x : Stamp) : (s.setStamp n x).wire = s.wire := rfl
@[simp] theorem reply_setStamp (n : Nat) (x : Stamp) : (s.setStamp n x).reply = s.reply := rfl
@[simp] theorem freeCtr_setStamp (n : Nat) (x : Stamp) : (s.setStamp n x).freeCtr = s.freeCtr := rfl
@[simp] theorem pending_setStamp (n : Nat) (x : Stamp) : (s.setStamp n x).pending = s.pending := rfl
@[simp] theorem reg_setStamp (n : Nat) (x : Stamp) (q o : Nat) : (s.setStamp n x).reg q o = s.reg q o := rfl
@[simp] theorem byte_setStamp (n : Nat) (x : Stamp) (k : Nat) : (s.setStamp n x).byte k = s.byte k := rfl
@[simp] theorem flip_setStamp (n : Nat) (x : Stamp) (k : Nat) : (s.setStamp n x).flip k = s.flip k := rfl
@[simp] theorem port_setStamp (n : Nat) (x : Stamp) (k : Nat) : (s.setStamp n x).port k = s.port k := rfl
@[simp] theorem axis_setStamp (n : Nat) (x : Stamp) (k : Nat) : (s.setStamp n x).axis k = s.axis k := rfl
@[simp] theorem pg_setStamp (n : Nat) (x : Stamp) (k : Nat) : (s.setStamp n x).pg k = s.pg k := rfl
@[simp] theorem igrp_setStamp (n : Nat) (x : Stamp) (k : Nat) : (s.setStamp n x).igrp k = s.igrp k := rfl
@[simp] theorem vm_setStamp (n : Nat) (x : Stamp) (k : Nat) : (s.setStamp n x).vm k = s.vm k := rfl
@[simp] theorem awl_setStamp (n : Nat) (x : Stamp) (k : Nat) : (s.setStamp n x).awl k = s.awl k := rfl
@[simp] theorem stitch_setStamp (n : Nat) (x : Stamp) (k : Nat) : (s.setStamp n x).stitch k = s.stitch k := rfl
@[simp] theorem feed_setStamp (n : Nat) (x : Stamp) (k : Nat) : (s.setStamp n x).feed k = s.feed k := rfl
@[simp] theorem ana_setStamp (n : Nat) (x : Stamp) (k : Nat) : (s.setStamp n x).ana k = s.ana k := rfl
@[simp] theorem sf_setStamp (n : Nat) (x : Stamp) (k : Nat) : (s.setStamp n x).sf k = s.sf k := rfl
@[simp] theorem safeOut_setStamp (n : Nat) (x : Stamp) (k : Nat) : (s.setStamp n x).safeOut k = s.safeOut k := rfl
@[simp] theorem fin_setStamp (n : Nat) (x : Stamp) (k : Nat) : (s.setStamp n x).fin k = s.fin k := rfl
@[simp] theorem fout_setStamp (n : Nat) (x : Stamp) (k : Nat) : (s.setStamp n x).fout k = s.fout k := rfl
@[simp] theorem dma_setStamp (n : Nat) (x : Stamp) (k : Nat) : (s.setStamp n x).dma k = s.dma k := rfl
@[simp] theorem holder_setStamp (n : Nat) (x : Stamp) (k : Nat) : (s.setStamp n x).holder k = s.holder k := rfl
theorem stamp_setStamp (n : Nat) (x : Stamp) (k : Nat) : (s.setStamp n x).stamp k = if k = n then x else s.stamp k := Sp.get_set _ _ _ _ _
@[simp] theorem stamp_setStamp_same (n : Nat) (x : Stamp) : (s.setStamp n x).stamp n = x := Sp.get_set_same _ _ _ _
theorem stamp_setStamp_other (n : Nat) (x : Stamp) (k : Nat) (h : k ≠ n) : (s.setStamp n x).stamp k = s.stamp k := Sp.get_set_other _ _ _ h

/-! ### setSf -/

@[simp] theorem regs_setSf (n : Nat) (x : Sf) : (s.setSf n x).regs = s.regs := rfl
@[simp] theorem mem_setSf (n : Nat) (x : Sf) : (s.setSf n x).mem = s.mem := rfl
@[simp] theorem flips_setSf (n : Nat) (x : Sf) : (s.setSf n x).flips = s.flips := rfl
@[simp] theorem time_setSf (n : Nat) (x : Sf) : (s.setSf n x).time = s.time := rfl
@[simp] theorem girth_setSf (n : Nat) (x : Sf) : (s.setSf n x).girth = s.girth := rfl
@[simp] theorem ports_setSf (n : Nat) (x : Sf) : (s.setSf n x).ports = s.ports := rfl
@[simp] theorem axes_setSf (n : Nat) (x : Sf) : (s.setSf n x).axes = s.axes := rfl
@[simp] theorem pgs_setSf (n : Nat) (x : Sf) : (s.setSf n x).pgs = s.pgs := rfl
@[simp] theorem igrps_setSf (n : Nat) (x : Sf) : (s.setSf n x).igrps = s.igrps := rfl
@[simp] theorem vms_setSf (n : Nat) (x : Sf) : (s.setSf n x).vms = s.vms := rfl
@[simp] theorem cinch_setSf (n : Nat) (x : Sf) : (s.setSf n x).cinch = s.cinch := rfl
@[simp] theorem awls_setSf (n : Nat) (x : Sf) : (s.setSf n x).awls = s.awls := rfl
@[simp] theorem lat_setSf (n : Nat) (x : Sf) : (s.setSf n x).lat = s.lat := rfl
@[simp] theorem stitches_setSf (n : Nat) (x : Sf) : (s.setSf n x).stitches = s.stitches := rfl
@[simp] theorem feeds_setSf (n : Nat) (x : Sf) : (s.setSf n x).feeds = s.feeds := rfl
@[simp] theorem anas_setSf (n : Nat) (x : Sf) : (s.setSf n x).anas = s.anas := rfl
@[simp] theorem stamps_setSf (n : Nat) (x : Sf) : (s.setSf n x).stamps = s.stamps := rfl
@[simp] theorem buckle_setSf (n : Nat) (x : Sf) : (s.setSf n x).buckle = s.buckle := rfl
@[simp] theorem fins_setSf (n : Nat) (x : Sf) : (s.setSf n x).fins = s.fins := rfl
@[simp] theorem fouts_setSf (n : Nat) (x : Sf) : (s.setSf n x).fouts = s.fouts := rfl
@[simp] theorem die_setSf (n : Nat) (x : Sf) : (s.setSf n x).die = s.die := rfl
@[simp] theorem linkMiss_setSf (n : Nat) (x : Sf) : (s.setSf n x).linkMiss = s.linkMiss := rfl
@[simp] theorem fldNew_setSf (n : Nat) (x : Sf) : (s.setSf n x).fldNew = s.fldNew := rfl
@[simp] theorem pciDevice_setSf (n : Nat) (x : Sf) : (s.setSf n x).pciDevice = s.pciDevice := rfl
@[simp] theorem dmas_setSf (n : Nat) (x : Sf) : (s.setSf n x).dmas = s.dmas := rfl
@[simp] theorem claims_setSf (n : Nat) (x : Sf) : (s.setSf n x).claims = s.claims := rfl
@[simp] theorem autoRuns_setSf (n : Nat) (x : Sf) : (s.setSf n x).autoRuns = s.autoRuns := rfl
@[simp] theorem boot_setSf (n : Nat) (x : Sf) : (s.setSf n x).boot = s.boot := rfl
@[simp] theorem tack_setSf (n : Nat) (x : Sf) : (s.setSf n x).tack = s.tack := rfl
@[simp] theorem clk_setSf (n : Nat) (x : Sf) : (s.setSf n x).clk = s.clk := rfl
@[simp] theorem logRun_setSf (n : Nat) (x : Sf) : (s.setSf n x).logRun = s.logRun := rfl
@[simp] theorem tempFired_setSf (n : Nat) (x : Sf) : (s.setSf n x).tempFired = s.tempFired := rfl
@[simp] theorem scrub_setSf (n : Nat) (x : Sf) : (s.setSf n x).scrub = s.scrub := rfl
@[simp] theorem por_setSf (n : Nat) (x : Sf) : (s.setSf n x).por = s.por := rfl
@[simp] theorem wire_setSf (n : Nat) (x : Sf) : (s.setSf n x).wire = s.wire := rfl
@[simp] theorem reply_setSf (n : Nat) (x : Sf) : (s.setSf n x).reply = s.reply := rfl
@[simp] theorem freeCtr_setSf (n : Nat) (x : Sf) : (s.setSf n x).freeCtr = s.freeCtr := rfl
@[simp] theorem pending_setSf (n : Nat) (x : Sf) : (s.setSf n x).pending = s.pending := rfl
@[simp] theorem reg_setSf (n : Nat) (x : Sf) (q o : Nat) : (s.setSf n x).reg q o = s.reg q o := rfl
@[simp] theorem byte_setSf (n : Nat) (x : Sf) (k : Nat) : (s.setSf n x).byte k = s.byte k := rfl
@[simp] theorem flip_setSf (n : Nat) (x : Sf) (k : Nat) : (s.setSf n x).flip k = s.flip k := rfl
@[simp] theorem port_setSf (n : Nat) (x : Sf) (k : Nat) : (s.setSf n x).port k = s.port k := rfl
@[simp] theorem axis_setSf (n : Nat) (x : Sf) (k : Nat) : (s.setSf n x).axis k = s.axis k := rfl
@[simp] theorem pg_setSf (n : Nat) (x : Sf) (k : Nat) : (s.setSf n x).pg k = s.pg k := rfl
@[simp] theorem igrp_setSf (n : Nat) (x : Sf) (k : Nat) : (s.setSf n x).igrp k = s.igrp k := rfl
@[simp] theorem vm_setSf (n : Nat) (x : Sf) (k : Nat) : (s.setSf n x).vm k = s.vm k := rfl
@[simp] theorem awl_setSf (n : Nat) (x : Sf) (k : Nat) : (s.setSf n x).awl k = s.awl k := rfl
@[simp] theorem stitch_setSf (n : Nat) (x : Sf) (k : Nat) : (s.setSf n x).stitch k = s.stitch k := rfl
@[simp] theorem feed_setSf (n : Nat) (x : Sf) (k : Nat) : (s.setSf n x).feed k = s.feed k := rfl
@[simp] theorem ana_setSf (n : Nat) (x : Sf) (k : Nat) : (s.setSf n x).ana k = s.ana k := rfl
@[simp] theorem stamp_setSf (n : Nat) (x : Sf) (k : Nat) : (s.setSf n x).stamp k = s.stamp k := rfl
@[simp] theorem safeOut_setSf (n : Nat) (x : Sf) (k : Nat) : (s.setSf n x).safeOut k = s.safeOut k := rfl
@[simp] theorem fin_setSf (n : Nat) (x : Sf) (k : Nat) : (s.setSf n x).fin k = s.fin k := rfl
@[simp] theorem fout_setSf (n : Nat) (x : Sf) (k : Nat) : (s.setSf n x).fout k = s.fout k := rfl
@[simp] theorem dma_setSf (n : Nat) (x : Sf) (k : Nat) : (s.setSf n x).dma k = s.dma k := rfl
@[simp] theorem holder_setSf (n : Nat) (x : Sf) (k : Nat) : (s.setSf n x).holder k = s.holder k := rfl
theorem sf_setSf (n : Nat) (x : Sf) (k : Nat) : (s.setSf n x).sf k = if k = n then x else s.sf k := Sp.get_set _ _ _ _ _
@[simp] theorem sf_setSf_same (n : Nat) (x : Sf) : (s.setSf n x).sf n = x := Sp.get_set_same _ _ _ _
theorem sf_setSf_other (n : Nat) (x : Sf) (k : Nat) (h : k ≠ n) : (s.setSf n x).sf k = s.sf k := Sp.get_set_other _ _ _ h

/-! ### setSafeOut -/

@[simp] theorem regs_setSafeOut (n : Nat) (x : SafeOut) : (s.setSafeOut n x).regs = s.regs := rfl
@[simp] theorem mem_setSafeOut (n : Nat) (x : SafeOut) : (s.setSafeOut n x).mem = s.mem := rfl
@[simp] theorem flips_setSafeOut (n : Nat) (x : SafeOut) : (s.setSafeOut n x).flips = s.flips := rfl
@[simp] theorem time_setSafeOut (n : Nat) (x : SafeOut) : (s.setSafeOut n x).time = s.time := rfl
@[simp] theorem girth_setSafeOut (n : Nat) (x : SafeOut) : (s.setSafeOut n x).girth = s.girth := rfl
@[simp] theorem ports_setSafeOut (n : Nat) (x : SafeOut) : (s.setSafeOut n x).ports = s.ports := rfl
@[simp] theorem axes_setSafeOut (n : Nat) (x : SafeOut) : (s.setSafeOut n x).axes = s.axes := rfl
@[simp] theorem pgs_setSafeOut (n : Nat) (x : SafeOut) : (s.setSafeOut n x).pgs = s.pgs := rfl
@[simp] theorem igrps_setSafeOut (n : Nat) (x : SafeOut) : (s.setSafeOut n x).igrps = s.igrps := rfl
@[simp] theorem vms_setSafeOut (n : Nat) (x : SafeOut) : (s.setSafeOut n x).vms = s.vms := rfl
@[simp] theorem cinch_setSafeOut (n : Nat) (x : SafeOut) : (s.setSafeOut n x).cinch = s.cinch := rfl
@[simp] theorem awls_setSafeOut (n : Nat) (x : SafeOut) : (s.setSafeOut n x).awls = s.awls := rfl
@[simp] theorem lat_setSafeOut (n : Nat) (x : SafeOut) : (s.setSafeOut n x).lat = s.lat := rfl
@[simp] theorem stitches_setSafeOut (n : Nat) (x : SafeOut) : (s.setSafeOut n x).stitches = s.stitches := rfl
@[simp] theorem feeds_setSafeOut (n : Nat) (x : SafeOut) : (s.setSafeOut n x).feeds = s.feeds := rfl
@[simp] theorem anas_setSafeOut (n : Nat) (x : SafeOut) : (s.setSafeOut n x).anas = s.anas := rfl
@[simp] theorem stamps_setSafeOut (n : Nat) (x : SafeOut) : (s.setSafeOut n x).stamps = s.stamps := rfl
@[simp] theorem sfs_setSafeOut (n : Nat) (x : SafeOut) : (s.setSafeOut n x).sfs = s.sfs := rfl
@[simp] theorem fins_setSafeOut (n : Nat) (x : SafeOut) : (s.setSafeOut n x).fins = s.fins := rfl
@[simp] theorem fouts_setSafeOut (n : Nat) (x : SafeOut) : (s.setSafeOut n x).fouts = s.fouts := rfl
@[simp] theorem die_setSafeOut (n : Nat) (x : SafeOut) : (s.setSafeOut n x).die = s.die := rfl
@[simp] theorem linkMiss_setSafeOut (n : Nat) (x : SafeOut) : (s.setSafeOut n x).linkMiss = s.linkMiss := rfl
@[simp] theorem fldNew_setSafeOut (n : Nat) (x : SafeOut) : (s.setSafeOut n x).fldNew = s.fldNew := rfl
@[simp] theorem pciDevice_setSafeOut (n : Nat) (x : SafeOut) : (s.setSafeOut n x).pciDevice = s.pciDevice := rfl
@[simp] theorem dmas_setSafeOut (n : Nat) (x : SafeOut) : (s.setSafeOut n x).dmas = s.dmas := rfl
@[simp] theorem claims_setSafeOut (n : Nat) (x : SafeOut) : (s.setSafeOut n x).claims = s.claims := rfl
@[simp] theorem autoRuns_setSafeOut (n : Nat) (x : SafeOut) : (s.setSafeOut n x).autoRuns = s.autoRuns := rfl
@[simp] theorem boot_setSafeOut (n : Nat) (x : SafeOut) : (s.setSafeOut n x).boot = s.boot := rfl
@[simp] theorem tack_setSafeOut (n : Nat) (x : SafeOut) : (s.setSafeOut n x).tack = s.tack := rfl
@[simp] theorem clk_setSafeOut (n : Nat) (x : SafeOut) : (s.setSafeOut n x).clk = s.clk := rfl
@[simp] theorem logRun_setSafeOut (n : Nat) (x : SafeOut) : (s.setSafeOut n x).logRun = s.logRun := rfl
@[simp] theorem tempFired_setSafeOut (n : Nat) (x : SafeOut) : (s.setSafeOut n x).tempFired = s.tempFired := rfl
@[simp] theorem scrub_setSafeOut (n : Nat) (x : SafeOut) : (s.setSafeOut n x).scrub = s.scrub := rfl
@[simp] theorem por_setSafeOut (n : Nat) (x : SafeOut) : (s.setSafeOut n x).por = s.por := rfl
@[simp] theorem wire_setSafeOut (n : Nat) (x : SafeOut) : (s.setSafeOut n x).wire = s.wire := rfl
@[simp] theorem reply_setSafeOut (n : Nat) (x : SafeOut) : (s.setSafeOut n x).reply = s.reply := rfl
@[simp] theorem freeCtr_setSafeOut (n : Nat) (x : SafeOut) : (s.setSafeOut n x).freeCtr = s.freeCtr := rfl
@[simp] theorem pending_setSafeOut (n : Nat) (x : SafeOut) : (s.setSafeOut n x).pending = s.pending := rfl
@[simp] theorem reg_setSafeOut (n : Nat) (x : SafeOut) (q o : Nat) : (s.setSafeOut n x).reg q o = s.reg q o := rfl
@[simp] theorem byte_setSafeOut (n : Nat) (x : SafeOut) (k : Nat) : (s.setSafeOut n x).byte k = s.byte k := rfl
@[simp] theorem flip_setSafeOut (n : Nat) (x : SafeOut) (k : Nat) : (s.setSafeOut n x).flip k = s.flip k := rfl
@[simp] theorem port_setSafeOut (n : Nat) (x : SafeOut) (k : Nat) : (s.setSafeOut n x).port k = s.port k := rfl
@[simp] theorem axis_setSafeOut (n : Nat) (x : SafeOut) (k : Nat) : (s.setSafeOut n x).axis k = s.axis k := rfl
@[simp] theorem pg_setSafeOut (n : Nat) (x : SafeOut) (k : Nat) : (s.setSafeOut n x).pg k = s.pg k := rfl
@[simp] theorem igrp_setSafeOut (n : Nat) (x : SafeOut) (k : Nat) : (s.setSafeOut n x).igrp k = s.igrp k := rfl
@[simp] theorem vm_setSafeOut (n : Nat) (x : SafeOut) (k : Nat) : (s.setSafeOut n x).vm k = s.vm k := rfl
@[simp] theorem awl_setSafeOut (n : Nat) (x : SafeOut) (k : Nat) : (s.setSafeOut n x).awl k = s.awl k := rfl
@[simp] theorem stitch_setSafeOut (n : Nat) (x : SafeOut) (k : Nat) : (s.setSafeOut n x).stitch k = s.stitch k := rfl
@[simp] theorem feed_setSafeOut (n : Nat) (x : SafeOut) (k : Nat) : (s.setSafeOut n x).feed k = s.feed k := rfl
@[simp] theorem ana_setSafeOut (n : Nat) (x : SafeOut) (k : Nat) : (s.setSafeOut n x).ana k = s.ana k := rfl
@[simp] theorem stamp_setSafeOut (n : Nat) (x : SafeOut) (k : Nat) : (s.setSafeOut n x).stamp k = s.stamp k := rfl
@[simp] theorem sf_setSafeOut (n : Nat) (x : SafeOut) (k : Nat) : (s.setSafeOut n x).sf k = s.sf k := rfl
@[simp] theorem fin_setSafeOut (n : Nat) (x : SafeOut) (k : Nat) : (s.setSafeOut n x).fin k = s.fin k := rfl
@[simp] theorem fout_setSafeOut (n : Nat) (x : SafeOut) (k : Nat) : (s.setSafeOut n x).fout k = s.fout k := rfl
@[simp] theorem dma_setSafeOut (n : Nat) (x : SafeOut) (k : Nat) : (s.setSafeOut n x).dma k = s.dma k := rfl
@[simp] theorem holder_setSafeOut (n : Nat) (x : SafeOut) (k : Nat) : (s.setSafeOut n x).holder k = s.holder k := rfl
theorem safeOut_setSafeOut (n : Nat) (x : SafeOut) (k : Nat) : (s.setSafeOut n x).safeOut k = if k = n then x else s.safeOut k := Sp.get_set _ _ _ _ _
@[simp] theorem safeOut_setSafeOut_same (n : Nat) (x : SafeOut) : (s.setSafeOut n x).safeOut n = x := Sp.get_set_same _ _ _ _
theorem safeOut_setSafeOut_other (n : Nat) (x : SafeOut) (k : Nat) (h : k ≠ n) : (s.setSafeOut n x).safeOut k = s.safeOut k := Sp.get_set_other _ _ _ h

/-! ### setFin -/

@[simp] theorem regs_setFin (n : Nat) (x : FieldIn) : (s.setFin n x).regs = s.regs := rfl
@[simp] theorem mem_setFin (n : Nat) (x : FieldIn) : (s.setFin n x).mem = s.mem := rfl
@[simp] theorem flips_setFin (n : Nat) (x : FieldIn) : (s.setFin n x).flips = s.flips := rfl
@[simp] theorem time_setFin (n : Nat) (x : FieldIn) : (s.setFin n x).time = s.time := rfl
@[simp] theorem girth_setFin (n : Nat) (x : FieldIn) : (s.setFin n x).girth = s.girth := rfl
@[simp] theorem ports_setFin (n : Nat) (x : FieldIn) : (s.setFin n x).ports = s.ports := rfl
@[simp] theorem axes_setFin (n : Nat) (x : FieldIn) : (s.setFin n x).axes = s.axes := rfl
@[simp] theorem pgs_setFin (n : Nat) (x : FieldIn) : (s.setFin n x).pgs = s.pgs := rfl
@[simp] theorem igrps_setFin (n : Nat) (x : FieldIn) : (s.setFin n x).igrps = s.igrps := rfl
@[simp] theorem vms_setFin (n : Nat) (x : FieldIn) : (s.setFin n x).vms = s.vms := rfl
@[simp] theorem cinch_setFin (n : Nat) (x : FieldIn) : (s.setFin n x).cinch = s.cinch := rfl
@[simp] theorem awls_setFin (n : Nat) (x : FieldIn) : (s.setFin n x).awls = s.awls := rfl
@[simp] theorem lat_setFin (n : Nat) (x : FieldIn) : (s.setFin n x).lat = s.lat := rfl
@[simp] theorem stitches_setFin (n : Nat) (x : FieldIn) : (s.setFin n x).stitches = s.stitches := rfl
@[simp] theorem feeds_setFin (n : Nat) (x : FieldIn) : (s.setFin n x).feeds = s.feeds := rfl
@[simp] theorem anas_setFin (n : Nat) (x : FieldIn) : (s.setFin n x).anas = s.anas := rfl
@[simp] theorem stamps_setFin (n : Nat) (x : FieldIn) : (s.setFin n x).stamps = s.stamps := rfl
@[simp] theorem sfs_setFin (n : Nat) (x : FieldIn) : (s.setFin n x).sfs = s.sfs := rfl
@[simp] theorem buckle_setFin (n : Nat) (x : FieldIn) : (s.setFin n x).buckle = s.buckle := rfl
@[simp] theorem fouts_setFin (n : Nat) (x : FieldIn) : (s.setFin n x).fouts = s.fouts := rfl
@[simp] theorem die_setFin (n : Nat) (x : FieldIn) : (s.setFin n x).die = s.die := rfl
@[simp] theorem linkMiss_setFin (n : Nat) (x : FieldIn) : (s.setFin n x).linkMiss = s.linkMiss := rfl
@[simp] theorem fldNew_setFin (n : Nat) (x : FieldIn) : (s.setFin n x).fldNew = s.fldNew := rfl
@[simp] theorem pciDevice_setFin (n : Nat) (x : FieldIn) : (s.setFin n x).pciDevice = s.pciDevice := rfl
@[simp] theorem dmas_setFin (n : Nat) (x : FieldIn) : (s.setFin n x).dmas = s.dmas := rfl
@[simp] theorem claims_setFin (n : Nat) (x : FieldIn) : (s.setFin n x).claims = s.claims := rfl
@[simp] theorem autoRuns_setFin (n : Nat) (x : FieldIn) : (s.setFin n x).autoRuns = s.autoRuns := rfl
@[simp] theorem boot_setFin (n : Nat) (x : FieldIn) : (s.setFin n x).boot = s.boot := rfl
@[simp] theorem tack_setFin (n : Nat) (x : FieldIn) : (s.setFin n x).tack = s.tack := rfl
@[simp] theorem clk_setFin (n : Nat) (x : FieldIn) : (s.setFin n x).clk = s.clk := rfl
@[simp] theorem logRun_setFin (n : Nat) (x : FieldIn) : (s.setFin n x).logRun = s.logRun := rfl
@[simp] theorem tempFired_setFin (n : Nat) (x : FieldIn) : (s.setFin n x).tempFired = s.tempFired := rfl
@[simp] theorem scrub_setFin (n : Nat) (x : FieldIn) : (s.setFin n x).scrub = s.scrub := rfl
@[simp] theorem por_setFin (n : Nat) (x : FieldIn) : (s.setFin n x).por = s.por := rfl
@[simp] theorem wire_setFin (n : Nat) (x : FieldIn) : (s.setFin n x).wire = s.wire := rfl
@[simp] theorem reply_setFin (n : Nat) (x : FieldIn) : (s.setFin n x).reply = s.reply := rfl
@[simp] theorem freeCtr_setFin (n : Nat) (x : FieldIn) : (s.setFin n x).freeCtr = s.freeCtr := rfl
@[simp] theorem pending_setFin (n : Nat) (x : FieldIn) : (s.setFin n x).pending = s.pending := rfl
@[simp] theorem reg_setFin (n : Nat) (x : FieldIn) (q o : Nat) : (s.setFin n x).reg q o = s.reg q o := rfl
@[simp] theorem byte_setFin (n : Nat) (x : FieldIn) (k : Nat) : (s.setFin n x).byte k = s.byte k := rfl
@[simp] theorem flip_setFin (n : Nat) (x : FieldIn) (k : Nat) : (s.setFin n x).flip k = s.flip k := rfl
@[simp] theorem port_setFin (n : Nat) (x : FieldIn) (k : Nat) : (s.setFin n x).port k = s.port k := rfl
@[simp] theorem axis_setFin (n : Nat) (x : FieldIn) (k : Nat) : (s.setFin n x).axis k = s.axis k := rfl
@[simp] theorem pg_setFin (n : Nat) (x : FieldIn) (k : Nat) : (s.setFin n x).pg k = s.pg k := rfl
@[simp] theorem igrp_setFin (n : Nat) (x : FieldIn) (k : Nat) : (s.setFin n x).igrp k = s.igrp k := rfl
@[simp] theorem vm_setFin (n : Nat) (x : FieldIn) (k : Nat) : (s.setFin n x).vm k = s.vm k := rfl
@[simp] theorem awl_setFin (n : Nat) (x : FieldIn) (k : Nat) : (s.setFin n x).awl k = s.awl k := rfl
@[simp] theorem stitch_setFin (n : Nat) (x : FieldIn) (k : Nat) : (s.setFin n x).stitch k = s.stitch k := rfl
@[simp] theorem feed_setFin (n : Nat) (x : FieldIn) (k : Nat) : (s.setFin n x).feed k = s.feed k := rfl
@[simp] theorem ana_setFin (n : Nat) (x : FieldIn) (k : Nat) : (s.setFin n x).ana k = s.ana k := rfl
@[simp] theorem stamp_setFin (n : Nat) (x : FieldIn) (k : Nat) : (s.setFin n x).stamp k = s.stamp k := rfl
@[simp] theorem sf_setFin (n : Nat) (x : FieldIn) (k : Nat) : (s.setFin n x).sf k = s.sf k := rfl
@[simp] theorem safeOut_setFin (n : Nat) (x : FieldIn) (k : Nat) : (s.setFin n x).safeOut k = s.safeOut k := rfl
@[simp] theorem fout_setFin (n : Nat) (x : FieldIn) (k : Nat) : (s.setFin n x).fout k = s.fout k := rfl
@[simp] theorem dma_setFin (n : Nat) (x : FieldIn) (k : Nat) : (s.setFin n x).dma k = s.dma k := rfl
@[simp] theorem holder_setFin (n : Nat) (x : FieldIn) (k : Nat) : (s.setFin n x).holder k = s.holder k := rfl
theorem fin_setFin (n : Nat) (x : FieldIn) (k : Nat) : (s.setFin n x).fin k = if k = n then x else s.fin k := Sp.get_set _ _ _ _ _
@[simp] theorem fin_setFin_same (n : Nat) (x : FieldIn) : (s.setFin n x).fin n = x := Sp.get_set_same _ _ _ _
theorem fin_setFin_other (n : Nat) (x : FieldIn) (k : Nat) (h : k ≠ n) : (s.setFin n x).fin k = s.fin k := Sp.get_set_other _ _ _ h

/-! ### setFout -/

@[simp] theorem regs_setFout (n : Nat) (x : FieldOut) : (s.setFout n x).regs = s.regs := rfl
@[simp] theorem mem_setFout (n : Nat) (x : FieldOut) : (s.setFout n x).mem = s.mem := rfl
@[simp] theorem flips_setFout (n : Nat) (x : FieldOut) : (s.setFout n x).flips = s.flips := rfl
@[simp] theorem time_setFout (n : Nat) (x : FieldOut) : (s.setFout n x).time = s.time := rfl
@[simp] theorem girth_setFout (n : Nat) (x : FieldOut) : (s.setFout n x).girth = s.girth := rfl
@[simp] theorem ports_setFout (n : Nat) (x : FieldOut) : (s.setFout n x).ports = s.ports := rfl
@[simp] theorem axes_setFout (n : Nat) (x : FieldOut) : (s.setFout n x).axes = s.axes := rfl
@[simp] theorem pgs_setFout (n : Nat) (x : FieldOut) : (s.setFout n x).pgs = s.pgs := rfl
@[simp] theorem igrps_setFout (n : Nat) (x : FieldOut) : (s.setFout n x).igrps = s.igrps := rfl
@[simp] theorem vms_setFout (n : Nat) (x : FieldOut) : (s.setFout n x).vms = s.vms := rfl
@[simp] theorem cinch_setFout (n : Nat) (x : FieldOut) : (s.setFout n x).cinch = s.cinch := rfl
@[simp] theorem awls_setFout (n : Nat) (x : FieldOut) : (s.setFout n x).awls = s.awls := rfl
@[simp] theorem lat_setFout (n : Nat) (x : FieldOut) : (s.setFout n x).lat = s.lat := rfl
@[simp] theorem stitches_setFout (n : Nat) (x : FieldOut) : (s.setFout n x).stitches = s.stitches := rfl
@[simp] theorem feeds_setFout (n : Nat) (x : FieldOut) : (s.setFout n x).feeds = s.feeds := rfl
@[simp] theorem anas_setFout (n : Nat) (x : FieldOut) : (s.setFout n x).anas = s.anas := rfl
@[simp] theorem stamps_setFout (n : Nat) (x : FieldOut) : (s.setFout n x).stamps = s.stamps := rfl
@[simp] theorem sfs_setFout (n : Nat) (x : FieldOut) : (s.setFout n x).sfs = s.sfs := rfl
@[simp] theorem buckle_setFout (n : Nat) (x : FieldOut) : (s.setFout n x).buckle = s.buckle := rfl
@[simp] theorem fins_setFout (n : Nat) (x : FieldOut) : (s.setFout n x).fins = s.fins := rfl
@[simp] theorem die_setFout (n : Nat) (x : FieldOut) : (s.setFout n x).die = s.die := rfl
@[simp] theorem linkMiss_setFout (n : Nat) (x : FieldOut) : (s.setFout n x).linkMiss = s.linkMiss := rfl
@[simp] theorem fldNew_setFout (n : Nat) (x : FieldOut) : (s.setFout n x).fldNew = s.fldNew := rfl
@[simp] theorem pciDevice_setFout (n : Nat) (x : FieldOut) : (s.setFout n x).pciDevice = s.pciDevice := rfl
@[simp] theorem dmas_setFout (n : Nat) (x : FieldOut) : (s.setFout n x).dmas = s.dmas := rfl
@[simp] theorem claims_setFout (n : Nat) (x : FieldOut) : (s.setFout n x).claims = s.claims := rfl
@[simp] theorem autoRuns_setFout (n : Nat) (x : FieldOut) : (s.setFout n x).autoRuns = s.autoRuns := rfl
@[simp] theorem boot_setFout (n : Nat) (x : FieldOut) : (s.setFout n x).boot = s.boot := rfl
@[simp] theorem tack_setFout (n : Nat) (x : FieldOut) : (s.setFout n x).tack = s.tack := rfl
@[simp] theorem clk_setFout (n : Nat) (x : FieldOut) : (s.setFout n x).clk = s.clk := rfl
@[simp] theorem logRun_setFout (n : Nat) (x : FieldOut) : (s.setFout n x).logRun = s.logRun := rfl
@[simp] theorem tempFired_setFout (n : Nat) (x : FieldOut) : (s.setFout n x).tempFired = s.tempFired := rfl
@[simp] theorem scrub_setFout (n : Nat) (x : FieldOut) : (s.setFout n x).scrub = s.scrub := rfl
@[simp] theorem por_setFout (n : Nat) (x : FieldOut) : (s.setFout n x).por = s.por := rfl
@[simp] theorem wire_setFout (n : Nat) (x : FieldOut) : (s.setFout n x).wire = s.wire := rfl
@[simp] theorem reply_setFout (n : Nat) (x : FieldOut) : (s.setFout n x).reply = s.reply := rfl
@[simp] theorem freeCtr_setFout (n : Nat) (x : FieldOut) : (s.setFout n x).freeCtr = s.freeCtr := rfl
@[simp] theorem pending_setFout (n : Nat) (x : FieldOut) : (s.setFout n x).pending = s.pending := rfl
@[simp] theorem reg_setFout (n : Nat) (x : FieldOut) (q o : Nat) : (s.setFout n x).reg q o = s.reg q o := rfl
@[simp] theorem byte_setFout (n : Nat) (x : FieldOut) (k : Nat) : (s.setFout n x).byte k = s.byte k := rfl
@[simp] theorem flip_setFout (n : Nat) (x : FieldOut) (k : Nat) : (s.setFout n x).flip k = s.flip k := rfl
@[simp] theorem port_setFout (n : Nat) (x : FieldOut) (k : Nat) : (s.setFout n x).port k = s.port k := rfl
@[simp] theorem axis_setFout (n : Nat) (x : FieldOut) (k : Nat) : (s.setFout n x).axis k = s.axis k := rfl
@[simp] theorem pg_setFout (n : Nat) (x : FieldOut) (k : Nat) : (s.setFout n x).pg k = s.pg k := rfl
@[simp] theorem igrp_setFout (n : Nat) (x : FieldOut) (k : Nat) : (s.setFout n x).igrp k = s.igrp k := rfl
@[simp] theorem vm_setFout (n : Nat) (x : FieldOut) (k : Nat) : (s.setFout n x).vm k = s.vm k := rfl
@[simp] theorem awl_setFout (n : Nat) (x : FieldOut) (k : Nat) : (s.setFout n x).awl k = s.awl k := rfl
@[simp] theorem stitch_setFout (n : Nat) (x : FieldOut) (k : Nat) : (s.setFout n x).stitch k = s.stitch k := rfl
@[simp] theorem feed_setFout (n : Nat) (x : FieldOut) (k : Nat) : (s.setFout n x).feed k = s.feed k := rfl
@[simp] theorem ana_setFout (n : Nat) (x : FieldOut) (k : Nat) : (s.setFout n x).ana k = s.ana k := rfl
@[simp] theorem stamp_setFout (n : Nat) (x : FieldOut) (k : Nat) : (s.setFout n x).stamp k = s.stamp k := rfl
@[simp] theorem sf_setFout (n : Nat) (x : FieldOut) (k : Nat) : (s.setFout n x).sf k = s.sf k := rfl
@[simp] theorem safeOut_setFout (n : Nat) (x : FieldOut) (k : Nat) : (s.setFout n x).safeOut k = s.safeOut k := rfl
@[simp] theorem fin_setFout (n : Nat) (x : FieldOut) (k : Nat) : (s.setFout n x).fin k = s.fin k := rfl
@[simp] theorem dma_setFout (n : Nat) (x : FieldOut) (k : Nat) : (s.setFout n x).dma k = s.dma k := rfl
@[simp] theorem holder_setFout (n : Nat) (x : FieldOut) (k : Nat) : (s.setFout n x).holder k = s.holder k := rfl
theorem fout_setFout (n : Nat) (x : FieldOut) (k : Nat) : (s.setFout n x).fout k = if k = n then x else s.fout k := Sp.get_set _ _ _ _ _
@[simp] theorem fout_setFout_same (n : Nat) (x : FieldOut) : (s.setFout n x).fout n = x := Sp.get_set_same _ _ _ _
theorem fout_setFout_other (n : Nat) (x : FieldOut) (k : Nat) (h : k ≠ n) : (s.setFout n x).fout k = s.fout k := Sp.get_set_other _ _ _ h

/-! ### setDma -/

@[simp] theorem regs_setDma (n : Nat) (x : Dma) : (s.setDma n x).regs = s.regs := rfl
@[simp] theorem mem_setDma (n : Nat) (x : Dma) : (s.setDma n x).mem = s.mem := rfl
@[simp] theorem flips_setDma (n : Nat) (x : Dma) : (s.setDma n x).flips = s.flips := rfl
@[simp] theorem time_setDma (n : Nat) (x : Dma) : (s.setDma n x).time = s.time := rfl
@[simp] theorem girth_setDma (n : Nat) (x : Dma) : (s.setDma n x).girth = s.girth := rfl
@[simp] theorem ports_setDma (n : Nat) (x : Dma) : (s.setDma n x).ports = s.ports := rfl
@[simp] theorem axes_setDma (n : Nat) (x : Dma) : (s.setDma n x).axes = s.axes := rfl
@[simp] theorem pgs_setDma (n : Nat) (x : Dma) : (s.setDma n x).pgs = s.pgs := rfl
@[simp] theorem igrps_setDma (n : Nat) (x : Dma) : (s.setDma n x).igrps = s.igrps := rfl
@[simp] theorem vms_setDma (n : Nat) (x : Dma) : (s.setDma n x).vms = s.vms := rfl
@[simp] theorem cinch_setDma (n : Nat) (x : Dma) : (s.setDma n x).cinch = s.cinch := rfl
@[simp] theorem awls_setDma (n : Nat) (x : Dma) : (s.setDma n x).awls = s.awls := rfl
@[simp] theorem lat_setDma (n : Nat) (x : Dma) : (s.setDma n x).lat = s.lat := rfl
@[simp] theorem stitches_setDma (n : Nat) (x : Dma) : (s.setDma n x).stitches = s.stitches := rfl
@[simp] theorem feeds_setDma (n : Nat) (x : Dma) : (s.setDma n x).feeds = s.feeds := rfl
@[simp] theorem anas_setDma (n : Nat) (x : Dma) : (s.setDma n x).anas = s.anas := rfl
@[simp] theorem stamps_setDma (n : Nat) (x : Dma) : (s.setDma n x).stamps = s.stamps := rfl
@[simp] theorem sfs_setDma (n : Nat) (x : Dma) : (s.setDma n x).sfs = s.sfs := rfl
@[simp] theorem buckle_setDma (n : Nat) (x : Dma) : (s.setDma n x).buckle = s.buckle := rfl
@[simp] theorem fins_setDma (n : Nat) (x : Dma) : (s.setDma n x).fins = s.fins := rfl
@[simp] theorem fouts_setDma (n : Nat) (x : Dma) : (s.setDma n x).fouts = s.fouts := rfl
@[simp] theorem die_setDma (n : Nat) (x : Dma) : (s.setDma n x).die = s.die := rfl
@[simp] theorem linkMiss_setDma (n : Nat) (x : Dma) : (s.setDma n x).linkMiss = s.linkMiss := rfl
@[simp] theorem fldNew_setDma (n : Nat) (x : Dma) : (s.setDma n x).fldNew = s.fldNew := rfl
@[simp] theorem pciDevice_setDma (n : Nat) (x : Dma) : (s.setDma n x).pciDevice = s.pciDevice := rfl
@[simp] theorem claims_setDma (n : Nat) (x : Dma) : (s.setDma n x).claims = s.claims := rfl
@[simp] theorem autoRuns_setDma (n : Nat) (x : Dma) : (s.setDma n x).autoRuns = s.autoRuns := rfl
@[simp] theorem boot_setDma (n : Nat) (x : Dma) : (s.setDma n x).boot = s.boot := rfl
@[simp] theorem tack_setDma (n : Nat) (x : Dma) : (s.setDma n x).tack = s.tack := rfl
@[simp] theorem clk_setDma (n : Nat) (x : Dma) : (s.setDma n x).clk = s.clk := rfl
@[simp] theorem logRun_setDma (n : Nat) (x : Dma) : (s.setDma n x).logRun = s.logRun := rfl
@[simp] theorem tempFired_setDma (n : Nat) (x : Dma) : (s.setDma n x).tempFired = s.tempFired := rfl
@[simp] theorem scrub_setDma (n : Nat) (x : Dma) : (s.setDma n x).scrub = s.scrub := rfl
@[simp] theorem por_setDma (n : Nat) (x : Dma) : (s.setDma n x).por = s.por := rfl
@[simp] theorem wire_setDma (n : Nat) (x : Dma) : (s.setDma n x).wire = s.wire := rfl
@[simp] theorem reply_setDma (n : Nat) (x : Dma) : (s.setDma n x).reply = s.reply := rfl
@[simp] theorem freeCtr_setDma (n : Nat) (x : Dma) : (s.setDma n x).freeCtr = s.freeCtr := rfl
@[simp] theorem pending_setDma (n : Nat) (x : Dma) : (s.setDma n x).pending = s.pending := rfl
@[simp] theorem reg_setDma (n : Nat) (x : Dma) (q o : Nat) : (s.setDma n x).reg q o = s.reg q o := rfl
@[simp] theorem byte_setDma (n : Nat) (x : Dma) (k : Nat) : (s.setDma n x).byte k = s.byte k := rfl
@[simp] theorem flip_setDma (n : Nat) (x : Dma) (k : Nat) : (s.setDma n x).flip k = s.flip k := rfl
@[simp] theorem port_setDma (n : Nat) (x : Dma) (k : Nat) : (s.setDma n x).port k = s.port k := rfl
@[simp] theorem axis_setDma (n : Nat) (x : Dma) (k : Nat) : (s.setDma n x).axis k = s.axis k := rfl
@[simp] theorem pg_setDma (n : Nat) (x : Dma) (k : Nat) : (s.setDma n x).pg k = s.pg k := rfl
@[simp] theorem igrp_setDma (n : Nat) (x : Dma) (k : Nat) : (s.setDma n x).igrp k = s.igrp k := rfl
@[simp] theorem vm_setDma (n : Nat) (x : Dma) (k : Nat) : (s.setDma n x).vm k = s.vm k := rfl
@[simp] theorem awl_setDma (n : Nat) (x : Dma) (k : Nat) : (s.setDma n x).awl k = s.awl k := rfl
@[simp] theorem stitch_setDma (n : Nat) (x : Dma) (k : Nat) : (s.setDma n x).stitch k = s.stitch k := rfl
@[simp] theorem feed_setDma (n : Nat) (x : Dma) (k : Nat) : (s.setDma n x).feed k = s.feed k := rfl
@[simp] theorem ana_setDma (n : Nat) (x : Dma) (k : Nat) : (s.setDma n x).ana k = s.ana k := rfl
@[simp] theorem stamp_setDma (n : Nat) (x : Dma) (k : Nat) : (s.setDma n x).stamp k = s.stamp k := rfl
@[simp] theorem sf_setDma (n : Nat) (x : Dma) (k : Nat) : (s.setDma n x).sf k = s.sf k := rfl
@[simp] theorem safeOut_setDma (n : Nat) (x : Dma) (k : Nat) : (s.setDma n x).safeOut k = s.safeOut k := rfl
@[simp] theorem fin_setDma (n : Nat) (x : Dma) (k : Nat) : (s.setDma n x).fin k = s.fin k := rfl
@[simp] theorem fout_setDma (n : Nat) (x : Dma) (k : Nat) : (s.setDma n x).fout k = s.fout k := rfl
@[simp] theorem holder_setDma (n : Nat) (x : Dma) (k : Nat) : (s.setDma n x).holder k = s.holder k := rfl
theorem dma_setDma (n : Nat) (x : Dma) (k : Nat) : (s.setDma n x).dma k = if k = n then x else s.dma k := Sp.get_set _ _ _ _ _
@[simp] theorem dma_setDma_same (n : Nat) (x : Dma) : (s.setDma n x).dma n = x := Sp.get_set_same _ _ _ _
theorem dma_setDma_other (n : Nat) (x : Dma) (k : Nat) (h : k ≠ n) : (s.setDma n x).dma k = s.dma k := Sp.get_set_other _ _ _ h

/-! ### setHolder -/

@[simp] theorem regs_setHolder (n : Nat) (x : Option Nat) : (s.setHolder n x).regs = s.regs := rfl
@[simp] theorem mem_setHolder (n : Nat) (x : Option Nat) : (s.setHolder n x).mem = s.mem := rfl
@[simp] theorem flips_setHolder (n : Nat) (x : Option Nat) : (s.setHolder n x).flips = s.flips := rfl
@[simp] theorem time_setHolder (n : Nat) (x : Option Nat) : (s.setHolder n x).time = s.time := rfl
@[simp] theorem girth_setHolder (n : Nat) (x : Option Nat) : (s.setHolder n x).girth = s.girth := rfl
@[simp] theorem ports_setHolder (n : Nat) (x : Option Nat) : (s.setHolder n x).ports = s.ports := rfl
@[simp] theorem axes_setHolder (n : Nat) (x : Option Nat) : (s.setHolder n x).axes = s.axes := rfl
@[simp] theorem pgs_setHolder (n : Nat) (x : Option Nat) : (s.setHolder n x).pgs = s.pgs := rfl
@[simp] theorem igrps_setHolder (n : Nat) (x : Option Nat) : (s.setHolder n x).igrps = s.igrps := rfl
@[simp] theorem vms_setHolder (n : Nat) (x : Option Nat) : (s.setHolder n x).vms = s.vms := rfl
@[simp] theorem cinch_setHolder (n : Nat) (x : Option Nat) : (s.setHolder n x).cinch = s.cinch := rfl
@[simp] theorem awls_setHolder (n : Nat) (x : Option Nat) : (s.setHolder n x).awls = s.awls := rfl
@[simp] theorem lat_setHolder (n : Nat) (x : Option Nat) : (s.setHolder n x).lat = s.lat := rfl
@[simp] theorem stitches_setHolder (n : Nat) (x : Option Nat) : (s.setHolder n x).stitches = s.stitches := rfl
@[simp] theorem feeds_setHolder (n : Nat) (x : Option Nat) : (s.setHolder n x).feeds = s.feeds := rfl
@[simp] theorem anas_setHolder (n : Nat) (x : Option Nat) : (s.setHolder n x).anas = s.anas := rfl
@[simp] theorem stamps_setHolder (n : Nat) (x : Option Nat) : (s.setHolder n x).stamps = s.stamps := rfl
@[simp] theorem sfs_setHolder (n : Nat) (x : Option Nat) : (s.setHolder n x).sfs = s.sfs := rfl
@[simp] theorem buckle_setHolder (n : Nat) (x : Option Nat) : (s.setHolder n x).buckle = s.buckle := rfl
@[simp] theorem fins_setHolder (n : Nat) (x : Option Nat) : (s.setHolder n x).fins = s.fins := rfl
@[simp] theorem fouts_setHolder (n : Nat) (x : Option Nat) : (s.setHolder n x).fouts = s.fouts := rfl
@[simp] theorem die_setHolder (n : Nat) (x : Option Nat) : (s.setHolder n x).die = s.die := rfl
@[simp] theorem linkMiss_setHolder (n : Nat) (x : Option Nat) : (s.setHolder n x).linkMiss = s.linkMiss := rfl
@[simp] theorem fldNew_setHolder (n : Nat) (x : Option Nat) : (s.setHolder n x).fldNew = s.fldNew := rfl
@[simp] theorem pciDevice_setHolder (n : Nat) (x : Option Nat) : (s.setHolder n x).pciDevice = s.pciDevice := rfl
@[simp] theorem dmas_setHolder (n : Nat) (x : Option Nat) : (s.setHolder n x).dmas = s.dmas := rfl
@[simp] theorem autoRuns_setHolder (n : Nat) (x : Option Nat) : (s.setHolder n x).autoRuns = s.autoRuns := rfl
@[simp] theorem boot_setHolder (n : Nat) (x : Option Nat) : (s.setHolder n x).boot = s.boot := rfl
@[simp] theorem tack_setHolder (n : Nat) (x : Option Nat) : (s.setHolder n x).tack = s.tack := rfl
@[simp] theorem clk_setHolder (n : Nat) (x : Option Nat) : (s.setHolder n x).clk = s.clk := rfl
@[simp] theorem logRun_setHolder (n : Nat) (x : Option Nat) : (s.setHolder n x).logRun = s.logRun := rfl
@[simp] theorem tempFired_setHolder (n : Nat) (x : Option Nat) : (s.setHolder n x).tempFired = s.tempFired := rfl
@[simp] theorem scrub_setHolder (n : Nat) (x : Option Nat) : (s.setHolder n x).scrub = s.scrub := rfl
@[simp] theorem por_setHolder (n : Nat) (x : Option Nat) : (s.setHolder n x).por = s.por := rfl
@[simp] theorem wire_setHolder (n : Nat) (x : Option Nat) : (s.setHolder n x).wire = s.wire := rfl
@[simp] theorem reply_setHolder (n : Nat) (x : Option Nat) : (s.setHolder n x).reply = s.reply := rfl
@[simp] theorem freeCtr_setHolder (n : Nat) (x : Option Nat) : (s.setHolder n x).freeCtr = s.freeCtr := rfl
@[simp] theorem pending_setHolder (n : Nat) (x : Option Nat) : (s.setHolder n x).pending = s.pending := rfl
@[simp] theorem reg_setHolder (n : Nat) (x : Option Nat) (q o : Nat) : (s.setHolder n x).reg q o = s.reg q o := rfl
@[simp] theorem byte_setHolder (n : Nat) (x : Option Nat) (k : Nat) : (s.setHolder n x).byte k = s.byte k := rfl
@[simp] theorem flip_setHolder (n : Nat) (x : Option Nat) (k : Nat) : (s.setHolder n x).flip k = s.flip k := rfl
@[simp] theorem port_setHolder (n : Nat) (x : Option Nat) (k : Nat) : (s.setHolder n x).port k = s.port k := rfl
@[simp] theorem axis_setHolder (n : Nat) (x : Option Nat) (k : Nat) : (s.setHolder n x).axis k = s.axis k := rfl
@[simp] theorem pg_setHolder (n : Nat) (x : Option Nat) (k : Nat) : (s.setHolder n x).pg k = s.pg k := rfl
@[simp] theorem igrp_setHolder (n : Nat) (x : Option Nat) (k : Nat) : (s.setHolder n x).igrp k = s.igrp k := rfl
@[simp] theorem vm_setHolder (n : Nat) (x : Option Nat) (k : Nat) : (s.setHolder n x).vm k = s.vm k := rfl
@[simp] theorem awl_setHolder (n : Nat) (x : Option Nat) (k : Nat) : (s.setHolder n x).awl k = s.awl k := rfl
@[simp] theorem stitch_setHolder (n : Nat) (x : Option Nat) (k : Nat) : (s.setHolder n x).stitch k = s.stitch k := rfl
@[simp] theorem feed_setHolder (n : Nat) (x : Option Nat) (k : Nat) : (s.setHolder n x).feed k = s.feed k := rfl
@[simp] theorem ana_setHolder (n : Nat) (x : Option Nat) (k : Nat) : (s.setHolder n x).ana k = s.ana k := rfl
@[simp] theorem stamp_setHolder (n : Nat) (x : Option Nat) (k : Nat) : (s.setHolder n x).stamp k = s.stamp k := rfl
@[simp] theorem sf_setHolder (n : Nat) (x : Option Nat) (k : Nat) : (s.setHolder n x).sf k = s.sf k := rfl
@[simp] theorem safeOut_setHolder (n : Nat) (x : Option Nat) (k : Nat) : (s.setHolder n x).safeOut k = s.safeOut k := rfl
@[simp] theorem fin_setHolder (n : Nat) (x : Option Nat) (k : Nat) : (s.setHolder n x).fin k = s.fin k := rfl
@[simp] theorem fout_setHolder (n : Nat) (x : Option Nat) (k : Nat) : (s.setHolder n x).fout k = s.fout k := rfl
@[simp] theorem dma_setHolder (n : Nat) (x : Option Nat) (k : Nat) : (s.setHolder n x).dma k = s.dma k := rfl
theorem holder_setHolder (n : Nat) (x : Option Nat) (k : Nat) : (s.setHolder n x).holder k = if k = n then x else s.holder k := Sp.get_set _ _ _ _ _
@[simp] theorem holder_setHolder_same (n : Nat) (x : Option Nat) : (s.setHolder n x).holder n = x := Sp.get_set_same _ _ _ _
theorem holder_setHolder_other (n : Nat) (x : Option Nat) (k : Nat) (h : k ≠ n) : (s.setHolder n x).holder k = s.holder k := Sp.get_set_other _ _ _ h

/-! ### emit -/

@[simp] theorem regs_emit (x : Tx) : (s.emit x).regs = s.regs := rfl
@[simp] theorem mem_emit (x : Tx) : (s.emit x).mem = s.mem := rfl
@[simp] theorem flips_emit (x : Tx) : (s.emit x).flips = s.flips := rfl
@[simp] theorem time_emit (x : Tx) : (s.emit x).time = s.time := rfl
@[simp] theorem girth_emit (x : Tx) : (s.emit x).girth = s.girth := rfl
@[simp] theorem ports_emit (x : Tx) : (s.emit x).ports = s.ports := rfl
@[simp] theorem axes_emit (x : Tx) : (s.emit x).axes = s.axes := rfl
@[simp] theorem pgs_emit (x : Tx) : (s.emit x).pgs = s.pgs := rfl
@[simp] theorem igrps_emit (x : Tx) : (s.emit x).igrps = s.igrps := rfl
@[simp] theorem vms_emit (x : Tx) : (s.emit x).vms = s.vms := rfl
@[simp] theorem cinch_emit (x : Tx) : (s.emit x).cinch = s.cinch := rfl
@[simp] theorem awls_emit (x : Tx) : (s.emit x).awls = s.awls := rfl
@[simp] theorem lat_emit (x : Tx) : (s.emit x).lat = s.lat := rfl
@[simp] theorem stitches_emit (x : Tx) : (s.emit x).stitches = s.stitches := rfl
@[simp] theorem feeds_emit (x : Tx) : (s.emit x).feeds = s.feeds := rfl
@[simp] theorem anas_emit (x : Tx) : (s.emit x).anas = s.anas := rfl
@[simp] theorem stamps_emit (x : Tx) : (s.emit x).stamps = s.stamps := rfl
@[simp] theorem sfs_emit (x : Tx) : (s.emit x).sfs = s.sfs := rfl
@[simp] theorem buckle_emit (x : Tx) : (s.emit x).buckle = s.buckle := rfl
@[simp] theorem fins_emit (x : Tx) : (s.emit x).fins = s.fins := rfl
@[simp] theorem fouts_emit (x : Tx) : (s.emit x).fouts = s.fouts := rfl
@[simp] theorem die_emit (x : Tx) : (s.emit x).die = s.die := rfl
@[simp] theorem linkMiss_emit (x : Tx) : (s.emit x).linkMiss = s.linkMiss := rfl
@[simp] theorem fldNew_emit (x : Tx) : (s.emit x).fldNew = s.fldNew := rfl
@[simp] theorem pciDevice_emit (x : Tx) : (s.emit x).pciDevice = s.pciDevice := rfl
@[simp] theorem dmas_emit (x : Tx) : (s.emit x).dmas = s.dmas := rfl
@[simp] theorem claims_emit (x : Tx) : (s.emit x).claims = s.claims := rfl
@[simp] theorem autoRuns_emit (x : Tx) : (s.emit x).autoRuns = s.autoRuns := rfl
@[simp] theorem boot_emit (x : Tx) : (s.emit x).boot = s.boot := rfl
@[simp] theorem tack_emit (x : Tx) : (s.emit x).tack = s.tack := rfl
@[simp] theorem clk_emit (x : Tx) : (s.emit x).clk = s.clk := rfl
@[simp] theorem logRun_emit (x : Tx) : (s.emit x).logRun = s.logRun := rfl
@[simp] theorem tempFired_emit (x : Tx) : (s.emit x).tempFired = s.tempFired := rfl
@[simp] theorem scrub_emit (x : Tx) : (s.emit x).scrub = s.scrub := rfl
@[simp] theorem por_emit (x : Tx) : (s.emit x).por = s.por := rfl
@[simp] theorem reply_emit (x : Tx) : (s.emit x).reply = s.reply := rfl
@[simp] theorem freeCtr_emit (x : Tx) : (s.emit x).freeCtr = s.freeCtr := rfl
@[simp] theorem pending_emit (x : Tx) : (s.emit x).pending = s.pending := rfl
@[simp] theorem reg_emit (x : Tx) (q o : Nat) : (s.emit x).reg q o = s.reg q o := rfl
@[simp] theorem byte_emit (x : Tx) (k : Nat) : (s.emit x).byte k = s.byte k := rfl
@[simp] theorem flip_emit (x : Tx) (k : Nat) : (s.emit x).flip k = s.flip k := rfl
@[simp] theorem port_emit (x : Tx) (k : Nat) : (s.emit x).port k = s.port k := rfl
@[simp] theorem axis_emit (x : Tx) (k : Nat) : (s.emit x).axis k = s.axis k := rfl
@[simp] theorem pg_emit (x : Tx) (k : Nat) : (s.emit x).pg k = s.pg k := rfl
@[simp] theorem igrp_emit (x : Tx) (k : Nat) : (s.emit x).igrp k = s.igrp k := rfl
@[simp] theorem vm_emit (x : Tx) (k : Nat) : (s.emit x).vm k = s.vm k := rfl
@[simp] theorem awl_emit (x : Tx) (k : Nat) : (s.emit x).awl k = s.awl k := rfl
@[simp] theorem stitch_emit (x : Tx) (k : Nat) : (s.emit x).stitch k = s.stitch k := rfl
@[simp] theorem feed_emit (x : Tx) (k : Nat) : (s.emit x).feed k = s.feed k := rfl
@[simp] theorem ana_emit (x : Tx) (k : Nat) : (s.emit x).ana k = s.ana k := rfl
@[simp] theorem stamp_emit (x : Tx) (k : Nat) : (s.emit x).stamp k = s.stamp k := rfl
@[simp] theorem sf_emit (x : Tx) (k : Nat) : (s.emit x).sf k = s.sf k := rfl
@[simp] theorem safeOut_emit (x : Tx) (k : Nat) : (s.emit x).safeOut k = s.safeOut k := rfl
@[simp] theorem fin_emit (x : Tx) (k : Nat) : (s.emit x).fin k = s.fin k := rfl
@[simp] theorem fout_emit (x : Tx) (k : Nat) : (s.emit x).fout k = s.fout k := rfl
@[simp] theorem dma_emit (x : Tx) (k : Nat) : (s.emit x).dma k = s.dma k := rfl
@[simp] theorem holder_emit (x : Tx) (k : Nat) : (s.emit x).holder k = s.holder k := rfl

/-! ### Registers -/

theorem reg_setReg (p off : Nat) (w : Word) (q o : Nat) :
    (s.setReg p off w).reg q o = if 0x1000 * q + o = 0x1000 * p + off then w else s.reg q o := Sp.get_set _ _ _ _ _
@[simp] theorem reg_setReg_same (p off : Nat) (w : Word) : (s.setReg p off w).reg p off = w := Sp.get_set_same _ _ _ _
theorem reg_setReg_other (p off : Nat) (w : Word) {q o : Nat} (h : 0x1000 * q + o ≠ 0x1000 * p + off) :
    (s.setReg p off w).reg q o = s.reg q o := Sp.get_set_other _ _ _ h
@[simp] theorem emit_wire (x : Tx) : (s.emit x).wire = s.wire ++ [x] := rfl

end Sys2Proof.Machine.State
end

