-- ==== Sys2Proof/Laws/Registers.lean ====
section
/-! SUPPORT. Register fields: what a field reads as after a field of the same register, or another register, is written. -/
namespace Sys2Proof.Machine

theorem testBit_bitsOf (v hi lo i : Nat) : (bitsOf v hi lo).testBit i = (decide (i < hi + 1 - lo) && v.testBit (lo + i)) := by
  simp [bitsOf, Nat.testBit_mod_two_pow, Nat.testBit_div_two_pow, Nat.add_comm]

theorem getLsbD_mask (f : Fld) (i : Nat) (h : i < 32) : f.mask.getLsbD i = (decide (f.lo ≤ i) && decide (i < f.lo + (f.hi + 1 - f.lo))) := by
  rw [Fld.mask, BitVec.getLsbD_ofNat, Nat.mul_comm, Nat.testBit_mul_two_pow]
  by_cases hl : f.lo ≤ i
  · simp only [h, decide_true, Bool.true_and, hl]
    rw [Nat.testBit_two_pow_sub_one]
    by_cases hh : i < f.lo + (f.hi + 1 - f.lo)
    · simp [hh]; omega
    · simp [hh]; omega
  · simp [hl]

theorem getLsbD_put (f : Fld) (v : Nat) (w : Word) (i : Nat) (h : i < 32) :
    (f.put v w).getLsbD i = if f.lo ≤ i ∧ i < f.lo + (f.hi + 1 - f.lo) then v.testBit (i - f.lo) else w.getLsbD i := by
  simp only [Fld.put, BitVec.getLsbD_or, BitVec.getLsbD_and, BitVec.getLsbD_not, getLsbD_mask f i h, h, decide_true, Bool.true_and,
    BitVec.getLsbD_ofNat]
  rw [Nat.mul_comm, Nat.testBit_mul_two_pow]
  by_cases hc : f.lo ≤ i ∧ i < f.lo + (f.hi + 1 - f.lo)
  · simp [hc]
  · rw [if_neg hc]
    have : (decide (f.lo ≤ i) && decide (i < f.lo + (f.hi + 1 - f.lo))) = false := by
      simp only [← Bool.decide_and, decide_eq_false_iff_not]; exact hc
    simp [this]

/-- A field reads what was put into it. -/
theorem Fld.get_put (f : Fld) (v : Nat) (w : Word) (h : f.lo ≤ f.hi) (hh : f.hi < 32) : f.get (f.put v w) = v % 2 ^ (f.hi + 1 - f.lo) := by
  apply Nat.eq_of_testBit_eq
  intro i
  rw [Fld.get, testBit_bitsOf, Nat.testBit_mod_two_pow]
  by_cases hi : i < f.hi + 1 - f.lo
  · rw [BitVec.testBit_toNat, getLsbD_put f v w _ (by omega)]
    simp [hi]
  · simp [hi]

/-- A field keeps its value when a field apart from it is put. -/
theorem Fld.get_put_other (f g : Fld) (v : Nat) (w : Word) (h : g.hi < f.lo ∨ f.hi < g.lo) (hf : f.lo ≤ f.hi) (hg : g.hi < 32) :
    g.get (f.put v w) = g.get w := by
  apply Nat.eq_of_testBit_eq
  intro i
  rw [Fld.get, Fld.get, testBit_bitsOf, testBit_bitsOf]
  by_cases hi : i < g.hi + 1 - g.lo
  · rw [BitVec.testBit_toNat, BitVec.testBit_toNat, getLsbD_put f v w _ (by omega), if_neg (by omega)]
  · simp [hi]

namespace State

variable (s : State)

/-- A field of any register after a field is written. -/
theorem rd_wr (p : Nat) (f : Fld) (v q : Nat) (g : Fld) :
    (s.wr p f v).rd q g = if 0x1000 * q + g.off = 0x1000 * p + f.off then g.get (f.put v (s.reg p f.off)) else s.rd q g := by
  unfold wr rd
  rw [reg_setReg]
  split <;> rfl

theorem rd_setReg (p off : Nat) (w : Word) (q : Nat) (g : Fld) :
    (s.setReg p off w).rd q g = if 0x1000 * q + g.off = 0x1000 * p + off then g.get w else s.rd q g := by
  unfold rd
  rw [reg_setReg]
  split <;> rfl

theorem rd_wr_same (p : Nat) (f : Fld) (v : Nat) (h : f.lo ≤ f.hi) (hh : f.hi < 32) :
    (s.wr p f v).rd p f = v % 2 ^ (f.hi + 1 - f.lo) := by
  rw [rd_wr, if_pos rfl, Fld.get_put f v _ h hh]

theorem reg_wr (p : Nat) (f : Fld) (v q o : Nat) :
    (s.wr p f v).reg q o = if 0x1000 * q + o = 0x1000 * p + f.off then f.put v (s.reg p f.off) else s.reg q o := by
  unfold wr
  rw [reg_setReg]

theorem rd_wr_other {p : Nat} {f : Fld} (v : Nat) {q : Nat} {g : Fld} (h : 0x1000 * q + g.off ≠ 0x1000 * p + f.off) :
    (s.wr p f v).rd q g = s.rd q g := by rw [rd_wr, if_neg h]

/-- Another field of the same register. -/
theorem rd_wr_beside {p : Nat} {f : Fld} (v : Nat) {g : Fld} (ho : g.off = f.off) (h : g.hi < f.lo ∨ f.hi < g.lo) (hf : f.lo ≤ f.hi)
    (hg : g.hi < 32) : (s.wr p f v).rd p g = s.rd p g := by
  rw [rd_wr, if_pos (by rw [ho]), Fld.get_put_other f g v _ h hf hg, ← ho]
  rfl

end State
end Sys2Proof.Machine
end

