-- ==== Sys2Proof/Laws/Bus.lean ====
section
/-! SUPPORT. Accesses to registers: a write or read that reaches its register acts on it, and one its gate refuses is recorded. -/
namespace Sys2Proof.Machine

theorem leToNat_leBytes (n v : Nat) : leToNat (leBytes n v) = v % 256 ^ n := by
  induction n generalizing v with
  | zero => simp [leBytes, leToNat, Nat.mod_one]
  | succ n ih =>
    simp only [leBytes, leToNat, ih, BitVec.toNat_ofNat]
    rw [show 256 ^ (n + 1) = 256 * 256 ^ n from by rw [Nat.pow_succ, Nat.mul_comm], Nat.mod_mul]

theorem word_leBytes (v : Word) : BitVec.ofNat 32 (leToNat (leBytes 4 v.toNat)) = v := by
  rw [leToNat_leBytes, Nat.mod_eq_of_lt (show v.toNat < 256 ^ 4 from v.isLt)]
  simp

namespace State

variable {s : State} {m p off : Nat}

theorem regPage_regAddr (hp : p < 0x1000) (ho : off < 0x1000) : regPage (regAddr p off) = p := by
  unfold regPage regAddr; omega

theorem regOff_regAddr (ho : off < 0x1000) : regOff (regAddr p off) = off := by
  unfold regOff regAddr; omega

theorem isReg_regAddr (hp : p < 0x1000) (ho : off < 0x1000) : isReg (regAddr p off) = true := by
  unfold isReg regAddr; simp; omega

/-- A write of four bytes is one access. -/
theorem busWrite_four {a : Nat} {bs : List Byte} (h : bs.length = 4) (hc : s.commandMaster m = true) : s.busWrite m a bs = s.busPut m a bs := by
  have he : bs.isEmpty = false := by cases bs with | nil => cases h | cons => rfl
  simp [busWrite, he, h, hc]

/-- A read of four bytes is one access. -/
theorem busRead_four {a : Nat} (hc : s.commandMaster m = true) : s.busRead m a 4 = s.busGet m a 4 := by
  simp [busRead, hc]

/-- A write that reaches its register. -/
theorem cmdWrite_reaches (h : Reaches s m p off true) (hp : p < 0x1000) (ho : off < 0x1000) (v : Word) :
    s.cmdWrite m p off v = s.regWrite m p off v := by
  have hl : (leBytes 4 v.toNat).length = 4 := rfl
  rw [cmdWrite, busWrite_four hl h.2.1]
  simp only [busPut, hl, h.2.2.1, storeReply, fabStore, isReg_regAddr hp ho, regPage_regAddr hp ho, regOff_regAddr ho, word_leBytes, ↓reduceIte]

/-- A read that reaches its register. -/
theorem cmdRead_reaches (h : Reaches s m p off false) (hp : p < 0x1000) (ho : off < 0x1000) :
    s.cmdRead m p off = { (s.regRead m p off).2 with reply := .data (leBytes 4 (s.regRead m p off).1.toNat) } := by
  rw [cmdRead, busRead_four h.2.1]
  simp only [busGet, h.2.2.1, fabRead, isReg_regAddr hp ho, regPage_regAddr hp ho, regOff_regAddr ho]
  rfl

/-- A permitted access to a register is one to a page of the table. -/
theorem page_of_gate {w : Bool} (hp : p < 0x1000) (ho : off < 0x1000) (h : s.gateKind m (regAddr p off) 4 w = none) :
    (pageRow p).isSome := by
  unfold gateKind at h
  rw [if_pos (by unfold regAddr; omega)] at h
  rw [show regAddr p off / 0x1000 % 0x1000 = p from regPage_regAddr hp ho] at h
  split at h
  · cases h
  · rename_i hh; exact Option.isSome_iff_ne_none.mpr (by simpa using hh)

/-- The header stands on every page. -/
theorem regFields_header (h : (pageRow p).isSome) (ho : off < 0x40) : regFields p off = HDR.fields.filter (·.off = off) := by
  unfold regFields pageKind
  cases hr : pageRow p with
  | none => rw [hr] at h; cases h
  | some r => simp [ho]

theorem regWrite_pctl (v : Word) (hp : p < 0x1000) (h : Reaches s m p HDR.PCTL true) : s.regWrite m p HDR.PCTL v = s.pctlWrite m p v := by
  have hr := page_of_gate hp (by decide) h.2.2.1
  unfold State.regWrite
  rw [h.2.2.2.1, regFields_header hr (by decide)]
  have hd : ¬ (p = pgDBG ∧ s.debugLock = true) := fun hh => by simp [h.2.2.2.2 rfl hh.1] at hh
  have : (HDR.fields.filter (·.off = HDR.PCTL)).isEmpty = false := by decide
  rw [this]
  simp [hd]

theorem regWrite_header (v : Word) (hp : p < 0x1000) (ho : off < 0x40) (hn : off ≠ HDR.PCTL)
    (hf : (HDR.fields.filter (·.off = off)).isEmpty = false) (h : Reaches s m p off true) :
    s.regWrite m p off v = s.headerWrite m p off v := by
  have hr := page_of_gate hp (by omega) h.2.2.1
  unfold State.regWrite
  rw [h.2.2.2.1, regFields_header hr ho, hf]
  have hd : ¬ (p = pgDBG ∧ s.debugLock = true) := fun hh => by simp [h.2.2.2.2 rfl hh.1] at hh
  simp [hd, hn, ho]

/-- A write to a register outside the header and the shells. -/
theorem regWrite_block (v : Word) (hk : (regFields p off).isEmpty = false) (ho : 0x40 ≤ off)
    (hs : off < 0x100 ∨ 0x100 + 0x80 * pageShells p ≤ off) (h : Reaches s m p off true) :
    s.regWrite m p off v = s.blockWrite m p off v := by
  unfold State.regWrite
  rw [h.2.2.2.1, hk]
  have hd : ¬ (p = pgDBG ∧ s.debugLock = true) := fun hh => by simp [h.2.2.2.2 rfl hh.1] at hh
  simp [hd, show off ≠ HDR.PCTL by simp only [HDR.PCTL]; omega, show ¬ off < 0x40 by omega,
    show ¬ (0x100 ≤ off ∧ off < 0x100 + 0x80 * pageShells p) by omega]

theorem live_up (h : s.por = false) (t : State) : s.live t = t := by simp [live, h]

theorem live_down (h : s.por = true) (t : State) : s.live t = s := by simp [live, h]

end State
end Sys2Proof.Machine
end

