-- ==== Sys2Proof/Laws/Report.lean ====
section
/-! SUPPORT. What an event, a count and the report of a fault change: some registers, the record of what left the block, the number of
free values drawn and the note on the newest log entries; nothing else. -/
namespace Sys2Proof.Machine

/-- `t` differs from `s` at most in the registers whose keys are in `R`, in what was sent since, in the free values drawn and in the
note on the newest log entries. -/
structure Only (R : Nat → Prop) (s t : State) : Prop where
  regs : ∀ q o, ¬ R (0x1000 * q + o) → t.reg q o = s.reg q o
  rest : t = { s with regs := t.regs, wire := t.wire, freeCtr := t.freeCtr, logRun := t.logRun }
  wire : s.wire <+: t.wire

/-- The registers that an event of page `p` may change: its EVT and the ARMED words of MSIX. -/
def evtKeys (p k : Nat) : Prop := k = 0x1000 * p + HDR.EVT ∨ k = 0x1000 * pgMSIX + MSIX.ARMED0 ∨ k = 0x1000 * pgMSIX + MSIX.ARMED1

/-- The registers that the report of a fault below class D of page `p` may change. -/
def faultKeys (p k : Nat) : Prop :=
  evtKeys p k ∨ k = 0x1000 * p + HDR.ECAP0 ∨ k = 0x1000 * p + HDR.ECAP1 ∨ k / 0x1000 = pgFLT

namespace Only

variable {R Q : Nat → Prop} {s t u : State}

theorem refl (R : Nat → Prop) (s : State) : Only R s s := ⟨fun _ _ _ => rfl, rfl, List.prefix_refl _⟩

theorem trans (h : Only R s t) (k : Only R t u) : Only R s u := by
  refine ⟨fun q o n => (k.regs q o n).trans (h.regs q o n), ?_, h.wire.trans k.wire⟩
  rw [k.rest, h.rest]

theorem mono (h : Only R s t) (f : ∀ k, R k → Q k) : Only Q s t :=
  ⟨fun _ _ n => h.regs _ _ (fun r => n (f _ r)), h.rest, h.wire⟩

theorem ite {c : Prop} [Decidable c] (h : Only R s t) (k : Only R s u) : Only R s (if c then t else u) := by split <;> assumption

theorem foldl {α : Type} {f : State → α → State} {l : List α} (h : Only R s t) (hf : ∀ t x, Only R s t → Only R s (f t x)) :
    Only R s (l.foldl f t) := by
  induction l generalizing t with
  | nil => exact h
  | cons x l ih => exact ih (hf t x h)

theorem rd (h : Only R s t) {q : Nat} {f : Fld} (n : ¬ R (0x1000 * q + f.off)) : t.rd q f = s.rd q f := by
  unfold State.rd; rw [h.regs q f.off n]

end Only

namespace State

variable {R : Nat → Prop} {s : State}

theorem setReg_only (p off : Nat) (w : Word) (h : R (0x1000 * p + off)) : Only R s (s.setReg p off w) :=
  ⟨fun _ _ n => reg_setReg_other s p off w (fun e => n (e ▸ h)), rfl, List.prefix_refl _⟩

theorem wr_only (p : Nat) (f : Fld) (v : Nat) (h : R (0x1000 * p + f.off)) : Only R s (s.wr p f v) := setReg_only p f.off _ h

theorem emit_only (x : Tx) : Only R s (s.emit x) := ⟨fun _ _ _ => rfl, rfl, List.prefix_append _ _⟩

theorem draw_only : Only R s s.draw.2 := ⟨fun _ _ _ => rfl, rfl, List.prefix_refl _⟩

theorem setArmed_only (v : Nat) (b : Bool) (hv : v < 64) (h0 : R (0x1000 * pgMSIX + MSIX.ARMED0))
    (h1 : R (0x1000 * pgMSIX + MSIX.ARMED1)) : Only R s (s.setArmed v b) := by
  unfold setArmed
  refine setReg_only _ _ _ ?_
  rcases (by omega : v / 32 = 0 ∨ v / 32 = 1) with e | e <;> rw [e]
  · exact h0
  · exact h1

theorem vecTry_only (v : Nat) (hv : v < 64) (h0 : R (0x1000 * pgMSIX + MSIX.ARMED0)) (h1 : R (0x1000 * pgMSIX + MSIX.ARMED1)) :
    Only R s (s.vecTry v) := by
  unfold vecTry
  exact .ite (.trans (setArmed_only v false hv h0 h1) (emit_only _)) (.refl _ _)

theorem pageVector_lt {p v : Nat} (h : s.pageVector p = some v) : v < 64 := by
  unfold pageVector at h
  split at h
  · cases h; exact Nat.mod_lt _ (by decide)
  · cases h

theorem msixPage_only (p : Nat) (h0 : R (0x1000 * pgMSIX + MSIX.ARMED0)) (h1 : R (0x1000 * pgMSIX + MSIX.ARMED1)) :
    Only R s (s.msixPage p) := by
  unfold msixPage
  split
  · split
    · rename_i v e; exact vecTry_only v (pageVector_lt e) h0 h1
    · exact .refl _ _
  · exact .refl _ _

/-- An event of a page. -/
theorem evt_only (p bit : Nat) (h : ∀ k, evtKeys p k → R k) : Only R s (s.evt p bit) := by
  unfold evt
  exact .trans (setReg_only _ _ _ (h _ (.inl rfl))) (msixPage_only _ (h _ (.inr (.inl rfl))) (h _ (.inr (.inr rfl))))

theorem bump_only (p off : Nat) (h : R (0x1000 * p + off)) : Only R s (s.bump p off) := setReg_only _ _ _ h

theorem bumpE_only (p off bit : Nat) (h : R (0x1000 * p + off)) (he : ∀ k, evtKeys p k → R k) : Only R s (s.bumpE p off bit) := by
  unfold bumpE
  exact .ite (.trans (bump_only _ _ h) (evt_only _ _ he)) (bump_only _ _ h)

theorem bumpByE_only (p off n bit : Nat) (h : R (0x1000 * p + off)) (he : ∀ k, evtKeys p k → R k) :
    Only R s (s.bumpByE p off n bit) := by
  unfold bumpByE
  exact .ite (.trans (setReg_only _ _ _ h) (evt_only _ _ he)) (setReg_only _ _ _ h)

theorem bumpFlt_only (off : Nat) (ho : off < 0x1000) (h : ∀ k, k / 0x1000 = pgFLT → R k) (h0 : R (0x1000 * pgMSIX + MSIX.ARMED0))
    (h1 : R (0x1000 * pgMSIX + MSIX.ARMED1)) : Only R s (s.bumpFlt off) := by
  have hk : R (0x1000 * pgFLT + off) := h _ (by omega)
  unfold bumpFlt
  refine .ite (bumpE_only _ _ _ hk ?_) (bump_only _ _ hk)
  rintro k (rfl | rfl | rfl)
  · exact h _ (by decide)
  · exact h0
  · exact h1

theorem capture_only (p code detail : Nat) (h0 : R (0x1000 * p + HDR.ECAP0)) (h1 : R (0x1000 * p + HDR.ECAP1)) :
    Only R s (s.capture p code detail) := by
  unfold capture
  exact .ite (.trans (setReg_only _ _ _ h0) (setReg_only _ _ _ h1)) (.refl _ _)

theorem logMove_only (k : Nat) (h : ∀ k, k / 0x1000 = pgFLT → R k) : Only R s (s.logMove k) := by
  unfold logMove
  refine .trans (.trans (setReg_only _ _ _ (h _ ?_)) (setReg_only _ _ _ (h _ ?_))) (setReg_only _ _ _ (h _ ?_))
  · simp only [FLT.LOGA]; omega
  · simp only [FLT.LOGB]; omega
  · simp only [FLT.LOGC]; omega

theorem withLog_only (l : LogRun) : Only R s { s with logRun := l } := ⟨fun _ _ _ => rfl, rfl, List.prefix_refl _⟩

theorem logFault_only (p code detail : Nat) (h : ∀ k, k / 0x1000 = pgFLT → R k) (h0 : R (0x1000 * pgMSIX + MSIX.ARMED0))
    (h1 : R (0x1000 * pgMSIX + MSIX.ARMED1)) : Only R s (s.logFault p code detail) := by
  have he : ∀ k, evtKeys pgFLT k → R k := by
    rintro k (rfl | rfl | rfl)
    · exact h _ (by decide)
    · exact h0
    · exact h1
  unfold logFault
  extract_lets k n s1 j s2 k' s3 s4 s5
  have a1 : Only R s s1 := .ite (.trans (bumpE_only _ _ _ (h _ (by decide)) he) (evt_only _ _ he)) (.refl _ _)
  have a2 : Only R s s2 := Only.foldl a1 fun t x ht => .trans ht (logMove_only _ h)
  have a3 : Only R s s3 := .trans a2 (setReg_only _ _ _ (h _ (by simp only [FLT.LOGA]; omega)))
  have a4 : Only R s s4 := .trans a3 (setReg_only _ _ _ (h _ (by simp only [FLT.LOGB]; omega)))
  have a5 : Only R s s5 := .trans a4 (setReg_only _ _ _ (h _ (by simp only [FLT.LOGC]; omega)))
  exact .trans (.trans a5 (wr_only _ _ _ (h _ (by decide)))) (withLog_only _)

theorem counter_lt (c : FaultClass) : c.counter < 0x1000 := by cases c <;> decide

/-- The collector, below class D. -/
theorem collect_only (p code detail : Nat) {c : FaultClass} (hc : c ≠ .d) (h : ∀ k, k / 0x1000 = pgFLT → R k)
    (h0 : R (0x1000 * pgMSIX + MSIX.ARMED0)) (h1 : R (0x1000 * pgMSIX + MSIX.ARMED1)) : Only R s (s.collect p code detail c) := by
  have he : ∀ k, evtKeys pgFLT k → R k := by
    rintro k (rfl | rfl | rfl)
    · exact h _ (by decide)
    · exact h0
    · exact h1
  unfold collect
  extract_lets s1 s2
  have a1 : Only R s s1 := .trans (bumpFlt_only _ (by decide) h h0 h1) (bumpFlt_only _ (counter_lt c) h h0 h1)
  have a2 : Only R s s2 := .ite (.trans a1 (.trans (logFault_only _ _ _ h h0 h1) (evt_only _ _ he))) a1
  rw [if_neg hc]
  exact a2

theorem faultIn_only (p code detail : Nat) {c : FaultClass} (hc : c ≠ .d) (h : ∀ k, faultKeys p k → R k) :
    Only R s (s.faultIn p code detail c) := by
  unfold faultIn
  exact .trans (capture_only _ _ _ (h _ (.inr (.inl rfl))) (h _ (.inr (.inr (.inl rfl)))))
    (collect_only _ _ _ hc (fun k e => h k (.inr (.inr (.inr e)))) (h _ (.inl (.inr (.inl rfl)))) (h _ (.inl (.inr (.inr rfl)))))

/-- A fault below class D. -/
theorem fault_only (p code detail : Nat) (hc : codeClass code ≠ .d) (h : ∀ k, faultKeys p k → R k) :
    Only R s (s.fault p code detail) := faultIn_only _ _ _ hc h

theorem faultU_only (p code : Nat) (hc : codeClass code ≠ .d) (h : ∀ k, faultKeys p k → R k) : Only R s (s.faultU p code) :=
  .trans draw_only (fault_only _ _ _ hc h)

end State
end Sys2Proof.Machine
end

