-- ==== Sys2Proof/Laws/Steady.lean ====
section
/-! SUPPORT. What every operation of the block keeps: the queue, the raw counter, the canonical form of memory, registers and code
bits, and the records that only grow. -/
namespace Sys2Proof.Machine

/-- `t` comes from `s` by operations of the block. -/
structure Steady (s t : State) : Prop where
  mem : Memory.wf s.mem = true → Memory.wf t.mem = true
  regs : Sp.wf regReset s.regs = true → Sp.wf regReset t.regs = true
  flips : Sp.wf (fun _ => (0 : BitVec 80)) s.flips = true → Sp.wf (fun _ => (0 : BitVec 80)) t.flips = true
  pending : t.pending = s.pending
  raw : t.time.raw = s.time.raw
  por : t.por = s.por
  ctr : s.freeCtr ≤ t.freeCtr
  wire : s.wire <+: t.wire

/-- An optional state comes from `s`. -/
def SteadyO (s : State) (o : Option State) : Prop := ∀ t, o = some t → Steady s t

namespace Steady

theorem refl (s : State) : Steady s s := ⟨id, id, id, rfl, rfl, rfl, Nat.le_refl _, List.prefix_refl _⟩

theorem trans {s t u : State} (h : Steady s t) (k : Steady t u) : Steady s u :=
  ⟨k.mem ∘ h.mem, k.regs ∘ h.regs, k.flips ∘ h.flips, k.pending.trans h.pending, k.raw.trans h.raw, k.por.trans h.por,
   Nat.le_trans h.ctr k.ctr, h.wire.trans k.wire⟩

variable {z s t : State}

/-- A change of other fields. -/
theorem of_eq (h : Steady z s) (e1 : t.mem = s.mem) (e2 : t.regs = s.regs) (e3 : t.flips = s.flips) (e4 : t.pending = s.pending)
    (e5 : t.time.raw = s.time.raw) (e6 : t.por = s.por) (e7 : t.freeCtr = s.freeCtr) (e8 : t.wire = s.wire) : Steady z t :=
  h.trans ⟨by rw [e1]; exact id, by rw [e2]; exact id, by rw [e3]; exact id, e4, e5, e6, e7 ▸ Nat.le_refl _, e8 ▸ List.prefix_refl _⟩

theorem of_snd {α : Type} {p : α × State} {a : α} (e : p = (a, t)) (h : Steady z p.2) : Steady z t := by subst e; exact h
theorem of_snd2 {α β : Type} {p : α × β × State} {a : α} {b : β} (e : p = (a, b, t)) (h : Steady z p.2.2) : Steady z t := by
  subst e; exact h
theorem mk1 {α : Type} {a : α} (h : Steady z t) : Steady z (a, t).2 := h
theorem mk2 {α β : Type} {a : α} {p : β × State} (h : Steady z p.2) : Steady z (a, p).2.2 := h
theorem of_some {o : Option State} (e : o = some t) (h : SteadyO z o) : Steady z t := h t e
theorem mkO (h : Steady z t) : SteadyO z (some t) := fun _ e => by cases e; exact h
theorem mkN : SteadyO z none := fun _ e => by cases e

theorem ite {c : Prop} [Decidable c] (h : Steady z s) (k : Steady z t) : Steady z (if c then s else t) := by split <;> assumption
theorem ite1 {α : Type} {c : Prop} [Decidable c] {p q : α × State} (h : Steady z p.2) (k : Steady z q.2) :
    Steady z (if c then p else q).2 := by split <;> assumption

theorem foldl0 {α : Type} {f : State → α → State} {l : List α} (h : Steady z s) (hf : ∀ t x, Steady z t → Steady z (f t x)) :
    Steady z (l.foldl f s) := by
  induction l generalizing s with
  | nil => exact h
  | cons x l ih => exact ih (hf s x h)

theorem foldl1 {α β : Type} {f : β × State → α → β × State} {l : List α} {p : β × State} (h : Steady z p.2)
    (hf : ∀ q x, Steady z q.2 → Steady z (f q x).2) : Steady z (l.foldl f p).2 := by
  induction l generalizing p with
  | nil => exact h
  | cons x l ih => exact ih (hf p x h)

theorem foldl2 {α β γ : Type} {f : β × γ × State → α → β × γ × State} {l : List α} {p : β × γ × State} (h : Steady z p.2.2)
    (hf : ∀ q x, Steady z q.2.2 → Steady z (f q x).2.2) : Steady z (l.foldl f p).2.2 := by
  induction l generalizing p with
  | nil => exact h
  | cons x l ih => exact ih (hf p x h)

end Steady

namespace State

variable {z s : State}

theorem forEach_st {α : Type} {l : List α} {f : State → α → State} (h : Steady z s) (hf : ∀ t x, Steady z t → Steady z (f t x)) :
    Steady z (s.forEach l f) := Steady.foldl0 h hf

theorem setReg_st {p off : Nat} {w : Word} (h : Steady z s) : Steady z (s.setReg p off w) :=
  h.trans ⟨id, Sp.wf_set _ _, id, rfl, rfl, rfl, Nat.le_refl _, List.prefix_refl _⟩

theorem resetPage_st {p : Nat} (h : Steady z s) : Steady z (s.resetPage p) :=
  h.trans ⟨id, Sp.wf_filter _, id, rfl, rfl, rfl, Nat.le_refl _, List.prefix_refl _⟩

theorem draw_st (h : Steady z s) : Steady z s.draw.2 :=
  h.trans ⟨id, id, id, rfl, rfl, rfl, Nat.le_succ _, List.prefix_refl _⟩

theorem emit_st {t : Tx} (h : Steady z s) : Steady z (s.emit t) :=
  h.trans ⟨id, id, id, rfl, rfl, rfl, Nat.le_refl _, List.prefix_append _ _⟩

theorem setByte_st {a : Nat} {b : Byte} (h : Steady z s) : Steady z (s.setByte a b) :=
  h.trans ⟨Sp.wf_set _ _, id, id, rfl, rfl, rfl, Nat.le_refl _, List.prefix_refl _⟩

theorem setFlip_st {a : Nat} {b : BitVec 80} (h : Steady z s) : Steady z (s.setFlip a b) :=
  h.trans ⟨id, id, Sp.wf_set _ _, rfl, rfl, rfl, Nat.le_refl _, List.prefix_refl _⟩

theorem eraseMemory_st {d : Nat} (h : Steady z s) : Steady z (s.eraseMemory d) :=
  h.trans ⟨Sp.wf_filter _, id, Sp.wf_filter _, rfl, rfl, rfl, Nat.le_refl _, List.prefix_refl _⟩

theorem eraseRegs_st {d : Nat} (h : Steady z s) : Steady z (s.eraseRegs d) :=
  h.trans ⟨id, Sp.wf_filter _, id, rfl, rfl, rfl, Nat.le_refl _, List.prefix_refl _⟩

theorem setBytes_st {a : Nat} {l : List Byte} (h : Steady z s) : Steady z (s.setBytes a l) := by
  induction l generalizing s a with
  | nil => exact h
  | cons b l ih => exact ih (setByte_st h)

end State
end Sys2Proof.Machine
end

