-- ==== Sys2Proof/Laws/SteadyMotion.lean ====
section
/-! SUPPORT. Steadiness (Sys2Proof/Laws/Steady.lean) of the operations of registers, memory, motion and axes: each keeps the queue, the raw counter and the canonical forms. -/
namespace Sys2Proof.Machine
open State

theorem State.wr_st {z : State} {s0} {x1} {x2} {x3} (h0 : Steady z s0) :
    Steady z (@State.wr s0 x1 x2 x3) := by
  unfold State.wr
  refine State.setReg_st ?_
  exact h0

theorem State.setReg64_st {z : State} {s0} {x1} {x2} {x3} (h0 : Steady z s0) :
    Steady z (@State.setReg64 s0 x1 x2 x3) := by
  unfold State.setReg64
  refine State.setReg_st ?_
  refine State.setReg_st ?_
  exact h0

theorem State.setSt_st {z : State} {s0} {x1} {x2} (h0 : Steady z s0) :
    Steady z (@State.setSt s0 x1 x2) := by
  unfold State.setSt
  refine State.wr_st ?_
  exact h0

theorem State.cfgRej_st {z : State} {s0} {x1} (h0 : Steady z s0) :
    Steady z (@State.cfgRej s0 x1) := by
  unfold State.cfgRej
  refine State.wr_st ?_
  exact h0

theorem State.setPort_st {z : State} {s0} {x1} {x2} (h0 : Steady z s0) :
    Steady z (@State.setPort s0 x1 x2) := by
  unfold State.setPort
  apply Steady.of_eq
  · exact h0
  all_goals rfl

theorem State.modPort_st {z : State} {s0} {x1} {x2} (h0 : Steady z s0) :
    Steady z (@State.modPort s0 x1 x2) := by
  unfold State.modPort
  refine State.setPort_st ?_
  exact h0

theorem State.setAxis_st {z : State} {s0} {x1} {x2} (h0 : Steady z s0) :
    Steady z (@State.setAxis s0 x1 x2) := by
  unfold State.setAxis
  apply Steady.of_eq
  · exact h0
  all_goals rfl

theorem State.modAxis_st {z : State} {s0} {x1} {x2} (h0 : Steady z s0) :
    Steady z (@State.modAxis s0 x1 x2) := by
  unfold State.modAxis
  refine State.setAxis_st ?_
  exact h0

theorem State.setPg_st {z : State} {s0} {x1} {x2} (h0 : Steady z s0) :
    Steady z (@State.setPg s0 x1 x2) := by
  unfold State.setPg
  apply Steady.of_eq
  · exact h0
  all_goals rfl

theorem State.modPg_st {z : State} {s0} {x1} {x2} (h0 : Steady z s0) :
    Steady z (@State.modPg s0 x1 x2) := by
  unfold State.modPg
  refine State.setPg_st ?_
  exact h0

theorem State.setIgrp_st {z : State} {s0} {x1} {x2} (h0 : Steady z s0) :
    Steady z (@State.setIgrp s0 x1 x2) := by
  unfold State.setIgrp
  apply Steady.of_eq
  · exact h0
  all_goals rfl

theorem State.setVm_st {z : State} {s0} {x1} {x2} (h0 : Steady z s0) :
    Steady z (@State.setVm s0 x1 x2) := by
  unfold State.setVm
  apply Steady.of_eq
  · exact h0
  all_goals rfl

theorem State.setDma_st {z : State} {s0} {x1} {x2} (h0 : Steady z s0) :
    Steady z (@State.setDma s0 x1 x2) := by
  unfold State.setDma
  apply Steady.of_eq
  · exact h0
  all_goals rfl

theorem State.setStitch_st {z : State} {s0} {x1} {x2} (h0 : Steady z s0) :
    Steady z (@State.setStitch s0 x1 x2) := by
  unfold State.setStitch
  apply Steady.of_eq
  · exact h0
  all_goals rfl

theorem State.modStitch_st {z : State} {s0} {x1} {x2} (h0 : Steady z s0) :
    Steady z (@State.modStitch s0 x1 x2) := by
  unfold State.modStitch
  refine State.setStitch_st ?_
  exact h0

theorem State.setFeed_st {z : State} {s0} {x1} {x2} (h0 : Steady z s0) :
    Steady z (@State.setFeed s0 x1 x2) := by
  unfold State.setFeed
  apply Steady.of_eq
  · exact h0
  all_goals rfl

theorem State.modFeed_st {z : State} {s0} {x1} {x2} (h0 : Steady z s0) :
    Steady z (@State.modFeed s0 x1 x2) := by
  unfold State.modFeed
  refine State.setFeed_st ?_
  exact h0

theorem State.setAna_st {z : State} {s0} {x1} {x2} (h0 : Steady z s0) :
    Steady z (@State.setAna s0 x1 x2) := by
  unfold State.setAna
  apply Steady.of_eq
  · exact h0
  all_goals rfl

theorem State.modAna_st {z : State} {s0} {x1} {x2} (h0 : Steady z s0) :
    Steady z (@State.modAna s0 x1 x2) := by
  unfold State.modAna
  refine State.setAna_st ?_
  exact h0

theorem State.setStamp_st {z : State} {s0} {x1} {x2} (h0 : Steady z s0) :
    Steady z (@State.setStamp s0 x1 x2) := by
  unfold State.setStamp
  apply Steady.of_eq
  · exact h0
  all_goals rfl

theorem State.modStamp_st {z : State} {s0} {x1} {x2} (h0 : Steady z s0) :
    Steady z (@State.modStamp s0 x1 x2) := by
  unfold State.modStamp
  refine State.setStamp_st ?_
  exact h0

theorem State.setSf_st {z : State} {s0} {x1} {x2} (h0 : Steady z s0) :
    Steady z (@State.setSf s0 x1 x2) := by
  unfold State.setSf
  apply Steady.of_eq
  · exact h0
  all_goals rfl

theorem State.modSf_st {z : State} {s0} {x1} {x2} (h0 : Steady z s0) :
    Steady z (@State.modSf s0 x1 x2) := by
  unfold State.modSf
  refine State.setSf_st ?_
  exact h0

theorem State.setSafeOut_st {z : State} {s0} {x1} {x2} (h0 : Steady z s0) :
    Steady z (@State.setSafeOut s0 x1 x2) := by
  unfold State.setSafeOut
  apply Steady.of_eq
  · exact h0
  all_goals rfl

theorem State.setFin_st {z : State} {s0} {x1} {x2} (h0 : Steady z s0) :
    Steady z (@State.setFin s0 x1 x2) := by
  unfold State.setFin
  apply Steady.of_eq
  · exact h0
  all_goals rfl

theorem State.modFin_st {z : State} {s0} {x1} {x2} (h0 : Steady z s0) :
    Steady z (@State.modFin s0 x1 x2) := by
  unfold State.modFin
  refine State.setFin_st ?_
  exact h0

theorem State.setFout_st {z : State} {s0} {x1} {x2} (h0 : Steady z s0) :
    Steady z (@State.setFout s0 x1 x2) := by
  unfold State.setFout
  apply Steady.of_eq
  · exact h0
  all_goals rfl

theorem State.modFout_st {z : State} {s0} {x1} {x2} (h0 : Steady z s0) :
    Steady z (@State.modFout s0 x1 x2) := by
  unfold State.modFout
  refine State.setFout_st ?_
  exact h0

theorem State.live_st {z : State} {s0} {s1} (h0 : Steady z s0) (h1 : Steady z s1) :
    Steady z (@State.live s0 s1) := by
  unfold State.live
  split
  · exact h0
  · exact h1

theorem State.send_st {z : State} {s0} {x1} (h0 : Steady z s0) :
    Steady z (@State.send s0 x1) := by
  unfold State.send
  split
  · exact h0
  · refine State.emit_st ?_
    exact h0

theorem State.setArmed_st {z : State} {s0} {x1} {x2} (h0 : Steady z s0) :
    Steady z (@State.setArmed s0 x1 x2) := by
  unfold State.setArmed
  extract_lets +onlyGivenNames -underBinder -merge -useContext xq1
  try clear_value xq1
  extract_lets +onlyGivenNames -underBinder -merge -useContext xq2
  try clear_value xq2
  refine State.setReg_st ?_
  exact h0

theorem State.vecTry_st {z : State} {s0} {x1} (h0 : Steady z s0) :
    Steady z (@State.vecTry s0 x1) := by
  unfold State.vecTry
  split
  · refine State.emit_st ?_
    refine State.setArmed_st ?_
    exact h0
  · exact h0

theorem State.msixPage_st {z : State} {s0} {x1} (h0 : Steady z s0) :
    Steady z (@State.msixPage s0 x1) := by
  unfold State.msixPage
  split
  · split
    · refine State.vecTry_st ?_
      exact h0
    · exact h0
  · exact h0

theorem State.evt_st {z : State} {s0} {x1} {x2} (h0 : Steady z s0) :
    Steady z (@State.evt s0 x1 x2) := by
  unfold State.evt
  refine State.msixPage_st ?_
  refine State.setReg_st ?_
  exact h0

theorem State.bump_st {z : State} {s0} {x1} {x2} (h0 : Steady z s0) :
    Steady z (@State.bump s0 x1 x2) := by
  unfold State.bump
  refine State.setReg_st ?_
  exact h0

theorem State.bumpBy_st {z : State} {s0} {x1} {x2} {x3} (h0 : Steady z s0) :
    Steady z (@State.bumpBy s0 x1 x2 x3) := by
  unfold State.bumpBy
  refine State.setReg_st ?_
  exact h0

theorem State.bumpE_st {z : State} {s0} {x1} {x2} {x3} (h0 : Steady z s0) :
    Steady z (@State.bumpE s0 x1 x2 x3) := by
  unfold State.bumpE
  extract_lets +onlyGivenNames -underBinder -merge -useContext xq1
  have hxq1 : Steady z xq1 := by
    unfold xq1
    refine State.bump_st ?_
    exact h0
  try clear_value xq1
  split
  · refine State.evt_st ?_
    exact hxq1
  · exact hxq1

theorem State.bumpByE_st {z : State} {s0} {x1} {x2} {x3} {x4} (h0 : Steady z s0) :
    Steady z (@State.bumpByE s0 x1 x2 x3 x4) := by
  unfold State.bumpByE
  extract_lets +onlyGivenNames -underBinder -merge -useContext xq1
  have hxq1 : Steady z xq1 := by
    unfold xq1
    refine State.bumpBy_st ?_
    exact h0
  try clear_value xq1
  split
  · refine State.evt_st ?_
    exact hxq1
  · exact hxq1

theorem State.capture_st {z : State} {s0} {x1} {x2} {x3} (h0 : Steady z s0) :
    Steady z (@State.capture s0 x1 x2 x3) := by
  unfold State.capture
  split
  · refine State.setReg_st ?_
    refine State.setReg_st ?_
    exact h0
  · exact h0

theorem State.logMove_st {z : State} {s0} {x1} (h0 : Steady z s0) :
    Steady z (@State.logMove s0 x1) := by
  unfold State.logMove
  extract_lets +onlyGivenNames -underBinder -merge -useContext xq1
  try clear_value xq1
  extract_lets +onlyGivenNames -underBinder -merge -useContext xq2
  have hxq2 : Steady z xq2 := by
    unfold xq2
    refine State.setReg_st ?_
    exact h0
  try clear_value xq2
  extract_lets +onlyGivenNames -underBinder -merge -useContext xq3
  have hxq3 : Steady z xq3 := by
    unfold xq3
    refine State.setReg_st ?_
    exact hxq2
  try clear_value xq3
  refine State.setReg_st ?_
  exact hxq3

theorem State.logFault_st {z : State} {s0} {x1} {x2} {x3} (h0 : Steady z s0) :
    Steady z (@State.logFault s0 x1 x2 x3) := by
  unfold State.logFault
  extract_lets +onlyGivenNames -underBinder -merge -useContext xq1
  try clear_value xq1
  extract_lets +onlyGivenNames -underBinder -merge -useContext xq2
  try clear_value xq2
  extract_lets +onlyGivenNames -underBinder -merge -useContext xq3
  have hxq3 : Steady z xq3 := by
    unfold xq3
    split
    · refine State.evt_st ?_
      refine State.bumpE_st ?_
      exact h0
    · exact h0
  try clear_value xq3
  extract_lets +onlyGivenNames -underBinder -merge -useContext xq4
  try clear_value xq4
  extract_lets +onlyGivenNames -underBinder -merge -useContext xq5
  have hxq5 : Steady z xq5 := by
    unfold xq5
    refine State.forEach_st ?_ ?_
    · exact hxq3
    · intro b0 b1 hbq6
      refine State.logMove_st ?_
      exact hbq6
  try clear_value xq5
  extract_lets +onlyGivenNames -underBinder -merge -useContext xq7
  try clear_value xq7
  extract_lets +onlyGivenNames -underBinder -merge -useContext xq8
  have hxq8 : Steady z xq8 := by
    unfold xq8
    refine State.setReg_st ?_
    exact hxq5
  try clear_value xq8
  extract_lets +onlyGivenNames -underBinder -merge -useContext xq9
  have hxq9 : Steady z xq9 := by
    unfold xq9
    refine State.setReg_st ?_
    exact hxq8
  try clear_value xq9
  extract_lets +onlyGivenNames -underBinder -merge -useContext xq10
  have hxq10 : Steady z xq10 := by
    unfold xq10
    refine State.setReg_st ?_
    exact hxq9
  try clear_value xq10
  extract_lets +onlyGivenNames -underBinder -merge -useContext xq11
  have hxq11 : Steady z xq11 := by
    unfold xq11
    refine State.wr_st ?_
    exact hxq10
  try clear_value xq11
  apply Steady.of_eq
  · exact hxq11
  all_goals rfl

theorem State.bumpFlt_st {z : State} {s0} {x1} (h0 : Steady z s0) :
    Steady z (@State.bumpFlt s0 x1) := by
  unfold State.bumpFlt
  split
  · refine State.bumpE_st ?_
    exact h0
  · refine State.bump_st ?_
    exact h0

theorem State.outSettle_st {z : State} {s0} {x1} (h0 : Steady z s0) :
    Steady z (@State.outSettle s0 x1) := by
  unfold State.outSettle
  extract_lets +onlyGivenNames -underBinder -merge -useContext xq1
  try clear_value xq1
  extract_lets +onlyGivenNames -underBinder -merge -useContext xq2
  try clear_value xq2
  extract_lets +onlyGivenNames -underBinder -merge -useContext xq3
  have hxq3 : Steady z xq3 := by
    unfold xq3
    split
    · refine State.modFout_st ?_
      exact h0
    · exact h0
  try clear_value xq3
  apply Steady.of_eq
  · exact hxq3
  all_goals rfl

theorem State.safeEnter_st {z : State} {s0} {x1} (h0 : Steady z s0) :
    Steady z (@State.safeEnter s0 x1) := by
  unfold State.safeEnter
  split
  · exact h0
  · extract_lets +onlyGivenNames -underBinder -merge -useContext xq1
    have hxq1 : Steady z xq1 := by
      unfold xq1
      refine State.modFout_st ?_
      exact h0
    try clear_value xq1
    refine State.outSettle_st ?_
    apply Steady.of_eq
    · exact hxq1
    all_goals rfl

theorem State.safeShow_st {z : State} {s0} (h0 : Steady z s0) :
    Steady z (@State.safeShow s0) := by
  unfold State.safeShow
  split
  · exact h0
  · extract_lets +onlyGivenNames -underBinder -merge -useContext xq1
    try clear_value xq1
    extract_lets +onlyGivenNames -underBinder -merge -useContext xq2
    have hxq2 : Steady z xq2 := by
      unfold xq2
      refine State.wr_st ?_
      refine State.wr_st ?_
      exact h0
    try clear_value xq2
    split
    · exact hxq2
    · refine State.evt_st ?_
      exact hxq2

theorem State.safeCommand_st {z : State} {s0} (h0 : Steady z s0) :
    Steady z (@State.safeCommand s0) := by
  unfold State.safeCommand
  split
  · refine State.safeShow_st ?_
    refine State.forEach_st ?_ ?_
    · refine State.emit_st ?_
      exact h0
    · intro b0 b1 hbq1
      refine State.safeEnter_st ?_
      exact hbq1
  · exact h0

theorem State.setSto_st {z : State} {s0} {x1} (h0 : Steady z s0) :
    Steady z (@State.setSto s0 x1) := by
  unfold State.setSto
  extract_lets +onlyGivenNames -underBinder -merge -useContext xq1
  try clear_value xq1
  split
  · exact h0
  · refine State.evt_st ?_
    refine State.setReg_st ?_
    exact h0

theorem State.tackAbandon_st {z : State} {s0} (h0 : Steady z s0) :
    Steady z (@State.tackAbandon s0) := by
  unfold State.tackAbandon
  split
  · extract_lets +onlyGivenNames -underBinder -merge -useContext xq1
    have hxq1 : Steady z xq1 := by
      unfold xq1
      refine State.wr_st ?_
      refine State.wr_st ?_
      exact h0
    try clear_value xq1
    apply Steady.of_eq
    · exact hxq1
    all_goals rfl
  · exact h0

theorem State.roundQuot_st {z : State} {s0} {x1} {x2} (h0 : Steady z s0) :
    Steady z (@State.roundQuot s0 x1 x2).2 := by
  unfold State.roundQuot
  extract_lets +onlyGivenNames -underBinder -merge -useContext xq1
  try clear_value xq1
  extract_lets +onlyGivenNames -underBinder -merge -useContext xq2
  try clear_value xq2
  split
  · split
    · rename_i e
      have hmq3 := Steady.of_snd (z := z) e (by
        refine State.draw_st ?_
        exact h0)
      refine Steady.mk1 ?_
      exact hmq3
  · split
    · split
      · rename_i e
        have hmq4 := Steady.of_snd (z := z) e (by
          refine State.draw_st ?_
          exact h0)
        refine Steady.mk1 ?_
        exact hmq4
    · refine Steady.mk1 ?_
      exact h0

theorem State.setOut_st {z : State} {s0} {x1} {x2} (h0 : Steady z s0) :
    Steady z (@State.setOut s0 x1 x2) := by
  unfold State.setOut
  split
  · split
    · rename_i e
      have hmq1 := Steady.of_snd (z := z) e (by
        refine State.roundQuot_st ?_
        exact h0)
      refine State.modAna_st ?_
      refine State.wr_st ?_
      exact hmq1

theorem State.failSilent_st {z : State} {s0} {x1} (h0 : Steady z s0) :
    Steady z (@State.failSilent s0 x1) := by
  unfold State.failSilent
  extract_lets +onlyGivenNames -underBinder -merge -useContext xq1
  have hxq1 : Steady z xq1 := by
    unfold xq1
    split
    · exact h0
    · refine State.wr_st ?_
      refine State.wr_st ?_
      exact h0
  try clear_value xq1
  extract_lets +onlyGivenNames -underBinder -merge -useContext xq2
  have hxq2 : Steady z xq2 := by
    unfold xq2
    refine State.wr_st ?_
    refine State.setSto_st ?_
    exact hxq1
  try clear_value xq2
  extract_lets +onlyGivenNames -underBinder -merge -useContext xq3
  have hxq3 : Steady z xq3 := by
    unfold xq3
    refine State.forEach_st ?_ ?_
    · exact hxq2
    · intro b0 b1 hbq4
      split
      · refine State.wr_st ?_
        exact hbq4
      · exact hbq4
  try clear_value xq3
  extract_lets +onlyGivenNames -underBinder -merge -useContext xq5
  have hxq5 : Steady z xq5 := by
    unfold xq5
    refine State.forEach_st ?_ ?_
    · exact hxq3
    · intro b0 b1 hbq6
      split
      · refine State.setOut_st ?_
        exact hbq6
      · exact hbq6
  try clear_value xq5
  refine State.safeCommand_st ?_
  refine State.tackAbandon_st ?_
  exact hxq5

theorem State.collect_st {z : State} {s0} {x1} {x2} {x3} {x4} (h0 : Steady z s0) :
    Steady z (@State.collect s0 x1 x2 x3 x4) := by
  unfold State.collect
  extract_lets +onlyGivenNames -underBinder -merge -useContext xq1
  have hxq1 : Steady z xq1 := by
    unfold xq1
    refine State.bumpFlt_st ?_
    refine State.bumpFlt_st ?_
    exact h0
  try clear_value xq1
  extract_lets +onlyGivenNames -underBinder -merge -useContext xq2
  have hxq2 : Steady z xq2 := by
    unfold xq2
    split
    · refine State.evt_st ?_
      refine State.logFault_st ?_
      exact hxq1
    · exact hxq1
  try clear_value xq2
  split
  · refine State.failSilent_st ?_
    exact hxq2
  · exact hxq2

theorem State.faultIn_st {z : State} {s0} {x1} {x2} {x3} {x4} (h0 : Steady z s0) :
    Steady z (@State.faultIn s0 x1 x2 x3 x4) := by
  unfold State.faultIn
  refine State.collect_st ?_
  refine State.capture_st ?_
  exact h0

theorem State.fault_st {z : State} {s0} {x1} {x2} {x3} (h0 : Steady z s0) :
    Steady z (@State.fault s0 x1 x2 x3) := by
  unfold State.fault
  refine State.faultIn_st ?_
  exact h0

theorem State.faultU_st {z : State} {s0} {x1} {x2} (h0 : Steady z s0) :
    Steady z (@State.faultU s0 x1 x2) := by
  unfold State.faultU
  split
  · rename_i e
    have hmq1 := Steady.of_snd (z := z) e (by
      refine State.draw_st ?_
      exact h0)
    refine State.fault_st ?_
    exact hmq1

theorem State.eccReport_st {z : State} {s0} {x1} {x2} {x3} (h0 : Steady z s0) :
    Steady z (@State.eccReport s0 x1 x2 x3) := by
  unfold State.eccReport
  extract_lets +onlyGivenNames -underBinder -merge -useContext xq1
  try clear_value xq1
  extract_lets +onlyGivenNames -underBinder -merge -useContext xq2
  have hxq2 : Steady z xq2 := by
    unfold xq2
    refine State.bump_st ?_
    exact h0
  try clear_value xq2
  extract_lets +onlyGivenNames -underBinder -merge -useContext xq3
  have hxq3 : Steady z xq3 := by
    unfold xq3
    refine State.setReg_st ?_
    exact hxq2
  try clear_value xq3
  extract_lets +onlyGivenNames -underBinder -merge -useContext xq4
  have hxq4 : Steady z xq4 := by
    unfold xq4
    refine State.setReg_st ?_
    exact hxq3
  try clear_value xq4
  extract_lets +onlyGivenNames -underBinder -merge -useContext xq5
  have hxq5 : Steady z xq5 := by
    unfold xq5
    refine State.evt_st ?_
    exact hxq4
  try clear_value xq5
  split
  · refine State.faultU_st ?_
    exact hxq5
  · split
    · rename_i e
      have hmq6 := Steady.of_snd (z := z) e (by
        refine State.draw_st ?_
        exact hxq5)
      extract_lets +onlyGivenNames -underBinder -merge -useContext xq7
      try clear_value xq7
      split
      · refine State.faultIn_st ?_
        exact hmq6
      · extract_lets +onlyGivenNames -underBinder -merge -useContext xq8
        try clear_value xq8
        extract_lets +onlyGivenNames -underBinder -merge -useContext xq9
        try clear_value xq9
        extract_lets +onlyGivenNames -underBinder -merge -useContext xq10
        have hxq10 : Steady z xq10 := by
          unfold xq10
          refine State.setAxis_st ?_
          exact hmq6
        try clear_value xq10
        refine State.faultIn_st ?_
        exact hxq10

theorem State.stateWord_st {z : State} {s0} {x1} (h0 : Steady z s0) :
    Steady z (@State.stateWord s0 x1) := by
  unfold State.stateWord
  split
  · rename_i e
    have hmq1 := Steady.of_snd (z := z) e (by
      refine State.draw_st ?_
      exact h0)
    split
    · rename_i e
      have hmq2 := Steady.of_snd (z := z) e (by
        refine State.draw_st ?_
        exact hmq1)
      extract_lets +onlyGivenNames -underBinder -merge -useContext xq3
      have hxq3 : Steady z xq3 := by
        unfold xq3
        refine State.setReg_st ?_
        refine State.bump_st ?_
        exact hmq2
      try clear_value xq3
      extract_lets +onlyGivenNames -underBinder -merge -useContext xq4
      have hxq4 : Steady z xq4 := by
        unfold xq4
        refine State.evt_st ?_
        refine State.setReg_st ?_
        exact hxq3
      try clear_value xq4
      split
      · rename_i e
        have hmq5 := Steady.of_snd (z := z) e (by
          refine State.draw_st ?_
          exact hxq4)
        refine State.faultIn_st ?_
        exact hmq5

theorem State.eccRead_st {z : State} {s0} {x1} {x2} (h0 : Steady z s0) :
    Steady z (@State.eccRead s0 x1 x2).2 := by
  unfold State.eccRead
  extract_lets +onlyGivenNames -underBinder -merge -useContext xq1
  try clear_value xq1
  split
  · refine Steady.mk1 ?_
    exact h0
  · split
    · refine Steady.mk1 ?_
      refine State.eccReport_st ?_
      refine State.setFlip_st ?_
      exact h0
    · split
      · refine Steady.mk1 ?_
        refine State.eccReport_st ?_
        exact h0
      · split
        · rename_i e
          have hmq2 := Steady.of_snd (z := z) e (by
            refine State.draw_st ?_
            exact h0)
          split
          · rename_i e
            have hmq3 := Steady.of_snd (z := z) e (by
              refine State.draw_st ?_
              exact hmq2)
            split
            · refine Steady.mk1 ?_
              refine State.eccReport_st ?_
              exact hmq3
            · extract_lets +onlyGivenNames -underBinder -merge -useContext xq4
              have hxq4 : Steady z xq4 := by
                unfold xq4
                refine State.setBytes_st ?_
                refine State.setFlip_st ?_
                exact hmq3
              try clear_value xq4
              refine Steady.mk1 ?_
              split
              · exact hxq4
              · refine State.eccReport_st ?_
                exact hxq4

theorem State.noteAccess_st {z : State} {s0} {x1} {x2} (h0 : Steady z s0) :
    Steady z (@State.noteAccess s0 x1 x2) := by
  unfold State.noteAccess
  split
  · split
    · refine State.bumpE_st ?_
      exact h0
    · exact h0
  · exact h0

theorem State.readMem_st {z : State} {s0} {x1} {x2} {x3} (h0 : Steady z s0) :
    Steady z (@State.readMem s0 x1 x2 x3).2 := by
  unfold State.readMem
  extract_lets +onlyGivenNames -underBinder -merge -useContext xq1
  have hxq1 : Steady z xq1.2 := by
    unfold xq1
    refine Steady.foldl1 ?_ ?_
    · refine Steady.mk1 ?_
      refine State.noteAccess_st ?_
      exact h0
    · intro b0 b1 hbq2
      extract_lets +onlyGivenNames -underBinder -merge -useContext xq3
      have hxq3 : Steady z xq3.2 := by
        unfold xq3
        refine State.eccRead_st ?_
        exact hbq2
      try clear_value xq3
      refine Steady.mk1 ?_
      exact hxq3
  try clear_value xq1
  refine Steady.mk1 ?_
  exact hxq1

theorem State.injectAt_st {z : State} {s0} {x1} {x2} (h0 : Steady z s0) :
    Steady z (@State.injectAt s0 x1 x2) := by
  unfold State.injectAt
  split
  · extract_lets +onlyGivenNames -underBinder -merge -useContext xq1
    try clear_value xq1
    extract_lets +onlyGivenNames -underBinder -merge -useContext xq2
    try clear_value xq2
    extract_lets +onlyGivenNames -underBinder -merge -useContext xq3
    try clear_value xq3
    refine State.wr_st ?_
    refine State.setFlip_st ?_
    exact h0
  · exact h0

theorem State.writeWord_st {z : State} {s0} {x1} {x2} {x3} {x4} (h0 : Steady z s0) :
    Steady z (@State.writeWord s0 x1 x2 x3 x4).2 := by
  unfold State.writeWord
  extract_lets +onlyGivenNames -underBinder -merge -useContext xq1
  try clear_value xq1
  extract_lets +onlyGivenNames -underBinder -merge -useContext xq2
  try clear_value xq2
  extract_lets +onlyGivenNames -underBinder -merge -useContext xq3
  try clear_value xq3
  split
  · refine Steady.mk1 ?_
    refine State.injectAt_st ?_
    refine State.setBytes_st ?_
    refine State.setFlip_st ?_
    exact h0
  · extract_lets +onlyGivenNames -underBinder -merge -useContext xq4
    have hxq4 : Steady z xq4.2 := by
      unfold xq4
      refine State.eccRead_st ?_
      exact h0
    try clear_value xq4
    split
    · refine Steady.mk1 ?_
      refine State.injectAt_st ?_
      refine State.setBytes_st ?_
      exact hxq4
    · refine Steady.mk1 ?_
      exact hxq4

theorem State.writeMem_st {z : State} {s0} {x1} {x2} {x3} (h0 : Steady z s0) :
    Steady z (@State.writeMem s0 x1 x2 x3).2 := by
  unfold State.writeMem
  refine Steady.foldl1 ?_ ?_
  · refine Steady.mk1 ?_
    refine State.noteAccess_st ?_
    exact h0
  · intro b0 b1 hbq1
    extract_lets +onlyGivenNames -underBinder -merge -useContext xq2
    have hxq2 : Steady z xq2.2 := by
      unfold xq2
      refine State.writeWord_st ?_
      exact hbq1
    try clear_value xq2
    refine Steady.mk1 ?_
    exact hxq2

theorem State.gateRecord_st {z : State} {s0} {x1} {x2} {x3} {x4} (h0 : Steady z s0) :
    Steady z (@State.gateRecord s0 x1 x2 x3 x4) := by
  unfold State.gateRecord
  extract_lets +onlyGivenNames -underBinder -merge -useContext xq1
  try clear_value xq1
  extract_lets +onlyGivenNames -underBinder -merge -useContext xq2
  have hxq2 : Steady z xq2 := by
    unfold xq2
    split
    · exact h0
    · refine State.wr_st ?_
      refine State.setReg_st ?_
      refine State.setReg_st ?_
      exact h0
  try clear_value xq2
  extract_lets +onlyGivenNames -underBinder -merge -useContext xq3
  have hxq3 : Steady z xq3 := by
    unfold xq3
    split
    · refine State.bumpE_st ?_
      exact hxq2
    · exact hxq2
  try clear_value xq3
  refine State.fault_st ?_
  refine State.evt_st ?_
  exact hxq3

theorem State.fixRead_st {z : State} {s0} {x1} {x2} {x3} (h0 : Steady z s0) :
    Steady z (@State.fixRead s0 x1 x2 x3).2 := by
  unfold State.fixRead
  split
  · refine Steady.mk1 ?_
    refine State.gateRecord_st ?_
    exact h0
  · refine State.readMem_st ?_
    exact h0

theorem State.blockRead_st {z : State} {s0} {x1} {x2} {x3} (h0 : Steady z s0) :
    Steady z (@State.blockRead s0 x1 x2 x3).2 := by
  unfold State.blockRead
  refine Steady.foldl1 ?_ ?_
  · refine Steady.mk1 ?_
    exact h0
  · intro b0 b1 hbq1
    split
    · exact hbq1
    · extract_lets +onlyGivenNames -underBinder -merge -useContext xq2
      try clear_value xq2
      split
      · rename_i e
        have hmq3 := Steady.of_snd (z := z) e (by
          refine State.fixRead_st ?_
          exact hbq1)
        refine Steady.mk1 ?_
        exact hmq3

theorem State.fixWrite_st {z : State} {s0} {x1} {x2} {x3} (h0 : Steady z s0) :
    Steady z (@State.fixWrite s0 x1 x2 x3).2 := by
  unfold State.fixWrite
  split
  · refine Steady.mk1 ?_
    refine State.gateRecord_st ?_
    exact h0
  · refine State.writeMem_st ?_
    exact h0

theorem State.fixPut_st {z : State} {s0} {x1} {x2} {x3} (h0 : Steady z s0) :
    Steady z (@State.fixPut s0 x1 x2 x3) := by
  unfold State.fixPut
  refine State.fixWrite_st ?_
  exact h0

theorem State.bootAct_st {z : State} {s0} {x1} {x2} {s3} (h0 : Steady z s0) (h3 : ∀ y0, Steady z y0 → Steady z (s3 y0)) :
    Steady z (@State.bootAct s0 x1 x2 s3) := by
  unfold State.bootAct
  split
  · refine State.gateRecord_st ?_
    exact h0
  · refine h3 _ ?_
    · exact h0

theorem State.pgAbort_st {z : State} {s0} {x1} (h0 : Steady z s0) :
    Steady z (@State.pgAbort s0 x1) := by
  unfold State.pgAbort
  extract_lets +onlyGivenNames -underBinder -merge -useContext xq1
  try clear_value xq1
  extract_lets +onlyGivenNames -underBinder -merge -useContext xq2
  have hxq2 : Steady z xq2 := by
    unfold xq2
    refine State.setPg_st ?_
    exact h0
  try clear_value xq2
  split
  · refine State.evt_st ?_
    exact hxq2
  · exact hxq2

theorem State.immediateStop_st {z : State} {s0} {x1} (h0 : Steady z s0) :
    Steady z (@State.immediateStop s0 x1) := by
  unfold State.immediateStop
  split
  · refine State.pgAbort_st ?_
    exact h0
  · extract_lets +onlyGivenNames -underBinder -merge -useContext xq1
    have hxq1 : Steady z xq1 := by
      unfold xq1
      refine Steady.foldl0 ?_ ?_
      · exact h0
      · intro b0 b1 hbq2
        refine State.pgAbort_st ?_
        exact hbq2
    try clear_value xq1
    extract_lets +onlyGivenNames -underBinder -merge -useContext xq3
    try clear_value xq3
    extract_lets +onlyGivenNames -underBinder -merge -useContext xq4
    have hxq4 : Steady z xq4 := by
      unfold xq4
      refine State.setIgrp_st ?_
      exact hxq1
    try clear_value xq4
    refine State.evt_st ?_
    refine State.wr_st ?_
    refine State.wr_st ?_
    exact hxq4

theorem State.camHead_st {z : State} {s0} {x1} (h0 : Steady z s0) :
    Steady z (@State.camHead s0 x1).2 := by
  unfold State.camHead
  extract_lets +onlyGivenNames -underBinder -merge -useContext xq1
  have hxq1 : Steady z xq1.2 := by
    unfold xq1
    refine State.fixRead_st ?_
    exact h0
  try clear_value xq1
  refine Steady.mk1 ?_
  exact hxq1

theorem State.camY_st {z : State} {s0} {x1} {x2} (h0 : Steady z s0) :
    Steady z (@State.camY s0 x1 x2).2 := by
  unfold State.camY
  extract_lets +onlyGivenNames -underBinder -merge -useContext xq1
  try clear_value xq1
  extract_lets +onlyGivenNames -underBinder -merge -useContext xq2
  try clear_value xq2
  extract_lets +onlyGivenNames -underBinder -merge -useContext xq3
  have hxq3 : Steady z xq3.2 := by
    unfold xq3
    refine State.fixRead_st ?_
    exact h0
  try clear_value xq3
  refine Steady.mk1 ?_
  exact hxq3

theorem State.camLost_st {z : State} {s0} {x1} (h0 : Steady z s0) :
    Steady z (@State.camLost s0 x1) := by
  unfold State.camLost
  refine State.forEach_st ?_ ?_
  · exact h0
  · intro b0 b1 hbq1
    extract_lets +onlyGivenNames -underBinder -merge -useContext xq2
    try clear_value xq2
    split
    · refine State.setPg_st ?_
      exact hbq1
    · exact hbq1

theorem State.camStep_st {z : State} {s0} {x1} {x2} (h0 : Steady z s0) :
    Steady z (@State.camStep s0 x1 x2).2 := by
  unfold State.camStep
  split
  · rename_i e
    have hmq1 := Steady.of_snd (z := z) e (by
      refine State.camHead_st ?_
      exact h0)
    split
    · refine Steady.mk1 ?_
      exact hmq1
    · extract_lets +onlyGivenNames -underBinder -merge -useContext xq2
      try clear_value xq2
      extract_lets +onlyGivenNames -underBinder -merge -useContext xq3
      try clear_value xq3
      extract_lets +onlyGivenNames -underBinder -merge -useContext xq4
      try clear_value xq4
      split
      · rename_i e
        have hmq5 := Steady.of_snd (z := z) e (by
          refine State.camY_st ?_
          exact hmq1)
        split
        · split
          · rename_i e
            have hmq6 := Steady.of_snd (z := z) e (by
              refine State.camHead_st ?_
              exact hmq5)
            split
            · rename_i e
              have hmq7 := Steady.of_snd (z := z) e (by
                refine State.camY_st ?_
                exact hmq6)
              split
              · split
                · rename_i e
                  have hmq8 := Steady.of_snd (z := z) e (by
                    refine State.camY_st ?_
                    exact hmq7)
                  split
                  · rename_i e
                    have hmq9 := Steady.of_snd (z := z) e (by
                      refine State.camY_st ?_
                      exact hmq8)
                    refine Steady.mk1 ?_
                    exact hmq9
              · refine Steady.mk1 ?_
                exact hmq7
        · split
          · rename_i e
            have hmq10 := Steady.of_snd (z := z) e (by
              refine State.camHead_st ?_
              exact hmq5)
            split
            · rename_i e
              have hmq11 := Steady.of_snd (z := z) e (by
                refine State.camY_st ?_
                exact hmq10)
              split
              · split
                · rename_i e
                  have hmq12 := Steady.of_snd (z := z) e (by
                    refine State.camY_st ?_
                    exact hmq11)
                  split
                  · rename_i e
                    have hmq13 := Steady.of_snd (z := z) e (by
                      refine State.camY_st ?_
                      exact hmq12)
                    refine Steady.mk1 ?_
                    exact hmq13
              · refine Steady.mk1 ?_
                exact hmq11
        · split
          · rename_i e
            have hmq14 := Steady.of_snd (z := z) e (by
              refine State.camY_st ?_
              exact hmq5)
            refine Steady.mk1 ?_
            exact hmq14

theorem State.latchMasters_st {z : State} {s0} (h0 : Steady z s0) :
    Steady z (@State.latchMasters s0) := by
  unfold State.latchMasters
  refine State.forEach_st ?_ ?_
  · exact h0
  · intro b0 b1 hbq1
    extract_lets +onlyGivenNames -underBinder -merge -useContext xq2
    try clear_value xq2
    split
    · refine State.setPg_st ?_
      exact hbq1
    · refine State.setPg_st ?_
      exact hbq1

theorem State.showVm_st {z : State} {s0} {x1} (h0 : Steady z s0) :
    Steady z (@State.showVm s0 x1) := by
  unfold State.showVm
  extract_lets +onlyGivenNames -underBinder -merge -useContext xq1
  try clear_value xq1
  extract_lets +onlyGivenNames -underBinder -merge -useContext xq2
  have hxq2 : Steady z xq2 := by
    unfold xq2
    refine State.setReg64_st ?_
    exact h0
  try clear_value xq2
  extract_lets +onlyGivenNames -underBinder -merge -useContext xq3
  have hxq3 : Steady z xq3 := by
    unfold xq3
    refine State.setReg64_st ?_
    exact hxq2
  try clear_value xq3
  extract_lets +onlyGivenNames -underBinder -merge -useContext xq4
  have hxq4 : Steady z xq4 := by
    unfold xq4
    refine State.wr_st ?_
    exact hxq3
  try clear_value xq4
  extract_lets +onlyGivenNames -underBinder -merge -useContext xq5
  have hxq5 : Steady z xq5 := by
    unfold xq5
    refine State.wr_st ?_
    exact hxq4
  try clear_value xq5
  refine State.wr_st ?_
  exact hxq5

theorem State.vmPending_st {z : State} {s0} {x1} (h0 : Steady z s0) :
    Steady z (@State.vmPending s0 x1) := by
  unfold State.vmPending
  extract_lets +onlyGivenNames -underBinder -merge -useContext xq1
  try clear_value xq1
  extract_lets +onlyGivenNames -underBinder -merge -useContext xq2
  try clear_value xq2
  extract_lets +onlyGivenNames -underBinder -merge -useContext xq3
  have hxq3 : Steady z xq3 := by
    unfold xq3
    split
    · split
      · split
        · refine State.setVm_st ?_
          exact h0
        · refine State.evt_st ?_
          refine State.wr_st ?_
          refine State.setVm_st ?_
          exact h0
      · exact h0
    · exact h0
  try clear_value xq3
  extract_lets +onlyGivenNames -underBinder -merge -useContext xq4
  try clear_value xq4
  extract_lets +onlyGivenNames -underBinder -merge -useContext xq5
  have hxq5 : Steady z xq5 := by
    unfold xq5
    split
    · split
      · refine State.setVm_st ?_
        exact hxq3
      · exact hxq3
    · exact hxq3
  try clear_value xq5
  refine State.showVm_st ?_
  exact hxq5

theorem State.vmStep_st {z : State} {s0} {x1} (h0 : Steady z s0) :
    Steady z (@State.vmStep s0 x1) := by
  unfold State.vmStep
  extract_lets +onlyGivenNames -underBinder -merge -useContext xq1
  have hxq1 : Steady z xq1 := by
    unfold xq1
    refine State.vmPending_st ?_
    exact h0
  try clear_value xq1
  extract_lets +onlyGivenNames -underBinder -merge -useContext xq2
  try clear_value xq2
  extract_lets +onlyGivenNames -underBinder -merge -useContext xq3
  try clear_value xq3
  extract_lets +onlyGivenNames -underBinder -merge -useContext xq4
  try clear_value xq4
  refine State.showVm_st ?_
  refine State.setVm_st ?_
  exact hxq1

theorem State.reportRest_st {z : State} {s0} {x1} {x2} (h0 : Steady z s0) :
    Steady z (@State.reportRest s0 x1 x2) := by
  unfold State.reportRest
  extract_lets +onlyGivenNames -underBinder -merge -useContext xq1
  try clear_value xq1
  split
  · refine State.evt_st ?_
    refine State.modAxis_st ?_
    exact h0
  · exact h0

theorem State.memberStep_st {z : State} {s0} {x1} {x2} (h0 : Steady z s0) :
    Steady z (@State.memberStep s0 x1 x2) := by
  unfold State.memberStep
  split
  · exact h0
  · split
    · exact h0
    · extract_lets +onlyGivenNames -underBinder -merge -useContext xq1
      try clear_value xq1
      extract_lets +onlyGivenNames -underBinder -merge -useContext xq2
      try clear_value xq2
      extract_lets +onlyGivenNames -underBinder -merge -useContext xq3
      try clear_value xq3
      extract_lets +onlyGivenNames -underBinder -merge -useContext xq4
      try clear_value xq4
      extract_lets +onlyGivenNames -underBinder -merge -useContext xq5
      try clear_value xq5
      extract_lets +onlyGivenNames -underBinder -merge -useContext xq6
      have hxq6 : Steady z xq6 := by
        unfold xq6
        refine State.setPg_st ?_
        exact h0
      try clear_value xq6
      extract_lets +onlyGivenNames -underBinder -merge -useContext xq7
      have hxq7 : Steady z xq7 := by
        unfold xq7
        refine State.reportRest_st ?_
        exact hxq6
      try clear_value xq7
      refine State.modPg_st ?_
      exact hxq7

theorem State.grpStep_st {z : State} {s0} {x1} (h0 : Steady z s0) :
    Steady z (@State.grpStep s0 x1) := by
  unfold State.grpStep
  extract_lets +onlyGivenNames -underBinder -merge -useContext xq1
  try clear_value xq1
  split
  · exact h0
  · extract_lets +onlyGivenNames -underBinder -merge -useContext xq2
    try clear_value xq2
    extract_lets +onlyGivenNames -underBinder -merge -useContext xq3
    try clear_value xq3
    extract_lets +onlyGivenNames -underBinder -merge -useContext xq4
    try clear_value xq4
    extract_lets +onlyGivenNames -underBinder -merge -useContext xq5
    try clear_value xq5
    extract_lets +onlyGivenNames -underBinder -merge -useContext xq6
    have hxq6 : Steady z xq6 := by
      unfold xq6
      refine State.setIgrp_st ?_
      exact h0
    try clear_value xq6
    extract_lets +onlyGivenNames -underBinder -merge -useContext xq7
    have hxq7 : Steady z xq7 := by
      unfold xq7
      refine State.setReg64_st ?_
      exact hxq6
    try clear_value xq7
    extract_lets +onlyGivenNames -underBinder -merge -useContext xq8
    try clear_value xq8
    extract_lets +onlyGivenNames -underBinder -merge -useContext xq9
    have hxq9 : Steady z xq9 := by
      unfold xq9
      split
      · refine State.wr_st ?_
        exact hxq7
      · exact hxq7
    try clear_value xq9
    extract_lets +onlyGivenNames -underBinder -merge -useContext xq10
    have hxq10 : Steady z xq10 := by
      unfold xq10
      refine State.forEach_st ?_ ?_
      · exact hxq9
      · intro b0 b1 hbq11
        refine State.memberStep_st ?_
        exact hbq11
    try clear_value xq10
    split
    · extract_lets +onlyGivenNames -underBinder -merge -useContext xq12
      have hxq12 : Steady z xq12 := by
        unfold xq12
        refine State.wr_st ?_
        exact hxq10
      try clear_value xq12
      split
      · refine State.evt_st ?_
        exact hxq12
      · exact hxq12
    · exact hxq10

theorem State.stallRead_st {z : State} {s0} {x1} {x2} (h0 : Steady z s0) :
    Steady z (@State.stallRead s0 x1 x2) := by
  unfold State.stallRead
  split
  · split
    rename_i b s e
    have hs : Steady z s := Steady.of_snd e (fixRead_st h0)
    exact Steady.ite (bumpE_st (fault_st (evt_st (setPg_st hs)))) hs
  · exact h0

theorem State.followStep_st {z : State} {s0} {x1} {x2} {x3} {x4} (h0 : Steady z s0) :
    Steady z (@State.followStep s0 x1 x2 x3 x4) := by
  unfold State.followStep
  extract_lets +onlyGivenNames -underBinder -merge -useContext xq1
  try clear_value xq1
  extract_lets +onlyGivenNames -underBinder -merge -useContext xq2
  try clear_value xq2
  extract_lets +onlyGivenNames -underBinder -merge -useContext xq3
  try clear_value xq3
  extract_lets +onlyGivenNames -underBinder -merge -useContext xq4
  try clear_value xq4
  split
  · rename_i e
    have hmq5 := Steady.of_snd (z := z) e (by
      split
      · extract_lets +onlyGivenNames -underBinder -merge -useContext xq6
        try clear_value xq6
        extract_lets +onlyGivenNames -underBinder -merge -useContext xq7
        try clear_value xq7
        refine Steady.mk1 ?_
        exact h0
      · split
        · rename_i e
          have hmq8 := Steady.of_snd (z := z) e (by
            refine State.camStep_st ?_
            exact h0)
          refine Steady.mk1 ?_
          exact hmq8)
    split
    · extract_lets +onlyGivenNames -underBinder -merge -useContext xq9
      have hxq9 : Steady z xq9 := by
        unfold xq9
        refine State.camLost_st ?_
        exact hmq5
      try clear_value xq9
      extract_lets +onlyGivenNames -underBinder -merge -useContext xq10
      try clear_value xq10
      refine State.setPg_st ?_
      exact hxq9
    · extract_lets +onlyGivenNames -underBinder -merge -useContext xq11
      have hxq11 : Steady z xq11 := by
        unfold xq11
        split
        · refine State.evt_st ?_
          exact hmq5
        · exact hmq5
      try clear_value xq11
      extract_lets +onlyGivenNames -underBinder -merge -useContext xq12
      try clear_value xq12
      extract_lets +onlyGivenNames -underBinder -merge -useContext xq13
      try clear_value xq13
      split
      · extract_lets +onlyGivenNames -underBinder -merge -useContext xq14
        try clear_value xq14
        refine State.setPg_st ?_
        exact hxq11
      · split
        · extract_lets +onlyGivenNames -underBinder -merge -useContext xq15
          try clear_value xq15
          refine State.setPg_st ?_
          exact hxq11

theorem State.modeStep_st {z : State} {s0} {x1} {x2} {x3} {x4} (h0 : Steady z s0) :
    Steady z (@State.modeStep s0 x1 x2 x3 x4) := by
  unfold State.modeStep
  extract_lets +onlyGivenNames -underBinder -merge -useContext xq1
  try clear_value xq1
  extract_lets +onlyGivenNames -underBinder -merge -useContext xq2
  try clear_value xq2
  extract_lets +onlyGivenNames -underBinder -merge -useContext xq3
  try clear_value xq3
  extract_lets +onlyGivenNames -underBinder -merge -useContext xq4
  try clear_value xq4
  extract_lets +onlyGivenNames -underBinder -merge -useContext xq5
  have hxq5 : Steady z xq5 := by
    unfold xq5
    split
    · split
      · refine State.setPg_st ?_
        exact h0
    · refine State.setPg_st ?_
      exact h0
    · extract_lets +onlyGivenNames -underBinder -merge -useContext xq6
      try clear_value xq6
      refine State.setPg_st ?_
      exact h0
    · extract_lets +onlyGivenNames -underBinder -merge -useContext xq7
      try clear_value xq7
      refine State.setPg_st ?_
      exact h0
    · refine State.followStep_st ?_
      exact h0
    · refine State.followStep_st ?_
      exact h0
    · refine State.setPg_st ?_
      exact h0
    · refine State.setPg_st ?_
      exact h0
  try clear_value xq5
  split
  · exact hxq5
  · refine State.modPg_st ?_
    exact hxq5

theorem State.pgStep_st {z : State} {s0} {x1} {x2} {x3} {x4} {x5} (h0 : Steady z s0) :
    Steady z (@State.pgStep s0 x1 x2 x3 x4 x5) := by
  unfold State.pgStep
  extract_lets +onlyGivenNames -underBinder -merge -useContext xq1
  have hxq1 : Steady z xq1 := by
    unfold xq1
    refine State.modeStep_st ?_
    refine State.stallRead_st ?_
    exact h0
  try clear_value xq1
  extract_lets +onlyGivenNames -underBinder -merge -useContext xq2
  have hxq2 : Steady z xq2 := by
    unfold xq2
    refine State.modPg_st ?_
    refine State.reportRest_st ?_
    exact hxq1
  try clear_value xq2
  refine State.modPg_st ?_
  exact hxq2

theorem State.engineRun_st {z : State} {s0} (h0 : Steady z s0) :
    Steady z (@State.engineRun s0) := by
  unfold State.engineRun
  split
  · exact h0
  · extract_lets +onlyGivenNames -underBinder -merge -useContext xq1
    have hxq1 : Steady z xq1 := by
      unfold xq1
      refine State.forEach_st ?_ ?_
      · exact h0
      · intro b0 b1 hbq2
        refine State.vmStep_st ?_
        exact hbq2
    try clear_value xq1
    extract_lets +onlyGivenNames -underBinder -merge -useContext xq3
    have hxq3 : Steady z xq3 := by
      unfold xq3
      refine State.latchMasters_st ?_
      exact hxq1
    try clear_value xq3
    extract_lets +onlyGivenNames -underBinder -merge -useContext xq4
    try clear_value xq4
    extract_lets +onlyGivenNames -underBinder -merge -useContext xq5
    have hxq5 : Steady z xq5 := by
      unfold xq5
      refine State.forEach_st ?_ ?_
      · exact hxq3
      · intro b0 b1 hbq6
        refine State.grpStep_st ?_
        exact hbq6
    try clear_value xq5
    refine State.forEach_st ?_ ?_
    · exact hxq5
    · intro b0 b1 hbq7
      extract_lets +onlyGivenNames -underBinder -merge -useContext xq8
      try clear_value xq8
      split
      · split
        · exact hbq7
        · split
          · extract_lets +onlyGivenNames -underBinder -merge -useContext xq9
            try clear_value xq9
            refine State.modPg_st ?_
            exact hbq7
          · refine State.pgStep_st ?_
            exact hbq7

theorem State.spWrite_st {z : State} {s0} {x1} {x2} (h0 : Steady z s0) :
    Steady z (@State.spWrite s0 x1 x2) := by
  unfold State.spWrite
  extract_lets +onlyGivenNames -underBinder -merge -useContext xq1
  try clear_value xq1
  split
  · exact h0
  · extract_lets +onlyGivenNames -underBinder -merge -useContext xq2
    have hxq2 : Steady z xq2 := by
      unfold xq2
      refine State.modPg_st ?_
      exact h0
    try clear_value xq2
    extract_lets +onlyGivenNames -underBinder -merge -useContext xq3
    try clear_value xq3
    extract_lets +onlyGivenNames -underBinder -merge -useContext xq4
    try clear_value xq4
    split
    · refine State.modAxis_st ?_
      exact hxq2
    · refine State.fixPut_st ?_
      exact hxq2

theorem State.tellFollowers_st {z : State} {s0} {x1} {x2} (h0 : Steady z s0) :
    Steady z (@State.tellFollowers s0 x1 x2) := by
  unfold State.tellFollowers
  extract_lets +onlyGivenNames -underBinder -merge -useContext xq1
  try clear_value xq1
  refine State.forEach_st ?_ ?_
  · exact h0
  · intro b0 b1 hbq2
    split
    · refine State.modPg_st ?_
      exact hbq2
    · exact hbq2

theorem State.pgResume_st {z : State} {s0} {x1} {x2} {x3} (h0 : Steady z s0) :
    Steady z (@State.pgResume s0 x1 x2 x3) := by
  unfold State.pgResume
  split
  · exact h0
  · extract_lets +onlyGivenNames -underBinder -merge -useContext xq1
    have hxq1 : Steady z xq1 := by
      unfold xq1
      refine State.modPg_st ?_
      exact h0
    try clear_value xq1
    split
    · exact h0
    · split
      · refine State.tellFollowers_st ?_
        exact hxq1
      · split
        · exact h0
        · refine State.tellFollowers_st ?_
          refine State.spWrite_st ?_
          refine State.pgStep_st ?_
          exact hxq1

theorem State.pgCamBad_st {z : State} {s0} {x1} {x2} {x3} (h0 : Steady z s0) :
    Steady z (@State.pgCamBad s0 x1 x2 x3).2 := by
  unfold State.pgCamBad
  split
  · refine Steady.mk1 ?_
    exact h0
  · split
    · split
      · refine Steady.mk1 ?_
        exact h0
      · split
        · rename_i e
          have hmq1 := Steady.of_snd (z := z) e (by
            refine State.camHead_st ?_
            exact h0)
          split
          · rename_i e
            have hmq2 := Steady.of_snd (z := z) e (by
              refine State.camHead_st ?_
              exact hmq1)
            refine Steady.mk1 ?_
            exact hmq2
    · refine Steady.mk1 ?_
      exact h0

theorem State.pgReason_st {z : State} {s0} {x1} {x2} {x3} {x4} {x5} (h0 : Steady z s0) :
    Steady z (@State.pgReason s0 x1 x2 x3 x4 x5).2 := by
  unfold State.pgReason
  extract_lets +onlyGivenNames -underBinder -merge -useContext xq1
  try clear_value xq1
  split
  · refine Steady.mk1 ?_
    exact h0
  · split
    · refine Steady.mk1 ?_
      exact h0
    · split
      · refine Steady.mk1 ?_
        exact h0
      · split
        · refine Steady.mk1 ?_
          exact h0
        · split
          · rename_i e
            have hmq2 := Steady.of_snd (z := z) e (by
              refine State.pgCamBad_st ?_
              exact h0)
            split
            · refine Steady.mk1 ?_
              exact hmq2
            · split
              · refine Steady.mk1 ?_
                exact hmq2
              · refine Steady.mk1 ?_
                exact hmq2

theorem State.pgRefuse_st {z : State} {s0} {x1} {x2} {x3} (h0 : Steady z s0) :
    Steady z (@State.pgRefuse s0 x1 x2 x3) := by
  unfold State.pgRefuse
  extract_lets +onlyGivenNames -underBinder -merge -useContext xq1
  have hxq1 : Steady z xq1 := by
    unfold xq1
    refine State.bumpE_st ?_
    exact h0
  try clear_value xq1
  refine State.evt_st ?_
  refine State.setReg_st ?_
  exact hxq1

theorem State.grpStart_st {z : State} {s0} {x1} (h0 : Steady z s0) :
    Steady z (@State.grpStart s0 x1) := by
  unfold State.grpStart
  extract_lets +onlyGivenNames -underBinder -merge -useContext xq1
  try clear_value xq1
  extract_lets +onlyGivenNames -underBinder -merge -useContext xq2
  try clear_value xq2
  extract_lets +onlyGivenNames -underBinder -merge -useContext xq3
  try clear_value xq3
  extract_lets +onlyGivenNames -underBinder -merge -useContext xq4
  try clear_value xq4
  extract_lets +onlyGivenNames -underBinder -merge -useContext xq5
  try clear_value xq5
  extract_lets +onlyGivenNames -underBinder -merge -useContext xq6
  have hxq6 : Steady z xq6 := by
    unfold xq6
    refine State.forEach_st ?_ ?_
    · exact h0
    · intro b0 b1 hbq7
      extract_lets +onlyGivenNames -underBinder -merge -useContext xq8
      try clear_value xq8
      refine State.setPg_st ?_
      exact hbq7
  try clear_value xq6
  extract_lets +onlyGivenNames -underBinder -merge -useContext xq9
  have hxq9 : Steady z xq9 := by
    unfold xq9
    refine State.setIgrp_st ?_
    exact hxq6
  try clear_value xq9
  extract_lets +onlyGivenNames -underBinder -merge -useContext xq10
  have hxq10 : Steady z xq10 := by
    unfold xq10
    refine State.setReg64_st ?_
    exact hxq9
  try clear_value xq10
  extract_lets +onlyGivenNames -underBinder -merge -useContext xq11
  have hxq11 : Steady z xq11 := by
    unfold xq11
    refine State.setReg64_st ?_
    exact hxq10
  try clear_value xq11
  extract_lets +onlyGivenNames -underBinder -merge -useContext xq12
  have hxq12 : Steady z xq12 := by
    unfold xq12
    refine State.wr_st ?_
    exact hxq11
  try clear_value xq12
  extract_lets +onlyGivenNames -underBinder -merge -useContext xq13
  have hxq13 : Steady z xq13 := by
    unfold xq13
    refine State.wr_st ?_
    exact hxq12
  try clear_value xq13
  extract_lets +onlyGivenNames -underBinder -merge -useContext xq14
  have hxq14 : Steady z xq14 := by
    unfold xq14
    refine State.wr_st ?_
    exact hxq13
  try clear_value xq14
  split
  · exact hxq14
  · refine State.evt_st ?_
    exact hxq14

theorem State.grpHalt_st {z : State} {s0} {x1} {x2} (h0 : Steady z s0) :
    Steady z (@State.grpHalt s0 x1 x2) := by
  unfold State.grpHalt
  split
  · exact h0
  · refine State.wr_st ?_
    refine State.setIgrp_st ?_
    exact h0

theorem State.pgAct_st {z : State} {s0} {x1} {x2} {x3} {x4} {x5} (h0 : Steady z s0) :
    Steady z (@State.pgAct s0 x1 x2 x3 x4 x5) := by
  unfold State.pgAct
  extract_lets +onlyGivenNames -underBinder -merge -useContext xq1
  try clear_value xq1
  extract_lets +onlyGivenNames -underBinder -merge -useContext xq2
  try clear_value xq2
  extract_lets +onlyGivenNames -underBinder -merge -useContext xq3
  try clear_value xq3
  extract_lets +onlyGivenNames -underBinder -merge -useContext xq4
  try clear_value xq4
  extract_lets +onlyGivenNames -underBinder -merge -useContext xq5
  try clear_value xq5
  split
  · refine State.setPg_st ?_
    exact h0
  · refine State.setPg_st ?_
    exact h0
  · refine State.setPg_st ?_
    exact h0
  · refine State.setPg_st ?_
    exact h0
  · refine State.setPg_st ?_
    exact h0
  · refine State.setReg64_st ?_
    refine State.setReg64_st ?_
    exact h0
  · extract_lets +onlyGivenNames -underBinder -merge -useContext xq6
    have hxq6 : Steady z xq6 := by
      unfold xq6
      refine State.setReg64_st ?_
      exact h0
    try clear_value xq6
    split
    · exact hxq6
    · refine State.wr_st ?_
      exact hxq6
  · refine State.wr_st ?_
    refine State.wr_st ?_
    exact h0
  · refine State.setPg_st ?_
    exact h0
  · split
    · rename_i e
      have hmq7 := Steady.of_snd (z := z) e (by
        refine State.camHead_st ?_
        exact h0)
      extract_lets +onlyGivenNames -underBinder -merge -useContext xq8
      try clear_value xq8
      extract_lets +onlyGivenNames -underBinder -merge -useContext xq9
      try clear_value xq9
      extract_lets +onlyGivenNames -underBinder -merge -useContext xq10
      try clear_value xq10
      refine State.setPg_st ?_
      exact hmq7
  · refine State.setPg_st ?_
    exact h0
  · refine State.setPg_st ?_
    exact h0
  · refine State.setPg_st ?_
    exact h0
  · refine State.setPg_st ?_
    exact h0
  · refine State.grpStart_st ?_
    exact h0
  · refine State.grpHalt_st ?_
    exact h0
  · exact h0

theorem State.vmCommand_st {z : State} {s0} {x1} {x2} (h0 : Steady z s0) :
    Steady z (@State.vmCommand s0 x1 x2) := by
  unfold State.vmCommand
  extract_lets +onlyGivenNames -underBinder -merge -useContext xq1
  try clear_value xq1
  extract_lets +onlyGivenNames -underBinder -merge -useContext xq2
  try clear_value xq2
  extract_lets +onlyGivenNames -underBinder -merge -useContext xq3
  try clear_value xq3
  extract_lets +onlyGivenNames -underBinder -merge -useContext xq4
  try clear_value xq4
  extract_lets +onlyGivenNames -underBinder -merge -useContext xq5
  have hxq5 : Steady z xq5 := by
    unfold xq5
    refine State.setVm_st ?_
    exact h0
  try clear_value xq5
  extract_lets +onlyGivenNames -underBinder -merge -useContext xq6
  try clear_value xq6
  extract_lets +onlyGivenNames -underBinder -merge -useContext xq7
  have hxq7 : Steady z xq7 := by
    unfold xq7
    split
    · refine State.evt_st ?_
      refine State.wr_st ?_
      exact hxq5
    · exact hxq5
  try clear_value xq7
  split
  · refine State.vmPending_st ?_
    exact hxq7
  · refine State.showVm_st ?_
    exact hxq7

theorem State.pgCommand_st {z : State} {s0} {x1} {x2} {x3} {x4} (h0 : Steady z s0) :
    Steady z (@State.pgCommand s0 x1 x2 x3 x4).2 := by
  unfold State.pgCommand
  split
  · split
    · refine Steady.mk1 ?_
      refine State.pgRefuse_st ?_
      exact h0
    · split
      · refine Steady.mk1 ?_
        refine State.pgRefuse_st ?_
        exact h0
      · refine Steady.mk1 ?_
        refine State.vmCommand_st ?_
        exact h0
  · split
    · refine Steady.mk1 ?_
      exact h0
    · split
      · rename_i e
        have hmq1 := Steady.of_snd (z := z) e (by
          refine State.pgReason_st ?_
          exact h0)
        split
        · refine Steady.mk1 ?_
          refine State.pgAct_st ?_
          exact hmq1
        · refine Steady.mk1 ?_
          refine State.pgRefuse_st ?_
          exact hmq1

theorem State.pgStart_st {z : State} {s0} {x1} {x2} (h0 : Steady z s0) :
    Steady z (@State.pgStart s0 x1 x2).2 := by
  unfold State.pgStart
  extract_lets +onlyGivenNames -underBinder -merge -useContext xq1
  try clear_value xq1
  extract_lets +onlyGivenNames -underBinder -merge -useContext xq2
  try clear_value xq2
  split
  · refine Steady.mk1 ?_
    refine State.setPg_st ?_
    exact h0
  · split
    · refine Steady.mk1 ?_
      refine State.setPg_st ?_
      exact h0
    · refine Steady.mk1 ?_
      refine State.pgRefuse_st ?_
      exact h0

theorem State.pgStop_st {z : State} {s0} {x1} (h0 : Steady z s0) :
    Steady z (@State.pgStop s0 x1) := by
  unfold State.pgStop
  extract_lets +onlyGivenNames -underBinder -merge -useContext xq1
  try clear_value xq1
  extract_lets +onlyGivenNames -underBinder -merge -useContext xq2
  have hxq2 : Steady z xq2 := by
    unfold xq2
    split
    · refine State.grpHalt_st ?_
      exact h0
    · exact h0
  try clear_value xq2
  refine State.setPg_st ?_
  exact hxq2

theorem State.pgPageStop_st {z : State} {s0} {x1} (h0 : Steady z s0) :
    Steady z (@State.pgPageStop s0 x1) := by
  unfold State.pgPageStop
  refine State.forEach_st h0 ?_
  intro b e hb
  have hs : Steady z (match b.groupOf e.1 with | some k => b.grpHalt k true | none => b) := by
    split
    · exact grpHalt_st hb
    · exact hb
  exact Steady.ite (Steady.ite hs (setPg_st hs)) hb

theorem State.putAxState_st {z : State} {s0} {x1} {x2} (h0 : Steady z s0) :
    Steady z (@State.putAxState s0 x1 x2) := by
  unfold State.putAxState
  refine State.fixPut_st ?_
  exact h0

theorem State.setDetLost_st {z : State} {s0} {x1} (h0 : Steady z s0) :
    Steady z (@State.setDetLost s0 x1) := by
  unfold State.setDetLost
  split
  · refine State.fixPut_st ?_
    refine State.modAxis_st ?_
    exact h0
  · exact h0

theorem State.setLate_st {z : State} {s0} {x1} {x2} (h0 : Steady z s0) :
    Steady z (@State.setLate s0 x1 x2) := by
  unfold State.setLate
  split
  · extract_lets +onlyGivenNames -underBinder -merge -useContext xq1
    have hxq1 : Steady z xq1 := by
      unfold xq1
      refine State.modAxis_st ?_
      exact h0
    try clear_value xq1
    split
    · rename_i e
      have hmq2 := Steady.of_snd (z := z) e (by
        refine State.fixRead_st ?_
        exact hxq1)
      split
      · refine State.fixPut_st ?_
        exact hmq2
      · exact hmq2
  · exact h0

theorem State.countBlock_st {z : State} {s0} {x1} {x2} (h0 : Steady z s0) :
    Steady z (@State.countBlock s0 x1 x2) := by
  unfold State.countBlock
  split
  · split
    · refine State.bumpE_st ?_
      exact h0
    · exact h0
  · exact h0

theorem State.putIn_st {z : State} {s0} {x1} {x2} (h0 : Steady z s0) :
    Steady z (@State.putIn s0 x1 x2) := by
  unfold State.putIn
  split
  · extract_lets +onlyGivenNames -underBinder -merge -useContext xq1
    try clear_value xq1
    extract_lets +onlyGivenNames -underBinder -merge -useContext xq2
    have hxq2 : Steady z xq2 := by
      unfold xq2
      split
      · refine State.fixPut_st ?_
        refine State.fixPut_st ?_
        exact h0
      · refine State.fixPut_st ?_
        exact h0
    try clear_value xq2
    refine State.countBlock_st ?_
    exact hxq2
  · refine State.fixPut_st ?_
    exact h0

theorem State.inputs_st {z : State} {s0} {x1} {x2} {x3} {x4} {x5} (h0 : Steady z s0) :
    Steady z (@State.inputs s0 x1 x2 x3 x4 x5) := by
  unfold State.inputs
  extract_lets +onlyGivenNames -underBinder -merge -useContext xq1
  try clear_value xq1
  extract_lets +onlyGivenNames -underBinder -merge -useContext xq2
  try clear_value xq2
  extract_lets +onlyGivenNames -underBinder -merge -useContext xq3
  try clear_value xq3
  extract_lets +onlyGivenNames -underBinder -merge -useContext xq4
  try clear_value xq4
  extract_lets +onlyGivenNames -underBinder -merge -useContext xq5
  try clear_value xq5
  extract_lets +onlyGivenNames -underBinder -merge -useContext xq6
  try clear_value xq6
  extract_lets +onlyGivenNames -underBinder -merge -useContext xq7
  try clear_value xq7
  extract_lets +onlyGivenNames -underBinder -merge -useContext xq8
  try clear_value xq8
  extract_lets +onlyGivenNames -underBinder -merge -useContext xq9
  try clear_value xq9
  extract_lets +onlyGivenNames -underBinder -merge -useContext xq10
  try clear_value xq10
  extract_lets +onlyGivenNames -underBinder -merge -useContext xq11
  have hxq11 : Steady z xq11 := by
    unfold xq11
    split
    · refine State.countBlock_st ?_
      exact h0
    · exact h0
  try clear_value xq11
  split
  · refine State.setAxis_st ?_
    exact hxq11
  · refine State.putIn_st ?_
    refine State.setAxis_st ?_
    exact hxq11

theorem State.enterStopped_st {z : State} {s0} {x1} (h0 : Steady z s0) :
    Steady z (@State.enterStopped s0 x1) := by
  unfold State.enterStopped
  refine State.modAxis_st ?_
  exact h0

theorem State.enterRest_st {z : State} {s0} {x1} (h0 : Steady z s0) :
    Steady z (@State.enterRest s0 x1) := by
  unfold State.enterRest
  refine State.immediateStop_st ?_
  refine State.modAxis_st ?_
  exact h0

theorem State.markRest_st {z : State} {s0} {x1} (h0 : Steady z s0) :
    Steady z (@State.markRest s0 x1) := by
  unfold State.markRest
  refine State.forEach_st ?_ ?_
  · exact h0
  · intro b0 b1 hbq1
    split
    · refine State.modAxis_st ?_
      exact hbq1
    · exact hbq1

theorem State.decideAxis_st {z : State} {s0} {x1} {x2} {x3} {x4} (h0 : Steady z s0) :
    Steady z (@State.decideAxis s0 x1 x2 x3 x4).2 := by
  unfold State.decideAxis
  extract_lets x ready
  have hm : ∀ f, Steady z (s0.modAxis x1 f) := fun f => modAxis_st h0
  clear_value ready
  have hr := enterRest_st (x1 := x1) h0
  split
  · exact h0
  · exact h0
  · exact h0
  · exact Steady.ite1 (Steady.mk1 hr) (Steady.ite1 (Steady.mk1 (hm _)) (Steady.mk1 h0))
  all_goals
    exact Steady.ite1 (Steady.mk1 hr) (Steady.ite1 (Steady.mk1 (enterStopped_st h0)) (Steady.ite1 (Steady.mk1 (Steady.ite (hm _) h0))
      (Steady.ite1 (Steady.mk1 (hm _)) (Steady.ite1 (Steady.mk1 (hm _)) (Steady.mk1 hr)))))

theorem State.cutoffAxis_st {z : State} {s0} {x1} {x2} (h0 : Steady z s0) :
    Steady z (@State.cutoffAxis s0 x1 x2).2.2 := by
  unfold State.cutoffAxis
  split
  · rename_i e
    have hmq1 := Steady.of_snd (z := z) e (by
      refine State.fixRead_st ?_
      exact h0)
    extract_lets +onlyGivenNames -underBinder -merge -useContext xq2
    try clear_value xq2
    split
    · rename_i e
      have hmq3 := Steady.of_snd (z := z) e (by
        refine State.fixRead_st ?_
        exact hmq1)
      extract_lets +onlyGivenNames -underBinder -merge -useContext xq4
      try clear_value xq4
      extract_lets +onlyGivenNames -underBinder -merge -useContext xq5
      have hxq5 : Steady z xq5 := by
        unfold xq5
        refine State.modAxis_st ?_
        exact hmq3
      try clear_value xq5
      extract_lets +onlyGivenNames -underBinder -merge -useContext xq6
      try clear_value xq6
      split
      · rename_i e
        have hmq7 := Steady.of_snd (z := z) e (by
          refine State.decideAxis_st ?_
          exact hxq5)
        extract_lets +onlyGivenNames -underBinder -merge -useContext xq8
        have hxq8 : Steady z xq8 := by
          unfold xq8
          refine State.modAxis_st ?_
          exact hmq7
        try clear_value xq8
        extract_lets +onlyGivenNames -underBinder -merge -useContext xq9
        try clear_value xq9
        extract_lets +onlyGivenNames -underBinder -merge -useContext xq10
        have hxq10 : Steady z xq10 := by
          unfold xq10
          refine State.fixPut_st ?_
          exact hxq8
        try clear_value xq10
        refine Steady.mk2 ?_
        refine Steady.mk1 ?_
        refine State.putAxState_st ?_
        exact hxq10

theorem State.eccPresent_st {z : State} {s0} {x1} {x2} (h0 : Steady z s0) :
    Steady z (@State.eccPresent s0 x1 x2).2 := by
  unfold State.eccPresent
  split
  · refine Steady.mk1 ?_
    exact h0
  · extract_lets +onlyGivenNames -underBinder -merge -useContext xq1
    try clear_value xq1
    extract_lets +onlyGivenNames -underBinder -merge -useContext xq2
    have hxq2 : Steady z xq2.2 := by
      unfold xq2
      refine State.fixRead_st ?_
      exact h0
    try clear_value xq2
    refine Steady.mk1 ?_
    exact hxq2

theorem State.startFields_st {z : State} {s0} {x1} {x2} (h0 : Steady z s0) :
    Steady z (@State.startFields s0 x1 x2) := by
  unfold State.startFields
  extract_lets +onlyGivenNames -underBinder -merge -useContext xq1
  have hxq1 : Steady z xq1 := by
    unfold xq1
    refine State.fixPut_st ?_
    exact h0
  try clear_value xq1
  extract_lets +onlyGivenNames -underBinder -merge -useContext xq2
  have hxq2 : Steady z xq2 := by
    unfold xq2
    refine State.fixPut_st ?_
    exact hxq1
  try clear_value xq2
  refine State.putAxState_st ?_
  exact hxq2

theorem State.cmdStart_st {z : State} {s0} {x1} {x2} (h0 : Steady z s0) :
    Steady z (@State.cmdStart s0 x1 x2).2 := by
  unfold State.cmdStart
  split
  · refine Steady.mk1 ?_
    exact h0
  · split
    · refine Steady.mk1 ?_
      exact h0
    · split
      · rename_i e
        have hmq1 := Steady.of_snd (z := z) e (by
          refine State.eccPresent_st ?_
          exact h0)
        split
        · refine Steady.mk1 ?_
          exact hmq1
        · split
          · rename_i e
            have hmq2 := Steady.of_snd (z := z) e (by
              refine State.pgStart_st ?_
              exact hmq1)
            split
            · refine Steady.mk1 ?_
              exact hmq2
            · refine Steady.mk1 ?_
              refine State.modAxis_st ?_
              exact hmq2

theorem State.cmdStop_st {z : State} {s0} {x1} (h0 : Steady z s0) :
    Steady z (@State.cmdStop s0 x1).2 := by
  unfold State.cmdStop
  split
  · refine Steady.mk1 ?_
    refine State.pgStop_st ?_
    refine State.modAxis_st ?_
    exact h0
  · refine Steady.mk1 ?_
    refine State.pgStop_st ?_
    refine State.modAxis_st ?_
    exact h0
  · refine Steady.mk1 ?_
    exact h0

theorem State.cmdReset_st {z : State} {s0} {x1} {x2} (h0 : Steady z s0) :
    Steady z (@State.cmdReset s0 x1 x2).2 := by
  unfold State.cmdReset
  split
  · refine Steady.mk1 ?_
    exact h0
  · split
    · rename_i e
      have hmq1 := Steady.of_snd (z := z) e (by
        refine State.eccPresent_st ?_
        exact h0)
      split
      · refine Steady.mk1 ?_
        exact hmq1
      · refine Steady.mk1 ?_
        refine State.enterStopped_st ?_
        exact hmq1

theorem State.cmdPar_st {z : State} {s0} {x1} {x2} (h0 : Steady z s0) :
    Steady z (@State.cmdPar s0 x1 x2).2 := by
  unfold State.cmdPar
  split
  · rename_i e
    have hmq1 := Steady.of_snd (z := z) e (by
      refine State.fixWrite_st ?_
      exact h0)
    refine Steady.mk1 ?_
    exact hmq1

theorem State.cmdApply_st {z : State} {s0} {x1} {x2} (h0 : Steady z s0) :
    Steady z (@State.cmdApply s0 x1 x2).2 := by
  unfold State.cmdApply
  split
  · refine Steady.mk1 ?_
    exact h0
  · split
    · refine Steady.mk1 ?_
      exact h0
    · split
      · refine State.pgCommand_st ?_
        exact h0
      · split
        · refine Steady.mk1 ?_
          exact h0
        · split
          · refine Steady.mk1 ?_
            exact h0
          · split
            · refine State.cmdStart_st ?_
              exact h0
            · refine State.cmdStop_st ?_
              exact h0
            · refine State.cmdReset_st ?_
              exact h0
            · split
              · refine Steady.mk1 ?_
                exact h0
              · refine Steady.mk1 ?_
                exact h0
            · refine State.pgCommand_st ?_
              exact h0

theorem State.cmdRecord_st {z : State} {s0} {x1} {x2} (h0 : Steady z s0) :
    Steady z (@State.cmdRecord s0 x1 x2).2 := by
  unfold State.cmdRecord
  split
  · refine Steady.mk1 ?_
    exact h0
  · split
    · refine Steady.mk1 ?_
      refine State.startFields_st ?_
      exact h0
    · split
      · refine State.cmdPar_st ?_
        exact h0
      · refine Steady.mk1 ?_
        exact h0

theorem State.cmdCount_st {z : State} {s0} {x1} {x2} (h0 : Steady z s0) :
    Steady z (@State.cmdCount s0 x1 x2) := by
  unfold State.cmdCount
  extract_lets +onlyGivenNames -underBinder -merge -useContext xq1
  try clear_value xq1
  extract_lets +onlyGivenNames -underBinder -merge -useContext xq2
  try clear_value xq2
  extract_lets +onlyGivenNames -underBinder -merge -useContext xq3
  have hxq3 : Steady z xq3 := by
    unfold xq3
    apply Steady.of_eq
    · exact h0
    all_goals rfl
  try clear_value xq3
  split
  · refine State.bumpE_st ?_
    exact hxq3
  · refine State.evt_st ?_
    refine State.bumpE_st ?_
    exact hxq3

theorem State.cmdBack_st {z : State} {s0} {x1} {x2} {x3} (h0 : Steady z s0) :
    Steady z (@State.cmdBack s0 x1 x2 x3) := by
  unfold State.cmdBack
  extract_lets +onlyGivenNames -underBinder -merge -useContext xq1
  have hxq1 : Steady z xq1 := by
    unfold xq1
    refine State.fixPut_st ?_
    exact h0
  try clear_value xq1
  refine State.fixPut_st ?_
  exact hxq1

theorem State.cmdFinish_st {z : State} {s0} {x1} (h0 : Steady z s0) :
    Steady z (@State.cmdFinish s0 x1) := by
  unfold State.cmdFinish
  split
  · rename_i e
    have hmq1 := Steady.of_snd (z := z) e (by
      refine State.cmdRecord_st ?_
      exact h0)
    extract_lets +onlyGivenNames -underBinder -merge -useContext xq2
    have hxq2 : Steady z xq2 := by
      unfold xq2
      split
      · refine State.cmdBack_st ?_
        exact hmq1
      · exact hmq1
    try clear_value xq2
    refine State.cmdCount_st ?_
    exact hxq2

theorem State.cmdTake_st {z : State} {s0} {x1} {x2} {x3} {x4} (h0 : Steady z s0) :
    Steady z (@State.cmdTake s0 x1 x2 x3 x4) := by
  unfold State.cmdTake
  split
  · rename_i e
    have hmq1 := Steady.of_snd (z := z) e (by
      refine State.cmdApply_st ?_
      exact h0)
    extract_lets +onlyGivenNames -underBinder -merge -useContext xq2
    try clear_value xq2
    extract_lets +onlyGivenNames -underBinder -merge -useContext xq3
    try clear_value xq3
    split
    · refine State.modAxis_st ?_
      exact hmq1
    · refine State.cmdFinish_st ?_
      exact hmq1

theorem State.cmdRow_st {z : State} {s0} {x1} {x2} (h0 : Steady z s0) :
    Steady z (@State.cmdRow s0 x1 x2) := by
  unfold State.cmdRow
  refine State.cmdTake_st ?_
  exact h0

theorem State.releaseHeld_st {z : State} {s0} {x1} (h0 : Steady z s0) :
    Steady z (@State.releaseHeld s0 x1) := by
  unfold State.releaseHeld
  split
  · exact h0
  · extract_lets +onlyGivenNames -underBinder -merge -useContext xq1
    try clear_value xq1
    extract_lets +onlyGivenNames -underBinder -merge -useContext xq2
    try clear_value xq2
    extract_lets +onlyGivenNames -underBinder -merge -useContext xq3
    try clear_value xq3
    extract_lets +onlyGivenNames -underBinder -merge -useContext xq4
    try clear_value xq4
    extract_lets +onlyGivenNames -underBinder -merge -useContext xq5
    try clear_value xq5
    extract_lets +onlyGivenNames -underBinder -merge -useContext xq6
    have hxq6 : Steady z xq6 := by
      unfold xq6
      refine State.setAxis_st ?_
      exact h0
    try clear_value xq6
    extract_lets +onlyGivenNames -underBinder -merge -useContext xq7
    have hxq7 : Steady z xq7 := by
      unfold xq7
      split
      · refine State.putIn_st ?_
        exact hxq6
      · exact hxq6
    try clear_value xq7
    extract_lets +onlyGivenNames -underBinder -merge -useContext xq8
    have hxq8 : Steady z xq8 := by
      unfold xq8
      refine State.forEach_st ?_ ?_
      · exact hxq7
      · intro b0 b1 hbq9
        refine State.cmdFinish_st ?_
        exact hbq9
    try clear_value xq8
    refine State.forEach_st ?_ ?_
    · exact hxq8
    · intro b0 b1 hbq10
      refine State.fixPut_st ?_
      exact hbq10

theorem State.pgAgain_st {z : State} {s0} {x1} (h0 : Steady z s0) :
    Steady z (@State.pgAgain s0 x1) := by
  unfold State.pgAgain
  split
  · split
    · refine State.spWrite_st ?_
      refine State.pgStep_st ?_
      exact h0
    · exact h0
  · exact h0

theorem State.clearLast_st {z : State} {s0} {x1} (h0 : Steady z s0) :
    Steady z (@State.clearLast s0 x1) := by
  unfold State.clearLast
  extract_lets +onlyGivenNames -underBinder -merge -useContext xq1
  try clear_value xq1
  apply Steady.of_eq
  · exact h0
  all_goals rfl

theorem State.copyPut_st {z : State} {s0} {x1} (h0 : Steady z s0) :
    Steady z (@State.copyPut s0 x1) := by
  unfold State.copyPut
  extract_lets +onlyGivenNames -underBinder -merge -useContext xq1
  have hxq1 : Steady z xq1 := by
    unfold xq1
    split
    · split
      · refine State.clearLast_st ?_
        refine State.setPg_st ?_
        refine State.fixPut_st ?_
        exact h0
      · exact h0
    · refine State.fixPut_st ?_
      exact h0
    · refine State.setIgrp_st ?_
      exact h0
    · refine State.setVm_st ?_
      exact h0
    · exact h0
  try clear_value xq1
  extract_lets +onlyGivenNames -underBinder -merge -useContext xq2
  have hxq2 : Steady z xq2 := by
    unfold xq2
    refine State.bumpE_st ?_
    exact hxq1
  try clear_value xq2
  apply Steady.of_eq
  · exact hxq2
  all_goals rfl

theorem State.copyTake_st {z : State} {s0} {x1} (h0 : Steady z s0) :
    Steady z (@State.copyTake s0 x1) := by
  unfold State.copyTake
  extract_lets +onlyGivenNames -underBinder -merge -useContext xq1
  try clear_value xq1
  extract_lets +onlyGivenNames -underBinder -merge -useContext xq2
  have hxq2 : Steady z xq2 := by
    unfold xq2
    refine State.copyPut_st ?_
    exact h0
  try clear_value xq2
  split
  · refine State.pgAgain_st ?_
    exact hxq2
  · exact hxq2

theorem State.copiesInstall_st {z : State} {s0} {x1} (h0 : Steady z s0) :
    Steady z (@State.copiesInstall s0 x1) := by
  unfold State.copiesInstall
  refine State.forEach_st ?_ ?_
  · exact h0
  · intro b0 b1 hbq1
    split
    · refine State.copyTake_st ?_
      exact hbq1
    · exact hbq1

end Sys2Proof.Machine
end

