-- ==== Sys2Proof/Laws/SteadyCinch.lean ====
section
/-! SUPPORT. Steadiness (Sys2Proof/Laws/Steady.lean) of the operations of Cinch, Girth and the Awls: each keeps the queue, the raw counter and the canonical forms. -/
namespace Sys2Proof.Machine
open State

theorem State.setAwl_st {z : State} {s0} {x1} {x2} (h0 : Steady z s0) :
    Steady z (@State.setAwl s0 x1 x2) := by
  unfold State.setAwl
  apply Steady.of_eq
  · exact h0
  all_goals rfl

theorem State.modAwl_st {z : State} {s0} {x1} {x2} (h0 : Steady z s0) :
    Steady z (@State.modAwl s0 x1 x2) := by
  unfold State.modAwl
  refine State.setAwl_st ?_
  exact h0

theorem State.setAct_st {z : State} {s0} {x1} {x2} (h0 : Steady z s0) :
    Steady z (@State.setAct s0 x1 x2) := by
  unfold State.setAct
  refine State.modAwl_st ?_
  exact h0

theorem State.modC_st {z : State} {s0} {x1} (h0 : Steady z s0) :
    Steady z (@State.modC s0 x1) := by
  unfold State.modC
  apply Steady.of_eq
  · exact h0
  all_goals rfl

theorem State.modLedger_st {z : State} {s0} {x1} (h0 : Steady z s0) :
    Steady z (@State.modLedger s0 x1) := by
  unfold State.modLedger
  refine State.modC_st ?_
  exact h0

theorem State.storeWords_st {z : State} {s0} {x1} {x2} (h0 : Steady z s0) :
    Steady z (@State.storeWords s0 x1 x2) := by
  induction s0, x2 using State.storeWords.induct x1 with
  | case1 => exact h0
  | case2 => exact writeMem_st h0
  | case3 s w v ws c ih => rw [State.storeWords, if_pos c]; exact ih (writeMem_st h0)
  | case4 s w v ws c ih => rw [State.storeWords, if_neg c]; exact ih (writeMem_st h0)

theorem State.settleBank_st {z : State} {s0} {x1} {x2} {x3} (h0 : Steady z s0) :
    Steady z (@State.settleBank s0 x1 x2 x3) := by
  unfold State.settleBank
  extract_lets +onlyGivenNames -underBinder -merge -useContext xq1
  try clear_value xq1
  refine State.storeWords_st ?_
  refine State.modAwl_st ?_
  exact h0

theorem State.graphLoad_st {z : State} {s0} (h0 : Steady z s0) :
    Steady z (@State.graphLoad s0).2 := by
  unfold State.graphLoad
  extract_lets +onlyGivenNames -underBinder -merge -useContext xq1
  try clear_value xq1
  extract_lets +onlyGivenNames -underBinder -merge -useContext xq2
  try clear_value xq2
  split
  · refine Steady.mk1 ?_
    exact h0
  · extract_lets +onlyGivenNames -underBinder -merge -useContext xq3
    try clear_value xq3
    split
    · refine Steady.mk1 ?_
      exact h0
    · extract_lets +onlyGivenNames -underBinder -merge -useContext xq4
      have hxq4 : Steady z xq4.2 := by
        unfold xq4
        refine Steady.foldl1 ?_ ?_
        · refine Steady.mk1 ?_
          exact h0
        · intro b0 b1 hbq5
          split
          · rename_i e
            have hmq6 := Steady.of_snd (z := z) e (by
              refine State.fixRead_st ?_
              exact hbq5)
            refine Steady.mk1 ?_
            exact hmq6
      try clear_value xq4
      extract_lets +onlyGivenNames -underBinder -merge -useContext xq7
      have hxq7 : Steady z xq7 := by
        unfold xq7
        exact hxq4
      try clear_value xq7
      split
      · refine Steady.mk1 ?_
        exact hxq7
      · extract_lets +onlyGivenNames -underBinder -merge -useContext xq8
        try clear_value xq8
        extract_lets +onlyGivenNames -underBinder -merge -useContext xq9
        try clear_value xq9
        split
        · refine Steady.mk1 ?_
          exact hxq7
        · refine Steady.mk1 ?_
          exact hxq7

theorem State.pgWake_st {z : State} {s0} (h0 : Steady z s0) :
    Steady z (@State.pgWake s0) := by
  unfold State.pgWake
  extract_lets +onlyGivenNames -underBinder -merge -useContext xq1
  try clear_value xq1
  refine State.forEach_st ?_ ?_
  · exact h0
  · intro b0 b1 hbq2
    refine State.forEach_st ?_ ?_
    · exact hbq2
    · intro b0 b1 hbq3
      refine State.releaseHeld_st ?_
      refine State.pgResume_st ?_
      exact hbq3

theorem State.release_st {z : State} {s0} {x1} (h0 : Steady z s0) :
    Steady z (@State.release s0 x1) := by
  unfold State.release
  refine State.pgWake_st ?_
  refine State.releaseHeld_st ?_
  refine State.copiesInstall_st ?_
  exact h0

theorem State.modSvc_st {z : State} {s0} {x1} {x2} (h0 : Steady z s0) :
    Steady z (@State.modSvc s0 x1 x2) := by
  unfold State.modSvc
  refine State.modC_st ?_
  exact h0

theorem State.dropSvc_st {z : State} {s0} {x1} (h0 : Steady z s0) :
    Steady z (@State.dropSvc s0 x1) := by
  unfold State.dropSvc
  refine State.modC_st ?_
  exact h0

theorem State.readyScan_st {z : State} {s0} (h0 : Steady z s0) :
    Steady z (@State.readyScan s0) := by
  unfold State.readyScan
  extract_lets +onlyGivenNames -underBinder -merge -useContext xq1
  have hxq1 : Steady z xq1 := by
    unfold xq1
    refine State.forEach_st ?_ ?_
    · exact h0
    · intro b0 b1 hbq2
      split
      · extract_lets +onlyGivenNames -underBinder -merge -useContext xq3
        have hxq3 : Steady z xq3 := by
          unfold xq3
          refine State.modC_st ?_
          exact hbq2
        try clear_value xq3
        split
        · refine State.setDetLost_st ?_
          exact hxq3
        · exact hxq3
      · exact hbq2
  try clear_value xq1
  refine State.forEach_st ?_ ?_
  · exact hxq1
  · intro b0 b1 hbq4
    split
    · refine State.modSvc_st ?_
      exact hbq4
    · exact hbq4

theorem State.satisfy_st {z : State} {s0} {x1} {x2} {x3} (h0 : Steady z s0) :
    Steady z (@State.satisfy s0 x1 x2 x3) := by
  unfold State.satisfy
  refine State.readyScan_st ?_
  refine State.modC_st ?_
  exact h0

theorem State.abandonBank_st {z : State} {s0} {x1} {x2} (h0 : Steady z s0) :
    Steady z (@State.abandonBank s0 x1 x2) := by
  unfold State.abandonBank
  refine State.modAwl_st ?_
  exact h0

theorem State.forgetOver_st {z : State} {s0} {x1} {x2} (h0 : Steady z s0) :
    Steady z (@State.forgetOver s0 x1 x2) := by
  unfold State.forgetOver
  refine State.modC_st ?_
  exact h0

theorem State.noteCompletion_st {z : State} {s0} {x1} {x2} (h0 : Steady z s0) :
    Steady z (@State.noteCompletion s0 x1 x2) := by
  unfold State.noteCompletion
  split
  · split
    · exact h0
    · extract_lets +onlyGivenNames -underBinder -merge -useContext xq1
      try clear_value xq1
      extract_lets +onlyGivenNames -underBinder -merge -useContext xq2
      have hxq2 : Steady z xq2 := by
        unfold xq2
        refine State.modC_st ?_
        exact h0
      try clear_value xq2
      extract_lets +onlyGivenNames -underBinder -merge -useContext xq3
      have hxq3 : Steady z xq3 := by
        unfold xq3
        refine State.wr_st ?_
        exact hxq2
      try clear_value xq3
      refine State.wr_st ?_
      exact hxq3
  · exact h0

theorem State.dropToken_st {z : State} {s0} {x1} (h0 : Steady z s0) :
    Steady z (@State.dropToken s0 x1) := by
  unfold State.dropToken
  extract_lets +onlyGivenNames -underBinder -merge -useContext xq1
  have hxq1 : Steady z xq1 := by
    unfold xq1
    refine State.modC_st ?_
    exact h0
  try clear_value xq1
  split
  · refine State.noteCompletion_st ?_
    exact hxq1
  · exact hxq1

theorem State.afterToken_st {z : State} {s0} {x1} (h0 : Steady z s0) :
    Steady z (@State.afterToken s0 x1) := by
  unfold State.afterToken
  extract_lets +onlyGivenNames -underBinder -merge -useContext xq1
  have hxq1 : Steady z xq1 := by
    unfold xq1
    split
    · refine State.release_st ?_
      exact h0
    · exact h0
  try clear_value xq1
  refine State.readyScan_st ?_
  exact hxq1

theorem State.skipToken_st {z : State} {s0} {x1} (h0 : Steady z s0) :
    Steady z (@State.skipToken s0 x1) := by
  unfold State.skipToken
  extract_lets +onlyGivenNames -underBinder -merge -useContext xq1
  have hxq1 : Steady z xq1 := by
    unfold xq1
    refine State.dropToken_st ?_
    exact h0
  try clear_value xq1
  extract_lets +onlyGivenNames -underBinder -merge -useContext xq2
  have hxq2 : Steady z xq2 := by
    unfold xq2
    split
    · refine State.forgetOver_st ?_
      refine State.abandonBank_st ?_
      exact hxq1
    · exact hxq1
  try clear_value xq2
  extract_lets +onlyGivenNames -underBinder -merge -useContext xq3
  have hxq3 : Steady z xq3 := by
    unfold xq3
    refine State.bumpE_st ?_
    exact hxq2
  try clear_value xq3
  extract_lets +onlyGivenNames -underBinder -merge -useContext xq4
  have hxq4 : Steady z xq4 := by
    unfold xq4
    refine State.evt_st ?_
    refine State.faultU_st ?_
    exact hxq3
  try clear_value xq4
  extract_lets +onlyGivenNames -underBinder -merge -useContext xq5
  have hxq5 : Steady z xq5 := by
    unfold xq5
    split
    · refine State.setDetLost_st ?_
      exact hxq4
    · exact hxq4
  try clear_value xq5
  extract_lets +onlyGivenNames -underBinder -merge -useContext xq6
  have hxq6 : Steady z xq6 := by
    unfold xq6
    refine State.modLedger_st ?_
    exact hxq5
  try clear_value xq6
  refine State.afterToken_st ?_
  refine State.satisfy_st ?_
  exact hxq6

theorem State.skipAll_st {z : State} {s0} {x1} (h0 : Steady z s0) :
    Steady z (@State.skipAll s0 x1) := by
  unfold State.skipAll
  refine State.forEach_st ?_ ?_
  · exact h0
  · intro b0 b1 hbq1
    refine State.skipToken_st ?_
    exact hbq1

theorem State.skipAxis_st {z : State} {s0} {x1} (h0 : Steady z s0) :
    Steady z (@State.skipAxis s0 x1) := by
  unfold State.skipAxis
  extract_lets +onlyGivenNames -underBinder -merge -useContext xq1
  try clear_value xq1
  split
  · refine State.skipAll_st ?_
    exact h0
  · exact h0

theorem State.recordEvent_st {z : State} {s0} {x1} (h0 : Steady z s0) :
    Steady z (@State.recordEvent s0 x1) := by
  unfold State.recordEvent
  extract_lets +onlyGivenNames -underBinder -merge -useContext xq1
  try clear_value xq1
  refine State.modC_st ?_
  exact h0

theorem State.arrival_st {z : State} {s0} {x1} {x2} (h0 : Steady z s0) :
    Steady z (@State.arrival s0 x1 x2) := by
  unfold State.arrival
  split
  · refine State.satisfy_st ?_
    refine State.forEach_st ?_ ?_
    · exact h0
    · intro b0 b1 hbq1
      refine State.skipAxis_st ?_
      exact hbq1
  · refine State.recordEvent_st ?_
    exact h0

theorem State.loadBank_st {z : State} {s0} {x1} {x2} {x3} {x4} {x5} (h0 : Steady z s0) :
    Steady z (@State.loadBank s0 x1 x2 x3 x4 x5).2 := by
  unfold State.loadBank
  extract_lets +onlyGivenNames -underBinder -merge -useContext xq1
  try clear_value xq1
  extract_lets +onlyGivenNames -underBinder -merge -useContext xq2
  try clear_value xq2
  extract_lets +onlyGivenNames -underBinder -merge -useContext xq3
  have hxq3 : Steady z xq3 := by
    unfold xq3
    refine State.settleBank_st ?_
    exact h0
  try clear_value xq3
  extract_lets +onlyGivenNames -underBinder -merge -useContext xq4
  try clear_value xq4
  extract_lets +onlyGivenNames -underBinder -merge -useContext xq5
  try clear_value xq5
  extract_lets +onlyGivenNames -underBinder -merge -useContext xq6
  try clear_value xq6
  extract_lets +onlyGivenNames -underBinder -merge -useContext xq7
  try clear_value xq7
  extract_lets +onlyGivenNames -underBinder -merge -useContext xq8
  have hxq8 : Steady z xq8 := by
    unfold xq8
    refine State.modC_st ?_
    exact hxq3
  try clear_value xq8
  extract_lets +onlyGivenNames -underBinder -merge -useContext xq9
  try clear_value xq9
  refine Steady.mk1 ?_
  refine State.modAwl_st ?_
  exact hxq8

theorem State.setLast_st {z : State} {s0} {x1} {x2} (h0 : Steady z s0) :
    Steady z (@State.setLast s0 x1 x2) := by
  unfold State.setLast
  refine State.modC_st ?_
  exact h0

theorem State.noteWait_st {z : State} {s0} {x1} {x2} (h0 : Steady z s0) :
    Steady z (@State.noteWait s0 x1 x2) := by
  unfold State.noteWait
  extract_lets +onlyGivenNames -underBinder -merge -useContext xq1
  try clear_value xq1
  extract_lets +onlyGivenNames -underBinder -merge -useContext xq2
  try clear_value xq2
  extract_lets +onlyGivenNames -underBinder -merge -useContext xq3
  have hxq3 : Steady z xq3 := by
    unfold xq3
    refine State.wr_st ?_
    exact h0
  try clear_value xq3
  extract_lets +onlyGivenNames -underBinder -merge -useContext xq4
  have hxq4 : Steady z xq4 := by
    unfold xq4
    refine State.wr_st ?_
    exact hxq3
  try clear_value xq4
  refine State.wr_st ?_
  exact hxq4

theorem State.dispatch_st {z : State} {s0} {x1} {x2} (h0 : Steady z s0) :
    Steady z (@State.dispatch s0 x1 x2) := by
  unfold State.dispatch
  split
  · rename_i e
    have hmq1 := Steady.of_snd (z := z) e (by
      refine State.loadBank_st ?_
      exact h0)
    extract_lets +onlyGivenNames -underBinder -merge -useContext xq2
    have hxq2 : Steady z xq2 := by
      unfold xq2
      refine State.modC_st ?_
      exact hmq1
    try clear_value xq2
    extract_lets +onlyGivenNames -underBinder -merge -useContext xq3
    have hxq3 : Steady z xq3 := by
      unfold xq3
      refine State.forgetOver_st ?_
      refine State.setLast_st ?_
      exact hxq2
    try clear_value xq3
    split
    · refine State.noteWait_st ?_
      exact hxq3
    · exact hxq3

theorem State.dispatchPasses_st {z : State} {s0} {x1} (h0 : Steady z s0) :
    Steady z (@State.dispatchPasses s0 x1) := by
  unfold State.dispatchPasses
  split
  · exact h0
  · extract_lets +onlyGivenNames -underBinder -merge -useContext xq1
    have hxq1 : Steady z xq1 := by
      unfold xq1
      refine State.forEach_st ?_ ?_
      · exact h0
      · intro b0 b1 hbq2
        extract_lets +onlyGivenNames -underBinder -merge -useContext xq3
        try clear_value xq3
        split
        · refine State.dispatch_st ?_
          exact hbq2
        · exact hbq2
    try clear_value xq1
    refine State.forEach_st ?_ ?_
    · exact hxq1
    · intro b0 b1 hbq4
      split
      · split
        · refine State.dispatch_st ?_
          exact hbq4
        · exact hbq4
      · exact hbq4

theorem State.setUse_st {z : State} {s0} {x1} {x2} (h0 : Steady z s0) :
    Steady z (@State.setUse s0 x1 x2) := by
  unfold State.setUse
  refine State.modC_st ?_
  exact h0

theorem State.serviceDispatch_st {z : State} {s0} {x1} (h0 : Steady z s0) :
    Steady z (@State.serviceDispatch s0 x1) := by
  unfold State.serviceDispatch
  split
  · exact h0
  · refine State.forEach_st ?_ ?_
    · exact h0
    · intro b0 b1 hbq1
      extract_lets +onlyGivenNames -underBinder -merge -useContext xq2
      try clear_value xq2
      split
      · exact hbq1
      · extract_lets +onlyGivenNames -underBinder -merge -useContext xq3
        try clear_value xq3
        split
        · exact hbq1
        · split
          · rename_i e
            have hmq4 := Steady.of_snd (z := z) e (by
              refine State.loadBank_st ?_
              exact hbq1)
            refine State.forgetOver_st ?_
            refine State.setLast_st ?_
            refine State.modSvc_st ?_
            exact hmq4

theorem State.serviceResume_st {z : State} {s0} {x1} (h0 : Steady z s0) :
    Steady z (@State.serviceResume s0 x1) := by
  unfold State.serviceResume
  extract_lets +onlyGivenNames -underBinder -merge -useContext xq1
  try clear_value xq1
  split
  · exact h0
  · split
    · refine State.modSvc_st ?_
      refine State.modAwl_st ?_
      exact h0
    · exact h0

theorem State.releaseSvc_st {z : State} {s0} {x1} (h0 : Steady z s0) :
    Steady z (@State.releaseSvc s0 x1) := by
  unfold State.releaseSvc
  split
  · exact h0
  · split
    · refine State.bumpE_st ?_
      exact h0
    · extract_lets +onlyGivenNames -underBinder -merge -useContext xq1
      try clear_value xq1
      refine State.readyScan_st ?_
      refine State.modC_st ?_
      exact h0

theorem State.svcTrigger_st {z : State} {s0} {x1} (h0 : Steady z s0) :
    Steady z (@State.svcTrigger s0 x1) := by
  unfold State.svcTrigger
  split
  · split
    · refine State.releaseSvc_st ?_
      exact h0
    · refine State.bumpE_st ?_
      exact h0
  · refine State.bumpE_st ?_
    exact h0

theorem State.abortSvc_st {z : State} {s0} {x1} (h0 : Steady z s0) :
    Steady z (@State.abortSvc s0 x1) := by
  unfold State.abortSvc
  extract_lets +onlyGivenNames -underBinder -merge -useContext xq1
  have hxq1 : Steady z xq1 := by
    unfold xq1
    refine State.dropSvc_st ?_
    exact h0
  try clear_value xq1
  split
  · refine State.bumpE_st ?_
    refine State.forgetOver_st ?_
    refine State.abandonBank_st ?_
    exact hxq1
  · refine State.bumpE_st ?_
    exact hxq1

theorem State.settleUse_st {z : State} {s0} (h0 : Steady z s0) :
    Steady z (@State.settleUse s0) := by
  unfold State.settleUse
  refine State.forEach_st ?_ ?_
  · exact h0
  · intro b0 b1 hbq1
    extract_lets +onlyGivenNames -underBinder -merge -useContext xq2
    try clear_value xq2
    extract_lets +onlyGivenNames -underBinder -merge -useContext xq3
    try clear_value xq3
    extract_lets +onlyGivenNames -underBinder -merge -useContext xq4
    try clear_value xq4
    extract_lets +onlyGivenNames -underBinder -merge -useContext xq5
    try clear_value xq5
    extract_lets +onlyGivenNames -underBinder -merge -useContext xq6
    try clear_value xq6
    extract_lets +onlyGivenNames -underBinder -merge -useContext xq7
    try clear_value xq7
    extract_lets +onlyGivenNames -underBinder -merge -useContext xq8
    have hxq8 : Steady z xq8 := by
      unfold xq8
      refine State.setUse_st ?_
      exact hbq1
    try clear_value xq8
    extract_lets +onlyGivenNames -underBinder -merge -useContext xq9
    have hxq9 : Steady z xq9 := by
      unfold xq9
      refine State.modLedger_st ?_
      exact hxq8
    try clear_value xq9
    extract_lets +onlyGivenNames -underBinder -merge -useContext xq10
    have hxq10 : Steady z xq10 := by
      unfold xq10
      refine State.bumpByE_st ?_
      exact hxq9
    try clear_value xq10
    extract_lets +onlyGivenNames -underBinder -merge -useContext xq11
    have hxq11 : Steady z xq11 := by
      unfold xq11
      refine State.bumpByE_st ?_
      exact hxq10
    try clear_value xq11
    extract_lets +onlyGivenNames -underBinder -merge -useContext xq12
    have hxq12 : Steady z xq12 := by
      unfold xq12
      refine State.wr_st ?_
      exact hxq11
    try clear_value xq12
    extract_lets +onlyGivenNames -underBinder -merge -useContext xq13
    try clear_value xq13
    extract_lets +onlyGivenNames -underBinder -merge -useContext xq14
    have hxq14 : Steady z xq14 := by
      unfold xq14
      refine State.wr_st ?_
      exact hxq12
    try clear_value xq14
    extract_lets +onlyGivenNames -underBinder -merge -useContext xq15
    have hxq15 : Steady z xq15 := by
      unfold xq15
      refine State.wr_st ?_
      exact hxq14
    try clear_value xq15
    extract_lets +onlyGivenNames -underBinder -merge -useContext xq16
    try clear_value xq16
    refine State.wr_st ?_
    exact hxq15

theorem State.noteEnd_st {z : State} {s0} {x1} (h0 : Steady z s0) :
    Steady z (@State.noteEnd s0 x1) := by
  unfold State.noteEnd
  split
  · exact h0
  · refine State.modC_st ?_
    exact h0

theorem State.endToken_st {z : State} {s0} {x1} (h0 : Steady z s0) :
    Steady z (@State.endToken s0 x1) := by
  unfold State.endToken
  extract_lets +onlyGivenNames -underBinder -merge -useContext xq1
  have hxq1 : Steady z xq1 := by
    unfold xq1
    refine State.dropToken_st ?_
    refine State.noteEnd_st ?_
    exact h0
  try clear_value xq1
  extract_lets +onlyGivenNames -underBinder -merge -useContext xq2
  have hxq2 : Steady z xq2 := by
    unfold xq2
    split
    · refine State.forgetOver_st ?_
      exact hxq1
    · exact hxq1
  try clear_value xq2
  extract_lets +onlyGivenNames -underBinder -merge -useContext xq3
  have hxq3 : Steady z xq3 := by
    unfold xq3
    refine State.bumpE_st ?_
    exact hxq2
  try clear_value xq3
  extract_lets +onlyGivenNames -underBinder -merge -useContext xq4
  try clear_value xq4
  extract_lets +onlyGivenNames -underBinder -merge -useContext xq5
  try clear_value xq5
  extract_lets +onlyGivenNames -underBinder -merge -useContext xq6
  have hxq6 : Steady z xq6 := by
    unfold xq6
    refine State.modLedger_st ?_
    exact hxq3
  try clear_value xq6
  refine State.afterToken_st ?_
  refine State.satisfy_st ?_
  exact hxq6

theorem State.endInstance_st {z : State} {s0} {x1} {x2} (h0 : Steady z s0) :
    Steady z (@State.endInstance s0 x1 x2) := by
  unfold State.endInstance
  split
  · refine State.endToken_st ?_
    exact h0
  · refine State.satisfy_st ?_
    refine State.forgetOver_st ?_
    refine State.dropSvc_st ?_
    exact h0
  · exact h0

theorem State.postStage_st {z : State} {s0} {x1} {x2} {x3} (h0 : Steady z s0) :
    Steady z (@State.postStage s0 x1 x2 x3) := by
  unfold State.postStage
  split
  · split
    · exact h0
    · refine State.satisfy_st ?_
      refine State.modC_st ?_
      exact h0
  · refine State.satisfy_st ?_
    exact h0
  · exact h0

theorem State.goLate_st {z : State} {s0} {x1} (h0 : Steady z s0) :
    Steady z (@State.goLate s0 x1) := by
  unfold State.goLate
  refine State.forEach_st ?_ ?_
  · exact h0
  · intro b0 b1 hbq1
    extract_lets +onlyGivenNames -underBinder -merge -useContext xq2
    have hxq2 : Steady z xq2 := by
      unfold xq2
      refine State.modC_st ?_
      exact hbq1
    try clear_value xq2
    extract_lets +onlyGivenNames -underBinder -merge -useContext xq3
    have hxq3 : Steady z xq3 := by
      unfold xq3
      refine State.evt_st ?_
      exact hxq2
    try clear_value xq3
    split
    · refine State.setLate_st ?_
      exact hxq3
    · exact hxq3

theorem State.deadline_st {z : State} {s0} {x1} (h0 : Steady z s0) :
    Steady z (@State.deadline s0 x1) := by
  unfold State.deadline
  split
  · exact h0
  · extract_lets +onlyGivenNames -underBinder -merge -useContext xq1
    try clear_value xq1
    refine State.goLate_st ?_
    refine State.modC_st ?_
    exact h0

theorem State.budgetPassed_st {z : State} {s0} {x1} (h0 : Steady z s0) :
    Steady z (@State.budgetPassed s0 x1) := by
  unfold State.budgetPassed
  extract_lets +onlyGivenNames -underBinder -merge -useContext xq1
  try clear_value xq1
  split
  · extract_lets +onlyGivenNames -underBinder -merge -useContext xq2
    try clear_value xq2
    split
    · refine State.bumpE_st ?_
      refine State.setUse_st ?_
      exact h0
    · exact h0
  · exact h0

theorem State.awlLost_st {z : State} {s0} {x1} (h0 : Steady z s0) :
    Steady z (@State.awlLost s0 x1) := by
  unfold State.awlLost
  split
  · exact h0
  · extract_lets +onlyGivenNames -underBinder -merge -useContext xq1
    try clear_value xq1
    extract_lets +onlyGivenNames -underBinder -merge -useContext xq2
    try clear_value xq2
    extract_lets +onlyGivenNames -underBinder -merge -useContext xq3
    have hxq3 : Steady z xq3 := by
      unfold xq3
      refine State.skipAll_st ?_
      exact h0
    try clear_value xq3
    extract_lets +onlyGivenNames -underBinder -merge -useContext xq4
    have hxq4 : Steady z xq4 := by
      unfold xq4
      refine State.forEach_st ?_ ?_
      · exact hxq3
      · intro b0 b1 hbq5
        refine State.abortSvc_st ?_
        exact hbq5
    try clear_value xq4
    split
    · refine State.modLedger_st ?_
      refine State.evt_st ?_
      refine State.faultU_st ?_
      exact hxq4
    · exact hxq4

theorem State.dropQueued_st {z : State} {s0} (h0 : Steady z s0) :
    Steady z (@State.dropQueued s0) := by
  unfold State.dropQueued
  refine State.forEach_st ?_ ?_
  · exact h0
  · intro b0 b1 hbq1
    refine State.abortSvc_st ?_
    exact hbq1

theorem State.cinchFault_st {z : State} {s0} (h0 : Steady z s0) :
    Steady z (@State.cinchFault s0) := by
  unfold State.cinchFault
  extract_lets +onlyGivenNames -underBinder -merge -useContext xq1
  have hxq1 : Steady z xq1 := by
    unfold xq1
    refine State.forEach_st ?_ ?_
    · exact h0
    · intro b0 b1 hbq2
      split
      · refine State.modAxis_st ?_
        exact hbq2
      · exact hbq2
  try clear_value xq1
  extract_lets +onlyGivenNames -underBinder -merge -useContext xq3
  have hxq3 : Steady z xq3 := by
    unfold xq3
    refine State.skipAll_st ?_
    exact hxq1
  try clear_value xq3
  extract_lets +onlyGivenNames -underBinder -merge -useContext xq4
  have hxq4 : Steady z xq4 := by
    unfold xq4
    refine State.forEach_st ?_ ?_
    · exact hxq3
    · intro b0 b1 hbq5
      refine State.abortSvc_st ?_
      exact hbq5
  try clear_value xq4
  refine State.setSt_st ?_
  refine State.dropQueued_st ?_
  exact hxq4

theorem State.cinchStop_st {z : State} {s0} (h0 : Steady z s0) :
    Steady z (@State.cinchStop s0) := by
  unfold State.cinchStop
  refine State.dropQueued_st ?_
  refine State.skipAll_st ?_
  exact h0

theorem State.cinchBegin_st {z : State} {s0} {x1} (h0 : Steady z s0) :
    Steady z (@State.cinchBegin s0 x1) := by
  unfold State.cinchBegin
  apply Steady.of_eq
  · exact h0
  all_goals rfl

theorem State.serveEntry_st {z : State} {s0} {x1} (h0 : Steady z s0) :
    Steady z (@State.serveEntry s0 x1).2 := by
  unfold State.serveEntry
  extract_lets +onlyGivenNames -underBinder -merge -useContext xq1
  try clear_value xq1
  extract_lets +onlyGivenNames -underBinder -merge -useContext xq2
  try clear_value xq2
  split
  · refine Steady.mk1 ?_
    exact h0
  · extract_lets +onlyGivenNames -underBinder -merge -useContext xq3
    try clear_value xq3
    extract_lets +onlyGivenNames -underBinder -merge -useContext xq4
    try clear_value xq4
    split
    · rename_i e
      have hmq5 := Steady.of_snd (z := z) e (by
        refine State.fixRead_st ?_
        exact h0)
      extract_lets +onlyGivenNames -underBinder -merge -useContext xq6
      have hxq6 : ∀ a0, Steady z a0 → Steady z (xq6 a0) := by
        intro a0 haq7
        simp -zeta only [xq6]
        refine State.wr_st ?_
        exact haq7
      try clear_value xq6
      split
      · refine Steady.mk1 ?_
        refine State.cmdCount_st ?_
        refine hxq6 _ ?_
        · exact hmq5
      · extract_lets +onlyGivenNames -underBinder -merge -useContext xq8
        try clear_value xq8
        split
        · refine Steady.mk1 ?_
          exact hmq5
        · refine Steady.mk1 ?_
          refine State.cmdTake_st ?_
          refine hxq6 _ ?_
          · exact hmq5

theorem State.serveRing_st {z : State} {s0} {x1} {x2} (h0 : Steady z s0) :
    Steady z (@State.serveRing s0 x1 x2) := by
  induction x2 generalizing s0 with
  | zero => exact h0
  | succ k ih =>
    rw [State.serveRing]
    split
    · rename_i e; exact ih (Steady.of_snd e (serveEntry_st h0))
    · rename_i e; exact Steady.of_snd e (serveEntry_st h0)

theorem State.ledgerEntry_st {z : State} {s0} (h0 : Steady z s0) :
    Steady z (@State.ledgerEntry s0) := by
  unfold State.ledgerEntry
  extract_lets +onlyGivenNames -underBinder -merge -useContext xq1
  try clear_value xq1
  split
  · exact h0
  · split
    · exact h0
    · extract_lets +onlyGivenNames -underBinder -merge -useContext xq2
      try clear_value xq2
      extract_lets +onlyGivenNames -underBinder -merge -useContext xq3
      try clear_value xq3
      extract_lets +onlyGivenNames -underBinder -merge -useContext xq4
      try clear_value xq4
      extract_lets +onlyGivenNames -underBinder -merge -useContext xq5
      try clear_value xq5
      refine State.wr_st ?_
      refine State.fixPut_st ?_
      exact h0

theorem State.createTokens_st {z : State} {s0} (h0 : Steady z s0) :
    Steady z (@State.createTokens s0) := by
  unfold State.createTokens
  extract_lets +onlyGivenNames -underBinder -merge -useContext xq1
  try clear_value xq1
  extract_lets +onlyGivenNames -underBinder -merge -useContext xq2
  try clear_value xq2
  extract_lets +onlyGivenNames -underBinder -merge -useContext xq3
  try clear_value xq3
  extract_lets +onlyGivenNames -underBinder -merge -useContext xq4
  try clear_value xq4
  extract_lets +onlyGivenNames -underBinder -merge -useContext xq5
  try clear_value xq5
  refine State.goLate_st ?_
  refine State.modC_st ?_
  exact h0

theorem State.benchLost_st {z : State} {s0} (h0 : Steady z s0) :
    Steady z (@State.benchLost s0) := by
  unfold State.benchLost
  refine State.forEach_st ?_ ?_
  · exact h0
  · intro b0 b1 hbq1
    split
    · refine State.modLedger_st ?_
      refine State.faultU_st ?_
      exact hbq1
    · exact hbq1

theorem State.finishTokens_st {z : State} {s0} (h0 : Steady z s0) :
    Steady z (@State.finishTokens s0) := by
  unfold State.finishTokens
  extract_lets +onlyGivenNames -underBinder -merge -useContext xq1
  try clear_value xq1
  refine State.skipAll_st ?_
  exact h0

theorem State.cinchCwstart_st {z : State} {s0} (h0 : Steady z s0) :
    Steady z (@State.cinchCwstart s0) := by
  unfold State.cinchCwstart
  extract_lets +onlyGivenNames -underBinder -merge -useContext xq1
  try clear_value xq1
  extract_lets +onlyGivenNames -underBinder -merge -useContext xq2
  have hxq2 : Steady z xq2 := by
    unfold xq2
    refine State.ledgerEntry_st ?_
    refine State.finishTokens_st ?_
    exact h0
  try clear_value xq2
  extract_lets +onlyGivenNames -underBinder -merge -useContext xq3
  have hxq3 : Steady z xq3 := by
    unfold xq3
    refine State.modC_st ?_
    exact hxq2
  try clear_value xq3
  extract_lets +onlyGivenNames -underBinder -merge -useContext xq4
  have hxq4 : Steady z xq4 := by
    unfold xq4
    refine State.forEach_st ?_ ?_
    · exact hxq3
    · intro b0 b1 hbq5
      split
      · refine State.setLate_st ?_
        exact hbq5
      · exact hbq5
  try clear_value xq4
  extract_lets +onlyGivenNames -underBinder -merge -useContext xq6
  have hxq6 : Steady z xq6 := by
    unfold xq6
    refine State.forEach_st ?_ ?_
    · exact hxq4
    · intro b0 b1 hbq7
      split
      · refine State.serveRing_st ?_
        exact hbq7
      · exact hbq7
  try clear_value xq6
  extract_lets +onlyGivenNames -underBinder -merge -useContext xq8
  have hxq8 : Steady z xq8 := by
    unfold xq8
    refine State.satisfy_st ?_
    exact hxq6
  try clear_value xq8
  extract_lets +onlyGivenNames -underBinder -merge -useContext xq9
  have hxq9 : Steady z xq9 := by
    unfold xq9
    refine State.createTokens_st ?_
    exact hxq8
  try clear_value xq9
  extract_lets +onlyGivenNames -underBinder -merge -useContext xq10
  have hxq10 : Steady z xq10 := by
    unfold xq10
    refine State.forEach_st ?_ ?_
    · exact hxq9
    · intro b0 b1 hbq11
      refine State.releaseSvc_st ?_
      exact hbq11
  try clear_value xq10
  extract_lets +onlyGivenNames -underBinder -merge -useContext xq12
  have hxq12 : Steady z xq12 := by
    unfold xq12
    refine State.readyScan_st ?_
    refine State.benchLost_st ?_
    exact hxq10
  try clear_value xq12
  extract_lets +onlyGivenNames -underBinder -merge -useContext xq13
  have hxq13 : Steady z xq13 := by
    unfold xq13
    refine State.wr_st ?_
    exact hxq12
  try clear_value xq13
  apply Steady.of_eq
  · exact hxq13
  all_goals rfl

theorem State.cwstart_st {z : State} {s0} (h0 : Steady z s0) :
    Steady z (@State.cwstart s0) := by
  unfold State.cwstart
  extract_lets +onlyGivenNames -underBinder -merge -useContext xq1
  have hxq1 : Steady z xq1 := by
    unfold xq1
    refine State.copiesInstall_st ?_
    exact h0
  try clear_value xq1
  extract_lets +onlyGivenNames -underBinder -merge -useContext xq2
  have hxq2 : Steady z xq2 := by
    unfold xq2
    refine State.wr_st ?_
    exact hxq1
  try clear_value xq2
  extract_lets +onlyGivenNames -underBinder -merge -useContext xq3
  try clear_value xq3
  extract_lets +onlyGivenNames -underBinder -merge -useContext xq4
  have hxq4 : Steady z xq4 := by
    unfold xq4
    apply Steady.of_eq
    · exact hxq2
    all_goals rfl
  try clear_value xq4
  extract_lets +onlyGivenNames -underBinder -merge -useContext xq5
  have hxq5 : Steady z xq5 := by
    unfold xq5
    split
    · refine State.cinchCwstart_st ?_
      exact hxq4
    · exact hxq4
  try clear_value xq5
  refine State.engineRun_st ?_
  exact hxq5

theorem State.engineDone_st {z : State} {s0} {x1} (h0 : Steady z s0) :
    Steady z (@State.engineDone s0 x1) := by
  unfold State.engineDone
  extract_lets +onlyGivenNames -underBinder -merge -useContext xq1
  have hxq1 : Steady z xq1 := by
    unfold xq1
    refine State.forEach_st ?_ ?_
    · exact h0
    · intro b0 b1 hbq2
      refine State.spWrite_st ?_
      exact hbq2
  try clear_value xq1
  extract_lets +onlyGivenNames -underBinder -merge -useContext xq3
  have hxq3 : Steady z xq3 := by
    unfold xq3
    split
    · refine State.wr_st ?_
      refine State.wr_st ?_
      exact hxq1
    · exact hxq1
  try clear_value xq3
  split
  · refine State.satisfy_st ?_
    exact hxq3
  · refine State.recordEvent_st ?_
    exact hxq3

theorem State.setPortSt_st {z : State} {s0} {x1} {x2} (h0 : Steady z s0) :
    Steady z (@State.setPortSt s0 x1 x2) := by
  unfold State.setPortSt
  refine State.wr_st ?_
  exact h0

theorem State.sendFrame_st {z : State} {s0} {x1} {x2} (h0 : Steady z s0) :
    Steady z (@State.sendFrame s0 x1 x2) := by
  unfold State.sendFrame
  refine State.send_st ?_
  refine State.modPort_st ?_
  exact h0

theorem State.sendPort_st {z : State} {s0} {x1} {x2} (h0 : Steady z s0) :
    Steady z (@State.sendPort s0 x1 x2) := by
  unfold State.sendPort
  split
  · exact h0
  · refine State.sendFrame_st ?_
    exact h0

theorem State.markSend_st {z : State} {s0} {x1} (h0 : Steady z s0) :
    Steady z (@State.markSend s0 x1) := by
  unfold State.markSend
  split
  · refine State.send_st ?_
    exact h0
  · exact h0

theorem State.assemble_st {z : State} {s0} {x1} {x2} (h0 : Steady z s0) :
    Steady z (@State.assemble s0 x1 x2) := by
  unfold State.assemble
  extract_lets +onlyGivenNames -underBinder -merge -useContext xq1
  try clear_value xq1
  refine State.modPort_st ?_
  exact h0

theorem State.downlinkSend_st {z : State} {s0} {x1} (h0 : Steady z s0) :
    Steady z (@State.downlinkSend s0 x1) := by
  unfold State.downlinkSend
  split
  · extract_lets +onlyGivenNames -underBinder -merge -useContext xq1
    try clear_value xq1
    extract_lets +onlyGivenNames -underBinder -merge -useContext xq2
    try clear_value xq2
    extract_lets +onlyGivenNames -underBinder -merge -useContext xq3
    try clear_value xq3
    extract_lets +onlyGivenNames -underBinder -merge -useContext xq4
    try clear_value xq4
    extract_lets +onlyGivenNames -underBinder -merge -useContext xq5
    have hxq5 : Steady z xq5 := by
      unfold xq5
      split
      · refine State.bumpE_st ?_
        exact h0
      · exact h0
    try clear_value xq5
    extract_lets +onlyGivenNames -underBinder -merge -useContext xq6
    have hxq6 : Steady z xq6 := by
      unfold xq6
      refine State.setPort_st ?_
      exact hxq5
    try clear_value xq6
    refine State.sendFrame_st ?_
    exact hxq6
  · exact h0

theorem State.relaySend_st {z : State} {s0} {x1} (h0 : Steady z s0) :
    Steady z (@State.relaySend s0 x1) := by
  unfold State.relaySend
  extract_lets +onlyGivenNames -underBinder -merge -useContext xq1
  try clear_value xq1
  split
  · refine State.sendPort_st ?_
    exact h0
  · exact h0

theorem State.delayReqSend_st {z : State} {s0} {x1} {x2} (h0 : Steady z s0) :
    Steady z (@State.delayReqSend s0 x1 x2) := by
  unfold State.delayReqSend
  extract_lets +onlyGivenNames -underBinder -merge -useContext xq1
  try clear_value xq1
  extract_lets +onlyGivenNames -underBinder -merge -useContext xq2
  try clear_value xq2
  extract_lets +onlyGivenNames -underBinder -merge -useContext xq3
  try clear_value xq3
  extract_lets +onlyGivenNames -underBinder -merge -useContext xq4
  try clear_value xq4
  extract_lets +onlyGivenNames -underBinder -merge -useContext xq5
  have hxq5 : Steady z xq5 := by
    unfold xq5
    refine State.setPort_st ?_
    exact h0
  try clear_value xq5
  refine State.sendPort_st ?_
  exact hxq5

theorem State.acyclicHead_st {z : State} {s0} {x1} (h0 : Steady z s0) :
    Steady z (@State.acyclicHead s0 x1).2 := by
  unfold State.acyclicHead
  extract_lets +onlyGivenNames -underBinder -merge -useContext xq1
  try clear_value xq1
  extract_lets +onlyGivenNames -underBinder -merge -useContext xq2
  try clear_value xq2
  extract_lets +onlyGivenNames -underBinder -merge -useContext xq3
  try clear_value xq3
  extract_lets +onlyGivenNames -underBinder -merge -useContext xq4
  try clear_value xq4
  extract_lets +onlyGivenNames -underBinder -merge -useContext xq5
  try clear_value xq5
  extract_lets +onlyGivenNames -underBinder -merge -useContext xq6
  try clear_value xq6
  extract_lets +onlyGivenNames -underBinder -merge -useContext xq7
  have hxq7 : Steady z xq7 := by
    unfold xq7
    split
    · refine State.sendPort_st ?_
      exact h0
    · exact h0
  try clear_value xq7
  extract_lets +onlyGivenNames -underBinder -merge -useContext xq8
  try clear_value xq8
  extract_lets +onlyGivenNames -underBinder -merge -useContext xq9
  try clear_value xq9
  extract_lets +onlyGivenNames -underBinder -merge -useContext xq10
  have hxq10 : Steady z xq10 := by
    unfold xq10
    split
    · refine State.delayReqSend_st ?_
      exact hxq7
    · exact hxq7
  try clear_value xq10
  extract_lets +onlyGivenNames -underBinder -merge -useContext xq11
  try clear_value xq11
  split
  · split
    · extract_lets +onlyGivenNames -underBinder -merge -useContext xq12
      have hxq12 : Steady z xq12 := by
        unfold xq12
        refine State.sendPort_st ?_
        exact hxq10
      try clear_value xq12
      refine Steady.mk1 ?_
      refine State.modPort_st ?_
      exact hxq12
    · refine Steady.mk1 ?_
      exact hxq10
  · refine Steady.mk1 ?_
    exact hxq10

theorem State.blockPort_st {z : State} {s0} {x1} (h0 : Steady z s0) :
    Steady z (@State.blockPort s0 x1) := by
  unfold State.blockPort
  extract_lets +onlyGivenNames -underBinder -merge -useContext xq1
  try clear_value xq1
  extract_lets +onlyGivenNames -underBinder -merge -useContext xq2
  have hxq2 : Steady z xq2 := by
    unfold xq2
    refine State.markRest_st ?_
    exact h0
  try clear_value xq2
  refine State.evt_st ?_
  refine State.faultU_st ?_
  refine State.setPortSt_st ?_
  refine State.wr_st ?_
  exact hxq2

theorem State.blockIfDue_st {z : State} {s0} {x1} (h0 : Steady z s0) :
    Steady z (@State.blockIfDue s0 x1) := by
  unfold State.blockIfDue
  split
  · refine State.blockPort_st ?_
    exact h0
  · exact h0

theorem State.violation_st {z : State} {s0} {x1} (h0 : Steady z s0) :
    Steady z (@State.violation s0 x1) := by
  unfold State.violation
  extract_lets +onlyGivenNames -underBinder -merge -useContext xq1
  try clear_value xq1
  extract_lets +onlyGivenNames -underBinder -merge -useContext xq2
  have hxq2 : Steady z xq2 := by
    unfold xq2
    refine State.bump_st ?_
    exact h0
  try clear_value xq2
  extract_lets +onlyGivenNames -underBinder -merge -useContext xq3
  try clear_value xq3
  split
  · exact hxq2
  · extract_lets +onlyGivenNames -underBinder -merge -useContext xq4
    try clear_value xq4
    extract_lets +onlyGivenNames -underBinder -merge -useContext xq5
    try clear_value xq5
    extract_lets +onlyGivenNames -underBinder -merge -useContext xq6
    have hxq6 : Steady z xq6 := by
      unfold xq6
      refine State.setPort_st ?_
      exact hxq2
    try clear_value xq6
    refine State.blockIfDue_st ?_
    refine State.wr_st ?_
    exact hxq6

theorem State.truncate_st {z : State} {s0} {x1} {x2} (h0 : Steady z s0) :
    Steady z (@State.truncate s0 x1 x2) := by
  unfold State.truncate
  extract_lets +onlyGivenNames -underBinder -merge -useContext xq1
  try clear_value xq1
  extract_lets +onlyGivenNames -underBinder -merge -useContext xq2
  have hxq2 : Steady z xq2 := by
    unfold xq2
    refine State.bump_st ?_
    exact h0
  try clear_value xq2
  refine State.violation_st ?_
  split
  · refine State.bumpE_st ?_
    exact hxq2
  · exact hxq2

theorem State.countCg_st {z : State} {s0} {x1} {x2} (h0 : Steady z s0) :
    Steady z (@State.countCg s0 x1 x2) := by
  unfold State.countCg
  split
  · exact h0
  · refine State.bumpByE_st ?_
    exact h0

theorem State.receive_st {z : State} {s0} {x1} {x2} {s3} (h0 : Steady z s0) (h3 : ∀ y0, Steady z y0 → Steady z (s3 y0)) :
    Steady z (@State.receive s0 x1 x2 s3) := by
  unfold State.receive
  extract_lets +onlyGivenNames -underBinder -merge -useContext xq1
  try clear_value xq1
  split
  · exact h0
  · split
    · split
      · refine State.violation_st ?_
        exact h0
      · exact h0
    · extract_lets +onlyGivenNames -underBinder -merge -useContext xq2
      have hxq2 : Steady z xq2 := by
        unfold xq2
        refine State.countCg_st ?_
        exact h0
      try clear_value xq2
      split
      · refine State.violation_st ?_
        refine State.bump_st ?_
        exact hxq2
      · refine State.violation_st ?_
        refine State.bump_st ?_
        exact hxq2
      · refine State.truncate_st ?_
        exact hxq2
      · extract_lets +onlyGivenNames -underBinder -merge -useContext xq3
        have hxq3 : Steady z xq3 := by
          unfold xq3
          split
          · refine State.stateWord_st ?_
            exact hxq2
          · exact hxq2
        try clear_value xq3
        split
        · refine State.bumpE_st ?_
          exact hxq3
        · refine h3 _ ?_
          · exact hxq3

theorem State.windowTruncation_st {z : State} {s0} {x1} {x2} (h0 : Steady z s0) :
    Steady z (@State.windowTruncation s0 x1 x2) := by
  unfold State.windowTruncation
  split
  · split
    · split
      · refine State.violation_st ?_
        exact h0
      · exact h0
    · refine State.truncate_st ?_
      refine State.countCg_st ?_
      exact h0
  · exact h0

theorem State.portArrival_st {z : State} {s0} {x1} (h0 : Steady z s0) :
    Steady z (@State.portArrival s0 x1) := by
  unfold State.portArrival
  refine State.arrival_st ?_
  refine State.modPort_st ?_
  exact h0

theorem State.deliver_st {z : State} {s0} {x1} {x2} (h0 : Steady z s0) :
    Steady z (@State.deliver s0 x1 x2) := by
  unfold State.deliver
  extract_lets +onlyGivenNames -underBinder -merge -useContext xq1
  have hxq1 : Steady z xq1 := by
    unfold xq1
    split
    · refine State.modPort_st ?_
      refine State.setPortSt_st ?_
      exact h0
    · exact h0
  try clear_value xq1
  extract_lets +onlyGivenNames -underBinder -merge -useContext xq2
  have hxq2 : Steady z xq2 := by
    unfold xq2
    refine State.modPort_st ?_
    exact hxq1
  try clear_value xq2
  extract_lets +onlyGivenNames -underBinder -merge -useContext xq3
  have hxq3 : Steady z xq3 := by
    unfold xq3
    refine State.modPort_st ?_
    exact hxq2
  try clear_value xq3
  extract_lets +onlyGivenNames -underBinder -merge -useContext xq4
  have hxq4 : Steady z xq4 := by
    unfold xq4
    refine State.forEach_st ?_ ?_
    · exact hxq3
    · intro b0 b1 hbq5
      refine State.inputs_st ?_
      exact hbq5
  try clear_value xq4
  split
  · refine State.portArrival_st ?_
    exact hxq4
  · exact hxq4

theorem State.countExpected_st {z : State} {s0} {x1} {x2} (h0 : Steady z s0) :
    Steady z (@State.countExpected s0 x1 x2) := by
  unfold State.countExpected
  split
  · refine State.bumpByE_st ?_
    exact h0
  · exact h0

theorem State.cycleUpGood_st {z : State} {s0} {x1} {x2} (h0 : Steady z s0) :
    Steady z (@State.cycleUpGood s0 x1 x2) := by
  unfold State.cycleUpGood
  extract_lets +onlyGivenNames -underBinder -merge -useContext xq1
  try clear_value xq1
  extract_lets +onlyGivenNames -underBinder -merge -useContext xq2
  try clear_value xq2
  extract_lets +onlyGivenNames -underBinder -merge -useContext xq3
  try clear_value xq3
  split
  · split
    · exact h0
    · refine State.modPort_st ?_
      refine State.countExpected_st ?_
      exact h0
  · split
    · refine State.bumpE_st ?_
      exact h0
    · split
      · refine State.bumpE_st ?_
        exact h0
      · extract_lets +onlyGivenNames -underBinder -merge -useContext xq4
        have hxq4 : Steady z xq4 := by
          unfold xq4
          refine State.modPort_st ?_
          exact h0
        try clear_value xq4
        split
        · refine State.deliver_st ?_
          exact hxq4
        · exact hxq4

theorem State.cycleUp_st {z : State} {s0} {x1} {x2} (h0 : Steady z s0) :
    Steady z (@State.cycleUp s0 x1 x2) := by
  unfold State.cycleUp
  split
  · exact h0
  · refine State.receive_st ?_ ?_
    · exact h0
    · intro b0 hbq1
      refine State.cycleUpGood_st ?_
      exact hbq1

theorem State.arrivalTimeout_st {z : State} {s0} {x1} (h0 : Steady z s0) :
    Steady z (@State.arrivalTimeout s0 x1) := by
  unfold State.arrivalTimeout
  extract_lets +onlyGivenNames -underBinder -merge -useContext xq1
  try clear_value xq1
  extract_lets +onlyGivenNames -underBinder -merge -useContext xq2
  try clear_value xq2
  split
  · exact h0
  · split
    · refine State.portArrival_st ?_
      exact h0
    · extract_lets +onlyGivenNames -underBinder -merge -useContext xq3
      have hxq3 : Steady z xq3 := by
        unfold xq3
        split
        · exact h0
        · refine State.countExpected_st ?_
          exact h0
      try clear_value xq3
      extract_lets +onlyGivenNames -underBinder -merge -useContext xq4
      have hxq4 : Steady z xq4 := by
        unfold xq4
        refine State.forEach_st ?_ ?_
        · exact hxq3
        · intro b0 b1 hbq5
          refine State.inputs_st ?_
          exact hbq5
      try clear_value xq4
      refine State.portArrival_st ?_
      exact hxq4

theorem State.enterNosync_st {z : State} {s0} {x1} (h0 : Steady z s0) :
    Steady z (@State.enterNosync s0 x1) := by
  unfold State.enterNosync
  extract_lets +onlyGivenNames -underBinder -merge -useContext xq1
  have hxq1 : Steady z xq1 := by
    unfold xq1
    refine State.wr_st ?_
    exact h0
  try clear_value xq1
  extract_lets +onlyGivenNames -underBinder -merge -useContext xq2
  have hxq2 : Steady z xq2 := by
    unfold xq2
    refine State.modPort_st ?_
    exact hxq1
  try clear_value xq2
  refine State.setPortSt_st ?_
  exact hxq2

theorem State.syncGain_st {z : State} {s0} {x1} (h0 : Steady z s0) :
    Steady z (@State.syncGain s0 x1) := by
  unfold State.syncGain
  split
  · exact h0
  · extract_lets +onlyGivenNames -underBinder -merge -useContext xq1
    have hxq1 : Steady z xq1 := by
      unfold xq1
      refine State.wr_st ?_
      exact h0
    try clear_value xq1
    extract_lets +onlyGivenNames -underBinder -merge -useContext xq2
    have hxq2 : Steady z xq2 := by
      unfold xq2
      refine State.modPort_st ?_
      exact hxq1
    try clear_value xq2
    split
    · refine State.setPortSt_st ?_
      exact hxq2
    · exact hxq2

theorem State.syncLoss_st {z : State} {s0} {x1} (h0 : Steady z s0) :
    Steady z (@State.syncLoss s0 x1) := by
  unfold State.syncLoss
  extract_lets +onlyGivenNames -underBinder -merge -useContext xq1
  try clear_value xq1
  split
  · exact h0
  · extract_lets +onlyGivenNames -underBinder -merge -useContext xq2
    have hxq2 : Steady z xq2 := by
      unfold xq2
      refine State.wr_st ?_
      exact h0
    try clear_value xq2
    extract_lets +onlyGivenNames -underBinder -merge -useContext xq3
    have hxq3 : Steady z xq3 := by
      unfold xq3
      refine State.evt_st ?_
      refine State.faultU_st ?_
      refine State.wr_st ?_
      exact hxq2
    try clear_value xq3
    split
    · exact hxq3
    · refine State.enterNosync_st ?_
      exact hxq3

theorem State.delayRespGood_st {z : State} {s0} {x1} {x2} (h0 : Steady z s0) :
    Steady z (@State.delayRespGood s0 x1 x2) := by
  unfold State.delayRespGood
  extract_lets +onlyGivenNames -underBinder -merge -useContext xq1
  try clear_value xq1
  extract_lets +onlyGivenNames -underBinder -merge -useContext xq2
  try clear_value xq2
  split
  · split
    · extract_lets +onlyGivenNames -underBinder -merge -useContext xq3
      have hxq3 : Steady z xq3 := by
        unfold xq3
        refine State.modPort_st ?_
        exact h0
      try clear_value xq3
      extract_lets +onlyGivenNames -underBinder -merge -useContext xq4
      try clear_value xq4
      extract_lets +onlyGivenNames -underBinder -merge -useContext xq5
      try clear_value xq5
      extract_lets +onlyGivenNames -underBinder -merge -useContext xq6
      try clear_value xq6
      split
      · exact hxq3
      · split
        · refine State.evt_st ?_
          refine State.faultU_st ?_
          refine State.wr_st ?_
          exact hxq3
        · refine State.modPort_st ?_
          exact hxq3
    · refine State.bumpE_st ?_
      exact h0
  · refine State.bumpE_st ?_
    exact h0

theorem State.delayResp_st {z : State} {s0} {x1} {x2} (h0 : Steady z s0) :
    Steady z (@State.delayResp s0 x1 x2) := by
  unfold State.delayResp
  split
  · refine State.receive_st ?_ ?_
    · exact h0
    · intro b0 hbq1
      refine State.delayRespGood_st ?_
      exact hbq1
  · exact h0

theorem State.joinGood_st {z : State} {s0} {x1} {x2} (h0 : Steady z s0) :
    Steady z (@State.joinGood s0 x1 x2) := by
  unfold State.joinGood
  extract_lets +onlyGivenNames -underBinder -merge -useContext xq1
  try clear_value xq1
  split
  · refine State.bumpE_st ?_
    exact h0
  · extract_lets +onlyGivenNames -underBinder -merge -useContext xq2
    try clear_value xq2
    extract_lets +onlyGivenNames -underBinder -merge -useContext xq3
    try clear_value xq3
    extract_lets +onlyGivenNames -underBinder -merge -useContext xq4
    try clear_value xq4
    extract_lets +onlyGivenNames -underBinder -merge -useContext xq5
    have hxq5 : Steady z xq5 := by
      unfold xq5
      refine State.modPort_st ?_
      exact h0
    try clear_value xq5
    refine State.evt_st ?_
    split
    · exact hxq5
    · refine State.bump_st ?_
      exact hxq5

theorem State.join_st {z : State} {s0} {x1} {x2} (h0 : Steady z s0) :
    Steady z (@State.join s0 x1 x2) := by
  unfold State.join
  split
  · refine State.receive_st ?_ ?_
    · exact h0
    · intro b0 hbq1
      refine State.joinGood_st ?_
      exact hbq1
  · exact h0

theorem State.forbidden_st {z : State} {s0} {x1} {x2} (h0 : Steady z s0) :
    Steady z (@State.forbidden s0 x1 x2) := by
  unfold State.forbidden
  extract_lets +onlyGivenNames -underBinder -merge -useContext xq1
  try clear_value xq1
  extract_lets +onlyGivenNames -underBinder -merge -useContext xq2
  try clear_value xq2
  split
  · exact h0
  · split
    · split
      · refine State.violation_st ?_
        exact h0
      · exact h0
    · refine State.violation_st ?_
      refine State.evt_st ?_
      refine State.faultU_st ?_
      refine State.wr_st ?_
      exact h0

theorem State.codeGroupError_st {z : State} {s0} {x1} (h0 : Steady z s0) :
    Steady z (@State.codeGroupError s0 x1) := by
  unfold State.codeGroupError
  extract_lets +onlyGivenNames -underBinder -merge -useContext xq1
  try clear_value xq1
  split
  · refine State.bumpE_st ?_
    exact h0
  · exact h0

theorem State.blockedWrite_st {z : State} {s0} {x1} {x2} (h0 : Steady z s0) :
    Steady z (@State.blockedWrite s0 x1 x2) := by
  unfold State.blockedWrite
  split
  · refine State.cfgRej_st ?_
    exact h0
  · split
    · refine State.modPort_st ?_
      exact h0
    · exact h0

theorem State.portIdle_st {z : State} {s0} {x1} (h0 : Steady z s0) :
    Steady z (@State.portIdle s0 x1) := by
  unfold State.portIdle
  extract_lets +onlyGivenNames -underBinder -merge -useContext xq1
  try clear_value xq1
  extract_lets +onlyGivenNames -underBinder -merge -useContext xq2
  have hxq2 : Steady z xq2 := by
    unfold xq2
    refine State.setPortSt_st ?_
    exact h0
  try clear_value xq2
  extract_lets +onlyGivenNames -underBinder -merge -useContext xq3
  have hxq3 : Steady z xq3 := by
    unfold xq3
    refine State.wr_st ?_
    refine State.wr_st ?_
    refine State.wr_st ?_
    exact hxq2
  try clear_value xq3
  extract_lets +onlyGivenNames -underBinder -merge -useContext xq4
  have hxq4 : Steady z xq4 := by
    unfold xq4
    refine State.setReg_st ?_
    exact hxq3
  try clear_value xq4
  refine State.modPort_st ?_
  exact hxq4

theorem State.useDelay_st {z : State} {s0} {x1} (h0 : Steady z s0) :
    Steady z (@State.useDelay s0 x1) := by
  unfold State.useDelay
  extract_lets +onlyGivenNames -underBinder -merge -useContext xq1
  try clear_value xq1
  split
  · exact h0
  · extract_lets +onlyGivenNames -underBinder -merge -useContext xq2
    try clear_value xq2
    extract_lets +onlyGivenNames -underBinder -merge -useContext xq3
    have hxq3 : Steady z xq3 := by
      unfold xq3
      refine State.wr_st ?_
      refine State.wr_st ?_
      exact h0
    try clear_value xq3
    extract_lets +onlyGivenNames -underBinder -merge -useContext xq4
    have hxq4 : Steady z xq4 := by
      unfold xq4
      refine State.wr_st ?_
      exact hxq3
    try clear_value xq4
    extract_lets +onlyGivenNames -underBinder -merge -useContext xq5
    have hxq5 : Steady z xq5 := by
      unfold xq5
      refine State.modPort_st ?_
      exact hxq4
    try clear_value xq5
    split
    · exact hxq5
    · refine State.evt_st ?_
      exact hxq5

theorem State.useGrant_st {z : State} {s0} {x1} (h0 : Steady z s0) :
    Steady z (@State.useGrant s0 x1) := by
  unfold State.useGrant
  split
  · split
    · refine State.setReg_st ?_
      refine State.wr_st ?_
      exact h0
    · exact h0
  · exact h0

theorem State.reenablePort_st {z : State} {s0} {x1} (h0 : Steady z s0) :
    Steady z (@State.reenablePort s0 x1) := by
  unfold State.reenablePort
  extract_lets +onlyGivenNames -underBinder -merge -useContext xq1
  try clear_value xq1
  split
  · extract_lets +onlyGivenNames -underBinder -merge -useContext xq2
    have hxq2 : Steady z xq2 := by
      unfold xq2
      refine State.wr_st ?_
      refine State.wr_st ?_
      exact h0
    try clear_value xq2
    extract_lets +onlyGivenNames -underBinder -merge -useContext xq3
    have hxq3 : Steady z xq3 := by
      unfold xq3
      refine State.modPort_st ?_
      exact hxq2
    try clear_value xq3
    split
    · refine State.setPortSt_st ?_
      exact hxq3
    · refine State.enterNosync_st ?_
      exact hxq3
  · exact h0

theorem State.portI0_st {z : State} {s0} {x1} (h0 : Steady z s0) :
    Steady z (@State.portI0 s0 x1) := by
  unfold State.portI0
  extract_lets +onlyGivenNames -underBinder -merge -useContext xq1
  try clear_value xq1
  extract_lets +onlyGivenNames -underBinder -merge -useContext xq2
  have hxq2 : Steady z xq2 := by
    unfold xq2
    refine State.modPort_st ?_
    exact h0
  try clear_value xq2
  split
  · exact hxq2
  · split
    · split
      · refine State.enterNosync_st ?_
        exact hxq2
      · exact hxq2
    · extract_lets +onlyGivenNames -underBinder -merge -useContext xq3
      have hxq3 : Steady z xq3 := by
        unfold xq3
        refine State.useDelay_st ?_
        exact hxq2
      try clear_value xq3
      extract_lets +onlyGivenNames -underBinder -merge -useContext xq4
      have hxq4 : Steady z xq4 := by
        unfold xq4
        refine State.useGrant_st ?_
        exact hxq3
      try clear_value xq4
      extract_lets +onlyGivenNames -underBinder -merge -useContext xq5
      have hxq5 : Steady z xq5 := by
        unfold xq5
        refine State.reenablePort_st ?_
        exact hxq4
      try clear_value xq5
      extract_lets +onlyGivenNames -underBinder -merge -useContext xq6
      have hxq6 : Steady z xq6 := by
        unfold xq6
        split
        · refine State.setPortSt_st ?_
          exact hxq5
        · exact hxq5
      try clear_value xq6
      extract_lets +onlyGivenNames -underBinder -merge -useContext xq7
      try clear_value xq7
      extract_lets +onlyGivenNames -underBinder -merge -useContext xq8
      have hxq8 : Steady z xq8 := by
        unfold xq8
        refine State.modPort_st ?_
        exact hxq6
      try clear_value xq8
      refine State.wr_st ?_
      exact hxq8

theorem State.checkRefs_st {z : State} {s0} {x1} {x2} (h0 : Steady z s0) :
    Steady z (@State.checkRefs s0 x1 x2).2 := by
  unfold State.checkRefs
  refine Steady.foldl1 ?_ ?_
  · refine Steady.mk1 ?_
    exact h0
  · intro b0 b1 hbq1
    split
    · exact hbq1
    · split
      · rename_i e
        have hmq2 := Steady.of_snd (z := z) e (by
          refine State.readMem_st ?_
          exact hbq1)
        refine Steady.mk1 ?_
        exact hmq2

theorem State.fetchCheck_st {z : State} {s0} {x1} {x2} (h0 : Steady z s0) :
    Steady z (@State.fetchCheck s0 x1 x2).2 := by
  unfold State.fetchCheck
  extract_lets +onlyGivenNames -underBinder -merge -useContext xq1
  try clear_value xq1
  split
  · refine Steady.mk1 ?_
    exact h0
  · refine State.checkRefs_st ?_
    exact h0

theorem State.freezeUnit_st {z : State} {s0} {x1} (h0 : Steady z s0) :
    Steady z (@State.freezeUnit s0 x1) := by
  unfold State.freezeUnit
  extract_lets +onlyGivenNames -underBinder -merge -useContext xq1
  try clear_value xq1
  split
  · refine State.evt_st ?_
    refine State.modStitch_st ?_
    refine State.wr_st ?_
    exact h0
  · refine State.modStitch_st ?_
    exact h0

theorem State.haltFreeze_st {z : State} {s0} (h0 : Steady z s0) :
    Steady z (@State.haltFreeze s0) := by
  unfold State.haltFreeze
  refine State.forEach_st ?_ ?_
  · exact h0
  · intro b0 b1 hbq1
    refine State.freezeUnit_st ?_
    exact hbq1

theorem State.halt_st {z : State} {s0} {x1} {x2} (h0 : Steady z s0) :
    Steady z (@State.halt s0 x1 x2) := by
  unfold State.halt
  extract_lets +onlyGivenNames -underBinder -merge -useContext xq1
  try clear_value xq1
  extract_lets +onlyGivenNames -underBinder -merge -useContext xq2
  have hxq2 : Steady z xq2 := by
    unfold xq2
    refine State.settleBank_st ?_
    exact h0
  try clear_value xq2
  extract_lets +onlyGivenNames -underBinder -merge -useContext xq3
  have hxq3 : Steady z xq3 := by
    unfold xq3
    refine State.wr_st ?_
    exact hxq2
  try clear_value xq3
  extract_lets +onlyGivenNames -underBinder -merge -useContext xq4
  have hxq4 : Steady z xq4 := by
    unfold xq4
    refine State.wr_st ?_
    exact hxq3
  try clear_value xq4
  refine State.haltFreeze_st ?_
  refine State.evt_st ?_
  exact hxq4

theorem State.unhalt_st {z : State} {s0} {x1} (h0 : Steady z s0) :
    Steady z (@State.unhalt s0 x1) := by
  unfold State.unhalt
  extract_lets +onlyGivenNames -underBinder -merge -useContext xq1
  try clear_value xq1
  split
  · extract_lets +onlyGivenNames -underBinder -merge -useContext xq2
    try clear_value xq2
    extract_lets +onlyGivenNames -underBinder -merge -useContext xq3
    have hxq3 : Steady z xq3 := by
      unfold xq3
      refine State.wr_st ?_
      exact h0
    try clear_value xq3
    refine State.setAct_st ?_
    exact hxq3
  · exact h0

theorem State.awlLeave_st {z : State} {s0} {x1} {x2} (h0 : Steady z s0) :
    Steady z (@State.awlLeave s0 x1 x2) := by
  unfold State.awlLeave
  extract_lets +onlyGivenNames -underBinder -merge -useContext xq1
  have hxq1 : Steady z xq1 := by
    unfold xq1
    refine State.wr_st ?_
    refine State.setSt_st ?_
    exact h0
  try clear_value xq1
  extract_lets +onlyGivenNames -underBinder -merge -useContext xq2
  have hxq2 : Steady z xq2 := by
    unfold xq2
    refine State.modAwl_st ?_
    exact hxq1
  try clear_value xq2
  refine State.awlLost_st ?_
  refine State.abandonBank_st ?_
  refine State.abandonBank_st ?_
  exact hxq2

theorem State.awlFault_st {z : State} {s0} {x1} {x2} {x3} {x4} (h0 : Steady z s0) :
    Steady z (@State.awlFault s0 x1 x2 x3 x4) := by
  unfold State.awlFault
  refine State.awlLeave_st ?_
  refine State.fault_st ?_
  refine State.setSt_st ?_
  exact h0

theorem State.exception_st {z : State} {s0} {x1} {x2} {x3} {x4} {x5} {x6} (h0 : Steady z s0) :
    Steady z (@State.exception s0 x1 x2 x3 x4 x5 x6) := by
  unfold State.exception
  extract_lets +onlyGivenNames -underBinder -merge -useContext xq1
  try clear_value xq1
  extract_lets +onlyGivenNames -underBinder -merge -useContext xq2
  try clear_value xq2
  extract_lets +onlyGivenNames -underBinder -merge -useContext xq3
  have hxq3 : Steady z xq3 := by
    unfold xq3
    split
    · refine State.fault_st ?_
      exact h0
    · exact h0
  try clear_value xq3
  extract_lets +onlyGivenNames -underBinder -merge -useContext xq4
  try clear_value xq4
  split
  · refine State.awlFault_st ?_
    exact hxq3
  · extract_lets +onlyGivenNames -underBinder -merge -useContext xq5
    have hxq5 : Steady z xq5 := by
      unfold xq5
      refine State.settleBank_st ?_
      exact hxq3
    try clear_value xq5
    extract_lets +onlyGivenNames -underBinder -merge -useContext xq6
    try clear_value xq6
    extract_lets +onlyGivenNames -underBinder -merge -useContext xq7
    try clear_value xq7
    extract_lets +onlyGivenNames -underBinder -merge -useContext xq8
    try clear_value xq8
    extract_lets +onlyGivenNames -underBinder -merge -useContext xq9
    have hxq9 : Steady z xq9 := by
      unfold xq9
      refine State.writeMem_st ?_
      exact hxq5
    try clear_value xq9
    extract_lets +onlyGivenNames -underBinder -merge -useContext xq10
    try clear_value xq10
    extract_lets +onlyGivenNames -underBinder -merge -useContext xq11
    have hxq11 : Steady z xq11 := by
      unfold xq11
      refine State.setAct_st ?_
      exact hxq9
    try clear_value xq11
    extract_lets +onlyGivenNames -underBinder -merge -useContext xq12
    have hxq12 : Steady z xq12 := by
      unfold xq12
      refine State.modAwl_st ?_
      exact hxq11
    try clear_value xq12
    extract_lets +onlyGivenNames -underBinder -merge -useContext xq13
    have hxq13 : Steady z xq13 := by
      unfold xq13
      refine State.wr_st ?_
      refine State.bumpE_st ?_
      exact hxq12
    try clear_value xq13
    extract_lets +onlyGivenNames -underBinder -merge -useContext xq14
    have hxq14 : Steady z xq14 := by
      unfold xq14
      refine State.evt_st ?_
      exact hxq13
    try clear_value xq14
    split
    · refine State.halt_st ?_
      exact hxq14
    · exact hxq14

theorem State.awlFreeze_st {z : State} {s0} {x1} (h0 : Steady z s0) :
    Steady z (@State.awlFreeze s0 x1) := by
  unfold State.awlFreeze
  extract_lets +onlyGivenNames -underBinder -merge -useContext xq1
  have hxq1 : Steady z xq1 := by
    unfold xq1
    refine State.wr_st ?_
    exact h0
  try clear_value xq1
  split
  · refine State.awlLeave_st ?_
    exact hxq1
  · refine State.setSt_st ?_
    exact hxq1
  · refine State.setSt_st ?_
    exact hxq1
  · exact h0

theorem State.postQueue_st {z : State} {s0} {x1} {x2} {x3} {x4} {x5} {x6} {x7} (h0 : Steady z s0) :
    Steady z (@State.postQueue s0 x1 x2 x3 x4 x5 x6 x7) := by
  unfold State.postQueue
  extract_lets +onlyGivenNames -underBinder -merge -useContext xq1
  try clear_value xq1
  extract_lets +onlyGivenNames -underBinder -merge -useContext xq2
  try clear_value xq2
  extract_lets +onlyGivenNames -underBinder -merge -useContext xq3
  try clear_value xq3
  extract_lets +onlyGivenNames -underBinder -merge -useContext xq4
  try clear_value xq4
  extract_lets +onlyGivenNames -underBinder -merge -useContext xq5
  try clear_value xq5
  extract_lets +onlyGivenNames -underBinder -merge -useContext xq6
  have hxq6 : Steady z xq6 := by
    unfold xq6
    refine State.setAct_st ?_
    exact h0
  try clear_value xq6
  extract_lets +onlyGivenNames -underBinder -merge -useContext xq7
  have hxq7 : Steady z xq7 := by
    unfold xq7
    split
    · refine State.fault_st ?_
      refine State.evt_st ?_
      exact hxq6
    · exact hxq6
  try clear_value xq7
  split
  · extract_lets +onlyGivenNames -underBinder -merge -useContext xq8
    try clear_value xq8
    split
    · refine State.modAwl_st ?_
      exact hxq7
    · extract_lets +onlyGivenNames -underBinder -merge -useContext xq9
      have hxq9 : Steady z xq9 := by
        unfold xq9
        split
        · exact hxq7
        · refine State.modAwl_st ?_
          exact hxq7
      try clear_value xq9
      refine State.awlFreeze_st ?_
      refine State.gateRecord_st ?_
      exact hxq9

theorem State.commitEntry_st {z : State} {s0} {x1} {x2} {x3} (h0 : Steady z s0) :
    Steady z (@State.commitEntry s0 x1 x2 x3) := by
  unfold State.commitEntry
  extract_lets +onlyGivenNames -underBinder -merge -useContext xq1
  try clear_value xq1
  extract_lets +onlyGivenNames -underBinder -merge -useContext xq2
  try clear_value xq2
  split
  · exact h0
  · extract_lets +onlyGivenNames -underBinder -merge -useContext xq3
    try clear_value xq3
    extract_lets +onlyGivenNames -underBinder -merge -useContext xq4
    try clear_value xq4
    refine State.modAwl_st ?_
    exact h0

theorem State.commit_st {z : State} {s0} {x1} {x2} {x3} (h0 : Steady z s0) :
    Steady z (@State.commit s0 x1 x2 x3) := by
  unfold State.commit
  refine State.forEach_st ?_ ?_
  · exact h0
  · intro b0 b1 hbq1
    refine State.commitEntry_st ?_
    exact hbq1

theorem State.advance_st {z : State} {s0} {x1} {x2} {x3} {x4} (h0 : Steady z s0) :
    Steady z (@State.advance s0 x1 x2 x3 x4) := by
  unfold State.advance
  extract_lets +onlyGivenNames -underBinder -merge -useContext xq1
  try clear_value xq1
  extract_lets +onlyGivenNames -underBinder -merge -useContext xq2
  try clear_value xq2
  extract_lets +onlyGivenNames -underBinder -merge -useContext xq3
  try clear_value xq3
  extract_lets +onlyGivenNames -underBinder -merge -useContext xq4
  try clear_value xq4
  split
  · extract_lets +onlyGivenNames -underBinder -merge -useContext xq5
    try clear_value xq5
    extract_lets +onlyGivenNames -underBinder -merge -useContext xq6
    try clear_value xq6
    extract_lets +onlyGivenNames -underBinder -merge -useContext xq7
    try clear_value xq7
    extract_lets +onlyGivenNames -underBinder -merge -useContext xq8
    try clear_value xq8
    split
    · split
      · refine State.modAwl_st ?_
        exact h0

theorem State.endt_st {z : State} {s0} {x1} (h0 : Steady z s0) :
    Steady z (@State.endt s0 x1) := by
  unfold State.endt
  extract_lets +onlyGivenNames -underBinder -merge -useContext xq1
  try clear_value xq1
  extract_lets +onlyGivenNames -underBinder -merge -useContext xq2
  try clear_value xq2
  extract_lets +onlyGivenNames -underBinder -merge -useContext xq3
  have hxq3 : Steady z xq3 := by
    unfold xq3
    refine State.settleBank_st ?_
    refine State.setAct_st ?_
    exact h0
  try clear_value xq3
  extract_lets +onlyGivenNames -underBinder -merge -useContext xq4
  try clear_value xq4
  extract_lets +onlyGivenNames -underBinder -merge -useContext xq5
  have hxq5 : Steady z xq5 := by
    unfold xq5
    refine State.setAct_st ?_
    exact hxq3
  try clear_value xq5
  extract_lets +onlyGivenNames -underBinder -merge -useContext xq6
  have hxq6 : Steady z xq6 := by
    unfold xq6
    refine State.setReg_st ?_
    exact hxq5
  try clear_value xq6
  extract_lets +onlyGivenNames -underBinder -merge -useContext xq7
  have hxq7 : Steady z xq7 := by
    unfold xq7
    refine State.setReg_st ?_
    exact hxq6
  try clear_value xq7
  extract_lets +onlyGivenNames -underBinder -merge -useContext xq8
  have hxq8 : Steady z xq8 := by
    unfold xq8
    refine State.setReg_st ?_
    exact hxq7
  try clear_value xq8
  refine State.endInstance_st ?_
  exact hxq8

theorem State.rte_st {z : State} {s0} {x1} (h0 : Steady z s0) :
    Steady z (@State.rte s0 x1) := by
  unfold State.rte
  extract_lets +onlyGivenNames -underBinder -merge -useContext xq1
  try clear_value xq1
  extract_lets +onlyGivenNames -underBinder -merge -useContext xq2
  try clear_value xq2
  extract_lets +onlyGivenNames -underBinder -merge -useContext xq3
  have hxq3 : Steady z xq3 := by
    unfold xq3
    refine State.settleBank_st ?_
    exact h0
  try clear_value xq3
  extract_lets +onlyGivenNames -underBinder -merge -useContext xq4
  try clear_value xq4
  split
  · rename_i e
    have hmq5 := Steady.of_snd (z := z) e (by
      refine State.checkRefs_st ?_
      exact hxq3)
    split
    · refine State.exception_st ?_
      exact hmq5
    · extract_lets +onlyGivenNames -underBinder -merge -useContext xq6
      try clear_value xq6
      extract_lets +onlyGivenNames -underBinder -merge -useContext xq7
      try clear_value xq7
      extract_lets +onlyGivenNames -underBinder -merge -useContext xq8
      try clear_value xq8
      extract_lets +onlyGivenNames -underBinder -merge -useContext xq9
      try clear_value xq9
      extract_lets +onlyGivenNames -underBinder -merge -useContext xq10
      try clear_value xq10
      refine State.setAct_st ?_
      exact hmq5

theorem State.postThen_st {z : State} {s0} {x1} {x2} {x3} {x4} {x5} {x6} {x7} {x8} {x9} (h0 : Steady z s0) :
    Steady z (@State.postThen s0 x1 x2 x3 x4 x5 x6 x7 x8 x9) := by
  unfold State.postThen
  extract_lets +onlyGivenNames -underBinder -merge -useContext xq1
  have hxq1 : Steady z xq1 := by
    unfold xq1
    refine State.postQueue_st ?_
    exact h0
  try clear_value xq1
  split
  · refine State.settleBank_st ?_
    refine State.advance_st ?_
    exact hxq1
  · exact hxq1

theorem State.perform_st {z : State} {s0} {x1} {x2} (h0 : Steady z s0) :
    Steady z (@State.perform s0 x1 x2) := by
  unfold State.perform
  extract_lets +onlyGivenNames -underBinder -merge -useContext xq1
  try clear_value xq1
  extract_lets +onlyGivenNames -underBinder -merge -useContext xq2
  try clear_value xq2
  extract_lets +onlyGivenNames -underBinder -merge -useContext xq3
  try clear_value xq3
  extract_lets +onlyGivenNames -underBinder -merge -useContext xq4
  try clear_value xq4
  extract_lets +onlyGivenNames -underBinder -merge -useContext xq5
  try clear_value xq5
  extract_lets +onlyGivenNames -underBinder -merge -useContext xq6
  try clear_value xq6
  extract_lets +onlyGivenNames -underBinder -merge -useContext xq7
  try clear_value xq7
  split
  · rename_i e
    have hmq8 := Steady.of_snd (z := z) e (by
      refine State.checkRefs_st ?_
      exact h0)
    split
    · refine State.exception_st ?_
      exact hmq8
    · extract_lets +onlyGivenNames -underBinder -merge -useContext xq9
      try clear_value xq9
      extract_lets +onlyGivenNames -underBinder -merge -useContext xq10
      have hxq10 : Steady z xq10 := by
        unfold xq10
        refine State.bumpE_st ?_
        exact hmq8
      try clear_value xq10
      extract_lets +onlyGivenNames -underBinder -merge -useContext xq11
      have hxq11 : Steady z xq11 := by
        unfold xq11
        split
        · refine State.bumpE_st ?_
          exact hxq10
        · exact hxq10
      try clear_value xq11
      extract_lets +onlyGivenNames -underBinder -merge -useContext xq12
      try clear_value xq12
      extract_lets +onlyGivenNames -underBinder -merge -useContext xq13
      have hxq13 : Steady z xq13 := by
        unfold xq13
        refine State.setAct_st ?_
        refine State.modAwl_st ?_
        exact hxq11
      try clear_value xq13
      extract_lets +onlyGivenNames -underBinder -merge -useContext xq14
      try clear_value xq14
      extract_lets +onlyGivenNames -underBinder -merge -useContext xq15
      have hxq15 : ∀ a0 a1, Steady z a0 → Steady z (xq15 a0 a1) := by
        intro a0 a1 haq16
        simp -zeta only [xq15]
        refine State.setAct_st ?_
        exact haq16
      try clear_value xq15
      split
      · refine State.endt_st ?_
        exact hxq13
      · refine State.rte_st ?_
        exact hxq13
      · refine State.exception_st ?_
        refine State.settleBank_st ?_
        exact hxq13
      · extract_lets +onlyGivenNames -underBinder -merge -useContext xq17
        have hxq17 : Steady z xq17 := by
          unfold xq17
          refine State.settleBank_st ?_
          refine State.advance_st ?_
          refine State.modAwl_st ?_
          exact hxq13
        try clear_value xq17
        split
        · refine State.halt_st ?_
          exact hxq17
        · refine State.exception_st ?_
          exact hxq17
      · extract_lets +onlyGivenNames -underBinder -merge -useContext xq18
        try clear_value xq18
        extract_lets +onlyGivenNames -underBinder -merge -useContext xq19
        have hxq19 : Steady z xq19 := by
          unfold xq19
          refine State.settleBank_st ?_
          refine State.advance_st ?_
          exact hxq13
        try clear_value xq19
        refine State.setAct_st ?_
        exact hxq19
      · extract_lets +onlyGivenNames -underBinder -merge -useContext xq20
        try clear_value xq20
        extract_lets +onlyGivenNames -underBinder -merge -useContext xq21
        have hxq21 : Steady z xq21 := by
          unfold xq21
          refine State.settleBank_st ?_
          refine State.advance_st ?_
          exact hxq13
        try clear_value xq21
        refine State.setAct_st ?_
        exact hxq21
      · extract_lets +onlyGivenNames -underBinder -merge -useContext xq22
        try clear_value xq22
        extract_lets +onlyGivenNames -underBinder -merge -useContext xq23
        have hxq23 : Steady z xq23 := by
          unfold xq23
          refine State.settleBank_st ?_
          refine State.advance_st ?_
          refine hxq15 _ _ ?_
          · exact hxq13
        try clear_value xq23
        refine State.setAct_st ?_
        exact hxq23
      · extract_lets +onlyGivenNames -underBinder -merge -useContext xq24
        have hxq24 : Steady z xq24 := by
          unfold xq24
          refine State.settleBank_st ?_
          refine State.advance_st ?_
          refine State.setAct_st ?_
          exact hxq13
        try clear_value xq24
        refine State.postStage_st ?_
        exact hxq24
      · extract_lets +onlyGivenNames -underBinder -merge -useContext xq25
        have hxq25 : Steady z xq25 := by
          unfold xq25
          refine State.commit_st ?_
          refine State.setAct_st ?_
          exact hxq13
        try clear_value xq25
        refine State.settleBank_st ?_
        refine State.advance_st ?_
        exact hxq25
      · refine State.postThen_st ?_
        exact hxq13
      · refine State.postThen_st ?_
        exact hxq13
      · refine State.postThen_st ?_
        exact hxq13
      · refine State.postThen_st ?_
        exact hxq13
      · refine State.settleBank_st ?_
        refine State.advance_st ?_
        refine hxq15 _ _ ?_
        · exact hxq13

theorem State.issueIns_st {z : State} {s0} {x1} {x2} (h0 : Steady z s0) :
    Steady z (@State.issueIns s0 x1 x2) := by
  unfold State.issueIns
  split
  · exact h0
  · split
    · refine State.halt_st ?_
      exact h0
    · extract_lets +onlyGivenNames -underBinder -merge -useContext xq1
      try clear_value xq1
      split
      · rename_i e
        have hmq2 := Steady.of_snd (z := z) e (by
          refine State.fetchCheck_st ?_
          exact h0)
        split
        · refine State.exception_st ?_
          exact hmq2
        · split
          · refine State.exception_st ?_
            exact hmq2
          · split
            · refine State.modAwl_st ?_
              exact hmq2
            · refine State.perform_st ?_
              exact hmq2

theorem State.stepEnd_st {z : State} {s0} {x1} (h0 : Steady z s0) :
    Steady z (@State.stepEnd s0 x1) := by
  unfold State.stepEnd
  extract_lets +onlyGivenNames -underBinder -merge -useContext xq1
  try clear_value xq1
  split
  · extract_lets +onlyGivenNames -underBinder -merge -useContext xq2
    have hxq2 : Steady z xq2 := by
      unfold xq2
      refine State.modAwl_st ?_
      exact h0
    try clear_value xq2
    split
    · refine State.wr_st ?_
      exact hxq2
    · split
      · refine State.halt_st ?_
        exact hxq2
      · exact hxq2
  · exact h0

theorem State.issue_st {z : State} {s0} {x1} {x2} (h0 : Steady z s0) :
    Steady z (@State.issue s0 x1 x2) := by
  unfold State.issue
  refine State.stepEnd_st ?_
  refine State.issueIns_st ?_
  exact h0

theorem State.issueReserved_st {z : State} {s0} {x1} {x2} (h0 : Steady z s0) :
    Steady z (@State.issueReserved s0 x1 x2) := by
  unfold State.issueReserved
  refine State.stepEnd_st ?_
  split
  · exact h0
  · split
    · refine State.halt_st ?_
      exact h0
    · extract_lets +onlyGivenNames -underBinder -merge -useContext xq1
      try clear_value xq1
      split
      · rename_i e
        have hmq2 := Steady.of_snd (z := z) e (by
          refine State.fetchCheck_st ?_
          exact h0)
        split
        · refine State.exception_st ?_
          exact hmq2
        · refine State.exception_st ?_
          exact hmq2

theorem State.issueWord_st {z : State} {s0} {x1} {x2} {x3} (h0 : Steady z s0) :
    Steady z (@State.issueWord s0 x1 x2 x3) := by
  unfold State.issueWord
  split
  · refine State.issue_st ?_
    exact h0
  · refine State.issueReserved_st ?_
    exact h0

theorem State.illegalWord_st {z : State} {s0} {x1} {x2} {x3} (h0 : Steady z s0) :
    Steady z (@State.illegalWord s0 x1 x2 x3) := by
  unfold State.illegalWord
  split
  · refine State.issueReserved_st ?_
    exact h0
  · split
    · refine State.issueReserved_st ?_
      exact h0
    · exact h0
  · exact h0

theorem State.debugStep_st {z : State} {s0} {x1} (h0 : Steady z s0) :
    Steady z (@State.debugStep s0 x1) := by
  unfold State.debugStep
  extract_lets +onlyGivenNames -underBinder -merge -useContext xq1
  try clear_value xq1
  split
  · exact h0
  · extract_lets +onlyGivenNames -underBinder -merge -useContext xq2
    try clear_value xq2
    extract_lets +onlyGivenNames -underBinder -merge -useContext xq3
    try clear_value xq3
    extract_lets +onlyGivenNames -underBinder -merge -useContext xq4
    try clear_value xq4
    extract_lets +onlyGivenNames -underBinder -merge -useContext xq5
    have hxq5 : Steady z xq5 := by
      unfold xq5
      refine State.modAwl_st ?_
      refine State.wr_st ?_
      exact h0
    try clear_value xq5
    refine State.issueWord_st ?_
    refine State.setAct_st ?_
    exact hxq5

theorem State.debugWrite_st {z : State} {s0} {x1} {x2} (h0 : Steady z s0) :
    Steady z (@State.debugWrite s0 x1 x2) := by
  unfold State.debugWrite
  extract_lets +onlyGivenNames -underBinder -merge -useContext xq1
  try clear_value xq1
  split
  · refine State.cfgRej_st ?_
    exact h0
  · extract_lets +onlyGivenNames -underBinder -merge -useContext xq2
    try clear_value xq2
    extract_lets +onlyGivenNames -underBinder -merge -useContext xq3
    try clear_value xq3
    extract_lets +onlyGivenNames -underBinder -merge -useContext xq4
    have hxq4 : ∀ a0, Steady z (xq4 a0) := by
      intro a0
      simp -zeta only [xq4]
      refine State.modAwl_st ?_
      exact h0
    try clear_value xq4
    split
    · refine hxq4 _
    · split
      · exact h0
      · split
        · refine hxq4 _
        · split
          · refine hxq4 _
          · split
            · refine hxq4 _
            · split
              · refine hxq4 _
              · split
                · refine hxq4 _
                · exact h0

end Sys2Proof.Machine
end

