-- ==== Sys2Proof/Laws/SteadyStitch.lean ====
section
/-! SUPPORT. Steadiness (Sys2Proof/Laws/Steady.lean) of the operations of Stitch, Stamp and the time base: each keeps the queue, the raw counter and the canonical forms. -/
namespace Sys2Proof.Machine
open State

theorem State.settleOut_st {z : State} {s0} {x1} (h0 : Steady z s0) :
    Steady z (@State.settleOut s0 x1) := by
  unfold State.settleOut
  extract_lets +onlyGivenNames -underBinder -merge -useContext xq1
  try clear_value xq1
  extract_lets +onlyGivenNames -underBinder -merge -useContext xq2
  try clear_value xq2
  extract_lets +onlyGivenNames -underBinder -merge -useContext xq3
  try clear_value xq3
  extract_lets +onlyGivenNames -underBinder -merge -useContext xq4
  have hxq4 : Steady z xq4 := by
    unfold xq4
    split
    · exact h0
    · refine State.wr_st ?_
      exact h0
  try clear_value xq4
  refine State.modStitch_st ?_
  exact hxq4

theorem State.beginConv_st {z : State} {s0} {x1} {x2} (h0 : Steady z s0) :
    Steady z (@State.beginConv s0 x1 x2) := by
  unfold State.beginConv
  refine State.modAna_st ?_
  exact h0

theorem State.auxConversion_st {z : State} {s0} {x1} (h0 : Steady z s0) :
    Steady z (@State.auxConversion s0 x1) := by
  unfold State.auxConversion
  extract_lets +onlyGivenNames -underBinder -merge -useContext xq1
  try clear_value xq1
  split
  · exact h0
  · extract_lets +onlyGivenNames -underBinder -merge -useContext xq2
    have hxq2 : Steady z xq2 := by
      unfold xq2
      refine State.modAna_st ?_
      exact h0
    try clear_value xq2
    extract_lets +onlyGivenNames -underBinder -merge -useContext xq3
    try clear_value xq3
    split
    · refine State.evt_st ?_
      refine State.bumpE_st ?_
      exact hxq2
    · refine State.beginConv_st ?_
      exact hxq2

theorem State.auxActivate_st {z : State} {s0} {x1} {x2} (h0 : Steady z s0) :
    Steady z (@State.auxActivate s0 x1 x2) := by
  unfold State.auxActivate
  extract_lets +onlyGivenNames -underBinder -merge -useContext xq1
  try clear_value xq1
  split
  · exact h0
  · extract_lets +onlyGivenNames -underBinder -merge -useContext xq2
    have hxq2 : Steady z xq2 := by
      unfold xq2
      refine State.modStitch_st ?_
      refine State.wr_st ?_
      exact h0
    try clear_value xq2
    refine State.forEach_st ?_ ?_
    · exact hxq2
    · intro b0 b1 hbq3
      refine State.auxConversion_st ?_
      exact hbq3

theorem State.noteAux_st {z : State} {s0} {x1} {x2} (h0 : Steady z s0) :
    Steady z (@State.noteAux s0 x1 x2) := by
  unfold State.noteAux
  refine State.forEach_st ?_ ?_
  · exact h0
  · intro b0 b1 hbq1
    extract_lets +onlyGivenNames -underBinder -merge -useContext xq2
    try clear_value xq2
    split
    · refine State.modStamp_st ?_
      exact hbq1
    · exact hbq1

theorem State.moveLegs_st {z : State} {s0} {x1} {x2} {x3} (h0 : Steady z s0) :
    Steady z (@State.moveLegs s0 x1 x2 x3) := by
  unfold State.moveLegs
  extract_lets +onlyGivenNames -underBinder -merge -useContext xq1
  try clear_value xq1
  extract_lets +onlyGivenNames -underBinder -merge -useContext xq2
  have hxq2 : Steady z xq2 := by
    unfold xq2
    refine State.modStitch_st ?_
    exact h0
  try clear_value xq2
  extract_lets +onlyGivenNames -underBinder -merge -useContext xq3
  try clear_value xq3
  extract_lets +onlyGivenNames -underBinder -merge -useContext xq4
  have hxq4 : Steady z xq4 := by
    unfold xq4
    refine State.forEach_st ?_ ?_
    · exact hxq2
    · intro b0 b1 hbq5
      extract_lets +onlyGivenNames -underBinder -merge -useContext xq6
      try clear_value xq6
      split
      · refine State.noteAux_st ?_
        refine State.auxActivate_st ?_
        refine State.modStitch_st ?_
        exact hbq5
      · exact hbq5
  try clear_value xq4
  refine State.settleOut_st ?_
  exact hxq4

theorem State.latchTrip_st {z : State} {s0} {x1} (h0 : Steady z s0) :
    Steady z (@State.latchTrip s0 x1) := by
  unfold State.latchTrip
  refine State.markRest_st ?_
  refine State.wr_st ?_
  exact h0

theorem State.tripJudge_st {z : State} {s0} {x1} (h0 : Steady z s0) :
    Steady z (@State.tripJudge s0 x1) := by
  unfold State.tripJudge
  extract_lets +onlyGivenNames -underBinder -merge -useContext xq1
  try clear_value xq1
  extract_lets +onlyGivenNames -underBinder -merge -useContext xq2
  try clear_value xq2
  split
  · exact h0
  · extract_lets +onlyGivenNames -underBinder -merge -useContext xq3
    have hxq3 : Steady z xq3 := by
      unfold xq3
      refine State.wr_st ?_
      refine State.latchTrip_st ?_
      exact h0
    try clear_value xq3
    extract_lets +onlyGivenNames -underBinder -merge -useContext xq4
    have hxq4 : Steady z xq4 := by
      unfold xq4
      refine State.settleOut_st ?_
      refine State.wr_st ?_
      exact hxq3
    try clear_value xq4
    refine State.evt_st ?_
    refine State.fault_st ?_
    refine State.bumpE_st ?_
    exact hxq4

theorem State.clearRefuse_st {z : State} {s0} {x1} (h0 : Steady z s0) :
    Steady z (@State.clearRefuse s0 x1) := by
  unfold State.clearRefuse
  extract_lets +onlyGivenNames -underBinder -merge -useContext xq1
  try clear_value xq1
  extract_lets +onlyGivenNames -underBinder -merge -useContext xq2
  have hxq2 : Steady z xq2 := by
    unfold xq2
    refine State.bumpE_st ?_
    refine State.wr_st ?_
    exact h0
  try clear_value xq2
  refine State.evt_st ?_
  refine State.fault_st ?_
  exact hxq2

theorem State.tripEval_st {z : State} {s0} {x1} (h0 : Steady z s0) :
    Steady z (@State.tripEval s0 x1) := by
  unfold State.tripEval
  extract_lets +onlyGivenNames -underBinder -merge -useContext xq1
  try clear_value xq1
  extract_lets +onlyGivenNames -underBinder -merge -useContext xq2
  try clear_value xq2
  extract_lets +onlyGivenNames -underBinder -merge -useContext xq3
  have hxq3 : Steady z xq3 := by
    unfold xq3
    refine State.wr_st ?_
    exact h0
  try clear_value xq3
  split
  · refine State.clearRefuse_st ?_
    refine State.settleOut_st ?_
    refine State.modStitch_st ?_
    refine State.wr_st ?_
    refine State.latchTrip_st ?_
    exact hxq3
  · refine State.tripJudge_st ?_
    exact hxq3

theorem State.tripInput_st {z : State} {s0} {x1} {x2} {x3} (h0 : Steady z s0) :
    Steady z (@State.tripInput s0 x1 x2 x3) := by
  unfold State.tripInput
  split
  · exact h0
  · extract_lets +onlyGivenNames -underBinder -merge -useContext xq1
    try clear_value xq1
    refine State.tripEval_st ?_
    refine State.modStitch_st ?_
    exact h0

theorem State.setAux_st {z : State} {s0} {x1} {x2} {x3} (h0 : Steady z s0) :
    Steady z (@State.setAux s0 x1 x2 x3) := by
  unfold State.setAux
  extract_lets +onlyGivenNames -underBinder -merge -useContext xq1
  try clear_value xq1
  split
  · refine State.noteAux_st ?_
    refine State.auxActivate_st ?_
    exact h0
  · extract_lets +onlyGivenNames -underBinder -merge -useContext xq2
    have hxq2 : Steady z xq2 := by
      unfold xq2
      refine State.wr_st ?_
      exact h0
    try clear_value xq2
    split
    · refine State.tripJudge_st ?_
      exact hxq2
    · exact hxq2

theorem State.auxChannel_st {z : State} {s0} {x1} {x2} {x3} (h0 : Steady z s0) :
    Steady z (@State.auxChannel s0 x1 x2 x3) := by
  unfold State.auxChannel
  extract_lets +onlyGivenNames -underBinder -merge -useContext xq1
  try clear_value xq1
  extract_lets +onlyGivenNames -underBinder -merge -useContext xq2
  try clear_value xq2
  split
  · exact h0
  · split
    · split
      · split
        · refine State.setAux_st ?_
          exact h0
        · exact h0
      · exact h0
    · split
      · exact h0
      · split
        · refine State.setAux_st ?_
          exact h0
        · split
          · refine State.setAux_st ?_
            exact h0
          · exact h0

theorem State.blankEnd_st {z : State} {s0} {x1} (h0 : Steady z s0) :
    Steady z (@State.blankEnd s0 x1) := by
  unfold State.blankEnd
  extract_lets +onlyGivenNames -underBinder -merge -useContext xq1
  try clear_value xq1
  split
  · refine State.auxChannel_st ?_
    exact h0
  · exact h0

theorem State.tripClear_st {z : State} {s0} {x1} (h0 : Steady z s0) :
    Steady z (@State.tripClear s0 x1) := by
  unfold State.tripClear
  extract_lets +onlyGivenNames -underBinder -merge -useContext xq1
  try clear_value xq1
  split
  · exact h0
  · split
    · refine State.modStitch_st ?_
      refine State.wr_st ?_
      exact h0
    · refine State.clearRefuse_st ?_
      exact h0

theorem State.refreshLegs_st {z : State} {s0} {x1} {x2} (h0 : Steady z s0) :
    Steady z (@State.refreshLegs s0 x1 x2) := by
  unfold State.refreshLegs
  extract_lets +onlyGivenNames -underBinder -merge -useContext xq1
  try clear_value xq1
  extract_lets +onlyGivenNames -underBinder -merge -useContext xq2
  try clear_value xq2
  extract_lets +onlyGivenNames -underBinder -merge -useContext xq3
  try clear_value xq3
  refine State.forEach_st ?_ ?_
  · exact h0
  · intro b0 b1 hbq4
    extract_lets +onlyGivenNames -underBinder -merge -useContext xq5
    try clear_value xq5
    extract_lets +onlyGivenNames -underBinder -merge -useContext xq6
    try clear_value xq6
    extract_lets +onlyGivenNames -underBinder -merge -useContext xq7
    try clear_value xq7
    extract_lets +onlyGivenNames -underBinder -merge -useContext xq8
    have hxq8 : Steady z xq8 := by
      unfold xq8
      refine State.setStitch_st ?_
      exact hbq4
    try clear_value xq8
    split
    · refine State.bumpE_st ?_
      exact hxq8
    · exact hxq8

theorem State.auxPeriod_st {z : State} {s0} {x1} (h0 : Steady z s0) :
    Steady z (@State.auxPeriod s0 x1) := by
  unfold State.auxPeriod
  extract_lets +onlyGivenNames -underBinder -merge -useContext xq1
  try clear_value xq1
  refine State.forEach_st ?_ ?_
  · exact h0
  · intro b0 b1 hbq2
    refine State.setAux_st ?_
    exact hbq2

theorem State.beginPeriod_st {z : State} {s0} {x1} (h0 : Steady z s0) :
    Steady z (@State.beginPeriod s0 x1) := by
  unfold State.beginPeriod
  extract_lets +onlyGivenNames -underBinder -merge -useContext xq1
  try clear_value xq1
  split
  · exact h0
  · extract_lets +onlyGivenNames -underBinder -merge -useContext xq2
    try clear_value xq2
    extract_lets +onlyGivenNames -underBinder -merge -useContext xq3
    have hxq3 : Steady z xq3 := by
      unfold xq3
      refine State.wr_st ?_
      exact h0
    try clear_value xq3
    extract_lets +onlyGivenNames -underBinder -merge -useContext xq4
    try clear_value xq4
    extract_lets +onlyGivenNames -underBinder -merge -useContext xq5
    have hxq5 : Steady z xq5 := by
      unfold xq5
      refine State.wr_st ?_
      exact hxq3
    try clear_value xq5
    extract_lets +onlyGivenNames -underBinder -merge -useContext xq6
    have hxq6 : Steady z xq6 := by
      unfold xq6
      split
      · exact hxq5
      · refine State.wr_st ?_
        exact hxq5
    try clear_value xq6
    extract_lets +onlyGivenNames -underBinder -merge -useContext xq7
    have hxq7 : Steady z xq7 := by
      unfold xq7
      refine State.wr_st ?_
      exact hxq6
    try clear_value xq7
    extract_lets +onlyGivenNames -underBinder -merge -useContext xq8
    try clear_value xq8
    extract_lets +onlyGivenNames -underBinder -merge -useContext xq9
    try clear_value xq9
    extract_lets +onlyGivenNames -underBinder -merge -useContext xq10
    have hxq10 : Steady z xq10 := by
      unfold xq10
      refine State.modStitch_st ?_
      exact hxq7
    try clear_value xq10
    extract_lets +onlyGivenNames -underBinder -merge -useContext xq11
    have hxq11 : Steady z xq11 := by
      unfold xq11
      refine State.refreshLegs_st ?_
      exact hxq10
    try clear_value xq11
    extract_lets +onlyGivenNames -underBinder -merge -useContext xq12
    try clear_value xq12
    extract_lets +onlyGivenNames -underBinder -merge -useContext xq13
    have hxq13 : Steady z xq13 := by
      unfold xq13
      refine State.setStitch_st ?_
      exact hxq11
    try clear_value xq13
    extract_lets +onlyGivenNames -underBinder -merge -useContext xq14
    have hxq14 : Steady z xq14 := by
      unfold xq14
      refine State.moveLegs_st ?_
      exact hxq13
    try clear_value xq14
    extract_lets +onlyGivenNames -underBinder -merge -useContext xq15
    have hxq15 : Steady z xq15 := by
      unfold xq15
      refine State.modStitch_st ?_
      exact hxq14
    try clear_value xq15
    refine State.auxPeriod_st ?_
    refine State.settleOut_st ?_
    exact hxq15

theorem State.periodStart_st {z : State} {s0} {x1} (h0 : Steady z s0) :
    Steady z (@State.periodStart s0 x1) := by
  unfold State.periodStart
  split
  · refine State.beginPeriod_st ?_
    exact h0
  · exact h0

theorem State.compareMatch_st {z : State} {s0} {x1} {x2} (h0 : Steady z s0) :
    Steady z (@State.compareMatch s0 x1 x2) := by
  unfold State.compareMatch
  extract_lets +onlyGivenNames -underBinder -merge -useContext xq1
  try clear_value xq1
  split
  · exact h0
  · extract_lets +onlyGivenNames -underBinder -merge -useContext xq2
    try clear_value xq2
    extract_lets +onlyGivenNames -underBinder -merge -useContext xq3
    try clear_value xq3
    extract_lets +onlyGivenNames -underBinder -merge -useContext xq4
    try clear_value xq4
    refine State.moveLegs_st ?_
    exact h0

theorem State.deadTimeEnd_st {z : State} {s0} {x1} {x2} (h0 : Steady z s0) :
    Steady z (@State.deadTimeEnd s0 x1 x2) := by
  unfold State.deadTimeEnd
  extract_lets +onlyGivenNames -underBinder -merge -useContext xq1
  try clear_value xq1
  split
  · exact h0
  · refine State.wr_st ?_
    exact h0

theorem State.loadSet_st {z : State} {s0} {x1} (h0 : Steady z s0) :
    Steady z (@State.loadSet s0 x1) := by
  unfold State.loadSet
  split
  · exact h0
  · extract_lets +onlyGivenNames -underBinder -merge -useContext xq1
    try clear_value xq1
    extract_lets +onlyGivenNames -underBinder -merge -useContext xq2
    try clear_value xq2
    extract_lets +onlyGivenNames -underBinder -merge -useContext xq3
    try clear_value xq3
    extract_lets +onlyGivenNames -underBinder -merge -useContext xq4
    have hxq4 : Steady z xq4 := by
      unfold xq4
      refine State.setStitch_st ?_
      exact h0
    try clear_value xq4
    refine State.moveLegs_st ?_
    exact hxq4

theorem State.stitchCutoff_st {z : State} {s0} {x1} {x2} (h0 : Steady z s0) :
    Steady z (@State.stitchCutoff s0 x1 x2) := by
  unfold State.stitchCutoff
  extract_lets +onlyGivenNames -underBinder -merge -useContext xq1
  try clear_value xq1
  extract_lets +onlyGivenNames -underBinder -merge -useContext xq2
  have hxq2 : Steady z xq2 := by
    unfold xq2
    refine State.modStitch_st ?_
    exact h0
  try clear_value xq2
  split
  · refine State.settleOut_st ?_
    refine State.wr_st ?_
    exact hxq2
  · exact hxq2

theorem State.periodWrite_st {z : State} {s0} {x1} {x2} (h0 : Steady z s0) :
    Steady z (@State.periodWrite s0 x1 x2) := by
  unfold State.periodWrite
  extract_lets +onlyGivenNames -underBinder -merge -useContext xq1
  try clear_value xq1
  extract_lets +onlyGivenNames -underBinder -merge -useContext xq2
  try clear_value xq2
  split
  · extract_lets +onlyGivenNames -underBinder -merge -useContext xq3
    try clear_value xq3
    refine State.modStitch_st ?_
    refine State.wr_st ?_
    exact h0
  · refine State.cfgRej_st ?_
    exact h0

theorem State.wroteNow_st {z : State} {s0} {x1} {x2} (h0 : Steady z s0) :
    Steady z (@State.wroteNow s0 x1 x2) := by
  unfold State.wroteNow
  refine State.modStitch_st ?_
  exact h0

theorem State.compareWrite_st {z : State} {s0} {x1} {x2} {x3} (h0 : Steady z s0) :
    Steady z (@State.compareWrite s0 x1 x2 x3) := by
  unfold State.compareWrite
  refine State.wroteNow_st ?_
  refine State.setReg_st ?_
  exact h0

theorem State.xcmpWrite_st {z : State} {s0} {x1} {x2} {x3} (h0 : Steady z s0) :
    Steady z (@State.xcmpWrite s0 x1 x2 x3) := by
  unfold State.xcmpWrite
  refine State.wroteNow_st ?_
  refine State.setReg_st ?_
  exact h0

theorem State.legoffWrite_st {z : State} {s0} {x1} {x2} (h0 : Steady z s0) :
    Steady z (@State.legoffWrite s0 x1 x2) := by
  unfold State.legoffWrite
  refine State.settleOut_st ?_
  refine State.wr_st ?_
  exact h0

theorem State.haltRise_st {z : State} {s0} (h0 : Steady z s0) :
    Steady z (@State.haltRise s0) := by
  unfold State.haltRise
  split
  · exact h0
  · refine State.forEach_st ?_ ?_
    · exact h0
    · intro b0 b1 hbq1
      split
      · refine State.modStitch_st ?_
        exact hbq1
      · exact hbq1

theorem State.stitchOff_st {z : State} {s0} {x1} (h0 : Steady z s0) :
    Steady z (@State.stitchOff s0 x1) := by
  unfold State.stitchOff
  extract_lets +onlyGivenNames -underBinder -merge -useContext xq1
  try clear_value xq1
  extract_lets +onlyGivenNames -underBinder -merge -useContext xq2
  have hxq2 : Steady z xq2 := by
    unfold xq2
    refine State.wr_st ?_
    refine State.wr_st ?_
    exact h0
  try clear_value xq2
  refine State.tripJudge_st ?_
  refine State.forEach_st ?_ ?_
  · exact hxq2
  · intro b0 b1 hbq3
    refine State.wr_st ?_
    exact hbq3

theorem State.stitchStart_st {z : State} {s0} {x1} (h0 : Steady z s0) :
    Steady z (@State.stitchStart s0 x1) := by
  unfold State.stitchStart
  refine State.modStitch_st ?_
  exact h0

theorem State.stitchRun_st {z : State} {s0} {x1} (h0 : Steady z s0) :
    Steady z (@State.stitchRun s0 x1) := by
  unfold State.stitchRun
  extract_lets +onlyGivenNames -underBinder -merge -useContext xq1
  try clear_value xq1
  extract_lets +onlyGivenNames -underBinder -merge -useContext xq2
  have hxq2 : Steady z xq2 := by
    unfold xq2
    refine State.setSt_st ?_
    exact h0
  try clear_value xq2
  split
  · refine State.freezeUnit_st ?_
    refine State.modStitch_st ?_
    refine State.wr_st ?_
    exact hxq2
  · refine State.beginPeriod_st ?_
    refine State.loadSet_st ?_
    exact hxq2

theorem State.setAcq_st {z : State} {s0} {x1} {x2} (h0 : Steady z s0) :
    Steady z (@State.setAcq s0 x1 x2) := by
  unfold State.setAcq
  refine State.wr_st ?_
  exact h0

theorem State.putUse_st {z : State} {s0} {x1} (h0 : Steady z s0) :
    Steady z (@State.putUse s0 x1) := by
  unfold State.putUse
  extract_lets +onlyGivenNames -underBinder -merge -useContext xq1
  try clear_value xq1
  refine State.wr_st ?_
  exact h0

theorem State.unfilled_st {z : State} {s0} {x1} {x2} (h0 : Steady z s0) :
    Steady z (@State.unfilled s0 x1 x2) := by
  unfold State.unfilled
  extract_lets +onlyGivenNames -underBinder -merge -useContext xq1
  have hxq1 : Steady z xq1 := by
    unfold xq1
    split
    · refine State.bumpE_st ?_
      exact h0
    · exact h0
  try clear_value xq1
  refine State.putUse_st ?_
  refine State.setAcq_st ?_
  exact hxq1

theorem State.stampDone_st {z : State} {s0} {x1} (h0 : Steady z s0) :
    Steady z (@State.stampDone s0 x1) := by
  unfold State.stampDone
  refine State.evt_st ?_
  refine State.unfilled_st ?_
  exact h0

theorem State.stampFreeze_st {z : State} {s0} {x1} (h0 : Steady z s0) :
    Steady z (@State.stampFreeze s0 x1) := by
  unfold State.stampFreeze
  refine State.wr_st ?_
  refine State.setSt_st ?_
  refine State.unfilled_st ?_
  exact h0

theorem State.stampError_st {z : State} {s0} {x1} {x2} (h0 : Steady z s0) :
    Steady z (@State.stampError s0 x1 x2) := by
  unfold State.stampError
  refine State.stampDone_st ?_
  refine State.fault_st ?_
  exact h0

theorem State.stampPut_st {z : State} {s0} {x1} {x2} {x3} (h0 : Steady z s0) :
    Steady z (@State.stampPut s0 x1 x2 x3).2 := by
  unfold State.stampPut
  extract_lets +onlyGivenNames -underBinder -merge -useContext xq1
  try clear_value xq1
  split
  · refine Steady.mk1 ?_
    refine State.stampFreeze_st ?_
    refine State.gateRecord_st ?_
    exact h0
  · split
    · rename_i e
      have hmq2 := Steady.of_snd (z := z) e (by
        refine State.writeMem_st ?_
        exact h0)
      refine Steady.mk1 ?_
      split
      · exact hmq2
      · refine State.stampError_st ?_
        exact hmq2

theorem State.stampGet_st {z : State} {s0} {x1} {x2} {x3} (h0 : Steady z s0) :
    Steady z (@State.stampGet s0 x1 x2 x3).2 := by
  unfold State.stampGet
  extract_lets +onlyGivenNames -underBinder -merge -useContext xq1
  try clear_value xq1
  split
  · refine Steady.mk1 ?_
    refine State.stampFreeze_st ?_
    refine State.gateRecord_st ?_
    exact h0
  · split
    · rename_i e
      have hmq2 := Steady.of_snd (z := z) e (by
        refine State.readMem_st ?_
        exact h0)
      refine Steady.mk1 ?_
      split
      · exact hmq2
      · refine State.stampError_st ?_
        exact hmq2

theorem State.snapField_st {z : State} {s0} {x1} {x2} (h0 : Steady z s0) :
    Steady z (@State.snapField s0 x1 x2).2 := by
  unfold State.snapField
  split
  · refine Steady.mk1 ?_
    exact h0
  · split
    · rename_i e
      have hmq1 := Steady.of_snd (z := z) e (by
        refine State.readMem_st ?_
        exact h0)
      refine Steady.mk1 ?_
      exact hmq1
    · rename_i e
      have hmq2 := Steady.of_snd (z := z) e (by
        refine State.readMem_st ?_
        exact h0)
      split
      · rename_i e
        have hmq3 := Steady.of_snd (z := z) e (by
          refine State.draw_st ?_
          exact hmq2)
        refine Steady.mk1 ?_
        exact hmq3

theorem State.readSig_st {z : State} {s0} {x1} {x2} {x3} (h0 : Steady z s0) :
    Steady z (@State.readSig s0 x1 x2 x3).2 := by
  unfold State.readSig
  extract_lets +onlyGivenNames -underBinder -merge -useContext xq1
  try clear_value xq1
  extract_lets +onlyGivenNames -underBinder -merge -useContext xq2
  try clear_value xq2
  extract_lets +onlyGivenNames -underBinder -merge -useContext xq3
  try clear_value xq3
  extract_lets +onlyGivenNames -underBinder -merge -useContext xq4
  try clear_value xq4
  extract_lets +onlyGivenNames -underBinder -merge -useContext xq5
  try clear_value xq5
  split
  · split
    · refine Steady.mk1 ?_
      exact h0
    · split
      · rename_i e
        have hmq6 := Steady.of_snd (z := z) e (by
          refine State.snapField_st ?_
          exact h0)
        refine Steady.mk1 ?_
        exact hmq6
  · refine Steady.mk1 ?_
    exact h0

theorem State.readSample_st {z : State} {s0} {x1} {x2} (h0 : Steady z s0) :
    Steady z (@State.readSample s0 x1 x2).2 := by
  unfold State.readSample
  refine Steady.foldl1 ?_ ?_
  · refine Steady.mk1 ?_
    exact h0
  · intro b0 b1 hbq1
    split
    · rename_i e
      have hmq2 := Steady.of_snd (z := z) e (by
        refine State.readSig_st ?_
        exact hbq1)
      refine Steady.mk1 ?_
      exact hmq2

theorem State.maskTest_st {z : State} {s0} {x1} {x2} (h0 : Steady z s0) :
    Steady z (@State.maskTest s0 x1 x2).2 := by
  unfold State.maskTest
  extract_lets +onlyGivenNames -underBinder -merge -useContext xq1
  try clear_value xq1
  split
  · refine Steady.mk1 ?_
    exact h0
  · extract_lets +onlyGivenNames -underBinder -merge -useContext xq2
    try clear_value xq2
    extract_lets +onlyGivenNames -underBinder -merge -useContext xq3
    try clear_value xq3
    split
    · rename_i e
      have hmq4 := Steady.of_snd (z := z) e (by
        refine State.stampGet_st ?_
        exact h0)
      split
      · refine Steady.mk1 ?_
        exact hmq4
      · extract_lets +onlyGivenNames -underBinder -merge -useContext xq5
        try clear_value xq5
        extract_lets +onlyGivenNames -underBinder -merge -useContext xq6
        try clear_value xq6
        extract_lets +onlyGivenNames -underBinder -merge -useContext xq7
        try clear_value xq7
        refine Steady.mk1 ?_
        split
        · refine State.evt_st ?_
          refine State.bumpE_st ?_
          exact hmq4
        · exact hmq4

theorem State.takeSlot_st {z : State} {s0} {x1} (h0 : Steady z s0) :
    Steady z (@State.takeSlot s0 x1).2 := by
  unfold State.takeSlot
  extract_lets +onlyGivenNames -underBinder -merge -useContext xq1
  try clear_value xq1
  extract_lets +onlyGivenNames -underBinder -merge -useContext xq2
  have hxq2 : Steady z xq2 := by
    unfold xq2
    refine State.modStamp_st ?_
    exact h0
  try clear_value xq2
  extract_lets +onlyGivenNames -underBinder -merge -useContext xq3
  have hxq3 : Steady z xq3 := by
    unfold xq3
    refine State.putUse_st ?_
    refine State.setAcq_st ?_
    exact hxq2
  try clear_value xq3
  refine State.stampPut_st ?_
  exact hxq3

theorem State.storeSample_st {z : State} {s0} {x1} {x2} {x3} (h0 : Steady z s0) :
    Steady z (@State.storeSample s0 x1 x2 x3).2 := by
  unfold State.storeSample
  extract_lets +onlyGivenNames -underBinder -merge -useContext xq1
  try clear_value xq1
  extract_lets +onlyGivenNames -underBinder -merge -useContext xq2
  try clear_value xq2
  split
  · rename_i e
    have hmq3 := Steady.of_snd (z := z) e (by
      refine State.stampPut_st ?_
      exact h0)
    refine Steady.mk1 ?_
    split
    · refine State.modStamp_st ?_
      exact hmq3
    · exact hmq3

theorem State.complete_st {z : State} {s0} {x1} (h0 : Steady z s0) :
    Steady z (@State.complete s0 x1) := by
  unfold State.complete
  extract_lets +onlyGivenNames -underBinder -merge -useContext xq1
  try clear_value xq1
  extract_lets +onlyGivenNames -underBinder -merge -useContext xq2
  try clear_value xq2
  extract_lets +onlyGivenNames -underBinder -merge -useContext xq3
  try clear_value xq3
  extract_lets +onlyGivenNames -underBinder -merge -useContext xq4
  try clear_value xq4
  extract_lets +onlyGivenNames -underBinder -merge -useContext xq5
  try clear_value xq5
  extract_lets +onlyGivenNames -underBinder -merge -useContext xq6
  try clear_value xq6
  extract_lets +onlyGivenNames -underBinder -merge -useContext xq7
  try clear_value xq7
  extract_lets +onlyGivenNames -underBinder -merge -useContext xq8
  try clear_value xq8
  extract_lets +onlyGivenNames -underBinder -merge -useContext xq9
  try clear_value xq9
  extract_lets +onlyGivenNames -underBinder -merge -useContext xq10
  try clear_value xq10
  split
  · rename_i e
    have hmq11 := Steady.of_snd (z := z) e (by
      refine State.stampPut_st ?_
      exact h0)
    split
    · exact hmq11
    · split
      · rename_i e
        have hmq12 := Steady.of_snd (z := z) e (by
          refine State.stampPut_st ?_
          exact hmq11)
        split
        · exact hmq12
        · extract_lets +onlyGivenNames -underBinder -merge -useContext xq13
          have hxq13 : Steady z xq13 := by
            unfold xq13
            refine State.evt_st ?_
            refine State.bumpE_st ?_
            exact hmq12
          try clear_value xq13
          extract_lets +onlyGivenNames -underBinder -merge -useContext xq14
          have hxq14 : Steady z xq14 := by
            unfold xq14
            refine State.wr_st ?_
            exact hxq13
          try clear_value xq14
          extract_lets +onlyGivenNames -underBinder -merge -useContext xq15
          have hxq15 : Steady z xq15 := by
            unfold xq15
            refine State.wr_st ?_
            exact hxq14
          try clear_value xq15
          extract_lets +onlyGivenNames -underBinder -merge -useContext xq16
          have hxq16 : Steady z xq16 := by
            unfold xq16
            refine State.wr_st ?_
            exact hxq15
          try clear_value xq16
          extract_lets +onlyGivenNames -underBinder -merge -useContext xq17
          have hxq17 : Steady z xq17 := by
            unfold xq17
            refine State.modStamp_st ?_
            exact hxq16
          try clear_value xq17
          extract_lets +onlyGivenNames -underBinder -merge -useContext xq18
          have hxq18 : Steady z xq18 := by
            unfold xq18
            refine State.putUse_st ?_
            refine State.setAcq_st ?_
            exact hxq17
          try clear_value xq18
          split
          · refine State.evt_st ?_
            exact hxq18
          · exact hxq18

theorem State.ignoreTrigger_st {z : State} {s0} {x1} (h0 : Steady z s0) :
    Steady z (@State.ignoreTrigger s0 x1) := by
  unfold State.ignoreTrigger
  extract_lets +onlyGivenNames -underBinder -merge -useContext xq1
  try clear_value xq1
  refine State.modStamp_st ?_
  refine State.bumpE_st ?_
  exact h0

theorem State.afterStore_st {z : State} {s0} {x1} {x2} {x3} (h0 : Steady z s0) :
    Steady z (@State.afterStore s0 x1 x2 x3) := by
  unfold State.afterStore
  extract_lets +onlyGivenNames -underBinder -merge -useContext xq1
  try clear_value xq1
  extract_lets +onlyGivenNames -underBinder -merge -useContext xq2
  try clear_value xq2
  extract_lets +onlyGivenNames -underBinder -merge -useContext xq3
  try clear_value xq3
  extract_lets +onlyGivenNames -underBinder -merge -useContext xq4
  have hxq4 : Steady z xq4 := by
    unfold xq4
    refine State.modStamp_st ?_
    exact h0
  try clear_value xq4
  extract_lets +onlyGivenNames -underBinder -merge -useContext xq5
  have hxq5 : Steady z xq5 := by
    unfold xq5
    split
    · refine State.ignoreTrigger_st ?_
      exact h0
    · exact h0
  try clear_value xq5
  extract_lets +onlyGivenNames -underBinder -merge -useContext xq6
  have hxq6 : Steady z xq6 := by
    unfold xq6
    refine State.modStamp_st ?_
    exact hxq5
  try clear_value xq6
  extract_lets +onlyGivenNames -underBinder -merge -useContext xq7
  have hxq7 : Steady z xq7 := by
    unfold xq7
    split
    · exact h0
    · split
      · refine State.evt_st ?_
        refine State.setAcq_st ?_
        exact hxq4
      · split
        · refine State.setAcq_st ?_
          exact hxq6
        · exact hxq6
  try clear_value xq7
  split
  · extract_lets +onlyGivenNames -underBinder -merge -useContext xq8
    have hxq8 : Steady z xq8 := by
      unfold xq8
      refine State.modStamp_st ?_
      exact hxq7
    try clear_value xq8
    split
    · refine State.complete_st ?_
      exact hxq8
    · exact hxq8
  · split
    · refine State.stampDone_st ?_
      exact hxq7
    · exact hxq7

theorem State.stampStep_st {z : State} {s0} {x1} {x2} {x3} (h0 : Steady z s0) :
    Steady z (@State.stampStep s0 x1 x2 x3) := by
  unfold State.stampStep
  extract_lets +onlyGivenNames -underBinder -merge -useContext xq1
  try clear_value xq1
  split
  · rename_i e
    have hmq2 := Steady.of_snd (z := z) e (by
      refine State.readSample_st ?_
      exact h0)
    split
    · rename_i e
      have hmq3 := Steady.of_snd (z := z) e (by
        refine State.maskTest_st ?_
        exact hmq2)
      split
      · exact hmq3
      · extract_lets +onlyGivenNames -underBinder -merge -useContext xq4
        try clear_value xq4
        extract_lets +onlyGivenNames -underBinder -merge -useContext xq5
        try clear_value xq5
        extract_lets +onlyGivenNames -underBinder -merge -useContext xq6
        have hxq6 : Steady z xq6 := by
          unfold xq6
          refine State.modStamp_st ?_
          exact hmq3
        try clear_value xq6
        split
        · rename_i e
          have hmq7 := Steady.of_snd (z := z) e (by
            split
            · split
              · refine State.takeSlot_st ?_
                exact hxq6
              · refine Steady.mk1 ?_
                refine State.bumpE_st ?_
                exact hxq6
            · refine Steady.mk1 ?_
              exact hxq6)
          split
          · exact hmq7
          · split
            · split
              · rename_i e
                have hmq8 := Steady.of_snd (z := z) e (by
                  refine State.storeSample_st ?_
                  exact hmq7)
                split
                · refine State.afterStore_st ?_
                  exact hmq8
                · exact hmq8
            · split
              · refine State.stampDone_st ?_
                exact hmq7
              · exact hmq7

theorem State.stampArm_st {z : State} {s0} {x1} (h0 : Steady z s0) :
    Steady z (@State.stampArm s0 x1) := by
  unfold State.stampArm
  extract_lets +onlyGivenNames -underBinder -merge -useContext xq1
  try clear_value xq1
  split
  · extract_lets +onlyGivenNames -underBinder -merge -useContext xq2
    have hxq2 : Steady z xq2 := by
      unfold xq2
      refine State.wr_st ?_
      exact h0
    try clear_value xq2
    extract_lets +onlyGivenNames -underBinder -merge -useContext xq3
    have hxq3 : Steady z xq3 := by
      unfold xq3
      refine State.modStamp_st ?_
      exact hxq2
    try clear_value xq3
    refine State.setAcq_st ?_
    exact hxq3
  · refine State.cfgRej_st ?_
    exact h0

theorem State.stampForce_st {z : State} {s0} {x1} (h0 : Steady z s0) :
    Steady z (@State.stampForce s0 x1) := by
  unfold State.stampForce
  extract_lets +onlyGivenNames -underBinder -merge -useContext xq1
  try clear_value xq1
  split
  · refine State.modStamp_st ?_
    exact h0
  · exact h0

theorem State.stampAbort_st {z : State} {s0} {x1} (h0 : Steady z s0) :
    Steady z (@State.stampAbort s0 x1) := by
  unfold State.stampAbort
  refine State.unfilled_st ?_
  exact h0

theorem State.stampRelease_st {z : State} {s0} {x1} {x2} (h0 : Steady z s0) :
    Steady z (@State.stampRelease s0 x1 x2) := by
  unfold State.stampRelease
  extract_lets +onlyGivenNames -underBinder -merge -useContext xq1
  try clear_value xq1
  extract_lets +onlyGivenNames -underBinder -merge -useContext xq2
  try clear_value xq2
  split
  · refine State.cfgRej_st ?_
    exact h0
  · split
    · exact h0
    · extract_lets +onlyGivenNames -underBinder -merge -useContext xq3
      have hxq3 : Steady z xq3 := by
        unfold xq3
        refine State.wr_st ?_
        exact h0
      try clear_value xq3
      extract_lets +onlyGivenNames -underBinder -merge -useContext xq4
      have hxq4 : Steady z xq4 := by
        unfold xq4
        refine State.wr_st ?_
        exact hxq3
      try clear_value xq4
      refine State.putUse_st ?_
      exact hxq4

theorem State.stampQuota_st {z : State} {s0} {x1} {x2} (h0 : Steady z s0) :
    Steady z (@State.stampQuota s0 x1 x2) := by
  unfold State.stampQuota
  extract_lets +onlyGivenNames -underBinder -merge -useContext xq1
  try clear_value xq1
  split
  · refine State.cfgRej_st ?_
    exact h0
  · refine State.wr_st ?_
    exact h0

theorem State.stampCtl_st {z : State} {s0} {x1} {x2} (h0 : Steady z s0) :
    Steady z (@State.stampCtl s0 x1 x2) := by
  unfold State.stampCtl
  extract_lets +onlyGivenNames -underBinder -merge -useContext xq1
  have hxq1 : Steady z xq1 := by
    unfold xq1
    split
    · refine State.stampAbort_st ?_
      exact h0
    · exact h0
  try clear_value xq1
  extract_lets +onlyGivenNames -underBinder -merge -useContext xq2
  have hxq2 : Steady z xq2 := by
    unfold xq2
    split
    · refine State.stampArm_st ?_
      exact hxq1
    · exact hxq1
  try clear_value xq2
  split
  · refine State.stampForce_st ?_
    exact hxq2
  · exact hxq2

theorem State.stampAct_st {z : State} {s0} {x1} {x2} (h0 : Steady z s0) :
    Steady z (@State.stampAct s0 x1 x2) := by
  unfold State.stampAct
  split
  · refine State.stampCtl_st ?_
    exact h0
  · split
    · refine State.stampRelease_st ?_
      exact h0
    · refine State.stampQuota_st ?_
      exact h0

theorem State.stampCommand_st {z : State} {s0} {x1} {x2} {x3} (h0 : Steady z s0) :
    Steady z (@State.stampCommand s0 x1 x2 x3) := by
  unfold State.stampCommand
  split
  · refine State.modStamp_st ?_
    exact h0
  · refine State.stampAct_st ?_
    exact h0

theorem State.stampLate_st {z : State} {s0} {x1} (h0 : Steady z s0) :
    Steady z (@State.stampLate s0 x1) := by
  unfold State.stampLate
  extract_lets +onlyGivenNames -underBinder -merge -useContext xq1
  try clear_value xq1
  split
  · exact h0
  · refine State.forEach_st ?_ ?_
    · refine State.modStamp_st ?_
      exact h0
    · intro b0 b1 hbq2
      refine State.stampAct_st ?_
      exact hbq2

theorem State.stampUnit_st {z : State} {s0} {x1} {x2} {x3} {x4} (h0 : Steady z s0) :
    Steady z (@State.stampUnit s0 x1 x2 x3 x4) := by
  unfold State.stampUnit
  extract_lets +onlyGivenNames -underBinder -merge -useContext xq1
  try clear_value xq1
  extract_lets +onlyGivenNames -underBinder -merge -useContext xq2
  try clear_value xq2
  extract_lets +onlyGivenNames -underBinder -merge -useContext xq3
  try clear_value xq3
  extract_lets +onlyGivenNames -underBinder -merge -useContext xq4
  try clear_value xq4
  extract_lets +onlyGivenNames -underBinder -merge -useContext xq5
  try clear_value xq5
  extract_lets +onlyGivenNames -underBinder -merge -useContext xq6
  try clear_value xq6
  extract_lets +onlyGivenNames -underBinder -merge -useContext xq7
  have hxq7 : Steady z xq7 := by
    unfold xq7
    split
    · refine State.modStamp_st ?_
      exact h0
    · exact h0
  try clear_value xq7
  extract_lets +onlyGivenNames -underBinder -merge -useContext xq8
  have hxq8 : Steady z xq8 := by
    unfold xq8
    split
    · refine State.stampStep_st ?_
      exact hxq7
    · exact hxq7
  try clear_value xq8
  refine State.stampLate_st ?_
  exact hxq8

theorem State.stampCutoff_st {z : State} {s0} {x1} {x2} {x3} (h0 : Steady z s0) :
    Steady z (@State.stampCutoff s0 x1 x2 x3) := by
  unfold State.stampCutoff
  refine State.forEach_st ?_ ?_
  · exact h0
  · intro b0 b1 hbq1
    refine State.stampUnit_st ?_
    exact hbq1

theorem State.noteDi_st {z : State} {s0} {x1} (h0 : Steady z s0) :
    Steady z (@State.noteDi s0 x1) := by
  unfold State.noteDi
  refine State.forEach_st ?_ ?_
  · exact h0
  · intro b0 b1 hbq1
    extract_lets +onlyGivenNames -underBinder -merge -useContext xq2
    try clear_value xq2
    split
    · refine State.modStamp_st ?_
      exact hbq1
    · exact hbq1

theorem State.noteTpin_st {z : State} {s0} {x1} (h0 : Steady z s0) :
    Steady z (@State.noteTpin s0 x1) := by
  unfold State.noteTpin
  refine State.forEach_st ?_ ?_
  · exact h0
  · intro b0 b1 hbq1
    split
    · refine State.modStamp_st ?_
      exact hbq1
    · exact hbq1

theorem State.stampStart_st {z : State} {s0} {x1} (h0 : Steady z s0) :
    Steady z (@State.stampStart s0 x1) := by
  unfold State.stampStart
  extract_lets +onlyGivenNames -underBinder -merge -useContext xq1
  try clear_value xq1
  extract_lets +onlyGivenNames -underBinder -merge -useContext xq2
  have hxq2 : Steady z xq2 := by
    unfold xq2
    refine State.setReg_st ?_
    refine State.setReg_st ?_
    refine State.setReg_st ?_
    exact h0
  try clear_value xq2
  extract_lets +onlyGivenNames -underBinder -merge -useContext xq3
  have hxq3 : Steady z xq3 := by
    unfold xq3
    refine State.setReg_st ?_
    exact hxq2
  try clear_value xq3
  refine State.setStamp_st ?_
  refine State.setAcq_st ?_
  exact hxq3

theorem State.timeRefused_st {z : State} {s0} {x1} (h0 : Steady z s0) :
    Steady z (@State.timeRefused s0 x1) := by
  unfold State.timeRefused
  refine State.faultU_st ?_
  refine State.evt_st ?_
  refine State.bump_st ?_
  exact h0

theorem State.timeStage_st {z : State} {s0} {x1} (h0 : Steady z s0) :
    Steady z (@State.timeStage s0 x1) := by
  unfold State.timeStage
  apply Steady.of_eq
  · exact h0
  all_goals rfl

theorem State.rateSet_st {z : State} {s0} {x1} (h0 : Steady z s0) :
    Steady z (@State.rateSet s0 x1) := by
  unfold State.rateSet
  refine State.timeStage_st ?_
  refine State.setReg_st ?_
  exact h0

theorem State.timeChange_st {z : State} {s0} {x1} (h0 : Steady z s0) :
    Steady z (@State.timeChange s0 x1) := by
  unfold State.timeChange
  split
  · apply Steady.of_eq
    · exact h0
    all_goals rfl
  · apply Steady.of_eq
    · exact h0
    all_goals rfl
  · apply Steady.of_eq
    · exact h0
    all_goals rfl

theorem State.timeEdge_st {z : State} {s0} (h0 : Steady z s0) :
    Steady z (@State.timeEdge s0) := by
  unfold State.timeEdge
  extract_lets +onlyGivenNames -underBinder -merge -useContext a s1
  have h1 : Steady z s1 := h0.of_eq rfl rfl rfl rfl rfl rfl rfl rfl
  clear_value s1
  refine Steady.ite h1 ?_
  extract_lets +onlyGivenNames -underBinder -merge -useContext past s2
  have h2 : Steady z s2 := forEach_st h1 fun _ _ h => timeChange_st h
  exact h2.of_eq rfl rfl rfl rfl rfl rfl rfl rfl

theorem State.rateWrite_st {z : State} {s0} {x1} {x2} (h0 : Steady z s0) :
    Steady z (@State.rateWrite s0 x1 x2) := by
  unfold State.rateWrite
  split
  · refine State.timeRefused_st ?_
    exact h0
  · split
    · refine State.timeRefused_st ?_
      exact h0
    · refine State.rateSet_st ?_
      exact h0

theorem State.offloWrite_st {z : State} {s0} {x1} {x2} (h0 : Steady z s0) :
    Steady z (@State.offloWrite s0 x1 x2) := by
  unfold State.offloWrite
  split
  · refine State.timeRefused_st ?_
    exact h0
  · apply Steady.of_eq
    · exact h0
    all_goals rfl

theorem State.steploWrite_st {z : State} {s0} {x1} {x2} (h0 : Steady z s0) :
    Steady z (@State.steploWrite s0 x1 x2) := by
  unfold State.steploWrite
  split
  · refine State.timeRefused_st ?_
    exact h0
  · apply Steady.of_eq
    · exact h0
    all_goals rfl

theorem State.offhiWrite_st {z : State} {s0} {x1} {x2} (h0 : Steady z s0) :
    Steady z (@State.offhiWrite s0 x1 x2) := by
  unfold State.offhiWrite
  split
  · refine State.timeRefused_st ?_
    exact h0
  · split
    · refine State.timeRefused_st ?_
      exact h0
    · refine State.timeStage_st ?_
      exact h0

theorem State.stephiWrite_st {z : State} {s0} {x1} {x2} (h0 : Steady z s0) :
    Steady z (@State.stephiWrite s0 x1 x2) := by
  unfold State.stephiWrite
  split
  · refine State.timeRefused_st ?_
    exact h0
  · split
    · refine State.timeRefused_st ?_
      exact h0
    · refine State.timeStage_st ?_
      exact h0

theorem State.latchHigh_st {z : State} {s0} {x1} {x2} {x3} (h0 : Steady z s0) :
    Steady z (@State.latchHigh s0 x1 x2 x3) := by
  unfold State.latchHigh
  apply Steady.of_eq
  · exact h0
  all_goals rfl

theorem State.answer_st {z : State} {s0} {x1} (h0 : Steady z s0) :
    Steady z (@State.answer s0 x1) := by
  unfold State.answer
  apply Steady.of_eq
  · exact h0
  all_goals rfl

theorem State.nowloRead_st {z : State} {s0} {x1} (h0 : Steady z s0) :
    Steady z (@State.nowloRead s0 x1) := by
  unfold State.nowloRead
  extract_lets +onlyGivenNames -underBinder -merge -useContext xq1
  try clear_value xq1
  refine State.answer_st ?_
  apply Steady.of_eq
  · exact h0
  all_goals rfl

theorem State.offloRead_st {z : State} {s0} {x1} (h0 : Steady z s0) :
    Steady z (@State.offloRead s0 x1) := by
  unfold State.offloRead
  refine State.answer_st ?_
  refine State.latchHigh_st ?_
  exact h0

theorem State.rrefloRead_st {z : State} {s0} {x1} (h0 : Steady z s0) :
    Steady z (@State.rrefloRead s0 x1) := by
  unfold State.rrefloRead
  refine State.answer_st ?_
  refine State.latchHigh_st ?_
  exact h0

theorem State.cycloRead_st {z : State} {s0} {x1} (h0 : Steady z s0) :
    Steady z (@State.cycloRead s0 x1) := by
  unfold State.cycloRead
  refine State.answer_st ?_
  refine State.latchHigh_st ?_
  exact h0

theorem State.tgtloRead_st {z : State} {s0} {x1} {x2} (h0 : Steady z s0) :
    Steady z (@State.tgtloRead s0 x1 x2) := by
  unfold State.tgtloRead
  refine State.answer_st ?_
  refine State.latchHigh_st ?_
  exact h0

theorem State.pinLate_st {z : State} {s0} {x1} (h0 : Steady z s0) :
    Steady z (@State.pinLate s0 x1) := by
  unfold State.pinLate
  refine State.evt_st ?_
  refine State.wr_st ?_
  exact h0

theorem State.pinCtl_st {z : State} {s0} {x1} {x2} {x3} (h0 : Steady z s0) :
    Steady z (@State.pinCtl s0 x1 x2 x3) := by
  unfold State.pinCtl
  extract_lets +onlyGivenNames -underBinder -merge -useContext xq1
  have hxq1 : Steady z xq1 := by
    unfold xq1
    refine State.wr_st ?_
    exact h0
  try clear_value xq1
  split
  · exact hxq1
  · refine State.wr_st ?_
    exact hxq1

theorem State.pinArm_st {z : State} {s0} {x1} {x2} {x3} (h0 : Steady z s0) :
    Steady z (@State.pinArm s0 x1 x2 x3) := by
  unfold State.pinArm
  extract_lets +onlyGivenNames -underBinder -merge -useContext xq1
  have hxq1 : Steady z xq1 := by
    unfold xq1
    refine State.pinCtl_st ?_
    exact h0
  try clear_value xq1
  split
  · refine State.cfgRej_st ?_
    refine State.wr_st ?_
    exact hxq1
  · split
    · refine State.pinLate_st ?_
      refine State.wr_st ?_
      exact hxq1
    · refine State.wr_st ?_
      exact hxq1

theorem State.pinDisarm_st {z : State} {s0} {x1} {x2} {x3} (h0 : Steady z s0) :
    Steady z (@State.pinDisarm s0 x1 x2 x3) := by
  unfold State.pinDisarm
  refine State.wr_st ?_
  refine State.pinCtl_st ?_
  exact h0

theorem State.pulseBegin_st {z : State} {s0} {x1} (h0 : Steady z s0) :
    Steady z (@State.pulseBegin s0 x1) := by
  unfold State.pulseBegin
  extract_lets +onlyGivenNames -underBinder -merge -useContext xq1
  try clear_value xq1
  apply Steady.of_eq
  · exact h0
  all_goals rfl

theorem State.pinFire_st {z : State} {s0} {x1} (h0 : Steady z s0) :
    Steady z (@State.pinFire s0 x1) := by
  unfold State.pinFire
  extract_lets +onlyGivenNames -underBinder -merge -useContext xq1
  try clear_value xq1
  split
  · extract_lets +onlyGivenNames -underBinder -merge -useContext xq2
    try clear_value xq2
    extract_lets +onlyGivenNames -underBinder -merge -useContext xq3
    try clear_value xq3
    extract_lets +onlyGivenNames -underBinder -merge -useContext xq4
    have hxq4 : Steady z xq4 := by
      unfold xq4
      split
      · refine State.wr_st ?_
        exact h0
      · refine State.bumpBy_st ?_
        refine State.setReg_st ?_
        refine State.setReg_st ?_
        exact h0
    try clear_value xq4
    extract_lets +onlyGivenNames -underBinder -merge -useContext xq5
    have hxq5 : Steady z xq5 := by
      unfold xq5
      refine State.pulseBegin_st ?_
      refine State.evt_st ?_
      refine State.wr_st ?_
      refine State.wr_st ?_
      exact hxq4
    try clear_value xq5
    extract_lets +onlyGivenNames -underBinder -merge -useContext xq6
    have hxq6 : Steady z xq6 := by
      unfold xq6
      refine State.noteTpin_st ?_
      exact hxq5
    try clear_value xq6
    split
    · refine State.pinLate_st ?_
      exact hxq6
    · exact hxq6
  · exact h0

theorem State.pulseOff_st {z : State} {s0} {x1} (h0 : Steady z s0) :
    Steady z (@State.pulseOff s0 x1) := by
  unfold State.pulseOff
  refine State.wr_st ?_
  exact h0

theorem State.pulseEnd_st {z : State} {s0} {x1} (h0 : Steady z s0) :
    Steady z (@State.pulseEnd s0 x1) := by
  unfold State.pulseEnd
  split
  · refine State.pulseOff_st ?_
    exact h0
  · exact h0

theorem State.tpinHalt_st {z : State} {s0} (h0 : Steady z s0) :
    Steady z (@State.tpinHalt s0) := by
  unfold State.tpinHalt
  refine State.forEach_st ?_ ?_
  · exact h0
  · intro b0 b1 hbq1
    refine State.pulseOff_st ?_
    refine State.wr_st ?_
    exact hbq1

end Sys2Proof.Machine
end

