-- ==== Sys2Proof/Laws/SteadyPair.lean ====
section
/-! SUPPORT. Steadiness (Sys2Proof/Laws/Steady.lean) of the operations of Latigo: each keeps the queue, the raw counter and the canonical forms. -/
namespace Sys2Proof.Machine
open State

theorem State.sendTether_st {z : State} {s0} {x1} {x2} {x3} (h0 : Steady z s0) :
    Steady z (@State.sendTether s0 x1 x2 x3) := by
  unfold State.sendTether
  split
  · extract_lets +onlyGivenNames -underBinder -merge -useContext xq1
    try clear_value xq1
    refine State.send_st ?_
    exact h0
  · exact h0

theorem State.sendImage_st {z : State} {s0} {x1} {x2} {x3} (h0 : Steady z s0) :
    Steady z (@State.sendImage s0 x1 x2 x3) := by
  unfold State.sendImage
  split
  · extract_lets +onlyGivenNames -underBinder -merge -useContext xq1
    try clear_value xq1
    refine State.send_st ?_
    exact h0
  · exact h0

theorem State.modLat_st {z : State} {s0} {x1} (h0 : Steady z s0) :
    Steady z (@State.modLat s0 x1) := by
  unfold State.modLat
  apply Steady.of_eq
  · exact h0
  all_goals rfl

theorem State.setPstate_st {z : State} {s0} {x1} (h0 : Steady z s0) :
    Steady z (@State.setPstate s0 x1) := by
  unfold State.setPstate
  extract_lets +onlyGivenNames -underBinder -merge -useContext xq1
  have hxq1 : Steady z xq1 := by
    unfold xq1
    refine State.wr_st ?_
    exact h0
  try clear_value xq1
  split
  · refine State.evt_st ?_
    exact hxq1
  · exact hxq1

theorem State.setRole_st {z : State} {s0} {x1} (h0 : Steady z s0) :
    Steady z (@State.setRole s0 x1) := by
  unfold State.setRole
  refine State.wr_st ?_
  exact h0

theorem State.setLocked_st {z : State} {s0} {x1} (h0 : Steady z s0) :
    Steady z (@State.setLocked s0 x1) := by
  unfold State.setLocked
  extract_lets +onlyGivenNames -underBinder -merge -useContext xq1
  have hxq1 : Steady z xq1 := by
    unfold xq1
    refine State.wr_st ?_
    exact h0
  try clear_value xq1
  split
  · refine State.evt_st ?_
    exact hxq1
  · exact hxq1

theorem State.twinSeen_st {z : State} {s0} (h0 : Steady z s0) :
    Steady z (@State.twinSeen s0) := by
  unfold State.twinSeen
  extract_lets +onlyGivenNames -underBinder -merge -useContext xq1
  have hxq1 : Steady z xq1 := by
    unfold xq1
    refine State.modLat_st ?_
    refine State.wr_st ?_
    exact h0
  try clear_value xq1
  split
  · exact hxq1
  · refine State.evt_st ?_
    exact hxq1

theorem State.takeTether_st {z : State} {s0} {x1} {x2} {x3} {s4} (h0 : Steady z s0) (h4 : ∀ y0, Steady z y0 → Steady z (s4 y0)) :
    Steady z (@State.takeTether s0 x1 x2 x3 s4) := by
  unfold State.takeTether
  split
  · exact h0
  · split
    · refine State.bumpE_st ?_
      exact h0
    · split
      · exact h0
      · refine h4 _ ?_
        · refine State.twinSeen_st ?_
          exact h0

theorem State.sendRreq_st {z : State} {s0} {x1} (h0 : Steady z s0) :
    Steady z (@State.sendRreq s0 x1) := by
  unfold State.sendRreq
  refine State.sendTether_st ?_
  exact h0

theorem State.planeCopy_st {z : State} {s0} (h0 : Steady z s0) :
    Steady z (@State.planeCopy s0) := by
  unfold State.planeCopy
  refine State.sendRreq_st ?_
  refine State.modLat_st ?_
  exact h0

theorem State.diverge_st {z : State} {s0} {x1} (h0 : Steady z s0) :
    Steady z (@State.diverge s0 x1) := by
  unfold State.diverge
  extract_lets +onlyGivenNames -underBinder -merge -useContext xq1
  have hxq1 : Steady z xq1 := by
    unfold xq1
    refine State.evt_st ?_
    refine State.faultU_st ?_
    exact h0
  try clear_value xq1
  split
  · exact hxq1
  · refine State.planeCopy_st ?_
    split
    · exact hxq1
    · refine State.setPstate_st ?_
      exact hxq1

theorem State.invalidatePort_st {z : State} {s0} {x1} (h0 : Steady z s0) :
    Steady z (@State.invalidatePort s0 x1) := by
  unfold State.invalidatePort
  extract_lets +onlyGivenNames -underBinder -merge -useContext xq1
  try clear_value xq1
  refine State.sendRreq_st ?_
  refine State.modLat_st ?_
  exact h0

theorem State.giveAgain_st {z : State} {s0} {x1} (h0 : Steady z s0) :
    Steady z (@State.giveAgain s0 x1) := by
  unfold State.giveAgain
  refine State.modLat_st ?_
  exact h0

theorem State.giveOne_st {z : State} {s0} {x1} {x2} (h0 : Steady z s0) :
    Steady z (@State.giveOne s0 x1 x2) := by
  unfold State.giveOne
  split
  · split
    · extract_lets +onlyGivenNames -underBinder -merge -useContext xq1
      have hxq1 : Steady z xq1.2 := by
        unfold xq1
        refine State.fixRead_st ?_
        exact h0
      try clear_value xq1
      split
      · refine State.sendImage_st ?_
        exact hxq1
      · refine State.giveAgain_st ?_
        exact hxq1
    · exact h0
  · extract_lets +onlyGivenNames -underBinder -merge -useContext xq2
    have hxq2 : Steady z xq2.2 := by
      unfold xq2
      refine State.fixRead_st ?_
      exact h0
    try clear_value xq2
    split
    · refine State.sendTether_st ?_
      exact hxq2
    · refine State.giveAgain_st ?_
      exact hxq2
  · refine State.sendImage_st ?_
    exact h0
  · refine State.sendImage_st ?_
    exact h0

theorem State.latGive_st {z : State} {s0} (h0 : Steady z s0) :
    Steady z (@State.latGive s0) := by
  unfold State.latGive
  split
  · exact h0
  · extract_lets +onlyGivenNames -underBinder -merge -useContext xq1
    try clear_value xq1
    extract_lets +onlyGivenNames -underBinder -merge -useContext xq2
    try clear_value xq2
    refine State.forEach_st ?_ ?_
    · refine State.modLat_st ?_
      exact h0
    · intro b0 b1 hbq3
      refine State.giveOne_st ?_
      exact hbq3

theorem State.rreqReceive_st {z : State} {s0} {x1} (h0 : Steady z s0) :
    Steady z (@State.rreqReceive s0 x1) := by
  unfold State.rreqReceive
  refine State.takeTether_st ?_ ?_
  · exact h0
  · intro b0 hbq1
    extract_lets +onlyGivenNames -underBinder -merge -useContext xq2
    try clear_value xq2
    extract_lets +onlyGivenNames -underBinder -merge -useContext xq3
    try clear_value xq3
    extract_lets +onlyGivenNames -underBinder -merge -useContext xq4
    try clear_value xq4
    refine State.latGive_st ?_
    refine State.modLat_st ?_
    exact hbq1

theorem State.copyReceive_st {z : State} {s0} {x1} (h0 : Steady z s0) :
    Steady z (@State.copyReceive s0 x1) := by
  unfold State.copyReceive
  exact Steady.ite h0 (Steady.ite (sendRreq_st (bumpE_st h0)) (modLat_st h0))

theorem State.rcopyReceive_st {z : State} {s0} {x1} {x2} (h0 : Steady z s0) :
    Steady z (@State.rcopyReceive s0 x1 x2) := by
  unfold State.rcopyReceive
  refine State.takeTether_st ?_ ?_
  · exact h0
  · intro b0 hbq1
    extract_lets +onlyGivenNames -underBinder -merge -useContext xq2
    try clear_value xq2
    refine State.copyReceive_st ?_
    exact hbq1

theorem State.rblockReceive_st {z : State} {s0} {x1} {x2} (h0 : Steady z s0) :
    Steady z (@State.rblockReceive s0 x1 x2) := by
  unfold State.rblockReceive
  refine State.takeTether_st ?_ ?_
  · exact h0
  · intro b0 hbq1
    extract_lets +onlyGivenNames -underBinder -merge -useContext xq2
    try clear_value xq2
    extract_lets +onlyGivenNames -underBinder -merge -useContext xq3
    try clear_value xq3
    refine State.copyReceive_st ?_
    exact hbq1

theorem State.copyInstall_st {z : State} {s0} {x1} {x2} (h0 : Steady z s0) :
    Steady z (@State.copyInstall s0 x1 x2) := by
  unfold State.copyInstall
  refine State.copiesInstall_st ?_
  exact h0

theorem State.cmdtailWrite_st {z : State} {s0} {x1} {x2} (h0 : Steady z s0) :
    Steady z (@State.cmdtailWrite s0 x1 x2) := by
  unfold State.cmdtailWrite
  split
  · refine State.cfgRej_st ?_
    exact h0
  · refine State.wr_st ?_
    exact h0

theorem State.sendCmd_st {z : State} {s0} {x1} {x2} (h0 : Steady z s0) :
    Steady z (@State.sendCmd s0 x1 x2) := by
  induction x1 generalizing s0 x2 with
  | zero => exact h0
  | succ k ih =>
    rw [State.sendCmd]
    split
    · exact h0
    · exact ih (sendTether_st h0)

theorem State.takeEntries_st {z : State} {s0} {x1} {x2} (h0 : Steady z s0) :
    Steady z (@State.takeEntries s0 x1 x2).2 := by
  induction x2 generalizing s0 with
  | zero => exact h0
  | succ k ih =>
    rw [State.takeEntries]
    split
    split
    · exact h0
    split
    · exact ih (modLat_st h0)
    · extract_lets a n
      split
      rename_i i q _ _ bytes s e
      have hs : Steady z s := Steady.of_snd e (fixRead_st h0)
      extract_lets bs ap ap' bs' s2 s3 r
      have h2 : Steady z s2 := by
        unfold s2
        split
        · exact hs
        · exact fixPut_st hs
      exact ih (modLat_st h2)

theorem State.latForward_st {z : State} {s0} (h0 : Steady z s0) :
    Steady z (@State.latForward s0) := by
  unfold State.latForward
  split
  · exact h0
  · refine State.forEach_st ?_ ?_
    · exact h0
    · intro b0 b1 hbq1
      split
      · extract_lets +onlyGivenNames -underBinder -merge -useContext xq2
        have hxq2 : Steady z xq2.2 := by
          unfold xq2
          refine State.takeEntries_st ?_
          exact hbq1
        try clear_value xq2
        extract_lets +onlyGivenNames -underBinder -merge -useContext xq3
        have hxq3 : Steady z xq3 := by
          unfold xq3
          refine State.bumpByE_st ?_
          exact hxq2
        try clear_value xq3
        refine State.sendCmd_st ?_
        refine State.modLat_st ?_
        exact hxq3
      · exact hbq1

theorem State.cmdResend_st {z : State} {s0} {x1} (h0 : Steady z s0) :
    Steady z (@State.cmdResend s0 x1) := by
  unfold State.cmdResend
  extract_lets +onlyGivenNames -underBinder -merge -useContext xq1
  try clear_value xq1
  extract_lets +onlyGivenNames -underBinder -merge -useContext xq2
  try clear_value xq2
  extract_lets +onlyGivenNames -underBinder -merge -useContext xq3
  have hxq3 : Steady z xq3 := by
    unfold xq3
    refine State.modLat_st ?_
    exact h0
  try clear_value xq3
  refine State.forEach_st ?_ ?_
  · exact hxq3
  · intro b0 b1 hbq4
    extract_lets +onlyGivenNames -underBinder -merge -useContext xq5
    try clear_value xq5
    refine State.sendCmd_st ?_
    refine State.bumpByE_st ?_
    exact hbq4

theorem State.takeForwarded_st {z : State} {s0} {x1} {x2} {x3} (h0 : Steady z s0) :
    Steady z (@State.takeForwarded s0 x1 x2 x3) := by
  unfold State.takeForwarded
  extract_lets +onlyGivenNames -underBinder -merge -useContext xq1
  try clear_value xq1
  extract_lets +onlyGivenNames -underBinder -merge -useContext xq2
  try clear_value xq2
  extract_lets +onlyGivenNames -underBinder -merge -useContext xq3
  try clear_value xq3
  extract_lets +onlyGivenNames -underBinder -merge -useContext xq4
  try clear_value xq4
  split
  · exact h0
  · split
    · refine State.modLat_st ?_
      exact h0
    · extract_lets +onlyGivenNames -underBinder -merge -useContext xq5
      try clear_value xq5
      extract_lets +onlyGivenNames -underBinder -merge -useContext xq6
      have hxq6 : Steady z xq6 := by
        unfold xq6
        refine State.wr_st ?_
        refine State.fixPut_st ?_
        exact h0
      try clear_value xq6
      extract_lets +onlyGivenNames -underBinder -merge -useContext xq7
      have hxq7 : Steady z xq7 := by
        unfold xq7
        refine State.bumpE_st ?_
        exact hxq6
      try clear_value xq7
      extract_lets +onlyGivenNames -underBinder -merge -useContext xq8
      have hxq8 : Steady z xq8 := by
        unfold xq8
        refine State.modLat_st ?_
        exact hxq7
      try clear_value xq8
      split
      · refine State.diverge_st ?_
        exact hxq8
      · exact hxq8

theorem State.cmdReceive_st {z : State} {s0} {x1} (h0 : Steady z s0) :
    Steady z (@State.cmdReceive s0 x1) := by
  unfold State.cmdReceive
  refine State.takeTether_st ?_ ?_
  · exact h0
  · intro b0 hbq1
    extract_lets +onlyGivenNames -underBinder -merge -useContext xq2
    try clear_value xq2
    extract_lets +onlyGivenNames -underBinder -merge -useContext xq3
    try clear_value xq3
    split
    · refine State.forEach_st ?_ ?_
      · exact hbq1
      · intro b0 b1 hbq4
        refine State.takeForwarded_st ?_
        exact hbq4
    · exact hbq1

theorem State.passGap_st {z : State} {s0} {x1} (h0 : Steady z s0) :
    Steady z (@State.passGap s0 x1) := by
  unfold State.passGap
  split
  · refine State.modLat_st ?_
    exact h0
  · exact h0

theorem State.gapCheck_st {z : State} {s0} (h0 : Steady z s0) :
    Steady z (@State.gapCheck s0) := by
  unfold State.gapCheck
  extract_lets +onlyGivenNames -underBinder -merge -useContext xq1
  try clear_value xq1
  split
  · extract_lets +onlyGivenNames -underBinder -merge -useContext xq2
    have hxq2 : Steady z xq2 := by
      unfold xq2
      refine State.forEach_st ?_ ?_
      · exact h0
      · intro b0 b1 hbq3
        refine State.passGap_st ?_
        exact hbq3
    try clear_value xq2
    refine State.diverge_st ?_
    refine State.modLat_st ?_
    exact hxq2
  · exact h0

theorem State.becomeLeader_st {z : State} {s0} (h0 : Steady z s0) :
    Steady z (@State.becomeLeader s0) := by
  unfold State.becomeLeader
  extract_lets +onlyGivenNames -underBinder -merge -useContext xq1
  have hxq1 : Steady z xq1 := by
    unfold xq1
    refine State.setPstate_st ?_
    refine State.setLocked_st ?_
    refine State.setRole_st ?_
    exact h0
  try clear_value xq1
  refine State.modLat_st ?_
  exact hxq1

theorem State.beginLocking_st {z : State} {s0} (h0 : Steady z s0) :
    Steady z (@State.beginLocking s0) := by
  unfold State.beginLocking
  refine State.modLat_st ?_
  refine State.setPstate_st ?_
  refine State.setLocked_st ?_
  exact h0

theorem State.becomeFollower_st {z : State} {s0} (h0 : Steady z s0) :
    Steady z (@State.becomeFollower s0) := by
  unfold State.becomeFollower
  refine State.modLat_st ?_
  refine State.beginLocking_st ?_
  refine State.setRole_st ?_
  exact h0

theorem State.pairFault_st {z : State} {s0} {x1} (h0 : Steady z s0) :
    Steady z (@State.pairFault s0 x1) := by
  unfold State.pairFault
  refine State.faultU_st ?_
  refine State.wr_st ?_
  exact h0

theorem State.tetherColdstart_st {z : State} {s0} (h0 : Steady z s0) :
    Steady z (@State.tetherColdstart s0) := by
  unfold State.tetherColdstart
  split
  · refine State.sendTether_st ?_
    exact h0
  · exact h0

theorem State.pairDecide_st {z : State} {s0} {x1} {x2} {x3} {x4} (h0 : Steady z s0) :
    Steady z (@State.pairDecide s0 x1 x2 x3 x4) := by
  unfold State.pairDecide
  split
  · refine State.pairFault_st ?_
    exact h0
  · split
    · refine State.pairFault_st ?_
      exact h0
    · split
      · refine State.becomeLeader_st ?_
        exact h0
      · refine State.becomeFollower_st ?_
        exact h0

theorem State.coldstartReceive_st {z : State} {s0} {x1} (h0 : Steady z s0) :
    Steady z (@State.coldstartReceive s0 x1) := by
  unfold State.coldstartReceive
  refine State.takeTether_st ?_ ?_
  · exact h0
  · intro b0 hbq1
    extract_lets +onlyGivenNames -underBinder -merge -useContext xq2
    try clear_value xq2
    split
    · exact hbq1
    · extract_lets +onlyGivenNames -underBinder -merge -useContext xq3
      try clear_value xq3
      extract_lets +onlyGivenNames -underBinder -merge -useContext xq4
      try clear_value xq4
      refine State.pairDecide_st ?_
      refine State.wr_st ?_
      exact hbq1

theorem State.listenTimeout_st {z : State} {s0} (h0 : Steady z s0) :
    Steady z (@State.listenTimeout s0) := by
  unfold State.listenTimeout
  split
  · refine State.modLat_st ?_
    refine State.setPstate_st ?_
    refine State.setLocked_st ?_
    refine State.setRole_st ?_
    exact h0
  · exact h0

theorem State.tetherLost_st {z : State} {s0} (h0 : Steady z s0) :
    Steady z (@State.tetherLost s0) := by
  unfold State.tetherLost
  split
  · exact h0
  · extract_lets +onlyGivenNames -underBinder -merge -useContext xq1
    have hxq1 : Steady z xq1 := by
      unfold xq1
      refine State.evt_st ?_
      refine State.faultU_st ?_
      refine State.modLat_st ?_
      exact h0
    try clear_value xq1
    split
    · split
      · refine State.evt_st ?_
        refine State.setPstate_st ?_
        exact hxq1
      · refine State.setPstate_st ?_
        exact hxq1
    · exact hxq1

theorem State.tetherLoss_st {z : State} {s0} (h0 : Steady z s0) :
    Steady z (@State.tetherLoss s0) := by
  unfold State.tetherLoss
  extract_lets +onlyGivenNames -underBinder -merge -useContext xq1
  try clear_value xq1
  split
  · refine State.tetherLost_st ?_
    exact h0
  · exact h0

theorem State.holdoverLimit_st {z : State} {s0} (h0 : Steady z s0) :
    Steady z (@State.holdoverLimit s0) := by
  unfold State.holdoverLimit
  split
  · refine State.evt_st ?_
    refine State.faultU_st ?_
    refine State.setPstate_st ?_
    exact h0
  · exact h0

theorem State.latI0_st {z : State} {s0} (h0 : Steady z s0) :
    Steady z (@State.latI0 s0) := by
  unfold State.latI0
  extract_lets +onlyGivenNames -underBinder -merge -useContext xq1
  try clear_value xq1
  extract_lets +onlyGivenNames -underBinder -merge -useContext xq2
  have hxq2 : Steady z xq2 := by
    unfold xq2
    split
    · refine State.wr_st ?_
      exact h0
    · exact h0
  try clear_value xq2
  split
  · exact hxq2
  · extract_lets +onlyGivenNames -underBinder -merge -useContext xq3
    have hxq3 : Steady z xq3 := by
      unfold xq3
      refine State.modLat_st ?_
      exact hxq2
    try clear_value xq3
    extract_lets +onlyGivenNames -underBinder -merge -useContext xq4
    try clear_value xq4
    extract_lets +onlyGivenNames -underBinder -merge -useContext xq5
    have hxq5 : Steady z xq5 := by
      unfold xq5
      refine State.modLat_st ?_
      exact hxq3
    try clear_value xq5
    split
    · extract_lets +onlyGivenNames -underBinder -merge -useContext xq6
      have hxq6 : Steady z xq6 := by
        unfold xq6
        refine State.modLat_st ?_
        refine State.bumpE_st ?_
        exact hxq5
      try clear_value xq6
      split
      · refine State.evt_st ?_
        refine State.setPstate_st ?_
        exact hxq6
      · exact hxq6
    · exact hxq5

theorem State.soloWrite_st {z : State} {s0} (h0 : Steady z s0) :
    Steady z (@State.soloWrite s0) := by
  unfold State.soloWrite
  extract_lets +onlyGivenNames -underBinder -merge -useContext xq1
  try clear_value xq1
  extract_lets +onlyGivenNames -underBinder -merge -useContext xq2
  try clear_value xq2
  split
  · refine State.evt_st ?_
    refine State.setPstate_st ?_
    exact h0
  · refine State.cfgRej_st ?_
    exact h0

theorem State.handoverWrite_st {z : State} {s0} (h0 : Steady z s0) :
    Steady z (@State.handoverWrite s0) := by
  unfold State.handoverWrite
  split
  · extract_lets +onlyGivenNames -underBinder -merge -useContext xq1
    try clear_value xq1
    refine State.setReg_st ?_
    refine State.wr_st ?_
    refine State.modLat_st ?_
    exact h0
  · refine State.cfgRej_st ?_
    exact h0

theorem State.roleExchange_st {z : State} {s0} (h0 : Steady z s0) :
    Steady z (@State.roleExchange s0) := by
  unfold State.roleExchange
  split
  · extract_lets +onlyGivenNames -underBinder -merge -useContext xq1
    try clear_value xq1
    extract_lets +onlyGivenNames -underBinder -merge -useContext xq2
    have hxq2 : Steady z xq2 := by
      unfold xq2
      refine State.evt_st ?_
      refine State.wr_st ?_
      refine State.setRole_st ?_
      exact h0
    try clear_value xq2
    extract_lets +onlyGivenNames -underBinder -merge -useContext xq3
    have hxq3 : Steady z xq3 := by
      unfold xq3
      refine State.setReg_st ?_
      exact hxq2
    try clear_value xq3
    split
    · refine State.modLat_st ?_
      exact hxq3
    · refine State.modLat_st ?_
      refine State.setLocked_st ?_
      exact hxq3
  · exact h0

theorem State.syncSend_st {z : State} {s0} (h0 : Steady z s0) :
    Steady z (@State.syncSend s0) := by
  unfold State.syncSend
  split
  · refine State.sendTether_st ?_
    exact h0
  · exact h0

theorem State.latRate_st {z : State} {s0} {x1} (h0 : Steady z s0) :
    Steady z (@State.latRate s0 x1) := by
  unfold State.latRate
  extract_lets +onlyGivenNames -underBinder -merge -useContext xq1
  try clear_value xq1
  extract_lets +onlyGivenNames -underBinder -merge -useContext xq2
  try clear_value xq2
  extract_lets +onlyGivenNames -underBinder -merge -useContext xq3
  try clear_value xq3
  extract_lets +onlyGivenNames -underBinder -merge -useContext xq4
  try clear_value xq4
  refine State.rateWrite_st ?_
  exact h0

theorem State.servo_st {z : State} {s0} {x1} {x2} {x3} {x4} (h0 : Steady z s0) :
    Steady z (@State.servo s0 x1 x2 x3 x4) := by
  unfold State.servo
  extract_lets +onlyGivenNames -underBinder -merge -useContext xq1
  try clear_value xq1
  extract_lets +onlyGivenNames -underBinder -merge -useContext xq2
  try clear_value xq2
  split
  · refine State.bumpE_st ?_
    exact h0
  · extract_lets +onlyGivenNames -underBinder -merge -useContext xq3
    have hxq3 : Steady z xq3 := by
      unfold xq3
      refine State.setReg_st ?_
      refine State.wr_st ?_
      exact h0
    try clear_value xq3
    extract_lets +onlyGivenNames -underBinder -merge -useContext xq4
    try clear_value xq4
    extract_lets +onlyGivenNames -underBinder -merge -useContext xq5
    try clear_value xq5
    extract_lets +onlyGivenNames -underBinder -merge -useContext xq6
    try clear_value xq6
    extract_lets +onlyGivenNames -underBinder -merge -useContext xq7
    have hxq7 : Steady z xq7 := by
      unfold xq7
      split
      · refine State.modLat_st ?_
        refine State.stephiWrite_st ?_
        refine State.steploWrite_st ?_
        exact hxq3
      · refine State.latRate_st ?_
        refine State.modLat_st ?_
        exact hxq3
    try clear_value xq7
    extract_lets +onlyGivenNames -underBinder -merge -useContext xq8
    try clear_value xq8
    extract_lets +onlyGivenNames -underBinder -merge -useContext xq9
    try clear_value xq9
    extract_lets +onlyGivenNames -underBinder -merge -useContext xq10
    try clear_value xq10
    extract_lets +onlyGivenNames -underBinder -merge -useContext xq11
    have hxq11 : Steady z xq11 := by
      unfold xq11
      refine State.modLat_st ?_
      exact hxq7
    try clear_value xq11
    extract_lets +onlyGivenNames -underBinder -merge -useContext xq12
    have hxq12 : Steady z xq12 := by
      unfold xq12
      split
      · refine State.setLocked_st ?_
        exact hxq11
      · split
        · refine State.setLocked_st ?_
          exact hxq11
        · exact hxq11
    try clear_value xq12
    split
    · extract_lets +onlyGivenNames -underBinder -merge -useContext xq13
      have hxq13 : Steady z xq13 := by
        unfold xq13
        refine State.setPstate_st ?_
        exact hxq12
      try clear_value xq13
      split
      · refine State.planeCopy_st ?_
        exact hxq13
      · exact hxq13
    · exact hxq12

theorem State.mismatch_st {z : State} {s0} {x1} (h0 : Steady z s0) :
    Steady z (@State.mismatch s0 x1) := by
  unfold State.mismatch
  extract_lets +onlyGivenNames -underBinder -merge -useContext xq1
  have hxq1 : Steady z xq1 := by
    unfold xq1
    refine State.bumpE_st ?_
    exact h0
  try clear_value xq1
  extract_lets +onlyGivenNames -underBinder -merge -useContext xq2
  try clear_value xq2
  extract_lets +onlyGivenNames -underBinder -merge -useContext xq3
  try clear_value xq3
  extract_lets +onlyGivenNames -underBinder -merge -useContext xq4
  try clear_value xq4
  extract_lets +onlyGivenNames -underBinder -merge -useContext xq5
  try clear_value xq5
  extract_lets +onlyGivenNames -underBinder -merge -useContext xq6
  have hxq6 : Steady z xq6 := by
    unfold xq6
    refine State.modLat_st ?_
    exact hxq1
  try clear_value xq6
  split
  · exact hxq6
  · split
    · exact hxq6
    · split
      · refine State.diverge_st ?_
        exact hxq6
      · split
        · refine State.planeCopy_st ?_
          exact hxq6
        · split
          · refine State.invalidatePort_st ?_
            exact hxq6
          · exact hxq6

theorem State.agrees_st {z : State} {s0} {x1} (h0 : Steady z s0) :
    Steady z (@State.agrees s0 x1) := by
  unfold State.agrees
  extract_lets +onlyGivenNames -underBinder -merge -useContext xq1
  try clear_value xq1
  refine State.modLat_st ?_
  exact h0

theorem State.regain_st {z : State} {s0} (h0 : Steady z s0) :
    Steady z (@State.regain s0) := by
  unfold State.regain
  extract_lets +onlyGivenNames -underBinder -merge -useContext xq1
  try clear_value xq1
  extract_lets +onlyGivenNames -underBinder -merge -useContext xq2
  have hxq2 : Steady z xq2 := by
    unfold xq2
    refine State.modLat_st ?_
    exact h0
  try clear_value xq2
  extract_lets +onlyGivenNames -underBinder -merge -useContext xq3
  try clear_value xq3
  split
  · refine State.setPstate_st ?_
    refine State.modLat_st ?_
    exact hxq2
  · exact hxq2

theorem State.compare_st {z : State} {s0} {x1} (h0 : Steady z s0) :
    Steady z (@State.compare s0 x1) := by
  unfold State.compare
  extract_lets +onlyGivenNames -underBinder -merge -useContext xq1
  try clear_value xq1
  extract_lets +onlyGivenNames -underBinder -merge -useContext xq2
  try clear_value xq2
  extract_lets +onlyGivenNames -underBinder -merge -useContext xq3
  have hxq3 : Steady z xq3 := by
    unfold xq3
    refine State.modLat_st ?_
    exact h0
  try clear_value xq3
  extract_lets +onlyGivenNames -underBinder -merge -useContext xq4
  have hxq4 : Steady z xq4 := by
    unfold xq4
    refine State.forEach_st ?_ ?_
    · exact hxq3
    · intro b0 b1 hbq5
      split
      · refine State.agrees_st ?_
        exact hbq5
      · refine State.mismatch_st ?_
        exact hbq5
  try clear_value xq4
  refine State.regain_st ?_
  exact hxq4

theorem State.syncTake_st {z : State} {s0} {x1} (h0 : Steady z s0) :
    Steady z (@State.syncTake s0 x1) := by
  unfold State.syncTake
  extract_lets +onlyGivenNames -underBinder -merge -useContext xq1
  try clear_value xq1
  extract_lets +onlyGivenNames -underBinder -merge -useContext xq2
  try clear_value xq2
  extract_lets +onlyGivenNames -underBinder -merge -useContext xq3
  try clear_value xq3
  extract_lets +onlyGivenNames -underBinder -merge -useContext xq4
  try clear_value xq4
  extract_lets +onlyGivenNames -underBinder -merge -useContext xq5
  try clear_value xq5
  extract_lets +onlyGivenNames -underBinder -merge -useContext xq6
  try clear_value xq6
  extract_lets +onlyGivenNames -underBinder -merge -useContext xq7
  try clear_value xq7
  extract_lets +onlyGivenNames -underBinder -merge -useContext xq8
  have hxq8 : Steady z xq8 := by
    unfold xq8
    refine State.modLat_st ?_
    refine State.wr_st ?_
    exact h0
  try clear_value xq8
  split
  · refine State.tetherLost_st ?_
    exact hxq8
  · extract_lets +onlyGivenNames -underBinder -merge -useContext xq9
    try clear_value xq9
    extract_lets +onlyGivenNames -underBinder -merge -useContext xq10
    have hxq10 : Steady z xq10 := by
      unfold xq10
      split
      · exact hxq8
      · split
        · refine State.pairDecide_st ?_
          exact hxq8
        · split
          · split
            · refine State.beginLocking_st ?_
              exact hxq8
            · refine State.modLat_st ?_
              exact hxq8
          · exact hxq8
    try clear_value xq10
    split
    · exact hxq10
    · split
      · extract_lets +onlyGivenNames -underBinder -merge -useContext xq11
        have hxq11 : Steady z xq11 := by
          unfold xq11
          refine State.modLat_st ?_
          exact hxq10
        try clear_value xq11
        extract_lets +onlyGivenNames -underBinder -merge -useContext xq12
        have hxq12 : Steady z xq12 := by
          unfold xq12
          split
          · exact hxq11
          · split
            · refine State.setReg_st ?_
              refine State.wr_st ?_
              refine State.modLat_st ?_
              exact hxq11
            · exact hxq11
        try clear_value xq12
        extract_lets +onlyGivenNames -underBinder -merge -useContext xq13
        have hxq13 : Steady z xq13 := by
          unfold xq13
          split
          · exact hxq12
          · refine State.servo_st ?_
            exact hxq12
        try clear_value xq13
        extract_lets +onlyGivenNames -underBinder -merge -useContext xq14
        have hxq14 : Steady z xq14 := by
          unfold xq14
          refine State.cmdResend_st ?_
          exact hxq13
        try clear_value xq14
        split
        · refine State.compare_st ?_
          exact hxq14
        · exact hxq14
      · split
        · extract_lets +onlyGivenNames -underBinder -merge -useContext xq15
          have hxq15 : Steady z xq15 := by
            unfold xq15
            refine State.cmdResend_st ?_
            exact hxq10
          try clear_value xq15
          split
          · refine State.compare_st ?_
            exact hxq15
          · exact hxq15
        · exact hxq10

theorem State.syncReceive_st {z : State} {s0} {x1} (h0 : Steady z s0) :
    Steady z (@State.syncReceive s0 x1) := by
  unfold State.syncReceive
  refine State.takeTether_st ?_ ?_
  · exact h0
  · intro b0 hbq1
    refine State.syncTake_st ?_
    exact hbq1

theorem State.arriveSend_st {z : State} {s0} (h0 : Steady z s0) :
    Steady z (@State.arriveSend s0) := by
  unfold State.arriveSend
  split
  · refine State.sendTether_st ?_
    refine State.modLat_st ?_
    exact h0
  · exact h0

theorem State.arriveReceive_st {z : State} {s0} {x1} (h0 : Steady z s0) :
    Steady z (@State.arriveReceive s0 x1) := by
  unfold State.arriveReceive
  refine State.takeTether_st ?_ ?_
  · exact h0
  · intro b0 hbq1
    split
    · refine State.modLat_st ?_
      exact hbq1
    · exact hbq1

theorem State.trateWrite_st {z : State} {s0} {x1} (h0 : Steady z s0) :
    Steady z (@State.trateWrite s0 x1) := by
  unfold State.trateWrite
  extract_lets +onlyGivenNames -underBinder -merge -useContext xq1
  have hxq1 : Steady z xq1 := by
    unfold xq1
    refine State.setReg_st ?_
    exact h0
  try clear_value xq1
  split
  · refine State.rateWrite_st ?_
    exact hxq1
  · exact hxq1

theorem State.latBegin_st {z : State} {s0} (h0 : Steady z s0) :
    Steady z (@State.latBegin s0) := by
  unfold State.latBegin
  split
  · extract_lets +onlyGivenNames -underBinder -merge -useContext xq1
    try clear_value xq1
    extract_lets +onlyGivenNames -underBinder -merge -useContext xq2
    try clear_value xq2
    extract_lets +onlyGivenNames -underBinder -merge -useContext xq3
    have hxq3 : Steady z xq3 := by
      unfold xq3
      refine State.setReg_st ?_
      refine State.setReg_st ?_
      refine State.setSt_st ?_
      exact h0
    try clear_value xq3
    apply Steady.of_eq
    · exact hxq3
    all_goals rfl
  · exact h0

theorem State.lanesLost_st {z : State} {s0} (h0 : Steady z s0) :
    Steady z (@State.lanesLost s0) := by
  unfold State.lanesLost
  split
  · refine State.tetherLost_st ?_
    exact h0
  · exact h0

theorem State.laneChange_st {z : State} {s0} {x1} {x2} (h0 : Steady z s0) :
    Steady z (@State.laneChange s0 x1 x2) := by
  unfold State.laneChange
  split
  · exact h0
  · extract_lets +onlyGivenNames -underBinder -merge -useContext xq1
    have hxq1 : Steady z xq1 := by
      unfold xq1
      refine State.wr_st ?_
      exact h0
    try clear_value xq1
    split
    · refine State.latBegin_st ?_
      exact hxq1
    · refine State.lanesLost_st ?_
      exact hxq1

theorem State.latHalt_st {z : State} {s0} (h0 : Steady z s0) :
    Steady z (@State.latHalt s0) := by
  unfold State.latHalt
  split
  · refine State.sendTether_st ?_
    exact h0
  · exact h0

theorem State.latEnd_st {z : State} {s0} (h0 : Steady z s0) :
    Steady z (@State.latEnd s0) := by
  unfold State.latEnd
  extract_lets +onlyGivenNames -underBinder -merge -useContext xq1
  try clear_value xq1
  extract_lets +onlyGivenNames -underBinder -merge -useContext xq2
  try clear_value xq2
  extract_lets +onlyGivenNames -underBinder -merge -useContext xq3
  have hxq3 : Steady z xq3 := by
    unfold xq3
    refine State.setReg_st ?_
    refine State.setReg_st ?_
    exact h0
  try clear_value xq3
  apply Steady.of_eq
  · exact hxq3
  all_goals rfl

end Sys2Proof.Machine
end

