-- ==== Sys2Proof/Laws/SteadySafety.lean ====
section
/-! SUPPORT. Steadiness (Sys2Proof/Laws/Steady.lean) of the operations of Buckle, the field die, claims and power: each keeps the queue, the raw counter and the canonical forms. -/
namespace Sys2Proof.Machine
open State

theorem State.setSfSt_st {z : State} {s0} {x1} {x2} (h0 : Steady z s0) :
    Steady z (@State.setSfSt s0 x1 x2) := by
  unfold State.setSfSt
  extract_lets +onlyGivenNames -underBinder -merge -useContext xq1
  try clear_value xq1
  extract_lets +onlyGivenNames -underBinder -merge -useContext xq2
  try clear_value xq2
  extract_lets +onlyGivenNames -underBinder -merge -useContext xq3
  have hxq3 : Steady z xq3 := by
    unfold xq3
    refine State.wr_st ?_
    refine State.wr_st ?_
    exact h0
  try clear_value xq3
  extract_lets +onlyGivenNames -underBinder -merge -useContext xq4
  have hxq4 : Steady z xq4 := by
    unfold xq4
    split
    · refine State.evt_st ?_
      exact hxq3
    · exact hxq3
  try clear_value xq4
  extract_lets +onlyGivenNames -underBinder -merge -useContext xq5
  have hxq5 : Steady z xq5 := by
    unfold xq5
    split
    · refine State.bumpE_st ?_
      exact hxq4
    · exact hxq4
  try clear_value xq5
  split
  · refine State.evt_st ?_
    refine State.bumpE_st ?_
    exact hxq5
  · exact hxq5

theorem State.discLock_st {z : State} {s0} {x1} (h0 : Steady z s0) :
    Steady z (@State.discLock s0 x1) := by
  unfold State.discLock
  extract_lets +onlyGivenNames -underBinder -merge -useContext xq1
  try clear_value xq1
  extract_lets +onlyGivenNames -underBinder -merge -useContext xq2
  have hxq2 : Steady z xq2 := by
    unfold xq2
    refine State.wr_st ?_
    refine State.setSfSt_st ?_
    exact h0
  try clear_value xq2
  refine State.faultU_st ?_
  refine State.wr_st ?_
  exact hxq2

theorem State.pulseSample_st {z : State} {s0} {x1} {x2} (h0 : Steady z s0) :
    Steady z (@State.pulseSample s0 x1 x2).2 := by
  unfold State.pulseSample
  split
  · refine Steady.mk1 ?_
    refine State.bumpE_st ?_
    exact h0
  · refine Steady.mk1 ?_
    exact h0

theorem State.sfSamples_st {z : State} {s0} {x1} (h0 : Steady z s0) :
    Steady z (@State.sfSamples s0 x1) := by
  unfold State.sfSamples
  extract_lets +onlyGivenNames -underBinder -merge -useContext xq1
  try clear_value xq1
  extract_lets +onlyGivenNames -underBinder -merge -useContext xq2
  try clear_value xq2
  extract_lets +onlyGivenNames -underBinder -merge -useContext xq3
  try clear_value xq3
  extract_lets +onlyGivenNames -underBinder -merge -useContext xq4
  try clear_value xq4
  extract_lets +onlyGivenNames -underBinder -merge -useContext xq5
  have hxq5 : Steady z xq5.2 := by
    unfold xq5
    refine State.pulseSample_st ?_
    exact h0
  try clear_value xq5
  extract_lets +onlyGivenNames -underBinder -merge -useContext xq6
  try clear_value xq6
  extract_lets +onlyGivenNames -underBinder -merge -useContext xq7
  have hxq7 : Steady z xq7 := by
    unfold xq7
    split
    · refine State.modSf_st ?_
      exact hxq5
    · refine State.modSf_st ?_
      exact h0
  try clear_value xq7
  split
  · extract_lets +onlyGivenNames -underBinder -merge -useContext xq8
    have hxq8 : Steady z xq8.2 := by
      unfold xq8
      refine State.pulseSample_st ?_
      exact hxq7
    try clear_value xq8
    refine State.modSf_st ?_
    exact hxq8
  · extract_lets +onlyGivenNames -underBinder -merge -useContext xq9
    try clear_value xq9
    refine State.modSf_st ?_
    exact hxq7

theorem State.sfInputFault_st {z : State} {s0} {x1} (h0 : Steady z s0) :
    Steady z (@State.sfInputFault s0 x1) := by
  unfold State.sfInputFault
  extract_lets +onlyGivenNames -underBinder -merge -useContext xq1
  try clear_value xq1
  extract_lets +onlyGivenNames -underBinder -merge -useContext xq2
  try clear_value xq2
  extract_lets +onlyGivenNames -underBinder -merge -useContext xq3
  try clear_value xq3
  extract_lets +onlyGivenNames -underBinder -merge -useContext xq4
  have hxq4 : Steady z xq4 := by
    unfold xq4
    refine State.setSf_st ?_
    exact h0
  try clear_value xq4
  split
  · extract_lets +onlyGivenNames -underBinder -merge -useContext xq5
    try clear_value xq5
    refine State.fault_st ?_
    refine State.wr_st ?_
    exact hxq4
  · exact hxq4

theorem State.resetStuck_st {z : State} {s0} {x1} (h0 : Steady z s0) :
    Steady z (@State.resetStuck s0 x1) := by
  unfold State.resetStuck
  extract_lets +onlyGivenNames -underBinder -merge -useContext xq1
  try clear_value xq1
  split
  · refine State.faultU_st ?_
    refine State.wr_st ?_
    refine State.setSf_st ?_
    exact h0
  · exact h0

theorem State.resetRefused_st {z : State} {s0} {x1} (h0 : Steady z s0) :
    Steady z (@State.resetRefused s0 x1) := by
  unfold State.resetRefused
  refine State.evt_st ?_
  refine State.bumpE_st ?_
  exact h0

theorem State.sfReset_st {z : State} {s0} {x1} (h0 : Steady z s0) :
    Steady z (@State.sfReset s0 x1) := by
  unfold State.sfReset
  extract_lets +onlyGivenNames -underBinder -merge -useContext xq1
  try clear_value xq1
  extract_lets +onlyGivenNames -underBinder -merge -useContext xq2
  try clear_value xq2
  extract_lets +onlyGivenNames -underBinder -merge -useContext xq3
  try clear_value xq3
  extract_lets +onlyGivenNames -underBinder -merge -useContext xq4
  try clear_value xq4
  extract_lets +onlyGivenNames -underBinder -merge -useContext xq5
  try clear_value xq5
  extract_lets +onlyGivenNames -underBinder -merge -useContext xq6
  have hxq6 : Steady z xq6 := by
    unfold xq6
    refine State.setSf_st ?_
    exact h0
  try clear_value xq6
  extract_lets +onlyGivenNames -underBinder -merge -useContext xq7
  have hxq7 : Steady z xq7 := by
    unfold xq7
    refine State.resetStuck_st ?_
    exact hxq6
  try clear_value xq7
  split
  · exact hxq7
  · split
    · refine State.bumpE_st ?_
      exact hxq7
    · split
      · refine State.resetRefused_st ?_
        exact hxq7
      · refine State.bumpE_st ?_
        refine State.wr_st ?_
        refine State.setSfSt_st ?_
        exact hxq7

theorem State.sfEval_st {z : State} {s0} {x1} (h0 : Steady z s0) :
    Steady z (@State.sfEval s0 x1) := by
  unfold State.sfEval
  split
  · exact h0
  · extract_lets +onlyGivenNames -underBinder -merge -useContext xq1
    try clear_value xq1
    extract_lets +onlyGivenNames -underBinder -merge -useContext xq2
    have hxq2 : Steady z xq2 := by
      unfold xq2
      refine State.sfInputFault_st ?_
      refine State.sfSamples_st ?_
      exact h0
    try clear_value xq2
    extract_lets +onlyGivenNames -underBinder -merge -useContext xq3
    try clear_value xq3
    split
    · extract_lets +onlyGivenNames -underBinder -merge -useContext xq4
      try clear_value xq4
      refine State.setSfSt_st ?_
      refine State.wr_st ?_
      refine State.setSf_st ?_
      exact hxq2
    · extract_lets +onlyGivenNames -underBinder -merge -useContext xq5
      try clear_value xq5
      extract_lets +onlyGivenNames -underBinder -merge -useContext xq6
      try clear_value xq6
      extract_lets +onlyGivenNames -underBinder -merge -useContext xq7
      have hxq7 : Steady z xq7 := by
        unfold xq7
        split
        · refine State.discLock_st ?_
          exact hxq2
        · exact hxq2
      try clear_value xq7
      extract_lets +onlyGivenNames -underBinder -merge -useContext xq8
      have hxq8 : Steady z xq8 := by
        unfold xq8
        refine State.wr_st ?_
        refine State.wr_st ?_
        exact hxq7
      try clear_value xq8
      refine State.sfReset_st ?_
      refine State.setSfSt_st ?_
      exact hxq8

theorem State.outFault_st {z : State} {s0} {x1} {x2} (h0 : Steady z s0) :
    Steady z (@State.outFault s0 x1 x2) := by
  unfold State.outFault
  extract_lets +onlyGivenNames -underBinder -merge -useContext xq1
  have hxq1 : Steady z xq1 := by
    unfold xq1
    refine State.wr_st ?_
    exact h0
  try clear_value xq1
  refine State.fault_st ?_
  refine State.evt_st ?_
  refine State.bumpE_st ?_
  exact hxq1

theorem State.setOutCmd_st {z : State} {s0} {x1} {x2} (h0 : Steady z s0) :
    Steady z (@State.setOutCmd s0 x1 x2) := by
  unfold State.setOutCmd
  extract_lets +onlyGivenNames -underBinder -merge -useContext xq1
  try clear_value xq1
  refine State.wr_st ?_
  exact h0

theorem State.outEval_st {z : State} {s0} {x1} (h0 : Steady z s0) :
    Steady z (@State.outEval s0 x1) := by
  unfold State.outEval
  split
  · exact h0
  · extract_lets +onlyGivenNames -underBinder -merge -useContext xq1
    try clear_value xq1
    extract_lets +onlyGivenNames -underBinder -merge -useContext xq2
    try clear_value xq2
    extract_lets +onlyGivenNames -underBinder -merge -useContext xq3
    try clear_value xq3
    extract_lets +onlyGivenNames -underBinder -merge -useContext xq4
    try clear_value xq4
    extract_lets +onlyGivenNames -underBinder -merge -useContext xq5
    try clear_value xq5
    extract_lets +onlyGivenNames -underBinder -merge -useContext xq6
    try clear_value xq6
    extract_lets +onlyGivenNames -underBinder -merge -useContext xq7
    have hxq7 : Steady z xq7 := by
      unfold xq7
      split
      · refine State.outFault_st ?_
        exact h0
      · split
        · refine State.outFault_st ?_
          exact h0
        · exact h0
    try clear_value xq7
    extract_lets +onlyGivenNames -underBinder -merge -useContext xq8
    try clear_value xq8
    extract_lets +onlyGivenNames -underBinder -merge -useContext xq9
    have hxq9 : Steady z xq9 := by
      unfold xq9
      refine State.setSafeOut_st ?_
      exact hxq7
    try clear_value xq9
    refine State.setOutCmd_st ?_
    exact hxq9

theorem State.buckleFault_st {z : State} {s0} {x1} {x2} (h0 : Steady z s0) :
    Steady z (@State.buckleFault s0 x1 x2) := by
  unfold State.buckleFault
  extract_lets +onlyGivenNames -underBinder -merge -useContext xq1
  try clear_value xq1
  split
  · extract_lets +onlyGivenNames -underBinder -merge -useContext xq2
    have hxq2 : Steady z xq2 := by
      unfold xq2
      refine State.evt_st ?_
      refine State.wr_st ?_
      refine State.setSt_st ?_
      exact h0
    try clear_value xq2
    refine State.faultU_st ?_
    refine State.wr_st ?_
    refine State.setSto_st ?_
    exact hxq2
  · exact h0

theorem State.evaluation_st {z : State} {s0} {x1} (h0 : Steady z s0) :
    Steady z (@State.evaluation s0 x1) := by
  unfold State.evaluation
  split
  · exact h0
  · split
    · refine State.buckleFault_st ?_
      refine State.stateWord_st ?_
      exact h0
    · split
      · refine State.buckleFault_st ?_
        exact h0
      · extract_lets +onlyGivenNames -underBinder -merge -useContext xq1
        have hxq1 : Steady z xq1 := by
          unfold xq1
          refine State.forEach_st ?_ ?_
          · exact h0
          · intro b0 b1 hbq2
            refine State.sfEval_st ?_
            exact hbq2
        try clear_value xq1
        extract_lets +onlyGivenNames -underBinder -merge -useContext xq3
        have hxq3 : Steady z xq3 := by
          unfold xq3
          refine State.forEach_st ?_ ?_
          · exact hxq1
          · intro b0 b1 hbq4
            refine State.modFin_st ?_
            exact hbq4
        try clear_value xq3
        extract_lets +onlyGivenNames -underBinder -merge -useContext xq5
        try clear_value xq5
        extract_lets +onlyGivenNames -underBinder -merge -useContext xq6
        have hxq6 : Steady z xq6 := by
          unfold xq6
          refine State.setSto_st ?_
          apply Steady.of_eq
          · exact hxq3
          all_goals rfl
        try clear_value xq6
        extract_lets +onlyGivenNames -underBinder -merge -useContext xq7
        have hxq7 : Steady z xq7 := by
          unfold xq7
          refine State.wr_st ?_
          exact hxq6
        try clear_value xq7
        extract_lets +onlyGivenNames -underBinder -merge -useContext xq8
        have hxq8 : Steady z xq8 := by
          unfold xq8
          refine State.forEach_st ?_ ?_
          · exact hxq7
          · intro b0 b1 hbq9
            refine State.outEval_st ?_
            exact hbq9
        try clear_value xq8
        refine State.bumpE_st ?_
        exact hxq8

theorem State.buckleBegin_st {z : State} {s0} (h0 : Steady z s0) :
    Steady z (@State.buckleBegin s0) := by
  unfold State.buckleBegin
  extract_lets +onlyGivenNames -underBinder -merge -useContext xq1
  have hxq1 : Steady z xq1 := by
    unfold xq1
    refine State.setSt_st ?_
    exact h0
  try clear_value xq1
  extract_lets +onlyGivenNames -underBinder -merge -useContext xq2
  have hxq2 : Steady z xq2 := by
    unfold xq2
    refine State.forEach_st ?_ ?_
    · exact hxq1
    · intro b0 b1 hbq3
      extract_lets +onlyGivenNames -underBinder -merge -useContext xq4
      try clear_value xq4
      extract_lets +onlyGivenNames -underBinder -merge -useContext xq5
      try clear_value xq5
      extract_lets +onlyGivenNames -underBinder -merge -useContext xq6
      have hxq6 : Steady z xq6 := by
        unfold xq6
        refine State.setSf_st ?_
        exact hbq3
      try clear_value xq6
      refine State.wr_st ?_
      refine State.wr_st ?_
      refine State.wr_st ?_
      refine State.wr_st ?_
      exact hxq6
  try clear_value xq2
  extract_lets +onlyGivenNames -underBinder -merge -useContext xq7
  have hxq7 : Steady z xq7 := by
    unfold xq7
    refine State.forEach_st ?_ ?_
    · exact hxq2
    · intro b0 b1 hbq8
      refine State.modFin_st ?_
      exact hbq8
  try clear_value xq7
  extract_lets +onlyGivenNames -underBinder -merge -useContext xq9
  try clear_value xq9
  extract_lets +onlyGivenNames -underBinder -merge -useContext xq10
  have hxq10 : Steady z xq10 := by
    unfold xq10
    refine State.wr_st ?_
    exact hxq7
  try clear_value xq10
  extract_lets +onlyGivenNames -underBinder -merge -useContext xq11
  have hxq11 : Steady z xq11 := by
    unfold xq11
    refine State.setSto_st ?_
    apply Steady.of_eq
    · exact hxq10
    all_goals rfl
  try clear_value xq11
  refine State.forEach_st ?_ ?_
  · exact hxq11
  · intro b0 b1 hbq12
    refine State.setOutCmd_st ?_
    exact hbq12

theorem State.buckleHalt_st {z : State} {s0} (h0 : Steady z s0) :
    Steady z (@State.buckleHalt s0) := by
  unfold State.buckleHalt
  refine State.wr_st ?_
  refine State.setSto_st ?_
  exact h0

theorem State.safetyCrc_st {z : State} {s0} (h0 : Steady z s0) :
    Steady z (@State.safetyCrc s0).2 := by
  unfold State.safetyCrc
  extract_lets +onlyGivenNames -underBinder -merge -useContext xq1
  try clear_value xq1
  refine Steady.mk1 ?_
  refine State.setReg_st ?_
  exact h0

theorem State.crcPass_st {z : State} {s0} (h0 : Steady z s0) :
    Steady z (@State.crcPass s0) := by
  unfold State.crcPass
  split
  · exact h0
  · extract_lets +onlyGivenNames -underBinder -merge -useContext xq1
    have hxq1 : Steady z xq1.2 := by
      unfold xq1
      refine State.safetyCrc_st ?_
      exact h0
    try clear_value xq1
    split
    · exact hxq1
    · refine State.buckleFault_st ?_
      exact hxq1

theorem State.selfTest_st {z : State} {s0} {x1} (h0 : Steady z s0) :
    Steady z (@State.selfTest s0 x1) := by
  unfold State.selfTest
  split
  · exact h0
  · split
    · refine State.bumpE_st ?_
      exact h0
    · refine State.buckleFault_st ?_
      exact h0

theorem State.inputPulse_st {z : State} {s0} {x1} {x2} (h0 : Steady z s0) :
    Steady z (@State.inputPulse s0 x1 x2) := by
  unfold State.inputPulse
  extract_lets p x
  exact Steady.ite (forEach_st h0 fun _ _ h => modSf_st h) h0

theorem State.outputPulse_st {z : State} {s0} {x1} (h0 : Steady z s0) :
    Steady z (@State.outputPulse s0 x1) := by
  unfold State.outputPulse
  split
  · refine State.bumpE_st ?_
    refine State.setOutCmd_st ?_
    refine State.setSafeOut_st ?_
    exact h0
  · exact h0

theorem State.discrepancyLock_st {z : State} {s0} {x1} (h0 : Steady z s0) :
    Steady z (@State.discrepancyLock s0 x1) := by
  unfold State.discrepancyLock
  extract_lets +onlyGivenNames -underBinder -merge -useContext xq1
  try clear_value xq1
  split
  · refine State.discLock_st ?_
    exact h0
  · exact h0

theorem State.twoHandTimeout_st {z : State} {s0} {x1} (h0 : Steady z s0) :
    Steady z (@State.twoHandTimeout s0 x1) := by
  unfold State.twoHandTimeout
  split
  · refine State.setSfSt_st ?_
    refine State.modSf_st ?_
    exact h0
  · exact h0

theorem State.resetStuckRow_st {z : State} {s0} {x1} (h0 : Steady z s0) :
    Steady z (@State.resetStuckRow s0 x1) := by
  unfold State.resetStuckRow
  split
  · refine State.resetStuck_st ?_
    exact h0
  · exact h0

theorem State.setHolder_st {z : State} {s0} {x1} {x2} (h0 : Steady z s0) :
    Steady z (@State.setHolder s0 x1 x2) := by
  unfold State.setHolder
  apply Steady.of_eq
  · exact h0
  all_goals rfl

theorem State.camSize_st {z : State} {s0} {x1} (h0 : Steady z s0) :
    Steady z (@State.camSize s0 x1).2 := by
  unfold State.camSize
  split
  · rename_i e
    have hmq1 := Steady.of_snd (z := z) e (by
      refine State.camHead_st ?_
      exact h0)
    refine Steady.mk1 ?_
    exact hmq1

theorem State.camClaims_st {z : State} {s0} (h0 : Steady z s0) :
    Steady z (@State.camClaims s0).2 := by
  unfold State.camClaims
  refine Steady.foldl1 ?_ ?_
  · refine Steady.mk1 ?_
    exact h0
  · intro b0 b1 hbq1
    split
    · split
      · rename_i e
        have hmq2 := Steady.of_snd (z := z) e (by
          refine State.camSize_st ?_
          exact hbq1)
        refine Steady.mk1 ?_
        exact hmq2
    · exact hbq1

theorem State.pageClaims_st {z : State} {s0} {x1} (h0 : Steady z s0) :
    Steady z (@State.pageClaims s0 x1).2 := by
  unfold State.pageClaims
  extract_lets +onlyGivenNames -underBinder -merge -useContext xq1
  try clear_value xq1
  split
  · refine Steady.mk1 ?_
    exact h0
  · refine Steady.mk1 ?_
    exact h0
  · extract_lets +onlyGivenNames -underBinder -merge -useContext xq2
    try clear_value xq2
    extract_lets +onlyGivenNames -underBinder -merge -useContext xq3
    try clear_value xq3
    refine Steady.mk1 ?_
    exact h0
  · extract_lets +onlyGivenNames -underBinder -merge -useContext xq4
    try clear_value xq4
    refine Steady.mk1 ?_
    exact h0
  · extract_lets +onlyGivenNames -underBinder -merge -useContext xq5
    try clear_value xq5
    refine Steady.mk1 ?_
    exact h0
  · refine Steady.mk1 ?_
    exact h0
  · extract_lets +onlyGivenNames -underBinder -merge -useContext xq6
    try clear_value xq6
    refine Steady.mk1 ?_
    exact h0
  · refine Steady.mk1 ?_
    exact h0
  · refine Steady.mk1 ?_
    exact h0
  · refine Steady.mk1 ?_
    exact h0
  · refine Steady.mk1 ?_
    exact h0
  · refine State.camClaims_st ?_
    exact h0
  · refine Steady.mk1 ?_
    exact h0

theorem State.takeClaims_st {z : State} {s0} {x1} {x2} (h0 : Steady z s0) :
    Steady z (@State.takeClaims s0 x1 x2) := by
  unfold State.takeClaims
  extract_lets +onlyGivenNames -underBinder -merge -useContext xq1
  have hxq1 : Steady z xq1 := by
    unfold xq1
    refine State.forEach_st ?_ ?_
    · exact h0
    · intro b0 b1 hbq2
      refine State.setHolder_st ?_
      exact hbq2
  try clear_value xq1
  split
  · exact hxq1
  · refine State.wr_st ?_
    refine State.wr_st ?_
    exact hxq1

theorem State.releaseClaims_st {z : State} {s0} {x1} (h0 : Steady z s0) :
    Steady z (@State.releaseClaims s0 x1) := by
  unfold State.releaseClaims
  refine State.setReg_st ?_
  apply Steady.of_eq
  · exact h0
  all_goals rfl

theorem State.claim_st {z : State} {s0} {x1} (h0 : Steady z s0) :
    Steady z (@State.claim s0 x1).2 := by
  unfold State.claim
  split
  · rename_i e
    have hmq1 := Steady.of_snd (z := z) e (by
      refine State.pageClaims_st ?_
      exact h0)
    extract_lets +onlyGivenNames -underBinder -merge -useContext xq2
    try clear_value xq2
    extract_lets +onlyGivenNames -underBinder -merge -useContext xq3
    try clear_value xq3
    split
    · refine Steady.mk1 ?_
      refine State.fault_st ?_
      refine State.cfgRej_st ?_
      exact hmq1
    · refine Steady.mk1 ?_
      refine State.fault_st ?_
      refine State.wr_st ?_
      exact hmq1
    · refine Steady.mk1 ?_
      refine State.takeClaims_st ?_
      exact hmq1

theorem State.fieldLost_st {z : State} {s0} (h0 : Steady z s0) :
    Steady z (@State.fieldLost s0) := by
  unfold State.fieldLost
  extract_lets +onlyGivenNames -underBinder -merge -useContext xq1
  have hxq1 : Steady z xq1 := by
    unfold xq1
    refine State.evt_st ?_
    refine State.setSt_st ?_
    refine State.wr_st ?_
    exact h0
  try clear_value xq1
  extract_lets +onlyGivenNames -underBinder -merge -useContext xq2
  have hxq2 : Steady z xq2 := by
    unfold xq2
    apply Steady.of_eq
    · exact hxq1
    all_goals rfl
  try clear_value xq2
  extract_lets +onlyGivenNames -underBinder -merge -useContext xq3
  have hxq3 : Steady z xq3 := by
    unfold xq3
    refine State.forEach_st ?_ ?_
    · exact hxq2
    · intro b0 b1 hbq4
      refine State.modFout_st ?_
      exact hbq4
  try clear_value xq3
  extract_lets +onlyGivenNames -underBinder -merge -useContext xq5
  have hxq5 : Steady z xq5 := by
    unfold xq5
    refine State.faultU_st ?_
    exact hxq3
  try clear_value xq5
  refine State.buckleFault_st ?_
  exact hxq5

theorem State.fieldLinkLoss_st {z : State} {s0} (h0 : Steady z s0) :
    Steady z (@State.fieldLinkLoss s0) := by
  unfold State.fieldLinkLoss
  split
  · refine State.fieldLost_st ?_
    exact h0
  · exact h0

theorem State.dieMask_st {z : State} {s0} {x1} {x2} {x3} {s4} (h0 : Steady z s0) (h4 : ∀ y0 y1, Steady z y0 → Steady z (s4 y0 y1)) :
    Steady z (@State.dieMask s0 x1 x2 x3 s4) := by
  unfold State.dieMask
  extract_lets +onlyGivenNames -underBinder -merge -useContext xq1
  try clear_value xq1
  extract_lets +onlyGivenNames -underBinder -merge -useContext xq2
  have hxq2 : Steady z xq2 := by
    unfold xq2
    refine State.wr_st ?_
    refine State.wr_st ?_
    exact h0
  try clear_value xq2
  refine State.forEach_st ?_ ?_
  · exact hxq2
  · intro b0 b1 hbq3
    refine h4 _ _ ?_
    · exact hbq3

theorem State.voutJudge_st {z : State} {s0} (h0 : Steady z s0) :
    Steady z (@State.voutJudge s0) := by
  unfold State.voutJudge
  extract_lets +onlyGivenNames -underBinder -merge -useContext xq1
  try clear_value xq1
  split
  · exact h0
  · extract_lets +onlyGivenNames -underBinder -merge -useContext xq2
    try clear_value xq2
    extract_lets +onlyGivenNames -underBinder -merge -useContext xq3
    have hxq3 : Steady z xq3 := by
      unfold xq3
      apply Steady.of_eq
      · exact h0
      all_goals rfl
    try clear_value xq3
    split
    · refine State.evt_st ?_
      refine State.wr_st ?_
      exact hxq3
    · exact hxq3

theorem State.dieReport_st {z : State} {s0} (h0 : Steady z s0) :
    Steady z (@State.dieReport s0) := by
  unfold State.dieReport
  split
  · exact h0
  · extract_lets +onlyGivenNames -underBinder -merge -useContext xq1
    try clear_value xq1
    extract_lets +onlyGivenNames -underBinder -merge -useContext xq2
    have hxq2 : Steady z xq2 := by
      unfold xq2
      refine State.voutJudge_st ?_
      refine State.wr_st ?_
      refine State.wr_st ?_
      refine State.safeShow_st ?_
      exact h0
    try clear_value xq2
    extract_lets +onlyGivenNames -underBinder -merge -useContext xq3
    try clear_value xq3
    extract_lets +onlyGivenNames -underBinder -merge -useContext xq4
    try clear_value xq4
    extract_lets +onlyGivenNames -underBinder -merge -useContext xq5
    have hxq5 : Steady z xq5 := by
      unfold xq5
      refine State.wr_st ?_
      refine State.wr_st ?_
      exact hxq2
    try clear_value xq5
    extract_lets +onlyGivenNames -underBinder -merge -useContext xq6
    have hxq6 : Steady z xq6 := by
      unfold xq6
      split
      · refine State.faultU_st ?_
        refine State.evt_st ?_
        refine State.bumpE_st ?_
        exact hxq5
      · exact hxq5
    try clear_value xq6
    extract_lets +onlyGivenNames -underBinder -merge -useContext xq7
    have hxq7 : Steady z xq7 := by
      unfold xq7
      split
      · refine State.faultU_st ?_
        refine State.evt_st ?_
        exact hxq6
      · exact hxq6
    try clear_value xq7
    extract_lets +onlyGivenNames -underBinder -merge -useContext xq8
    have hxq8 : Steady z xq8 := by
      unfold xq8
      refine State.wr_st ?_
      exact hxq7
    try clear_value xq8
    extract_lets +onlyGivenNames -underBinder -merge -useContext xq9
    have hxq9 : Steady z xq9 := by
      unfold xq9
      refine State.dieMask_st ?_ ?_
      · exact hxq8
      · intro b0 b1 hbq10
        refine State.fault_st ?_
        refine State.evt_st ?_
        refine State.bumpE_st ?_
        exact hbq10
    try clear_value xq9
    extract_lets +onlyGivenNames -underBinder -merge -useContext xq11
    have hxq11 : Steady z xq11 := by
      unfold xq11
      refine State.dieMask_st ?_ ?_
      · exact hxq9
      · intro b0 b1 hbq12
        refine State.fault_st ?_
        refine State.evt_st ?_
        refine State.bumpE_st ?_
        exact hbq12
    try clear_value xq11
    refine State.dieMask_st ?_ ?_
    · exact hxq11
    · intro b0 b1 hbq13
      refine State.fault_st ?_
      refine State.evt_st ?_
      exact hbq13

theorem State.safeLeave_st {z : State} {s0} (h0 : Steady z s0) :
    Steady z (@State.safeLeave s0) := by
  unfold State.safeLeave
  extract_lets +onlyGivenNames -underBinder -merge -useContext xq1
  have hxq1 : Steady z xq1 := by
    unfold xq1
    refine State.forEach_st ?_ ?_
    · exact h0
    · intro b0 b1 hbq2
      refine State.modFout_st ?_
      exact hbq2
  try clear_value xq1
  apply Steady.of_eq
  · exact hxq1
  all_goals rfl

theorem State.manageSend_st {z : State} {s0} {x1} (h0 : Steady z s0) :
    Steady z (@State.manageSend s0 x1) := by
  unfold State.manageSend
  extract_lets +onlyGivenNames -underBinder -merge -useContext xq1
  try clear_value xq1
  extract_lets +onlyGivenNames -underBinder -merge -useContext xq2
  try clear_value xq2
  extract_lets +onlyGivenNames -underBinder -merge -useContext xq3
  have hxq3 : Steady z xq3 := by
    unfold xq3
    refine State.emit_st ?_
    exact h0
  try clear_value xq3
  split
  · exact hxq3
  · extract_lets +onlyGivenNames -underBinder -merge -useContext xq4
    have hxq4 : Steady z xq4 := by
      unfold xq4
      refine State.safeLeave_st ?_
      exact hxq3
    try clear_value xq4
    extract_lets +onlyGivenNames -underBinder -merge -useContext xq5
    have hxq5 : Steady z xq5 := by
      unfold xq5
      split
      · apply Steady.of_eq
        · exact hxq4
        all_goals rfl
      · exact hxq3
    try clear_value xq5
    refine State.safeShow_st ?_
    refine State.forEach_st ?_ ?_
    · apply Steady.of_eq
      · exact hxq5
      all_goals rfl
    · intro b0 b1 hbq6
      refine State.outSettle_st ?_
      exact hbq6

theorem State.manageFrame_st {z : State} {s0} {x1} {x2} (h0 : Steady z s0) :
    Steady z (@State.manageFrame s0 x1 x2) := by
  unfold State.manageFrame
  split
  · exact h0
  · extract_lets +onlyGivenNames -underBinder -merge -useContext xq1
    have hxq1 : Steady z xq1 := by
      unfold xq1
      refine State.manageSend_st ?_
      exact h0
    try clear_value xq1
    split
    · refine State.dieReport_st ?_
      refine State.wr_st ?_
      apply Steady.of_eq
      · exact hxq1
      all_goals rfl
    · extract_lets +onlyGivenNames -underBinder -merge -useContext xq2
      have hxq2 : Steady z xq2 := by
        unfold xq2
        split
        · refine State.bumpE_st ?_
          exact hxq1
        · exact hxq1
      try clear_value xq2
      refine State.fieldLinkLoss_st ?_
      apply Steady.of_eq
      · exact hxq2
      all_goals rfl

theorem State.levelSample_st {z : State} {s0} {x1} {x2} (h0 : Steady z s0) :
    Steady z (@State.levelSample s0 x1 x2) := by
  unfold State.levelSample
  extract_lets +onlyGivenNames -underBinder -merge -useContext xq1
  have hxq1 : Steady z xq1 := by
    unfold xq1
    refine State.modFin_st ?_
    exact h0
  try clear_value xq1
  extract_lets +onlyGivenNames -underBinder -merge -useContext xq2
  try clear_value xq2
  split
  · refine State.bumpE_st ?_
    exact hxq1
  · extract_lets +onlyGivenNames -underBinder -merge -useContext xq3
    have hxq3 : Steady z xq3 := by
      unfold xq3
      refine State.wr_st ?_
      refine State.wr_st ?_
      exact hxq1
    try clear_value xq3
    extract_lets +onlyGivenNames -underBinder -merge -useContext xq4
    have hxq4 : Steady z xq4 := by
      unfold xq4
      split
      · split
        · exact hxq3
        · refine State.fault_st ?_
          refine State.evt_st ?_
          refine State.bumpE_st ?_
          exact hxq3
      · refine State.wr_st ?_
        exact hxq1
    try clear_value xq4
    extract_lets +onlyGivenNames -underBinder -merge -useContext xq5
    try clear_value xq5
    extract_lets +onlyGivenNames -underBinder -merge -useContext xq6
    try clear_value xq6
    split
    · refine State.modFin_st ?_
      exact hxq4
    · split
      · extract_lets +onlyGivenNames -underBinder -merge -useContext xq7
        have hxq7 : Steady z xq7 := by
          unfold xq7
          refine State.wr_st ?_
          refine State.modFin_st ?_
          exact hxq4
        try clear_value xq7
        extract_lets +onlyGivenNames -underBinder -merge -useContext xq8
        have hxq8 : Steady z xq8 := by
          unfold xq8
          split
          · refine State.evt_st ?_
            exact hxq7
          · exact hxq7
        try clear_value xq8
        refine State.noteDi_st ?_
        exact hxq8
      · refine State.modFin_st ?_
        exact hxq4

theorem State.inputSample_st {z : State} {s0} {x1} {x2} {x3} (h0 : Steady z s0) :
    Steady z (@State.inputSample s0 x1 x2 x3) := by
  unfold State.inputSample
  split
  · extract_lets +onlyGivenNames -underBinder -merge -useContext xq1
    try clear_value xq1
    extract_lets +onlyGivenNames -underBinder -merge -useContext xq2
    have hxq2 : Steady z xq2 := by
      unfold xq2
      refine State.levelSample_st ?_
      exact h0
    try clear_value xq2
    refine State.modFin_st ?_
    exact hxq2
  · exact h0

theorem State.outputRefresh_st {z : State} {s0} {x1} {x2} (h0 : Steady z s0) :
    Steady z (@State.outputRefresh s0 x1 x2) := by
  unfold State.outputRefresh
  split
  · exact h0
  · extract_lets +onlyGivenNames -underBinder -merge -useContext xq1
    try clear_value xq1
    extract_lets +onlyGivenNames -underBinder -merge -useContext xq2
    have hxq2 : Steady z xq2 := by
      unfold xq2
      refine State.emit_st ?_
      exact h0
    try clear_value xq2
    split
    · refine State.safeShow_st ?_
      refine State.outSettle_st ?_
      refine State.modFout_st ?_
      exact hxq2
    · refine State.modFout_st ?_
      exact hxq2

theorem State.extHigh_st {z : State} {s0} {x1} (h0 : Steady z s0) :
    Steady z (@State.extHigh s0 x1) := by
  unfold State.extHigh
  extract_lets +onlyGivenNames -underBinder -merge -useContext xq1
  try clear_value xq1
  extract_lets +onlyGivenNames -underBinder -merge -useContext xq2
  try clear_value xq2
  extract_lets +onlyGivenNames -underBinder -merge -useContext xq3
  have hxq3 : ∀ a0, Steady z a0 → Steady z (xq3 a0) := by
    intro a0 haq4
    simp -zeta only [xq3]
    apply Steady.of_eq
    · exact haq4
    all_goals rfl
  try clear_value xq3
  split
  · refine hxq3 _ ?_
    · refine State.setFout_st ?_
      exact h0
  · split
    · refine State.setFout_st ?_
      exact h0
    · apply Steady.of_eq
      · exact h0
      all_goals rfl

theorem State.readback_st {z : State} {s0} {x1} {x2} (h0 : Steady z s0) :
    Steady z (@State.readback s0 x1 x2) := by
  unfold State.readback
  extract_lets +onlyGivenNames -underBinder -merge -useContext xq1
  try clear_value xq1
  refine State.dieReport_st ?_
  refine State.forEach_st ?_ ?_
  · apply Steady.of_eq
    · exact h0
    all_goals rfl
  · intro b0 b1 hbq2
    refine State.extHigh_st ?_
    exact hbq2

theorem State.thermalShutdown_st {z : State} {s0} {x1} (h0 : Steady z s0) :
    Steady z (@State.thermalShutdown s0 x1) := by
  unfold State.thermalShutdown
  split
  · refine State.dieReport_st ?_
    apply Steady.of_eq
    · exact h0
    all_goals rfl
  · exact h0

theorem State.retry_st {z : State} {s0} {x1} (h0 : Steady z s0) :
    Steady z (@State.retry s0 x1) := by
  unfold State.retry
  split
  · exact h0
  · extract_lets +onlyGivenNames -underBinder -merge -useContext xq1
    try clear_value xq1
    extract_lets +onlyGivenNames -underBinder -merge -useContext xq2
    have hxq2 : Steady z xq2 := by
      unfold xq2
      refine State.dieReport_st ?_
      apply Steady.of_eq
      · exact h0
      all_goals rfl
    try clear_value xq2
    split
    · refine State.bumpE_st ?_
      exact hxq2
    · exact hxq2

theorem State.openLoad_st {z : State} {s0} {x1} {x2} (h0 : Steady z s0) :
    Steady z (@State.openLoad s0 x1 x2) := by
  unfold State.openLoad
  extract_lets +onlyGivenNames -underBinder -merge -useContext xq1
  try clear_value xq1
  split
  · refine State.dieReport_st ?_
    apply Steady.of_eq
    · exact h0
    all_goals rfl
  · split
    · refine State.dieReport_st ?_
      apply Steady.of_eq
      · exact h0
      all_goals rfl
    · exact h0

theorem State.safeTimeout_st {z : State} {s0} {x1} (h0 : Steady z s0) :
    Steady z (@State.safeTimeout s0 x1) := by
  unfold State.safeTimeout
  refine State.safeShow_st ?_
  refine State.safeEnter_st ?_
  exact h0

theorem State.safeactWrite_st {z : State} {s0} {x1} {x2} (h0 : Steady z s0) :
    Steady z (@State.safeactWrite s0 x1 x2) := by
  unfold State.safeactWrite
  refine State.forEach_st ?_ ?_
  · exact h0
  · intro b0 b1 hbq1
    split
    · refine State.safeShow_st ?_
      refine State.modFout_st ?_
      apply Steady.of_eq
      · exact hbq1
      all_goals rfl
    · refine State.bumpE_st ?_
      refine State.cfgRej_st ?_
      exact hbq1

theorem State.outsSettle_st {z : State} {s0} (h0 : Steady z s0) :
    Steady z (@State.outsSettle s0) := by
  unfold State.outsSettle
  refine State.safeShow_st ?_
  refine State.forEach_st ?_ ?_
  · exact h0
  · intro b0 b1 hbq1
    refine State.outSettle_st ?_
    exact hbq1

theorem State.vfldMeasure_st {z : State} {s0} {x1} {x2} (h0 : Steady z s0) :
    Steady z (@State.vfldMeasure s0 x1 x2) := by
  unfold State.vfldMeasure
  extract_lets +onlyGivenNames -underBinder -merge -useContext xq1
  try clear_value xq1
  extract_lets +onlyGivenNames -underBinder -merge -useContext xq2
  try clear_value xq2
  extract_lets +onlyGivenNames -underBinder -merge -useContext xq3
  try clear_value xq3
  refine State.dieReport_st ?_
  refine State.forEach_st ?_ ?_
  · apply Steady.of_eq
    · exact h0
    all_goals rfl
  · intro b0 b1 hbq4
    refine State.outSettle_st ?_
    exact hbq4

theorem State.fieldBegin_st {z : State} {s0} (h0 : Steady z s0) :
    Steady z (@State.fieldBegin s0) := by
  unfold State.fieldBegin
  extract_lets +onlyGivenNames -underBinder -merge -useContext xq1
  have hxq1 : Steady z xq1 := by
    unfold xq1
    refine State.wr_st ?_
    exact h0
  try clear_value xq1
  apply Steady.of_eq
  · exact hxq1
  all_goals rfl

theorem State.fieldEnd_st {z : State} {s0} (h0 : Steady z s0) :
    Steady z (@State.fieldEnd s0) := by
  unfold State.fieldEnd
  extract_lets +onlyGivenNames -underBinder -merge -useContext xq1
  have hxq1 : Steady z xq1 := by
    unfold xq1
    refine State.wr_st ?_
    exact h0
  try clear_value xq1
  extract_lets +onlyGivenNames -underBinder -merge -useContext xq2
  have hxq2 : Steady z xq2 := by
    unfold xq2
    apply Steady.of_eq
    · exact hxq1
    all_goals rfl
  try clear_value xq2
  refine State.forEach_st ?_ ?_
  · exact hxq2
  · intro b0 b1 hbq3
    refine State.modFout_st ?_
    exact hbq3

theorem State.targetWrite_st {z : State} {s0} {x1} (h0 : Steady z s0) :
    Steady z (@State.targetWrite s0 x1).2 := by
  unfold State.targetWrite
  extract_lets +onlyGivenNames -underBinder -merge -useContext xq1
  try clear_value xq1
  split
  · extract_lets +onlyGivenNames -underBinder -merge -useContext xq2
    have hxq2 : Steady z xq2 := by
      unfold xq2
      refine State.wr_st ?_
      refine State.wr_st ?_
      exact h0
    try clear_value xq2
    refine Steady.mk1 ?_
    refine State.faultU_st ?_
    refine State.evt_st ?_
    exact hxq2
  · extract_lets +onlyGivenNames -underBinder -merge -useContext xq3
    have hxq3 : Steady z xq3 := by
      unfold xq3
      refine State.wr_st ?_
      exact h0
    try clear_value xq3
    refine Steady.mk1 ?_
    split
    · refine State.wr_st ?_
      exact hxq3
    · exact hxq3

theorem State.eraseBlocks_st {z : State} {s0} {x1} (h0 : Steady z s0) :
    Steady z (@State.eraseBlocks s0 x1) := by
  unfold State.eraseBlocks
  split
  · apply Steady.of_eq
    · exact h0
    all_goals rfl
  · split
    · apply Steady.of_eq
      · exact h0
      all_goals rfl
    · apply Steady.of_eq
      · exact h0
      all_goals rfl
    · apply Steady.of_eq
      · exact h0
      all_goals rfl
    · apply Steady.of_eq
      · exact h0
      all_goals rfl
    · apply Steady.of_eq
      · exact h0
      all_goals rfl
    · extract_lets +onlyGivenNames -underBinder -merge -useContext xq1
      have hxq1 : Steady z xq1 := by
        unfold xq1
        apply Steady.of_eq
        · exact h0
        all_goals rfl
      try clear_value xq1
      refine State.forEach_st ?_ ?_
      · exact hxq1
      · intro b0 b1 hbq2
        refine State.setStitch_st ?_
        exact hbq2
    · exact h0

theorem State.switchDomain_st {z : State} {s0} {x1} (h0 : Steady z s0) :
    Steady z (@State.switchDomain s0 x1) := by
  unfold State.switchDomain
  refine State.wr_st ?_
  refine State.eraseRegs_st ?_
  refine State.eraseBlocks_st ?_
  refine State.eraseMemory_st ?_
  exact h0

theorem State.powerStep_st {z : State} {s0} (h0 : Steady z s0) :
    Steady z (@State.powerStep s0) := by
  unfold State.powerStep
  split
  · exact h0
  · split
    · refine State.evt_st ?_
      refine State.wr_st ?_
      exact h0
    · extract_lets +onlyGivenNames -underBinder -merge -useContext xq1
      have hxq1 : Steady z xq1 := by
        unfold xq1
        refine State.switchDomain_st ?_
        exact h0
      try clear_value xq1
      split
      · exact hxq1
      · refine State.evt_st ?_
        refine State.wr_st ?_
        exact hxq1

theorem State.clockMeasure_st {z : State} {s0} {x1} (h0 : Steady z s0) :
    Steady z (@State.clockMeasure s0 x1) := by
  unfold State.clockMeasure
  split
  · exact h0
  · extract_lets +onlyGivenNames -underBinder -merge -useContext xq1
    try clear_value xq1
    extract_lets +onlyGivenNames -underBinder -merge -useContext xq2
    try clear_value xq2
    extract_lets +onlyGivenNames -underBinder -merge -useContext xq3
    have hxq3 : Steady z xq3 := by
      unfold xq3
      refine State.wr_st ?_
      exact h0
    try clear_value xq3
    extract_lets +onlyGivenNames -underBinder -merge -useContext xq4
    try clear_value xq4
    split
    · apply Steady.of_eq
      · exact hxq3
      all_goals rfl
    · extract_lets +onlyGivenNames -underBinder -merge -useContext xq5
      try clear_value xq5
      extract_lets +onlyGivenNames -underBinder -merge -useContext xq6
      try clear_value xq6
      extract_lets +onlyGivenNames -underBinder -merge -useContext xq7
      have hxq7 : Steady z xq7 := by
        unfold xq7
        apply Steady.of_eq
        · exact hxq3
        all_goals rfl
      try clear_value xq7
      split
      · refine State.buckleFault_st ?_
        refine State.faultU_st ?_
        refine State.evt_st ?_
        refine State.wr_st ?_
        exact hxq7
      · exact hxq7

theorem State.pllLoss_st {z : State} {s0} (h0 : Steady z s0) :
    Steady z (@State.pllLoss s0) := by
  unfold State.pllLoss
  split
  · exact h0
  · refine State.faultU_st ?_
    refine State.evt_st ?_
    refine State.bump_st ?_
    refine State.wr_st ?_
    refine State.wr_st ?_
    exact h0

theorem State.pllRelock_st {z : State} {s0} (h0 : Steady z s0) :
    Steady z (@State.pllRelock s0) := by
  unfold State.pllRelock
  refine State.wr_st ?_
  exact h0

theorem State.refclkLoss_st {z : State} {s0} (h0 : Steady z s0) :
    Steady z (@State.refclkLoss s0) := by
  unfold State.refclkLoss
  refine State.faultU_st ?_
  refine State.evt_st ?_
  refine State.wr_st ?_
  exact h0

theorem State.refclkReturn_st {z : State} {s0} (h0 : Steady z s0) :
    Steady z (@State.refclkReturn s0) := by
  unfold State.refclkReturn
  refine State.wr_st ?_
  exact h0

theorem State.scrubWrap_st {z : State} {s0} (h0 : Steady z s0) :
    Steady z (@State.scrubWrap s0) := by
  unfold State.scrubWrap
  refine State.evt_st ?_
  refine State.bump_st ?_
  apply Steady.of_eq
  · exact h0
  all_goals rfl

theorem State.scrubWord_st {z : State} {s0} {x1} (h0 : Steady z s0) :
    Steady z (@State.scrubWord s0 x1) := by
  unfold State.scrubWord
  extract_lets +onlyGivenNames -underBinder -merge -useContext xq1
  have hxq1 : Steady z xq1 := by
    unfold xq1
    refine State.eccRead_st ?_
    exact h0
  try clear_value xq1
  split
  · apply Steady.of_eq
    · exact hxq1
    all_goals rfl
  · refine State.scrubWrap_st ?_
    exact hxq1

theorem State.scrubSlot_st {z : State} {s0} (h0 : Steady z s0) :
    Steady z (@State.scrubSlot s0) := by
  unfold State.scrubSlot
  split
  · exact h0
  · split
    · refine State.scrubWord_st ?_
      exact h0
    · refine State.scrubWord_st ?_
      refine State.scrubWrap_st ?_
      exact h0
    · exact h0

theorem State.injectWrite_st {z : State} {s0} {x1} (h0 : Steady z s0) :
    Steady z (@State.injectWrite s0 x1) := by
  unfold State.injectWrite
  extract_lets +onlyGivenNames -underBinder -merge -useContext xq1
  try clear_value xq1
  split
  · split
    · refine State.cfgRej_st ?_
      exact h0
    · refine State.wr_st ?_
      exact h0
  · split
    · refine State.setReg_st ?_
      exact h0
    · exact h0

theorem State.injaddrWrite_st {z : State} {s0} {x1} (h0 : Steady z s0) :
    Steady z (@State.injaddrWrite s0 x1) := by
  unfold State.injaddrWrite
  split
  · refine State.cfgRej_st ?_
    exact h0
  · refine State.wr_st ?_
    exact h0

theorem State.tempWarning_st {z : State} {s0} {x1} (h0 : Steady z s0) :
    Steady z (@State.tempWarning s0 x1) := by
  unfold State.tempWarning
  split
  · exact h0
  · refine State.faultU_st ?_
    apply Steady.of_eq
    · exact h0
    all_goals rfl

theorem State.tempRearm_st {z : State} {s0} {x1} (h0 : Steady z s0) :
    Steady z (@State.tempRearm s0 x1) := by
  unfold State.tempRearm
  split
  · apply Steady.of_eq
    · exact h0
    all_goals rfl
  · exact h0

theorem State.tempShutdown_st {z : State} {s0} (h0 : Steady z s0) :
    Steady z (@State.tempShutdown s0) := by
  unfold State.tempShutdown
  refine State.faultU_st ?_
  exact h0

theorem State.supplyOut_st {z : State} {s0} {x1} (h0 : Steady z s0) :
    Steady z (@State.supplyOut s0 x1) := by
  unfold State.supplyOut
  refine State.faultU_st ?_
  refine State.wr_st ?_
  exact h0

end Sys2Proof.Machine
end

