-- ==== Sys2Proof/Laws/SteadyHost.lean ====
section
/-! SUPPORT. Steadiness (Sys2Proof/Laws/Steady.lean) of the operations of the host interface, feedback, checks and block states: each keeps the queue, the raw counter and the canonical forms. -/
namespace Sys2Proof.Machine
open State

theorem State.fabWord_st {z : State} {s0} {x1} {x2} {x3} {x4} (h0 : Steady z s0) :
    Steady z (@State.fabWord s0 x1 x2 x3 x4).2 := by
  unfold State.fabWord
  split
  · refine Steady.mk1 ?_
    refine State.cfgRej_st ?_
    exact h0
  · refine State.writeWord_st ?_
    exact h0

theorem State.fabWrite_st {z : State} {s0} {x1} {x2} {x3} (h0 : Steady z s0) :
    Steady z (@State.fabWrite s0 x1 x2 x3).2 := by
  unfold State.fabWrite
  extract_lets +onlyGivenNames -underBinder -merge -useContext xq1
  try clear_value xq1
  refine Steady.foldl1 ?_ ?_
  · refine Steady.mk1 ?_
    refine State.noteAccess_st ?_
    exact h0
  · intro b0 b1 hbq2
    extract_lets +onlyGivenNames -underBinder -merge -useContext xq3
    have hxq3 : Steady z xq3.2 := by
      unfold xq3
      refine State.fabWord_st ?_
      exact hbq2
    try clear_value xq3
    refine Steady.mk1 ?_
    exact hxq3

theorem State.hostRefuse_st {z : State} {s0} {x1} {x2} {x3} (h0 : Steady z s0) :
    Steady z (@State.hostRefuse s0 x1 x2 x3) := by
  unfold State.hostRefuse
  extract_lets +onlyGivenNames -underBinder -merge -useContext xq1
  have hxq1 : Steady z xq1 := by
    unfold xq1
    refine State.gateRecord_st ?_
    exact h0
  try clear_value xq1
  extract_lets +onlyGivenNames -underBinder -merge -useContext xq2
  have hxq2 : Steady z xq2 := by
    unfold xq2
    refine State.setReg_st ?_
    refine State.bump_st ?_
    exact hxq1
  try clear_value xq2
  extract_lets +onlyGivenNames -underBinder -merge -useContext xq3
  have hxq3 : Steady z xq3 := by
    unfold xq3
    refine State.fault_st ?_
    refine State.evt_st ?_
    exact hxq2
  try clear_value xq3
  apply Steady.of_eq
  · exact hxq3
  all_goals rfl

theorem State.rearmWrite_st {z : State} {s0} {x1} {x2} (h0 : Steady z s0) :
    Steady z (@State.rearmWrite s0 x1 x2) := by
  unfold State.rearmWrite
  refine State.forEach_st ?_ ?_
  · exact h0
  · intro b0 b1 hbq1
    refine State.vecTry_st ?_
    refine State.setArmed_st ?_
    exact hbq1

theorem State.msixScan_st {z : State} {s0} (h0 : Steady z s0) :
    Steady z (@State.msixScan s0) := by
  unfold State.msixScan
  refine State.forEach_st ?_ ?_
  · exact h0
  · intro b0 b1 hbq1
    refine State.vecTry_st ?_
    exact hbq1

theorem State.tailWrite_st {z : State} {s0} {x1} {x2} (h0 : Steady z s0) :
    Steady z (@State.tailWrite s0 x1 x2) := by
  unfold State.tailWrite
  split
  · refine State.wr_st ?_
    exact h0
  · refine State.cfgRej_st ?_
    exact h0

theorem State.descRead_st {z : State} {s0} {x1} {x2} (h0 : Steady z s0) :
    Steady z (@State.descRead s0 x1 x2).2.2 := by
  unfold State.descRead
  refine Steady.foldl2 ?_ ?_
  · refine Steady.mk2 ?_
    refine Steady.mk1 ?_
    exact h0
  · intro b0 b1 hbq1
    split
    · rename_i e
      have hmq2 := Steady.of_snd (z := z) e (by
        refine State.readMem_st ?_
        exact hbq1)
      split
      · refine Steady.mk2 ?_
        refine Steady.mk1 ?_
        exact hmq2
      · refine Steady.mk2 ?_
        refine Steady.mk1 ?_
        exact hmq2

theorem State.stampCount_st {z : State} {s0} {x1} {x2} {x3} (h0 : Steady z s0) :
    Steady z (@State.stampCount s0 x1 x2 x3) := by
  unfold State.stampCount
  extract_lets +onlyGivenNames -underBinder -merge -useContext xq1
  try clear_value xq1
  split
  · exact h0
  · split
    · refine State.bump_st ?_
      exact h0
    · split
      · refine State.bump_st ?_
        exact h0
      · exact h0

theorem State.writeBack_st {z : State} {s0} {x1} {x2} {x3} {x4} {x5} {x6} {x7} {x8} (h0 : Steady z s0) :
    Steady z (@State.writeBack s0 x1 x2 x3 x4 x5 x6 x7 x8) := by
  unfold State.writeBack
  extract_lets +onlyGivenNames -underBinder -merge -useContext xq1
  try clear_value xq1
  extract_lets +onlyGivenNames -underBinder -merge -useContext xq2
  try clear_value xq2
  extract_lets +onlyGivenNames -underBinder -merge -useContext xq3
  try clear_value xq3
  extract_lets +onlyGivenNames -underBinder -merge -useContext xq4
  try clear_value xq4
  extract_lets +onlyGivenNames -underBinder -merge -useContext xq5
  have hxq5 : Steady z xq5 := by
    unfold xq5
    split
    · refine State.writeMem_st ?_
      exact h0
    · exact h0
  try clear_value xq5
  extract_lets +onlyGivenNames -underBinder -merge -useContext xq6
  have hxq6 : Steady z xq6 := by
    unfold xq6
    refine State.writeMem_st ?_
    exact hxq5
  try clear_value xq6
  extract_lets +onlyGivenNames -underBinder -merge -useContext xq7
  try clear_value xq7
  extract_lets +onlyGivenNames -underBinder -merge -useContext xq8
  have hxq8 : Steady z xq8 := by
    unfold xq8
    refine State.writeMem_st ?_
    exact hxq6
  try clear_value xq8
  extract_lets +onlyGivenNames -underBinder -merge -useContext xq9
  have hxq9 : Steady z xq9 := by
    unfold xq9
    split
    · refine State.bumpE_st ?_
      exact hxq8
    · refine State.bumpE_st ?_
      exact hxq8
  try clear_value xq9
  extract_lets +onlyGivenNames -underBinder -merge -useContext xq10
  have hxq10 : Steady z xq10 := by
    unfold xq10
    split
    · refine State.bumpE_st ?_
      exact hxq9
    · exact hxq9
  try clear_value xq10
  extract_lets +onlyGivenNames -underBinder -merge -useContext xq11
  have hxq11 : Steady z xq11 := by
    unfold xq11
    refine State.stampCount_st ?_
    exact hxq10
  try clear_value xq11
  extract_lets +onlyGivenNames -underBinder -merge -useContext xq12
  have hxq12 : Steady z xq12 := by
    unfold xq12
    split
    · refine State.evt_st ?_
      exact hxq11
    · exact hxq11
  try clear_value xq12
  split
  · refine State.evt_st ?_
    exact hxq12
  · exact hxq12

theorem State.headNext_st {z : State} {s0} {x1} (h0 : Steady z s0) :
    Steady z (@State.headNext s0 x1) := by
  unfold State.headNext
  refine State.wr_st ?_
  exact h0

theorem State.finish_st {z : State} {s0} {x1} {x2} {x3} (h0 : Steady z s0) :
    Steady z (@State.finish s0 x1 x2 x3) := by
  unfold State.finish
  refine State.headNext_st ?_
  refine State.writeBack_st ?_
  exact h0

theorem State.busError_st {z : State} {s0} {x1} {x2} {x3} (h0 : Steady z s0) :
    Steady z (@State.busError s0 x1 x2 x3) := by
  unfold State.busError
  extract_lets +onlyGivenNames -underBinder -merge -useContext xq1
  have hxq1 : Steady z xq1 := by
    unfold xq1
    refine State.fault_st ?_
    exact h0
  try clear_value xq1
  refine State.headNext_st ?_
  refine State.writeBack_st ?_
  exact hxq1

theorem State.drainRing_st {z : State} {s0} {x1} {x2} (h0 : Steady z s0) :
    Steady z (@State.drainRing s0 x1 x2) := by
  unfold State.drainRing
  extract_lets +onlyGivenNames -underBinder -merge -useContext xq1
  try clear_value xq1
  extract_lets +onlyGivenNames -underBinder -merge -useContext xq2
  try clear_value xq2
  extract_lets +onlyGivenNames -underBinder -merge -useContext xq3
  have hxq3 : Steady z xq3 := by
    unfold xq3
    apply Steady.of_eq
    · exact h0
    all_goals rfl
  try clear_value xq3
  extract_lets +onlyGivenNames -underBinder -merge -useContext xq4
  have hxq4 : Steady z xq4 := by
    unfold xq4
    refine State.forEach_st ?_ ?_
    · exact hxq3
    · intro b0 b1 hbq5
      split
      · rename_i e
        have hmq6 := Steady.of_snd2 (z := z) e (by
          refine State.descRead_st ?_
          exact hbq5)
        split
        · refine State.writeBack_st ?_
          exact hmq6
        · exact hmq6
  try clear_value xq4
  refine State.wr_st ?_
  exact hxq4

theorem State.dmaFreeze_st {z : State} {s0} {x1} {x2} {x3} {x4} {x5} {x6} (h0 : Steady z s0) :
    Steady z (@State.dmaFreeze s0 x1 x2 x3 x4 x5 x6) := by
  unfold State.dmaFreeze
  extract_lets +onlyGivenNames -underBinder -merge -useContext xq1
  have hxq1 : Steady z xq1 := by
    unfold xq1
    refine State.gateRecord_st ?_
    exact h0
  try clear_value xq1
  extract_lets +onlyGivenNames -underBinder -merge -useContext xq2
  have hxq2 : Steady z xq2 := by
    unfold xq2
    refine State.wr_st ?_
    refine State.setSt_st ?_
    exact hxq1
  try clear_value xq2
  extract_lets +onlyGivenNames -underBinder -merge -useContext xq3
  have hxq3 : Steady z xq3 := by
    unfold xq3
    refine State.headNext_st ?_
    refine State.writeBack_st ?_
    exact hxq2
  try clear_value xq3
  refine State.drainRing_st ?_
  exact hxq3

theorem State.plantLink_st {z : State} {s0} {x1} {x2} (h0 : Steady z s0) :
    Steady z (@State.plantLink s0 x1 x2) := by
  unfold State.plantLink
  split
  · refine State.wr_st ?_
    exact h0
  · exact h0

theorem State.dmaAbort_st {z : State} {s0} {x1} (h0 : Steady z s0) :
    Steady z (@State.dmaAbort s0 x1) := by
  unfold State.dmaAbort
  extract_lets +onlyGivenNames -underBinder -merge -useContext xq1
  try clear_value xq1
  extract_lets +onlyGivenNames -underBinder -merge -useContext xq2
  try clear_value xq2
  split
  · refine State.releaseClaims_st ?_
    refine State.setSt_st ?_
    refine State.wr_st ?_
    refine State.drainRing_st ?_
    exact h0
  · split
    · refine State.drainRing_st ?_
      exact h0
    · exact h0

theorem State.hostReset_st {z : State} {s0} {x1} (h0 : Steady z s0) :
    Steady z (@State.hostReset s0 x1) := by
  unfold State.hostReset
  split
  · exact h0
  · extract_lets +onlyGivenNames -underBinder -merge -useContext xq1
    try clear_value xq1
    extract_lets +onlyGivenNames -underBinder -merge -useContext xq2
    try clear_value xq2
    extract_lets +onlyGivenNames -underBinder -merge -useContext xq3
    try clear_value xq3
    extract_lets +onlyGivenNames -underBinder -merge -useContext xq4
    have hxq4 : Steady z xq4 := by
      unfold xq4
      refine State.forEach_st ?_ ?_
      · exact h0
      · intro b0 b1 hbq5
        refine State.dmaAbort_st ?_
        exact hbq5
    try clear_value xq4
    extract_lets +onlyGivenNames -underBinder -merge -useContext xq6
    have hxq6 : Steady z xq6 := by
      unfold xq6
      refine State.resetPage_st ?_
      refine State.resetPage_st ?_
      exact hxq4
    try clear_value xq6
    extract_lets +onlyGivenNames -underBinder -merge -useContext xq7
    have hxq7 : Steady z xq7 := by
      unfold xq7
      apply Steady.of_eq
      · exact hxq6
      all_goals rfl
    try clear_value xq7
    extract_lets +onlyGivenNames -underBinder -merge -useContext xq8
    have hxq8 : Steady z xq8 := by
      unfold xq8
      refine State.bump_st ?_
      refine State.setReg_st ?_
      exact hxq7
    try clear_value xq8
    split
    · refine State.wr_st ?_
      refine State.setReg_st ?_
      exact hxq8
    · split
      · refine State.faultU_st ?_
        refine State.evt_st ?_
        exact hxq8
      · exact hxq8

theorem State.linkUp_st {z : State} {s0} {x1} {x2} (h0 : Steady z s0) :
    Steady z (@State.linkUp s0 x1 x2) := by
  unfold State.linkUp
  split
  · refine State.wr_st ?_
    refine State.wr_st ?_
    refine State.wr_st ?_
    exact h0
  · exact h0

theorem State.powerState_st {z : State} {s0} {x1} (h0 : Steady z s0) :
    Steady z (@State.powerState s0 x1) := by
  unfold State.powerState
  split
  · refine State.wr_st ?_
    exact h0
  · exact h0

theorem State.gateRelease_st {z : State} {s0} {x1} (h0 : Steady z s0) :
    Steady z (@State.gateRelease s0 x1) := by
  unfold State.gateRelease
  split
  · exact h0
  · split
    · split
      · refine State.wr_st ?_
        exact h0
      · exact h0
    · split
      · refine State.cfgRej_st ?_
        exact h0
      · refine State.releaseClaims_st ?_
        refine State.setSt_st ?_
        refine State.wr_st ?_
        exact h0

theorem State.windowWrite_st {z : State} {s0} {x1} {x2} {x3} {x4} (h0 : Steady z s0) :
    Steady z (@State.windowWrite s0 x1 x2 x3 x4) := by
  unfold State.windowWrite
  extract_lets +onlyGivenNames -underBinder -merge -useContext xq1
  try clear_value xq1
  extract_lets +onlyGivenNames -underBinder -merge -useContext xq2
  try clear_value xq2
  extract_lets +onlyGivenNames -underBinder -merge -useContext xq3
  try clear_value xq3
  extract_lets +onlyGivenNames -underBinder -merge -useContext xq4
  try clear_value xq4
  split
  · refine State.cfgRej_st ?_
    exact h0
  · refine State.setReg_st ?_
    exact h0

theorem State.feedFault_st {z : State} {s0} {x1} {x2} {x3} (h0 : Steady z s0) :
    Steady z (@State.feedFault s0 x1 x2 x3) := by
  unfold State.feedFault
  refine State.modFeed_st ?_
  refine State.setSt_st ?_
  refine State.fault_st ?_
  exact h0

theorem State.illFault_st {z : State} {s0} {x1} (h0 : Steady z s0) :
    Steady z (@State.illFault s0 x1) := by
  unfold State.illFault
  split
  · refine State.feedFault_st ?_
    exact h0
  · exact h0

theorem State.noteIll_st {z : State} {s0} {x1} (h0 : Steady z s0) :
    Steady z (@State.noteIll s0 x1) := by
  unfold State.noteIll
  extract_lets +onlyGivenNames -underBinder -merge -useContext xq1
  try clear_value xq1
  extract_lets +onlyGivenNames -underBinder -merge -useContext xq2
  try clear_value xq2
  extract_lets +onlyGivenNames -underBinder -merge -useContext xq3
  try clear_value xq3
  refine State.illFault_st ?_
  refine State.setFeed_st ?_
  exact h0

theorem State.feedStep_st {z : State} {s0} {x1} {x2} (h0 : Steady z s0) :
    Steady z (@State.feedStep s0 x1 x2) := by
  unfold State.feedStep
  extract_lets +onlyGivenNames -underBinder -merge -useContext xq1
  try clear_value xq1
  split
  · refine State.setReg_st ?_
    exact h0
  · refine State.bumpE_st ?_
    refine State.wr_st ?_
    exact h0

theorem State.illegalStep_st {z : State} {s0} {x1} (h0 : Steady z s0) :
    Steady z (@State.illegalStep s0 x1) := by
  unfold State.illegalStep
  extract_lets +onlyGivenNames -underBinder -merge -useContext xq1
  try clear_value xq1
  refine State.noteIll_st ?_
  refine State.evt_st ?_
  refine State.wr_st ?_
  refine State.bumpE_st ?_
  exact h0

theorem State.quadStep_st {z : State} {s0} {x1} {x2} {x3} (h0 : Steady z s0) :
    Steady z (@State.quadStep s0 x1 x2 x3) := by
  unfold State.quadStep
  split
  · exact h0
  · split
    · exact h0
    · refine State.illegalStep_st ?_
      exact h0
    · refine State.feedStep_st ?_
      exact h0

theorem State.hallStep_st {z : State} {s0} {x1} {x2} (h0 : Steady z s0) :
    Steady z (@State.hallStep s0 x1 x2) := by
  unfold State.hallStep
  extract_lets +onlyGivenNames -underBinder -merge -useContext xq1
  try clear_value xq1
  extract_lets +onlyGivenNames -underBinder -merge -useContext xq2
  try clear_value xq2
  split
  · split
    · refine State.noteIll_st ?_
      refine State.evt_st ?_
      refine State.wr_st ?_
      refine State.bumpE_st ?_
      exact h0
    · exact h0
  · extract_lets +onlyGivenNames -underBinder -merge -useContext xq3
    have hxq3 : Steady z xq3 := by
      unfold xq3
      refine State.modFeed_st ?_
      exact h0
    try clear_value xq3
    split
    · exact hxq3
    · split
      · exact hxq3
      · refine State.feedStep_st ?_
        exact hxq3
      · refine State.feedStep_st ?_
        exact hxq3
      · refine State.illegalStep_st ?_
        exact hxq3

theorem State.zCapture_st {z : State} {s0} {x1} (h0 : Steady z s0) :
    Steady z (@State.zCapture s0 x1) := by
  unfold State.zCapture
  extract_lets +onlyGivenNames -underBinder -merge -useContext xq1
  try clear_value xq1
  split
  · refine State.evt_st ?_
    refine State.wr_st ?_
    refine State.setReg_st ?_
    exact h0
  · exact h0

theorem State.decodeSample_st {z : State} {s0} {x1} {x2} {x3} (h0 : Steady z s0) :
    Steady z (@State.decodeSample s0 x1 x2 x3) := by
  unfold State.decodeSample
  extract_lets +onlyGivenNames -underBinder -merge -useContext xq1
  have hxq1 : Steady z xq1 := by
    unfold xq1
    refine State.wr_st ?_
    exact h0
  try clear_value xq1
  extract_lets +onlyGivenNames -underBinder -merge -useContext xq2
  have hxq2 : Steady z xq2 := by
    unfold xq2
    split
    · exact hxq1
    · refine State.hallStep_st ?_
      exact hxq1
  try clear_value xq2
  extract_lets +onlyGivenNames -underBinder -merge -useContext xq3
  have hxq3 : Steady z xq3 := by
    unfold xq3
    refine State.quadStep_st ?_
    exact hxq2
  try clear_value xq3
  split
  · refine State.zCapture_st ?_
    exact hxq3
  · exact hxq3

theorem State.pinSamples_st {z : State} {s0} {x1} {x2} {x3} (h0 : Steady z s0) :
    Steady z (@State.pinSamples s0 x1 x2 x3) := by
  unfold State.pinSamples
  split
  · exact h0
  · extract_lets +onlyGivenNames -underBinder -merge -useContext xq1
    try clear_value xq1
    extract_lets +onlyGivenNames -underBinder -merge -useContext xq2
    try clear_value xq2
    extract_lets +onlyGivenNames -underBinder -merge -useContext xq3
    try clear_value xq3
    extract_lets +onlyGivenNames -underBinder -merge -useContext xq4
    try clear_value xq4
    extract_lets +onlyGivenNames -underBinder -merge -useContext xq5
    have hxq5 : Steady z xq5 := by
      unfold xq5
      refine State.modFeed_st ?_
      exact h0
    try clear_value xq5
    refine State.forEach_st ?_ ?_
    · exact hxq5
    · intro b0 b1 hbq6
      refine State.decodeSample_st ?_
      exact hbq6

theorem State.quadPins_st {z : State} {s0} {x1} {x2} {x3} {x4} (h0 : Steady z s0) :
    Steady z (@State.quadPins s0 x1 x2 x3 x4) := by
  unfold State.quadPins
  refine State.pinSamples_st ?_
  exact h0

theorem State.hallPins_st {z : State} {s0} {x1} {x2} {x3} (h0 : Steady z s0) :
    Steady z (@State.hallPins s0 x1 x2 x3) := by
  unfold State.hallPins
  refine State.pinSamples_st ?_
  exact h0

theorem State.indexPin_st {z : State} {s0} {x1} {x2} {x3} (h0 : Steady z s0) :
    Steady z (@State.indexPin s0 x1 x2 x3) := by
  unfold State.indexPin
  refine State.pinSamples_st ?_
  exact h0

theorem State.feedHistory_st {z : State} {s0} {x1} {x2} (h0 : Steady z s0) :
    Steady z (@State.feedHistory s0 x1 x2) := by
  unfold State.feedHistory
  extract_lets +onlyGivenNames -underBinder -merge -useContext xq1
  try clear_value xq1
  extract_lets +onlyGivenNames -underBinder -merge -useContext xq2
  try clear_value xq2
  extract_lets +onlyGivenNames -underBinder -merge -useContext xq3
  try clear_value xq3
  extract_lets +onlyGivenNames -underBinder -merge -useContext xq4
  try clear_value xq4
  extract_lets +onlyGivenNames -underBinder -merge -useContext xq5
  have hxq5 : Steady z xq5 := by
    unfold xq5
    refine State.modFeed_st ?_
    exact h0
  try clear_value xq5
  refine State.setReg_st ?_
  refine State.setReg_st ?_
  exact hxq5

theorem State.feedI0_st {z : State} {s0} {x1} {x2} (h0 : Steady z s0) :
    Steady z (@State.feedI0 s0 x1 x2) := by
  unfold State.feedI0
  extract_lets +onlyGivenNames -underBinder -merge -useContext xq1
  try clear_value xq1
  split
  · refine State.modFeed_st ?_
    exact h0
  · extract_lets +onlyGivenNames -underBinder -merge -useContext xq2
    try clear_value xq2
    extract_lets +onlyGivenNames -underBinder -merge -useContext xq3
    have hxq3 : Steady z xq3 := by
      unfold xq3
      refine State.modFeed_st ?_
      exact h0
    try clear_value xq3
    split
    · extract_lets +onlyGivenNames -underBinder -merge -useContext xq4
      have hxq4 : Steady z xq4 := by
        unfold xq4
        refine State.modFeed_st ?_
        exact hxq3
      try clear_value xq4
      split
      · refine State.emit_st ?_
        exact hxq4
      · exact hxq4
    · refine State.modFeed_st ?_
      refine State.feedHistory_st ?_
      exact hxq3

theorem State.serFault_st {z : State} {s0} {x1} (h0 : Steady z s0) :
    Steady z (@State.serFault s0 x1) := by
  unfold State.serFault
  split
  · refine State.feedFault_st ?_
    exact h0
  · exact h0

theorem State.serFail_st {z : State} {s0} {x1} {x2} (h0 : Steady z s0) :
    Steady z (@State.serFail s0 x1 x2) := by
  unfold State.serFail
  extract_lets +onlyGivenNames -underBinder -merge -useContext xq1
  try clear_value xq1
  extract_lets +onlyGivenNames -underBinder -merge -useContext xq2
  have hxq2 : Steady z xq2 := by
    unfold xq2
    refine State.evt_st ?_
    refine State.bumpE_st ?_
    refine State.wr_st ?_
    exact h0
  try clear_value xq2
  extract_lets +onlyGivenNames -underBinder -merge -useContext xq3
  have hxq3 : Steady z xq3 := by
    unfold xq3
    split
    · exact hxq2
    · refine State.feedHistory_st ?_
      exact hxq2
  try clear_value xq3
  refine State.serFault_st ?_
  refine State.modFeed_st ?_
  exact hxq3

theorem State.serPass_st {z : State} {s0} {x1} {x2} (h0 : Steady z s0) :
    Steady z (@State.serPass s0 x1 x2) := by
  unfold State.serPass
  extract_lets +onlyGivenNames -underBinder -merge -useContext xq1
  try clear_value xq1
  extract_lets +onlyGivenNames -underBinder -merge -useContext xq2
  try clear_value xq2
  extract_lets +onlyGivenNames -underBinder -merge -useContext xq3
  try clear_value xq3
  extract_lets +onlyGivenNames -underBinder -merge -useContext xq4
  try clear_value xq4
  extract_lets +onlyGivenNames -underBinder -merge -useContext xq5
  have hxq5 : Steady z xq5 := by
    unfold xq5
    refine State.setReg_st ?_
    exact h0
  try clear_value xq5
  extract_lets +onlyGivenNames -underBinder -merge -useContext xq6
  have hxq6 : Steady z xq6 := by
    unfold xq6
    refine State.modFeed_st ?_
    exact hxq5
  try clear_value xq6
  refine State.feedHistory_st ?_
  exact hxq6

theorem State.serDone_st {z : State} {s0} {x1} {x2} {x3} (h0 : Steady z s0) :
    Steady z (@State.serDone s0 x1 x2 x3) := by
  unfold State.serDone
  split
  · exact h0
  · extract_lets +onlyGivenNames -underBinder -merge -useContext xq1
    try clear_value xq1
    extract_lets +onlyGivenNames -underBinder -merge -useContext xq2
    have hxq2 : Steady z xq2 := by
      unfold xq2
      refine State.modFeed_st ?_
      exact h0
    try clear_value xq2
    split
    · refine State.serFail_st ?_
      exact hxq2
    · split
      · refine State.serFail_st ?_
        exact hxq2
      · refine State.serPass_st ?_
        exact hxq2

theorem State.anaCorrect_st {z : State} {s0} {x1} {x2} (h0 : Steady z s0) :
    Steady z (@State.anaCorrect s0 x1 x2).2 := by
  unfold State.anaCorrect
  split
  · refine State.roundQuot_st ?_
    exact h0

theorem State.conversionDone_st {z : State} {s0} {x1} {x2} (h0 : Steady z s0) :
    Steady z (@State.conversionDone s0 x1 x2) := by
  unfold State.conversionDone
  extract_lets +onlyGivenNames -underBinder -merge -useContext xq1
  try clear_value xq1
  split
  · exact h0
  · extract_lets +onlyGivenNames -underBinder -merge -useContext xq2
    have hxq2 : Steady z xq2 := by
      unfold xq2
      refine State.modAna_st ?_
      exact h0
    try clear_value xq2
    split
    · rename_i e
      have hmq3 := Steady.of_snd (z := z) e (by
        refine State.anaCorrect_st ?_
        exact hxq2)
      extract_lets +onlyGivenNames -underBinder -merge -useContext xq4
      try clear_value xq4
      extract_lets +onlyGivenNames -underBinder -merge -useContext xq5
      try clear_value xq5
      extract_lets +onlyGivenNames -underBinder -merge -useContext xq6
      have hxq6 : Steady z xq6 := by
        unfold xq6
        refine State.wr_st ?_
        exact hmq3
      try clear_value xq6
      extract_lets +onlyGivenNames -underBinder -merge -useContext xq7
      have hxq7 : Steady z xq7 := by
        unfold xq7
        split
        · refine State.wr_st ?_
          exact hxq6
        · refine State.wr_st ?_
          exact hxq6
        · exact hxq6
      try clear_value xq7
      split
      · refine State.evt_st ?_
        refine State.bumpE_st ?_
        exact hxq7
      · exact hxq7

theorem State.contSlot_st {z : State} {s0} {x1} (h0 : Steady z s0) :
    Steady z (@State.contSlot s0 x1) := by
  unfold State.contSlot
  split
  · refine State.beginConv_st ?_
    exact h0
  · exact h0

theorem State.driveAna_st {z : State} {s0} {x1} {x2} (h0 : Steady z s0) :
    Steady z (@State.driveAna s0 x1 x2) := by
  unfold State.driveAna
  extract_lets +onlyGivenNames -underBinder -merge -useContext xq1
  try clear_value xq1
  refine State.setOut_st ?_
  exact h0

theorem State.anaCutoff_st {z : State} {s0} {x1} {x2} (h0 : Steady z s0) :
    Steady z (@State.anaCutoff s0 x1 x2) := by
  unfold State.anaCutoff
  extract_lets +onlyGivenNames -underBinder -merge -useContext xq1
  have hxq1 : Steady z xq1 := by
    unfold xq1
    refine State.modAna_st ?_
    exact h0
  try clear_value xq1
  split
  · refine State.driveAna_st ?_
    exact hxq1
  · exact hxq1

theorem State.anaI0_st {z : State} {s0} {x1} (h0 : Steady z s0) :
    Steady z (@State.anaI0 s0 x1) := by
  unfold State.anaI0
  extract_lets +onlyGivenNames -underBinder -merge -useContext xq1
  try clear_value xq1
  split
  · extract_lets +onlyGivenNames -underBinder -merge -useContext xq2
    try clear_value xq2
    extract_lets +onlyGivenNames -underBinder -merge -useContext xq3
    have hxq3 : Steady z xq3 := by
      unfold xq3
      refine State.bumpE_st ?_
      exact h0
    try clear_value xq3
    extract_lets +onlyGivenNames -underBinder -merge -useContext xq4
    have hxq4 : Steady z xq4 := by
      unfold xq4
      split
      · split
        · refine State.evt_st ?_
          exact hxq3
        · exact hxq3
      · exact h0
    try clear_value xq4
    refine State.beginConv_st ?_
    exact hxq4
  · split
    · extract_lets +onlyGivenNames -underBinder -merge -useContext xq5
      try clear_value xq5
      extract_lets +onlyGivenNames -underBinder -merge -useContext xq6
      try clear_value xq6
      extract_lets +onlyGivenNames -underBinder -merge -useContext xq7
      have hxq7 : Steady z xq7 := by
        unfold xq7
        refine State.setAna_st ?_
        exact h0
      try clear_value xq7
      refine State.driveAna_st ?_
      exact hxq7
    · exact h0

theorem State.outvalWrite_st {z : State} {s0} {x1} {x2} (h0 : Steady z s0) :
    Steady z (@State.outvalWrite s0 x1 x2) := by
  unfold State.outvalWrite
  extract_lets +onlyGivenNames -underBinder -merge -useContext xq1
  try clear_value xq1
  extract_lets +onlyGivenNames -underBinder -merge -useContext xq2
  have hxq2 : Steady z xq2 := by
    unfold xq2
    refine State.wr_st ?_
    exact h0
  try clear_value xq2
  split
  · refine State.driveAna_st ?_
    exact hxq2
  · exact hxq2

theorem State.anaIdle_st {z : State} {s0} {x1} (h0 : Steady z s0) :
    Steady z (@State.anaIdle s0 x1) := by
  unfold State.anaIdle
  split
  · extract_lets +onlyGivenNames -underBinder -merge -useContext xq1
    try clear_value xq1
    refine State.modAna_st ?_
    refine State.setOut_st ?_
    exact h0
  · exact h0

theorem State.anaOff_st {z : State} {s0} {x1} (h0 : Steady z s0) :
    Steady z (@State.anaOff s0 x1) := by
  unfold State.anaOff
  refine State.anaIdle_st ?_
  refine State.modAna_st ?_
  exact h0

theorem State.localSample_st {z : State} {s0} {x1} {x2} (h0 : Steady z s0) :
    Steady z (@State.localSample s0 x1 x2) := by
  unfold State.localSample
  extract_lets +onlyGivenNames -underBinder -merge -useContext xq1
  try clear_value xq1
  extract_lets +onlyGivenNames -underBinder -merge -useContext xq2
  try clear_value xq2
  extract_lets +onlyGivenNames -underBinder -merge -useContext xq3
  try clear_value xq3
  extract_lets +onlyGivenNames -underBinder -merge -useContext xq4
  try clear_value xq4
  extract_lets +onlyGivenNames -underBinder -merge -useContext xq5
  try clear_value xq5
  extract_lets +onlyGivenNames -underBinder -merge -useContext xq6
  try clear_value xq6
  refine State.inputs_st ?_
  exact h0

theorem State.localArrival_st {z : State} {s0} (h0 : Steady z s0) :
    Steady z (@State.localArrival s0) := by
  unfold State.localArrival
  split
  · exact h0
  · extract_lets +onlyGivenNames -underBinder -merge -useContext xq1
    try clear_value xq1
    extract_lets +onlyGivenNames -underBinder -merge -useContext xq2
    have hxq2 : Steady z xq2 := by
      unfold xq2
      refine State.forEach_st ?_ ?_
      · exact h0
      · intro b0 b1 hbq3
        refine State.localSample_st ?_
        exact hbq3
    try clear_value xq2
    refine State.arrival_st ?_
    exact hxq2

theorem State.monitorConv_st {z : State} {s0} {x1} {x2} (h0 : Steady z s0) :
    Steady z (@State.monitorConv s0 x1 x2) := by
  unfold State.monitorConv
  extract_lets +onlyGivenNames -underBinder -merge -useContext xq1
  try clear_value xq1
  split
  · exact h0
  · extract_lets +onlyGivenNames -underBinder -merge -useContext xq2
    have hxq2 : Steady z xq2 := by
      unfold xq2
      refine State.wr_st ?_
      exact h0
    try clear_value xq2
    extract_lets +onlyGivenNames -underBinder -merge -useContext xq3
    try clear_value xq3
    extract_lets +onlyGivenNames -underBinder -merge -useContext xq4
    try clear_value xq4
    extract_lets +onlyGivenNames -underBinder -merge -useContext xq5
    try clear_value xq5
    split
    · refine State.evt_st ?_
      refine State.fault_st ?_
      refine State.wr_st ?_
      exact hxq2
    · split
      · refine State.evt_st ?_
        refine State.fault_st ?_
        refine State.wr_st ?_
        exact hxq2
      · exact hxq2

theorem State.graphCheck_st {z : State} {s0} (h0 : Steady z s0) :
    Steady z (@State.graphCheck s0).2 := by
  unfold State.graphCheck
  split
  · rename_i e
    have hmq1 := Steady.of_snd (z := z) e (by
      refine State.graphLoad_st ?_
      exact h0)
    split
    · refine Steady.mk1 ?_
      apply Steady.of_eq
      · exact hmq1
      all_goals rfl
    · extract_lets +onlyGivenNames -underBinder -merge -useContext xq2
      have hxq2 : Steady z xq2 := by
        unfold xq2
        refine State.wr_st ?_
        refine State.wr_st ?_
        exact hmq1
      try clear_value xq2
      refine Steady.mk1 ?_
      refine State.fault_st ?_
      refine State.evt_st ?_
      exact hxq2

theorem State.camFails_st {z : State} {s0} {x1} (h0 : Steady z s0) :
    Steady z (@State.camFails s0 x1).2 := by
  unfold State.camFails
  extract_lets +onlyGivenNames -underBinder -merge -useContext xq1
  try clear_value xq1
  extract_lets +onlyGivenNames -underBinder -merge -useContext xq2
  try clear_value xq2
  split
  · refine Steady.mk1 ?_
    exact h0
  · split
    · rename_i e
      have hmq3 := Steady.of_snd (z := z) e (by
        refine State.fixRead_st ?_
        exact h0)
      split
      · refine Steady.mk1 ?_
        exact hmq3
      · extract_lets +onlyGivenNames -underBinder -merge -useContext xq4
        try clear_value xq4
        extract_lets +onlyGivenNames -underBinder -merge -useContext xq5
        try clear_value xq5
        split
        · refine Steady.mk1 ?_
          exact hmq3
        · split
          · refine Steady.mk1 ?_
            exact hmq3
          · split
            · rename_i e
              have hmq6 := Steady.of_snd (z := z) e (by
                refine State.fixRead_st ?_
                exact hmq3)
              split
              · rename_i e
                have hmq7 := Steady.of_snd (z := z) e (by
                  refine State.fixRead_st ?_
                  exact hmq6)
                split
                · split
                  · refine Steady.mk1 ?_
                    exact hmq7
                  · refine Steady.mk1 ?_
                    exact hmq7
                · refine Steady.mk1 ?_
                  exact hmq7

theorem State.camCheck_st {z : State} {s0} (h0 : Steady z s0) :
    Steady z (@State.camCheck s0).2 := by
  unfold State.camCheck
  refine Steady.foldl1 ?_ ?_
  · refine Steady.mk1 ?_
    exact h0
  · intro b0 b1 hbq1
    split
    · exact hbq1
    · split
      · rename_i e
        have hmq2 := Steady.of_snd (z := z) e (by
          refine State.camFails_st ?_
          exact hbq1)
        refine Steady.mk1 ?_
        refine State.fault_st ?_
        exact hmq2
      · rename_i e
        have hmq3 := Steady.of_snd (z := z) e (by
          refine State.camFails_st ?_
          exact hbq1)
        refine Steady.mk1 ?_
        exact hmq3

theorem State.crcCheck_st {z : State} {s0} (h0 : Steady z s0) :
    Steady z (@State.crcCheck s0).2 := by
  unfold State.crcCheck
  split
  · rename_i e
    have hmq1 := Steady.of_snd (z := z) e (by
      refine State.safetyCrc_st ?_
      exact h0)
    split
    · refine Steady.mk1 ?_
      exact hmq1
    · refine Steady.mk1 ?_
      refine State.fault_st ?_
      refine State.wr_st ?_
      exact hmq1

theorem State.startCheck_st {z : State} {s0} {x1} (h0 : Steady z s0) :
    Steady z (@State.startCheck s0 x1).2 := by
  unfold State.startCheck
  split
  · extract_lets +onlyGivenNames -underBinder -merge -useContext xq1
    have hxq1 : Steady z xq1.2 := by
      unfold xq1
      refine State.crcCheck_st ?_
      exact h0
    try clear_value xq1
    split
    · exact hxq1
    · refine Steady.mk1 ?_
      exact hxq1
  · split
    · refine Steady.mk1 ?_
      exact h0
    · split
      · split
        · refine State.graphCheck_st ?_
          exact h0
        · split
          · refine State.camCheck_st ?_
            exact h0
          · refine Steady.mk1 ?_
            exact h0
      · refine Steady.mk1 ?_
        exact h0

theorem State.setAutoRun_st {z : State} {s0} {x1} {x2} {x3} (h0 : Steady z s0) :
    Steady z (@State.setAutoRun s0 x1 x2 x3) := by
  unfold State.setAutoRun
  apply Steady.of_eq
  · exact h0
  all_goals rfl

theorem State.autoCal_st {z : State} {s0} {x1} (h0 : Steady z s0) :
    Steady z (@State.autoCal s0 x1) := by
  unfold State.autoCal
  refine State.forEach_st ?_ ?_
  · exact h0
  · intro b0 b1 hbq1
    split
    · refine State.setAutoRun_st ?_
      refine State.wr_st ?_
      exact hbq1
    · exact hbq1

theorem State.calStart_st {z : State} {s0} {x1} {x2} (h0 : Steady z s0) :
    Steady z (@State.calStart s0 x1 x2) := by
  unfold State.calStart
  split
  · split
    · split
      · exact h0
      · refine State.setAutoRun_st ?_
        refine State.wr_st ?_
        exact h0
    · split
      · exact h0
      · refine State.cfgRej_st ?_
        exact h0
  · exact h0

theorem State.monMeasure_st {z : State} {s0} {x1} {x2} {x3} (h0 : Steady z s0) :
    Steady z (@State.monMeasure s0 x1 x2 x3) := by
  unfold State.monMeasure
  split
  · exact h0
  · extract_lets +onlyGivenNames -underBinder -merge -useContext xq1
    try clear_value xq1
    extract_lets +onlyGivenNames -underBinder -merge -useContext xq2
    try clear_value xq2
    extract_lets +onlyGivenNames -underBinder -merge -useContext xq3
    try clear_value xq3
    extract_lets +onlyGivenNames -underBinder -merge -useContext xq4
    try clear_value xq4
    extract_lets +onlyGivenNames -underBinder -merge -useContext xq5
    try clear_value xq5
    extract_lets +onlyGivenNames -underBinder -merge -useContext xq6
    try clear_value xq6
    extract_lets +onlyGivenNames -underBinder -merge -useContext xq7
    have hxq7 : Steady z xq7 := by
      unfold xq7
      refine State.wr_st ?_
      exact h0
    try clear_value xq7
    extract_lets +onlyGivenNames -underBinder -merge -useContext xq8
    have hxq8 : Steady z xq8 := by
      unfold xq8
      split
      · refine State.wr_st ?_
        exact hxq7
      · exact hxq7
    try clear_value xq8
    split
    · refine State.wr_st ?_
      exact hxq8
    · exact hxq8

theorem State.startHook_st {z : State} {s0} {x1} (h0 : Steady z s0) :
    Steady z (@State.startHook s0 x1) := by
  unfold State.startHook
  extract_lets +onlyGivenNames -underBinder -merge -useContext xq1
  try clear_value xq1
  split
  · apply Steady.of_eq
    · exact h0
    all_goals rfl
  · refine State.setAwl_st ?_
    exact h0
  · refine State.cinchBegin_st ?_
    exact h0
  · refine State.stitchStart_st ?_
    exact h0
  · refine State.modFeed_st ?_
    refine State.wr_st ?_
    refine State.setReg_st ?_
    exact h0
  · refine State.stampStart_st ?_
    exact h0
  · refine State.fieldBegin_st ?_
    exact h0
  · split
    · refine State.manageSend_st ?_
      exact h0
    · exact h0
  · refine State.wr_st ?_
    exact h0
  · refine State.wr_st ?_
    exact h0
  · exact h0

theorem State.startAnew_st {z : State} {s0} {x1} (h0 : Steady z s0) :
    Steady z (@State.startAnew s0 x1) := by
  unfold State.startAnew
  apply Steady.of_eq
  · exact h0
  all_goals rfl

theorem State.tryStart_st {z : State} {s0} {x1} (h0 : Steady z s0) :
    Steady z (@State.tryStart s0 x1) := by
  unfold State.tryStart
  split
  · exact h0
  · split
    · rename_i e
      have hmq1 := Steady.of_snd (z := z) e (by
        refine State.startCheck_st ?_
        exact h0)
      split
      · refine State.cfgRej_st ?_
        refine State.wr_st ?_
        exact hmq1
      · extract_lets +onlyGivenNames -underBinder -merge -useContext xq2
        have hxq2 : Steady z xq2 := by
          unfold xq2
          refine State.cfgRej_st ?_
          refine State.wr_st ?_
          exact hmq1
        try clear_value xq2
        split
        · refine State.fault_st ?_
          exact hxq2
        · refine State.faultU_st ?_
          exact hxq2
      · split
        · rename_i e
          have hmq3 := Steady.of_snd (z := z) e (by
            refine State.claim_st ?_
            exact hmq1)
          split
          · refine State.wr_st ?_
            exact hmq3
          · refine State.startHook_st ?_
            refine State.autoCal_st ?_
            refine State.setSt_st ?_
            refine State.wr_st ?_
            refine State.startAnew_st ?_
            exact hmq3

theorem State.stopAna_st {z : State} {s0} {x1} (h0 : Steady z s0) :
    Steady z (@State.stopAna s0 x1) := by
  unfold State.stopAna
  extract_lets +onlyGivenNames -underBinder -merge -useContext xq1
  try clear_value xq1
  split
  · refine State.anaOff_st ?_
    refine State.setSt_st ?_
    refine State.wr_st ?_
    exact h0
  · exact h0

theorem State.stopHook_st {z : State} {s0} {x1} (h0 : Steady z s0) :
    Steady z (@State.stopHook s0 x1) := by
  unfold State.stopHook
  extract_lets +onlyGivenNames -underBinder -merge -useContext xq1
  try clear_value xq1
  split
  · apply Steady.of_eq
    · exact h0
    all_goals rfl
  · split
    · refine State.modPort_st ?_
      exact h0
    · exact h0
  · refine State.latHalt_st ?_
    exact h0
  · refine State.cinchStop_st ?_
    exact h0
  · refine State.awlLeave_st ?_
    exact h0
  · refine State.pgPageStop_st ?_
    exact h0
  · refine State.pgPageStop_st ?_
    exact h0
  · refine State.grpHalt_st ?_
    exact h0
  · refine State.stitchOff_st ?_
    exact h0
  · refine State.forEach_st ?_ ?_
    · exact h0
    · intro b0 b1 hbq2
      refine State.stopAna_st ?_
      exact hbq2
  · refine State.anaOff_st ?_
    exact h0
  · refine State.stampAbort_st ?_
    exact h0
  · refine State.buckleHalt_st ?_
    exact h0
  · refine State.safeCommand_st ?_
    exact h0
  · refine State.outsSettle_st ?_
    exact h0
  · refine State.tpinHalt_st ?_
    exact h0
  · refine State.drainRing_st ?_
    exact h0
  · exact h0

theorem State.requestStop_st {z : State} {s0} {x1} (h0 : Steady z s0) :
    Steady z (@State.requestStop s0 x1) := by
  unfold State.requestStop
  split
  · exact h0
  · split
    · extract_lets +onlyGivenNames -underBinder -merge -useContext xq1
      try clear_value xq1
      extract_lets +onlyGivenNames -underBinder -merge -useContext xq2
      have hxq2 : Steady z xq2 := by
        unfold xq2
        refine State.wr_st ?_
        exact h0
      try clear_value xq2
      split
      · refine State.releaseClaims_st ?_
        refine State.setSt_st ?_
        exact hxq2
      · extract_lets +onlyGivenNames -underBinder -merge -useContext xq3
        have hxq3 : Steady z xq3 := by
          unfold xq3
          refine State.setSt_st ?_
          exact hxq2
        try clear_value xq3
        split
        · exact hxq3
        · refine State.stopHook_st ?_
          exact hxq3
    · extract_lets +onlyGivenNames -underBinder -merge -useContext xq4
      try clear_value xq4
      extract_lets +onlyGivenNames -underBinder -merge -useContext xq5
      have hxq5 : Steady z xq5 := by
        unfold xq5
        refine State.wr_st ?_
        exact h0
      try clear_value xq5
      split
      · refine State.releaseClaims_st ?_
        refine State.setSt_st ?_
        exact hxq5
      · extract_lets +onlyGivenNames -underBinder -merge -useContext xq6
        have hxq6 : Steady z xq6 := by
          unfold xq6
          refine State.setSt_st ?_
          exact hxq5
        try clear_value xq6
        split
        · exact hxq6
        · refine State.stopHook_st ?_
          exact hxq6
    · refine State.wr_st ?_
      exact h0
    · refine State.wr_st ?_
      exact h0
    · exact h0

theorem State.startComplete_st {z : State} {s0} {x1} (h0 : Steady z s0) :
    Steady z (@State.startComplete s0 x1) := by
  unfold State.startComplete
  split
  · exact h0
  · extract_lets +onlyGivenNames -underBinder -merge -useContext xq1
    try clear_value xq1
    split
    · refine State.latBegin_st ?_
      exact h0
    · refine State.buckleBegin_st ?_
      exact h0
    · refine State.stitchRun_st ?_
      exact h0
    · refine State.setSt_st ?_
      exact h0

theorem State.endHook_st {z : State} {s0} {x1} (h0 : Steady z s0) :
    Steady z (@State.endHook s0 x1) := by
  unfold State.endHook
  split
  · refine State.latEnd_st ?_
    exact h0
  · refine State.fieldEnd_st ?_
    exact h0
  · refine State.portIdle_st ?_
    exact h0
  · exact h0

theorem State.calDone_st {z : State} {s0} {x1} {x2} {x3} {x4} {x5} {x6} (h0 : Steady z s0) :
    Steady z (@State.calDone s0 x1 x2 x3 x4 x5 x6) := by
  unfold State.calDone
  split
  · exact h0
  · extract_lets +onlyGivenNames -underBinder -merge -useContext xq1
    try clear_value xq1
    extract_lets +onlyGivenNames -underBinder -merge -useContext xq2
    have hxq2 : Steady z xq2 := by
      unfold xq2
      refine State.setAutoRun_st ?_
      refine State.wr_st ?_
      exact h0
    try clear_value xq2
    split
    · extract_lets +onlyGivenNames -underBinder -merge -useContext xq3
      have hxq3 : Steady z xq3 := by
        unfold xq3
        refine State.wr_st ?_
        refine State.wr_st ?_
        exact hxq2
      try clear_value xq3
      extract_lets +onlyGivenNames -underBinder -merge -useContext xq4
      try clear_value xq4
      extract_lets +onlyGivenNames -underBinder -merge -useContext xq5
      have hxq5 : Steady z xq5 := by
        unfold xq5
        split
        · exact hxq3
        · refine State.setReg_st ?_
          exact hxq3
      try clear_value xq5
      extract_lets +onlyGivenNames -underBinder -merge -useContext xq6
      have hxq6 : Steady z xq6 := by
        unfold xq6
        split
        · exact hxq5
        · refine State.setReg_st ?_
          exact hxq5
      try clear_value xq6
      split
      · refine State.anaIdle_st ?_
        exact hxq6
      · exact hxq6
    · extract_lets +onlyGivenNames -underBinder -merge -useContext xq7
      have hxq7 : Steady z xq7 := by
        unfold xq7
        refine State.wr_st ?_
        refine State.wr_st ?_
        exact hxq2
      try clear_value xq7
      split
      · exact hxq7
      · extract_lets +onlyGivenNames -underBinder -merge -useContext xq8
        have hxq8 : Steady z xq8 := by
          unfold xq8
          refine State.fault_st ?_
          refine State.wr_st ?_
          refine State.cfgRej_st ?_
          exact hxq7
        try clear_value xq8
        extract_lets +onlyGivenNames -underBinder -merge -useContext xq9
        have hxq9 : Steady z xq9 := by
          unfold xq9
          refine State.forEach_st ?_ ?_
          · exact hxq8
          · intro b0 b1 hbq10
            refine State.setAutoRun_st ?_
            refine State.wr_st ?_
            exact hbq10
        try clear_value xq9
        refine State.endHook_st ?_
        refine State.releaseClaims_st ?_
        refine State.setSt_st ?_
        exact hxq9

theorem State.stopComplete_st {z : State} {s0} {x1} (h0 : Steady z s0) :
    Steady z (@State.stopComplete s0 x1) := by
  unfold State.stopComplete
  split
  · exact h0
  · refine State.endHook_st ?_
    refine State.releaseClaims_st ?_
    refine State.setSt_st ?_
    exact h0

theorem State.faultReactionComplete_st {z : State} {s0} {x1} (h0 : Steady z s0) :
    Steady z (@State.faultReactionComplete s0 x1) := by
  unfold State.faultReactionComplete
  split
  · exact h0
  · refine State.endHook_st ?_
    refine State.releaseClaims_st ?_
    refine State.setSt_st ?_
    exact h0

theorem State.otpWrite_st {z : State} {s0} {x1} {x2} (h0 : Steady z s0) :
    Steady z (@State.otpWrite s0 x1 x2) := by
  unfold State.otpWrite
  extract_lets +onlyGivenNames -underBinder -merge -useContext xq1
  try clear_value xq1
  split
  · refine State.wr_st ?_
    exact h0
  · extract_lets +onlyGivenNames -underBinder -merge -useContext xq2
    try clear_value xq2
    split
    · extract_lets +onlyGivenNames -underBinder -merge -useContext xq3
      have hxq3 : Steady z xq3 := by
        unfold xq3
        refine State.wr_st ?_
        refine State.wr_st ?_
        exact h0
      try clear_value xq3
      apply Steady.of_eq
      · exact hxq3
      all_goals rfl
    · refine State.cfgRej_st ?_
      exact h0

theorem State.otpDone_st {z : State} {s0} (h0 : Steady z s0) :
    Steady z (@State.otpDone s0) := by
  unfold State.otpDone
  split
  · exact h0
  · extract_lets +onlyGivenNames -underBinder -merge -useContext xq1
    have hxq1 : Steady z xq1 := by
      unfold xq1
      refine State.setReg_st ?_
      exact h0
    try clear_value xq1
    extract_lets +onlyGivenNames -underBinder -merge -useContext xq2
    have hxq2 : Steady z xq2 := by
      unfold xq2
      refine State.wr_st ?_
      exact hxq1
    try clear_value xq2
    apply Steady.of_eq
    · exact hxq2
    all_goals rfl

theorem State.hlbaseWrite_st {z : State} {s0} {x1} (h0 : Steady z s0) :
    Steady z (@State.hlbaseWrite s0 x1) := by
  unfold State.hlbaseWrite
  split
  · refine State.cfgRej_st ?_
    exact h0
  · refine State.wr_st ?_
    exact h0

theorem State.hostLoadGo_st {z : State} {s0} (h0 : Steady z s0) :
    Steady z (@State.hostLoadGo s0) := by
  unfold State.hostLoadGo
  split
  · refine State.cfgRej_st ?_
    exact h0
  · split
    · apply Steady.of_eq
      · exact h0
      all_goals rfl
    · exact h0

end Sys2Proof.Machine
end

