-- ==== Sys2Proof/Laws/SteadyBus.lean ====
section
/-! SUPPORT. Steadiness (Sys2Proof/Laws/Steady.lean) of the operations of tack, the bus, the loader and the instants of the cycle: each keeps the queue, the raw counter and the canonical forms. -/
namespace Sys2Proof.Machine
open State

theorem State.plainWrite_st {z : State} {s0} {x1} {x2} {x3} (h0 : Steady z s0) :
    Steady z (@State.plainWrite s0 x1 x2 x3) := by
  unfold State.plainWrite
  extract_lets +onlyGivenNames -underBinder -merge -useContext xq1
  try clear_value xq1
  refine State.setReg_st ?_
  exact h0

theorem State.tackOutcome_st {z : State} {s0} {x1} (h0 : Steady z s0) :
    Steady z (@State.tackOutcome s0 x1) := by
  unfold State.tackOutcome
  extract_lets +onlyGivenNames -underBinder -merge -useContext xq1
  try clear_value xq1
  extract_lets +onlyGivenNames -underBinder -merge -useContext xq2
  have hxq2 : Steady z xq2 := by
    unfold xq2
    refine State.forEach_st ?_ ?_
    · exact h0
    · intro b0 b1 hbq3
      refine State.switchDomain_st ?_
      exact hbq3
  try clear_value xq2
  extract_lets +onlyGivenNames -underBinder -merge -useContext xq4
  have hxq4 : Steady z xq4 := by
    unfold xq4
    refine State.forEach_st ?_ ?_
    · exact hxq2
    · intro b0 b1 hbq5
      refine State.plainWrite_st ?_
      exact hbq5
  try clear_value xq4
  extract_lets +onlyGivenNames -underBinder -merge -useContext xq6
  have hxq6 : Steady z xq6 := by
    unfold xq6
    apply Steady.of_eq
    · exact hxq4
    all_goals rfl
  try clear_value xq6
  extract_lets +onlyGivenNames -underBinder -merge -useContext xq7
  have hxq7 : Steady z xq7 := by
    unfold xq7
    refine State.forEach_st ?_ ?_
    · exact hxq6
    · intro b0 b1 hbq8
      refine State.setAxis_st ?_
      exact hbq8
  try clear_value xq7
  refine State.forEach_st ?_ ?_
  · exact hxq7
  · intro b0 b1 hbq9
    refine State.setBytes_st ?_
    exact hbq9

theorem State.tackRead_st {z : State} {s0} (h0 : Steady z s0) :
    Steady z (@State.tackRead s0).2 := by
  unfold State.tackRead
  refine State.blockRead_st ?_
  exact h0

theorem State.tackReject_st {z : State} {s0} {x1} (h0 : Steady z s0) :
    Steady z (@State.tackReject s0 x1) := by
  unfold State.tackReject
  extract_lets +onlyGivenNames -underBinder -merge -useContext xq1
  have hxq1 : Steady z xq1 := by
    unfold xq1
    refine State.evt_st ?_
    refine State.bump_st ?_
    refine State.wr_st ?_
    exact h0
  try clear_value xq1
  refine State.wr_st ?_
  refine State.wr_st ?_
  refine State.fault_st ?_
  exact hxq1

theorem State.tackStops_st {z : State} {s0} (h0 : Steady z s0) :
    Steady z (@State.tackStops s0) := by
  unfold State.tackStops
  split
  · refine State.forEach_st ?_ ?_
    · exact h0
    · intro b0 b1 hbq1
      split
      · refine State.bootAct_st ?_ ?_
        · exact hbq1
        · intro b0 hbq2
          refine State.requestStop_st ?_
          exact hbq2
      · exact hbq1
  · exact h0

theorem State.tackRequest_st {z : State} {s0} {x1} (h0 : Steady z s0) :
    Steady z (@State.tackRequest s0 x1) := by
  unfold State.tackRequest
  split
  · exact h0
  · split
    · split
      · refine State.cfgRej_st ?_
        refine State.bump_st ?_
        exact h0
      · extract_lets +onlyGivenNames -underBinder -merge -useContext xq1
        have hxq1 : Steady z xq1 := by
          unfold xq1
          refine State.wr_st ?_
          refine State.wr_st ?_
          exact h0
        try clear_value xq1
        extract_lets +onlyGivenNames -underBinder -merge -useContext xq2
        try clear_value xq2
        extract_lets +onlyGivenNames -underBinder -merge -useContext xq3
        have hxq3 : Steady z xq3 := by
          unfold xq3
          apply Steady.of_eq
          · exact hxq1
          all_goals rfl
        try clear_value xq3
        split
        · rename_i e
          have hmq4 := Steady.of_snd (z := z) e (by
            refine State.tackRead_st ?_
            exact hxq3)
          split
          · refine State.tackReject_st ?_
            exact hmq4
          · split
            · extract_lets +onlyGivenNames -underBinder -merge -useContext xq5
              have hxq5 : Steady z xq5 := by
                unfold xq5
                split
                · split
                  · refine State.wr_st ?_
                    refine State.wr_st ?_
                    exact hmq4
                  · exact hmq4
                · exact hmq4
              try clear_value xq5
              refine State.tackReject_st ?_
              exact hxq5
            · refine State.tackReject_st ?_
              exact hmq4
            · extract_lets +onlyGivenNames -underBinder -merge -useContext xq6
              have hxq6 : Steady z xq6 := by
                unfold xq6
                refine State.wr_st ?_
                exact hmq4
              try clear_value xq6
              extract_lets +onlyGivenNames -underBinder -merge -useContext xq7
              try clear_value xq7
              extract_lets +onlyGivenNames -underBinder -merge -useContext xq8
              have hxq8 : Steady z xq8 := by
                unfold xq8
                apply Steady.of_eq
                · exact hxq6
                all_goals rfl
              try clear_value xq8
              refine State.tackStops_st ?_
              refine State.bootAct_st ?_ ?_
              · exact hxq8
              · intro b0 hbq9
                refine State.requestStop_st ?_
                exact hbq9

theorem State.tackByPins_st {z : State} {s0} (h0 : Steady z s0) :
    Steady z (@State.tackByPins s0) := by
  unfold State.tackByPins
  split
  · refine State.tackRequest_st ?_
    exact h0
  · exact h0

theorem State.tackCtl_st {z : State} {s0} {x1} (h0 : Steady z s0) :
    Steady z (@State.tackCtl s0 x1) := by
  unfold State.tackCtl
  split
  · refine State.tackRequest_st ?_
    exact h0
  · exact h0

theorem State.tackPins_st {z : State} {s0} {x1} (h0 : Steady z s0) :
    Steady z (@State.tackPins s0 x1) := by
  unfold State.tackPins
  refine State.tackByPins_st ?_
  refine State.wr_st ?_
  exact h0

theorem State.regRead_st {z : State} {s0} {x1} {x2} {x3} (h0 : Steady z s0) :
    Steady z (@State.regRead s0 x1 x2 x3).2 := by
  unfold State.regRead
  split
  · refine Steady.mk1 ?_
    exact h0
  · split
    · refine Steady.mk1 ?_
      refine State.nowloRead_st ?_
      exact h0
    · split
      · refine Steady.mk1 ?_
        refine State.offloRead_st ?_
        exact h0
      · split
        · refine Steady.mk1 ?_
          refine State.rrefloRead_st ?_
          exact h0
        · split
          · refine Steady.mk1 ?_
            refine State.cycloRead_st ?_
            exact h0
          · split
            · refine Steady.mk1 ?_
              refine State.tgtloRead_st ?_
              exact h0
            · extract_lets +onlyGivenNames -underBinder -merge -useContext xq1
              try clear_value xq1
              extract_lets +onlyGivenNames -underBinder -merge -useContext xq2
              try clear_value xq2
              refine Steady.mk1 ?_
              split
              · exact h0
              · refine State.setReg_st ?_
                exact h0

theorem State.rwsRejected_st {z : State} {s0} {x1} {x2} {x3} (h0 : Steady z s0) :
    Steady z (@State.rwsRejected s0 x1 x2 x3) := by
  unfold State.rwsRejected
  refine State.fault_st ?_
  refine State.cfgRej_st ?_
  exact h0

theorem State.fieldWrite_st {z : State} {s0} {x1} {x2} {x3} {x4} (h0 : Steady z s0) :
    Steady z (@State.fieldWrite s0 x1 x2 x3 x4) := by
  unfold State.fieldWrite
  extract_lets +onlyGivenNames -underBinder -merge -useContext xq1
  try clear_value xq1
  extract_lets +onlyGivenNames -underBinder -merge -useContext xq2
  try clear_value xq2
  extract_lets +onlyGivenNames -underBinder -merge -useContext xq3
  try clear_value xq3
  extract_lets +onlyGivenNames -underBinder -merge -useContext xq4
  try clear_value xq4
  extract_lets +onlyGivenNames -underBinder -merge -useContext xq5
  try clear_value xq5
  extract_lets +onlyGivenNames -underBinder -merge -useContext xq6
  try clear_value xq6
  extract_lets +onlyGivenNames -underBinder -merge -useContext xq7
  have hxq7 : Steady z xq7 := by
    unfold xq7
    refine State.setReg_st ?_
    exact h0
  try clear_value xq7
  extract_lets +onlyGivenNames -underBinder -merge -useContext xq8
  have hxq8 : Steady z xq8 := by
    unfold xq8
    split
    · refine State.cfgRej_st ?_
      exact hxq7
    · exact hxq7
  try clear_value xq8
  split
  · refine State.rwsRejected_st ?_
    exact hxq8
  · exact hxq8

theorem State.pctlWrite_st {z : State} {s0} {x1} {x2} {x3} (h0 : Steady z s0) :
    Steady z (@State.pctlWrite s0 x1 x2 x3) := by
  unfold State.pctlWrite
  extract_lets +onlyGivenNames -underBinder -merge -useContext xq1
  try clear_value xq1
  extract_lets +onlyGivenNames -underBinder -merge -useContext xq2
  try clear_value xq2
  extract_lets +onlyGivenNames -underBinder -merge -useContext xq3
  try clear_value xq3
  extract_lets +onlyGivenNames -underBinder -merge -useContext xq4
  have hxq4 : Steady z xq4 := by
    unfold xq4
    split
    · exact h0
    · split
      · refine State.cfgRej_st ?_
        exact h0
      · split
        · refine State.wr_st ?_
          exact h0
        · refine State.rwsRejected_st ?_
          exact h0
  try clear_value xq4
  split
  · refine State.tryStart_st ?_
    exact hxq4
  · refine State.tackStops_st ?_
    refine State.requestStop_st ?_
    exact hxq4

theorem State.headerWrite_st {z : State} {s0} {x1} {x2} {x3} {x4} (h0 : Steady z s0) :
    Steady z (@State.headerWrite s0 x1 x2 x3 x4) := by
  unfold State.headerWrite
  split
  · refine State.msixPage_st ?_
    refine State.setReg_st ?_
    exact h0
  · split
    · refine State.msixPage_st ?_
      refine State.setReg_st ?_
      exact h0
    · split
      · extract_lets +onlyGivenNames -underBinder -merge -useContext xq1
        try clear_value xq1
        split
        · refine State.setReg_st ?_
          refine State.setReg_st ?_
          exact h0
        · refine State.setReg_st ?_
          exact h0
      · refine State.fieldWrite_st ?_
        exact h0

theorem State.tpinWrite_st {z : State} {s0} {x1} {x2} {x3} (h0 : Steady z s0) :
    Steady z (@State.tpinWrite s0 x1 x2 x3) := by
  unfold State.tpinWrite
  extract_lets +onlyGivenNames -underBinder -merge -useContext xq1
  try clear_value xq1
  extract_lets +onlyGivenNames -underBinder -merge -useContext xq2
  try clear_value xq2
  split
  · exact h0
  · split
    · extract_lets +onlyGivenNames -underBinder -merge -useContext xq3
      try clear_value xq3
      extract_lets +onlyGivenNames -underBinder -merge -useContext xq4
      try clear_value xq4
      split
      · refine State.pinArm_st ?_
        exact h0
      · refine State.pinDisarm_st ?_
        exact h0
    · split
      · refine State.cfgRej_st ?_
        exact h0
      · refine State.fieldWrite_st ?_
        exact h0

theorem State.dbgctlWrite_st {z : State} {s0} {x1} {x2} (h0 : Steady z s0) :
    Steady z (@State.dbgctlWrite s0 x1 x2) := by
  unfold State.dbgctlWrite
  extract_lets +onlyGivenNames -underBinder -merge -useContext xq1
  try clear_value xq1
  extract_lets +onlyGivenNames -underBinder -merge -useContext xq2
  have hxq2 : Steady z xq2 := by
    unfold xq2
    refine State.wr_st ?_
    refine State.wr_st ?_
    exact h0
  try clear_value xq2
  extract_lets +onlyGivenNames -underBinder -merge -useContext xq3
  have hxq3 : Steady z xq3 := by
    unfold xq3
    refine State.wr_st ?_
    exact hxq2
  try clear_value xq3
  split
  · refine State.debugStep_st ?_
    exact hxq3
  · split
    · split
      · refine State.halt_st ?_
        exact hxq3
      · exact hxq3
    · refine State.unhalt_st ?_
      exact hxq3

theorem State.awlWrite_st {z : State} {s0} {x1} {x2} {x3} {x4} (h0 : Steady z s0) :
    Steady z (@State.awlWrite s0 x1 x2 x3 x4) := by
  unfold State.awlWrite
  extract_lets +onlyGivenNames -underBinder -merge -useContext xq1
  try clear_value xq1
  split
  · split
    · refine State.cfgRej_st ?_
      exact h0
    · split
      · refine State.dbgctlWrite_st ?_
        exact h0
      · split
        · refine State.debugWrite_st ?_
          exact h0
        · refine State.fieldWrite_st ?_
          exact h0
  · split
    · split
      · refine State.setReg_st ?_
        refine State.setReg_st ?_
        exact h0
      · exact h0
    · refine State.fieldWrite_st ?_
      exact h0

theorem State.cinchbStatclr_st {z : State} {s0} {x1} (h0 : Steady z s0) :
    Steady z (@State.cinchbStatclr s0 x1) := by
  unfold State.cinchbStatclr
  extract_lets +onlyGivenNames -underBinder -merge -useContext xq1
  try clear_value xq1
  extract_lets +onlyGivenNames -underBinder -merge -useContext xq2
  have hxq2 : Steady z xq2 := by
    unfold xq2
    refine State.wr_st ?_
    refine State.wr_st ?_
    exact h0
  try clear_value xq2
  extract_lets +onlyGivenNames -underBinder -merge -useContext xq3
  have hxq3 : Steady z xq3 := by
    unfold xq3
    refine State.forEach_st ?_ ?_
    · exact hxq2
    · intro b0 b1 hbq4
      refine State.wr_st ?_
      exact hbq4
  try clear_value xq3
  refine State.forEach_st ?_ ?_
  · exact hxq3
  · intro b0 b1 hbq5
    refine State.wr_st ?_
    exact hbq5

theorem State.budgetWrite_st {z : State} {s0} {x1} {x2} {x3} (h0 : Steady z s0) :
    Steady z (@State.budgetWrite s0 x1 x2 x3) := by
  unfold State.budgetWrite
  split
  · refine State.cfgRej_st ?_
    exact h0
  · refine State.wr_st ?_
    exact h0

theorem State.cinchbWrite_st {z : State} {s0} {x1} {x2} {x3} {x4} (h0 : Steady z s0) :
    Steady z (@State.cinchbWrite s0 x1 x2 x3 x4) := by
  unfold State.cinchbWrite
  split
  · refine State.cmdtailWrite_st ?_
    exact h0
  · split
    · split
      · refine State.cinchbStatclr_st ?_
        exact h0
      · exact h0
    · split
      · refine State.budgetWrite_st ?_
        exact h0
      · refine State.fieldWrite_st ?_
        exact h0

theorem State.stampWrite_st {z : State} {s0} {x1} {x2} {x3} {x4} (h0 : Steady z s0) :
    Steady z (@State.stampWrite s0 x1 x2 x3 x4) := by
  unfold State.stampWrite
  split
  · refine State.stampCommand_st ?_
    exact h0
  · refine State.fieldWrite_st ?_
    exact h0

theorem State.outWrite_st {z : State} {s0} {x1} {x2} (h0 : Steady z s0) :
    Steady z (@State.outWrite s0 x1 x2) := by
  unfold State.outWrite
  extract_lets +onlyGivenNames -underBinder -merge -useContext xq1
  try clear_value xq1
  refine State.fieldWrite_st ?_
  exact h0

theorem State.stitchWrite_st {z : State} {s0} {x1} {x2} {x3} {x4} (h0 : Steady z s0) :
    Steady z (@State.stitchWrite s0 x1 x2 x3 x4) := by
  unfold State.stitchWrite
  split
  · refine State.periodWrite_st ?_
    exact h0
  · split
    · refine State.compareWrite_st ?_
      exact h0
    · split
      · refine State.legoffWrite_st ?_
        exact h0
      · split
        · refine State.tripEval_st ?_
          refine State.fieldWrite_st ?_
          exact h0
        · split
          · refine State.xcmpWrite_st ?_
            exact h0
          · split
            · extract_lets +onlyGivenNames -underBinder -merge -useContext xq1
              have hxq1 : Steady z xq1 := by
                unfold xq1
                refine State.setReg_st ?_
                exact h0
              try clear_value xq1
              split
              · refine State.tripClear_st ?_
                exact hxq1
              · exact hxq1
            · refine State.fieldWrite_st ?_
              exact h0

theorem State.gateWrite_st {z : State} {s0} {x1} {x2} {x3} {x4} (h0 : Steady z s0) :
    Steady z (@State.gateWrite s0 x1 x2 x3 x4) := by
  unfold State.gateWrite
  split
  · refine State.windowWrite_st ?_
    exact h0
  · split
    · extract_lets +onlyGivenNames -underBinder -merge -useContext xq1
      have hxq1 : Steady z xq1 := by
        unfold xq1
        split
        · refine State.wr_st ?_
          exact h0
        · exact h0
      try clear_value xq1
      split
      · refine State.gateRelease_st ?_
        exact hxq1
      · exact hxq1
    · refine State.fieldWrite_st ?_
      exact h0

theorem State.msixWrite_st {z : State} {s0} {x1} {x2} {x3} (h0 : Steady z s0) :
    Steady z (@State.msixWrite s0 x1 x2 x3) := by
  unfold State.msixWrite
  split
  · refine State.rearmWrite_st ?_
    exact h0
  · split
    · refine State.rearmWrite_st ?_
      exact h0
    · refine State.msixScan_st ?_
      refine State.fieldWrite_st ?_
      exact h0

theorem State.blockWrite_st {z : State} {s0} {x1} {x2} {x3} {x4} (h0 : Steady z s0) :
    Steady z (@State.blockWrite s0 x1 x2 x3 x4) := by
  unfold State.blockWrite
  extract_lets +onlyGivenNames -underBinder -merge -useContext xq1
  try clear_value xq1
  extract_lets +onlyGivenNames -underBinder -merge -useContext xq2
  have hxq2 : Steady z xq2 := by
    unfold xq2
    refine State.fieldWrite_st ?_
    exact h0
  try clear_value xq2
  split
  · split
    · refine State.targetWrite_st ?_
      exact h0
    · exact hxq2
  · split
    · refine State.otpWrite_st ?_
      exact h0
    · split
      · refine State.hlbaseWrite_st ?_
        exact h0
      · split
        · split
          · refine State.hostLoadGo_st ?_
            exact h0
          · exact h0
        · exact hxq2
  · split
    · refine State.tackCtl_st ?_
      exact h0
    · split
      · exact h0
      · exact hxq2
  · split
    · refine State.injectWrite_st ?_
      exact h0
    · split
      · refine State.injaddrWrite_st ?_
        exact h0
      · exact hxq2
  · split
    · refine State.rateWrite_st ?_
      exact h0
    · split
      · refine State.offloWrite_st ?_
        exact h0
      · split
        · refine State.offhiWrite_st ?_
          exact h0
        · split
          · refine State.steploWrite_st ?_
            exact h0
          · split
            · refine State.stephiWrite_st ?_
              exact h0
            · exact hxq2
  · refine State.tpinWrite_st ?_
    exact h0
  · split
    · refine State.cfgRej_st ?_
      exact h0
    · exact hxq2
  · split
    · split
      · refine State.blockedWrite_st ?_
        exact h0
      · exact h0
    · exact hxq2
  · split
    · extract_lets +onlyGivenNames -underBinder -merge -useContext xq3
      have hxq3 : Steady z xq3 := by
        unfold xq3
        split
        · refine State.handoverWrite_st ?_
          exact h0
        · exact h0
      try clear_value xq3
      split
      · refine State.soloWrite_st ?_
        exact hxq3
      · exact hxq3
    · split
      · refine State.trateWrite_st ?_
        exact h0
      · exact hxq2
  · split
    · refine State.svcTrigger_st ?_
      exact h0
    · exact hxq2
  · refine State.cinchbWrite_st ?_
    exact h0
  · refine State.awlWrite_st ?_
    exact h0
  · split
    · split
      · refine State.wr_st ?_
        exact h0
      · exact h0
    · exact hxq2
  · refine State.stitchWrite_st ?_
    exact h0
  · split
    · refine State.outvalWrite_st ?_
      exact h0
    · refine State.anaIdle_st ?_
      exact hxq2
  · refine State.stampWrite_st ?_
    exact h0
  · split
    · apply Steady.of_eq
      · exact h0
      all_goals rfl
    · exact hxq2
  · split
    · refine State.safeactWrite_st ?_
      exact h0
    · split
      · refine State.outWrite_st ?_
        exact h0
      · exact hxq2
  · split
    · refine State.tailWrite_st ?_
      exact h0
    · exact hxq2
  · refine State.msixWrite_st ?_
    exact h0
  · refine State.gateWrite_st ?_
    exact h0
  · exact hxq2

theorem State.shellWrite_st {z : State} {s0} {x1} {x2} {x3} {x4} (h0 : Steady z s0) :
    Steady z (@State.shellWrite s0 x1 x2 x3 x4) := by
  unfold State.shellWrite
  extract_lets +onlyGivenNames -underBinder -merge -useContext xq1
  try clear_value xq1
  extract_lets +onlyGivenNames -underBinder -merge -useContext xq2
  have hxq2 : Steady z xq2 := by
    unfold xq2
    refine State.fieldWrite_st ?_
    exact h0
  try clear_value xq2
  split
  · refine State.calStart_st ?_
    exact hxq2
  · exact hxq2

theorem State.regWrite_st {z : State} {s0} {x1} {x2} {x3} {x4} (h0 : Steady z s0) :
    Steady z (@State.regWrite s0 x1 x2 x3 x4) := by
  unfold State.regWrite
  split
  · exact h0
  · split
    · exact h0
    · split
      · refine State.pctlWrite_st ?_
        exact h0
      · split
        · refine State.headerWrite_st ?_
          exact h0
        · split
          · refine State.shellWrite_st ?_
            exact h0
          · refine State.blockWrite_st ?_
            exact h0

theorem State.violate_st {z : State} {s0} {x1} {x2} {x3} {x4} (h0 : Steady z s0) :
    Steady z (@State.violate s0 x1 x2 x3 x4) := by
  unfold State.violate
  split
  · refine State.hostRefuse_st ?_
    exact h0
  · extract_lets +onlyGivenNames -underBinder -merge -useContext xq1
    have hxq1 : Steady z xq1 := by
      unfold xq1
      refine State.gateRecord_st ?_
      exact h0
    try clear_value xq1
    extract_lets +onlyGivenNames -underBinder -merge -useContext xq2
    have hxq2 : Steady z xq2 := by
      unfold xq2
      apply Steady.of_eq
      · exact hxq1
      all_goals rfl
    try clear_value xq2
    split
    · refine State.awlFreeze_st ?_
      exact hxq2
    · split
      · refine State.stampFreeze_st ?_
        exact hxq2
      · exact hxq2

theorem State.fabRead_st {z : State} {s0} {x1} {x2} {x3} (h0 : Steady z s0) :
    Steady z (@State.fabRead s0 x1 x2 x3).2 := by
  unfold State.fabRead
  split
  · split
    · rename_i e
      have hmq1 := Steady.of_snd (z := z) e (by
        refine State.regRead_st ?_
        exact h0)
      refine Steady.mk1 ?_
      exact hmq1
  · refine State.readMem_st ?_
    exact h0

theorem State.fabStore_st {z : State} {s0} {x1} {x2} {x3} (h0 : Steady z s0) :
    Steady z (@State.fabStore s0 x1 x2 x3).2 := by
  unfold State.fabStore
  split
  · refine Steady.mk1 ?_
    refine State.regWrite_st ?_
    exact h0
  · refine State.fabWrite_st ?_
    exact h0

theorem State.busGet_st {z : State} {s0} {x1} {x2} {x3} (h0 : Steady z s0) :
    Steady z (@State.busGet s0 x1 x2 x3) := by
  unfold State.busGet
  split
  · refine State.violate_st ?_
    exact h0
  · split
    · rename_i e
      have hmq1 := Steady.of_snd (z := z) e (by
        refine State.fabRead_st ?_
        exact h0)
      apply Steady.of_eq
      · exact hmq1
      all_goals rfl

theorem State.dwRead_st {z : State} {s0} {x1} {x2} (h0 : Steady z s0) :
    Steady z (@State.dwRead s0 x1 x2) := by
  unfold State.dwRead
  refine Steady.foldl0 ?_ ?_
  · apply Steady.of_eq
    · exact h0
    all_goals rfl
  · intro b0 b1 hbq1
    extract_lets +onlyGivenNames -underBinder -merge -useContext xq2
    try clear_value xq2
    extract_lets +onlyGivenNames -underBinder -merge -useContext xq3
    have hxq3 : Steady z xq3 := by
      unfold xq3
      refine State.busGet_st ?_
      exact hbq1
    try clear_value xq3
    apply Steady.of_eq
    · exact hxq3
    all_goals rfl

theorem State.busRead_st {z : State} {s0} {x1} {x2} {x3} (h0 : Steady z s0) :
    Steady z (@State.busRead s0 x1 x2 x3) := by
  unfold State.busRead
  split
  · exact h0
  · split
    · refine State.dwRead_st ?_
      exact h0
    · refine State.busGet_st ?_
      exact h0

theorem State.storeReply_st {z : State} {s0} {x1} {x2} {x3} (h0 : Steady z s0) :
    Steady z (@State.storeReply s0 x1 x2 x3) := by
  unfold State.storeReply
  split
  · rename_i e
    have hmq1 := Steady.of_snd (z := z) e (by
      refine State.fabStore_st ?_
      exact h0)
    split
    · exact hmq1
    · apply Steady.of_eq
      · exact hmq1
      all_goals rfl

theorem State.busPut_st {z : State} {s0} {x1} {x2} {x3} (h0 : Steady z s0) :
    Steady z (@State.busPut s0 x1 x2 x3) := by
  unfold State.busPut
  split
  · refine State.violate_st ?_
    exact h0
  · refine State.storeReply_st ?_
    exact h0

theorem State.busWrite_st {z : State} {s0} {x1} {x2} {x3} (h0 : Steady z s0) :
    Steady z (@State.busWrite s0 x1 x2 x3) := by
  unfold State.busWrite
  split
  · exact h0
  · split
    · refine State.forEach_st ?_ ?_
      · exact h0
      · intro b0 b1 hbq1
        refine State.busPut_st ?_
        exact hbq1
    · refine State.busPut_st ?_
      exact h0

theorem State.cmdWrite_st {z : State} {s0} {x1} {x2} {x3} {x4} (h0 : Steady z s0) :
    Steady z (@State.cmdWrite s0 x1 x2 x3 x4) := by
  unfold State.cmdWrite
  refine State.busWrite_st ?_
  exact h0

theorem State.cmdRead_st {z : State} {s0} {x1} {x2} {x3} (h0 : Steady z s0) :
    Steady z (@State.cmdRead s0 x1 x2 x3) := by
  unfold State.cmdRead
  refine State.busRead_st ?_
  exact h0

theorem State.qPart_st {z : State} {x0} {x1} {s2} {x3} (h2 : Steady z s2.2) :
    Steady z (@State.qPart x0 x1 s2 x3).2 := by
  unfold State.qPart
  split
  · extract_lets +onlyGivenNames -underBinder -merge -useContext xq1
    try clear_value xq1
    split
    · exact h2
    · extract_lets +onlyGivenNames -underBinder -merge -useContext xq2
      try clear_value xq2
      split
      · refine Steady.mk1 ?_
        assumption
      · split
        · rename_i e
          have hmq3 := Steady.of_snd (z := z) e (by
            refine State.fabRead_st ?_
            assumption)
          refine Steady.mk1 ?_
          exact hmq3
        · rename_i e
          have hmq4 := Steady.of_snd (z := z) e (by
            refine State.fabRead_st ?_
            assumption)
          refine Steady.mk1 ?_
          exact hmq4
      · extract_lets +onlyGivenNames -underBinder -merge -useContext xq5
        try clear_value xq5
        split
        · rename_i e
          have hmq6 := Steady.of_snd (z := z) e (by
            refine State.fabStore_st ?_
            assumption)
          refine Steady.mk1 ?_
          exact hmq6
        · rename_i e
          have hmq7 := Steady.of_snd (z := z) e (by
            refine State.fabStore_st ?_
            assumption)
          refine Steady.mk1 ?_
          exact hmq7

theorem State.queueError_st {z : State} {s0} {x1} {x2} {x3} {x4} (h0 : Steady z s0) :
    Steady z (@State.queueError s0 x1 x2 x3 x4) := by
  unfold State.queueError
  extract_lets +onlyGivenNames -underBinder -merge -useContext xq1
  try clear_value xq1
  extract_lets +onlyGivenNames -underBinder -merge -useContext xq2
  try clear_value xq2
  extract_lets +onlyGivenNames -underBinder -merge -useContext xq3
  have hxq3 : Steady z xq3 := by
    unfold xq3
    split
    · exact h0
    · refine State.setReg_st ?_
      refine State.setReg_st ?_
      exact h0
  try clear_value xq3
  refine State.fault_st ?_
  refine State.evt_st ?_
  exact hxq3

theorem State.queueStats_st {z : State} {s0} {x1} {x2} (h0 : Steady z s0) :
    Steady z (@State.queueStats s0 x1 x2) := by
  unfold State.queueStats
  extract_lets +onlyGivenNames -underBinder -merge -useContext xq1
  try clear_value xq1
  split
  · exact h0
  · extract_lets +onlyGivenNames -underBinder -merge -useContext xq2
    try clear_value xq2
    extract_lets +onlyGivenNames -underBinder -merge -useContext xq3
    have hxq3 : Steady z xq3 := by
      unfold xq3
      refine State.wr_st ?_
      exact h0
    try clear_value xq3
    extract_lets +onlyGivenNames -underBinder -merge -useContext xq4
    have hxq4 : Steady z xq4 := by
      unfold xq4
      refine State.wr_st ?_
      exact hxq3
    try clear_value xq4
    refine State.bumpE_st ?_
    exact hxq4

theorem State.entryDone_st {z : State} {s0} {x1} {x2} {x3} (h0 : Steady z s0) :
    Steady z (@State.entryDone s0 x1 x2 x3) := by
  unfold State.entryDone
  split
  · exact h0
  · refine State.modAwl_st ?_
    exact h0

theorem State.queueComplete_st {z : State} {s0} {x1} (h0 : Steady z s0) :
    Steady z (@State.queueComplete s0 x1) := by
  unfold State.queueComplete
  split
  · exact h0
  · extract_lets +onlyGivenNames -underBinder -merge -useContext xq1
    have hxq1 : Steady z xq1 := by
      unfold xq1
      refine State.modAwl_st ?_
      exact h0
    try clear_value xq1
    split
    · rename_i e
      have hmq2 := Steady.of_snd (z := z) e (by
        refine Steady.foldl1 ?_ ?_
        · refine Steady.mk1 ?_
          exact hxq1
        · intro b0 b1 hbq3
          refine State.qPart_st ?_
          exact hbq3)
      split
      · extract_lets +onlyGivenNames -underBinder -merge -useContext xq4
        have hxq4 : Steady z xq4 := by
          unfold xq4
          refine State.modAwl_st ?_
          exact hmq2
        try clear_value xq4
        refine State.awlFreeze_st ?_
        refine State.gateRecord_st ?_
        exact hxq4
      · extract_lets +onlyGivenNames -underBinder -merge -useContext xq5
        have hxq5 : Steady z xq5 := by
          unfold xq5
          refine State.entryDone_st ?_
          refine State.queueStats_st ?_
          exact hmq2
        try clear_value xq5
        split
        · refine State.queueError_st ?_
          exact hxq5
        · exact hxq5

theorem State.enabledWord_st {z : State} {s0} {x1} {x2} {x3} (h0 : Steady z s0) :
    Steady z (@State.enabledWord s0 x1 x2 x3).2 := by
  unfold State.enabledWord
  split
  · refine Steady.mk1 ?_
    exact h0
  · split
    · refine Steady.mk1 ?_
      refine State.cfgRej_st ?_
      exact h0
    · extract_lets +onlyGivenNames -underBinder -merge -useContext xq1
      have hxq1 : Steady z xq1.2 := by
        unfold xq1
        split
        · refine Steady.mk1 ?_
          refine State.setFlip_st ?_
          exact h0
        · refine State.eccRead_st ?_
          exact h0
      try clear_value xq1
      split
      · refine Steady.mk1 ?_
        exact hxq1
      · extract_lets +onlyGivenNames -underBinder -merge -useContext xq2
        try clear_value xq2
        refine Steady.mk1 ?_
        refine State.injectAt_st ?_
        refine State.setBytes_st ?_
        exact hxq1

theorem State.bar2Write_st {z : State} {s0} {x1} {x2} (h0 : Steady z s0) :
    Steady z (@State.bar2Write s0 x1 x2) := by
  unfold State.bar2Write
  split
  · exact h0
  · split
    · exact h0
    · split
      · refine State.violate_st ?_
        exact h0
      · extract_lets +onlyGivenNames -underBinder -merge -useContext xq1
        have hxq1 : Steady z xq1.2 := by
          unfold xq1
          refine Steady.foldl1 ?_ ?_
          · refine Steady.mk1 ?_
            refine State.noteAccess_st ?_
            exact h0
          · intro b0 b1 hbq2
            extract_lets +onlyGivenNames -underBinder -merge -useContext xq3
            have hxq3 : Steady z xq3.2 := by
              unfold xq3
              refine State.enabledWord_st ?_
              exact hbq2
            try clear_value xq3
            refine Steady.mk1 ?_
            exact hxq3
        try clear_value xq1
        split
        · exact hxq1
        · extract_lets +onlyGivenNames -underBinder -merge -useContext xq4
          have hxq4 : Steady z xq4 := by
            unfold xq4
            exact hxq1
          try clear_value xq4
          apply Steady.of_eq
          · exact hxq4
          all_goals rfl

theorem State.bar2Access_st {z : State} {s0} {x1} {x2} {x3} (h0 : Steady z s0) :
    Steady z (@State.bar2Access s0 x1 x2 x3) := by
  unfold State.bar2Access
  refine Steady.ite h0 ?_
  split
  · exact busRead_st h0
  · exact bar2Write_st h0

theorem State.breakpoint_st {z : State} {s0} {x1} (h0 : Steady z s0) :
    Steady z (@State.breakpoint s0 x1) := by
  unfold State.breakpoint
  split
  · split
    · refine State.halt_st ?_
      exact h0
    · exact h0
  · exact h0

theorem State.dbgAccess_st {z : State} {s0} {x1} {x2} {x3} (h0 : Steady z s0) :
    Steady z (@State.dbgAccess s0 x1 x2 x3) := by
  unfold State.dbgAccess
  split
  · refine State.cmdWrite_st ?_
    exact h0
  · refine State.cmdRead_st ?_
    exact h0

theorem State.debugPort_st {z : State} {s0} {x1} {x2} {x3} (h0 : Steady z s0) :
    Steady z (@State.debugPort s0 x1 x2 x3) := by
  unfold State.debugPort
  split
  · refine State.busWrite_st ?_
    exact h0
  · refine State.busRead_st ?_
    exact h0

theorem State.bootTarget_st {z : State} {s0} {x1} (h0 : Steady z s0) :
    Steady z (@State.bootTarget s0 x1).2 := by
  unfold State.bootTarget
  split
  · refine Steady.mk1 ?_
    refine State.gateRecord_st ?_
    exact h0
  · refine State.targetWrite_st ?_
    exact h0

theorem State.powerAll_st {z : State} {s0} (h0 : Steady z s0) :
    Steady z (@State.powerAll s0) := by
  unfold State.powerAll
  refine Steady.foldl0 ?_ ?_
  · exact h0
  · intro b0 b1 hbq1
    refine State.powerStep_st ?_
    exact hbq1

theorem State.bootPut_st {z : State} {s0} {x1} {x2} (h0 : Steady z s0) :
    Steady z (@State.bootPut s0 x1 x2) := by
  unfold State.bootPut
  split
  · refine State.gateRecord_st ?_
    exact h0
  · refine State.fabStore_st ?_
    exact h0

theorem State.bootBlock_st {z : State} {s0} {x1} {x2} (h0 : Steady z s0) :
    Steady z (@State.bootBlock s0 x1 x2) := by
  unfold State.bootBlock
  refine State.forEach_st ?_ ?_
  · exact h0
  · intro b0 b1 hbq1
    refine State.bootPut_st ?_
    exact hbq1

theorem State.bootReg_st {z : State} {s0} {x1} {x2} {x3} (h0 : Steady z s0) :
    Steady z (@State.bootReg s0 x1 x2 x3) := by
  unfold State.bootReg
  refine State.bootPut_st ?_
  exact h0

theorem State.imageCopy_st {z : State} {s0} {x1} {x2} {x3} (h0 : Steady z s0) :
    Steady z (@State.imageCopy s0 x1 x2 x3) := by
  unfold State.imageCopy
  refine State.forEach_st ?_ ?_
  · exact h0
  · intro b0 b1 hbq1
    extract_lets +onlyGivenNames -underBinder -merge -useContext xq2
    try clear_value xq2
    refine State.bootBlock_st ?_
    exact hbq1

theorem State.imageFail_st {z : State} {s0} {x1} (h0 : Steady z s0) :
    Steady z (@State.imageFail s0 x1) := by
  unfold State.imageFail
  extract_lets +onlyGivenNames -underBinder -merge -useContext xq1
  have hxq1 : Steady z xq1 := by
    unfold xq1
    refine State.wr_st ?_
    exact h0
  try clear_value xq1
  split
  · extract_lets +onlyGivenNames -underBinder -merge -useContext xq2
    have hxq2 : Steady z xq2 := by
      unfold xq2
      refine State.fault_st ?_
      exact hxq1
    try clear_value xq2
    apply Steady.of_eq
    · exact hxq2
    all_goals rfl
  · extract_lets +onlyGivenNames -underBinder -merge -useContext xq3
    have hxq3 : Steady z xq3 := by
      unfold xq3
      refine State.evt_st ?_
      refine State.wr_st ?_
      exact hxq1
    try clear_value xq3
    extract_lets +onlyGivenNames -underBinder -merge -useContext xq4
    have hxq4 : Steady z xq4 := by
      unfold xq4
      refine State.fault_st ?_
      exact hxq3
    try clear_value xq4
    apply Steady.of_eq
    · exact hxq4
    all_goals rfl

theorem State.loaderWrite_st {z : State} {s0} {x1} {x2} (h0 : Steady z s0) :
    Steady z (@State.loaderWrite s0 x1 x2) := by
  unfold State.loaderWrite
  refine State.bootReg_st ?_
  exact h0

theorem State.imageDone_st {z : State} {s0} {x1} (h0 : Steady z s0) :
    Steady z (@State.imageDone s0 x1) := by
  unfold State.imageDone
  extract_lets +onlyGivenNames -underBinder -merge -useContext xq1
  have hxq1 : Steady z xq1 := by
    unfold xq1
    refine State.forEach_st ?_ ?_
    · exact h0
    · intro b0 b1 hbq2
      refine State.loaderWrite_st ?_
      refine State.loaderWrite_st ?_
      exact hbq2
  try clear_value xq1
  extract_lets +onlyGivenNames -underBinder -merge -useContext xq3
  have hxq3 : Steady z xq3 := by
    unfold xq3
    refine State.wr_st ?_
    refine State.wr_st ?_
    refine State.wr_st ?_
    exact hxq1
  try clear_value xq3
  extract_lets +onlyGivenNames -underBinder -merge -useContext xq4
  have hxq4 : Steady z xq4 := by
    unfold xq4
    refine State.evt_st ?_
    refine State.setReg_st ?_
    exact hxq3
  try clear_value xq4
  extract_lets +onlyGivenNames -underBinder -merge -useContext xq5
  have hxq5 : Steady z xq5 := by
    unfold xq5
    split
    · refine State.wr_st ?_
      exact hxq4
    · exact hxq4
  try clear_value xq5
  extract_lets +onlyGivenNames -underBinder -merge -useContext xq6
  try clear_value xq6
  split
  · extract_lets +onlyGivenNames -underBinder -merge -useContext xq7
    try clear_value xq7
    extract_lets +onlyGivenNames -underBinder -merge -useContext xq8
    have hxq8 : Steady z xq8 := by
      unfold xq8
      apply Steady.of_eq
      · exact hxq5
      all_goals rfl
    try clear_value xq8
    split
    · refine State.tackRequest_st ?_
      exact hxq8
    · exact hxq8
  · refine State.bootAct_st ?_ ?_
    · apply Steady.of_eq
      · exact hxq5
      all_goals rfl
    · intro b0 hbq9
      refine State.tryStart_st ?_
      exact hbq9

theorem State.flashHead_st {z : State} {s0} {x1} {x2} (h0 : Steady z s0) :
    Steady z (@State.flashHead s0 x1 x2) := by
  unfold State.flashHead
  refine State.emit_st ?_
  exact h0

theorem State.flashRest_st {z : State} {s0} {x1} {x2} {x3} (h0 : Steady z s0) :
    Steady z (@State.flashRest s0 x1 x2 x3) := by
  unfold State.flashRest
  refine State.emit_st ?_
  exact h0

theorem State.imageInstall_st {z : State} {s0} {x1} {x2} {x3} (h0 : Steady z s0) :
    Steady z (@State.imageInstall s0 x1 x2 x3) := by
  unfold State.imageInstall
  extract_lets +onlyGivenNames -underBinder -merge -useContext n ilen bad slot s1
  have hbad : ∀ t, Steady z t → Steady z (bad t) := fun t h => imageFail_st (draw_st h)
  clear_value bad
  have h1 : Steady z s1 := Steady.ite (flashHead_st h0) h0
  clear_value s1
  refine Steady.ite (imageFail_st h1) (Steady.ite (hbad _ h1) ?_)
  extract_lets +onlyGivenNames -underBinder -merge -useContext s2
  have h2 : Steady z s2 := Steady.ite (flashHead_st h1) h1
  clear_value s2
  refine Steady.ite (imageFail_st h2) (Steady.ite (hbad _ h2) (Steady.ite (imageFail_st h2) ?_))
  extract_lets +onlyGivenNames -underBinder -merge -useContext want
  have ht : Steady z (if want = s2.domains then (true, s2) else s2.bootTarget want).2 := by
    split
    · exact h2
    · exact bootTarget_st h2
  generalize (if want = s2.domains then (true, s2) else s2.bootTarget want) = p at ht ⊢
  obtain ⟨ok, s⟩ := p
  refine Steady.ite (imageFail_st (draw_st ht)) ?_
  extract_lets +onlyGivenNames -underBinder -merge -useContext s3 s4
  have h4 : Steady z s4 := Steady.ite (flashRest_st (powerAll_st ht)) (powerAll_st ht)
  clear_value s4
  extract_lets +onlyGivenNames -underBinder -merge -useContext s5
  have h5 : Steady z s5 := imageCopy_st h4
  clear_value s5
  have hf : ∀ r, Steady z ((s5.imageCopy x1 (min x2 ilen) true).imageFail r) :=
    fun r => imageFail_st (imageCopy_st h5)
  exact Steady.ite (hf 7) (Steady.ite (hf 4) (Steady.ite (hf 5) (Steady.ite (hf 6) (imageDone_st h5))))

theorem State.imageRead_st {z : State} {s0} {x1} {x2} (h0 : Steady z s0) :
    Steady z (@State.imageRead s0 x1 x2).2.2 := by
  induction x2 generalizing s0 with
  | zero => exact h0
  | succ k ih =>
    rw [State.imageRead]
    split
    rename_i b ok s e
    have hs : Steady z s := Steady.of_snd2 e (ih h0)
    split
    · exact hs
    · split
      rename_i w s' e'
      have hs' : Steady z s' := Steady.of_snd e' (fixRead_st hs)
      split <;> exact hs'

theorem State.bootComplete_st {z : State} {s0} {x1} {x2} (h0 : Steady z s0) :
    Steady z (@State.bootComplete s0 x1 x2) := by
  unfold State.bootComplete
  split
  · exact h0
  · split
    · refine State.imageInstall_st ?_
      exact h0
    · refine State.imageInstall_st ?_
      exact h0
    · extract_lets +onlyGivenNames -underBinder -merge -useContext xq1
      try clear_value xq1
      split
      · refine State.imageFail_st ?_
        exact h0
      · split
        · rename_i e
          have hmq2 := Steady.of_snd2 (z := z) e (by
            refine State.imageRead_st ?_
            exact h0)
          split
          · refine State.imageFail_st ?_
            exact hmq2
          · extract_lets +onlyGivenNames -underBinder -merge -useContext xq3
            try clear_value xq3
            split
            · refine State.imageInstall_st ?_
              exact hmq2
            · split
              · refine State.imageFail_st ?_
                exact hmq2
              · split
                · rename_i e
                  have hmq4 := Steady.of_snd2 (z := z) e (by
                    refine State.imageRead_st ?_
                    exact hmq2)
                  refine State.imageInstall_st ?_
                  exact hmq4
    · exact h0

theorem State.tackIdle_st {z : State} {s0} (h0 : Steady z s0) :
    Steady z (@State.tackIdle s0) := by
  unfold State.tackIdle
  refine State.tackByPins_st ?_
  refine State.wr_st ?_
  refine State.wr_st ?_
  exact h0

theorem State.unmapAll_st {z : State} {s0} (h0 : Steady z s0) :
    Steady z (@State.unmapAll s0) := by
  unfold State.unmapAll
  apply Steady.of_eq
  · exact h0
  all_goals rfl

theorem State.tackStopDone_st {z : State} {s0} (h0 : Steady z s0) :
    Steady z (@State.tackStopDone s0) := by
  unfold State.tackStopDone
  split
  · exact h0
  · split
    · rename_i e
      have hmq1 := Steady.of_snd (z := z) e (by
        refine State.bootTarget_st ?_
        refine State.wr_st ?_
        exact h0)
      split
      · exact hmq1
      · extract_lets +onlyGivenNames -underBinder -merge -useContext xq2
        have hxq2 : Steady z xq2 := by
          unfold xq2
          refine State.evt_st ?_
          refine State.unmapAll_st ?_
          refine State.wr_st ?_
          refine State.wr_st ?_
          exact hmq1
        try clear_value xq2
        refine State.tackIdle_st ?_
        refine State.faultU_st ?_
        exact hxq2

theorem State.installMap_st {z : State} {s0} {x1} (h0 : Steady z s0) :
    Steady z (@State.installMap s0 x1) := by
  unfold State.installMap
  extract_lets +onlyGivenNames -underBinder -merge -useContext xq1
  have hxq1 : Steady z xq1 := by
    unfold xq1
    apply Steady.of_eq
    · exact h0
    all_goals rfl
  try clear_value xq1
  refine State.forEach_st ?_ ?_
  · exact hxq1
  · intro b0 b1 hbq2
    extract_lets +onlyGivenNames -underBinder -merge -useContext xq3
    try clear_value xq3
    extract_lets +onlyGivenNames -underBinder -merge -useContext xq4
    try clear_value xq4
    extract_lets +onlyGivenNames -underBinder -merge -useContext xq5
    have hxq5 : Steady z xq5 := by
      unfold xq5
      refine State.setAxis_st ?_
      exact hbq2
    try clear_value xq5
    extract_lets +onlyGivenNames -underBinder -merge -useContext xq6
    have hxq6 : ∀ a0 a1 a2, Steady z a0 → Steady z (xq6 a0 a1 a2) := by
      intro a0 a1 a2 haq7
      simp -zeta only [xq6]
      refine State.bootReg_st ?_
      exact haq7
    try clear_value xq6
    extract_lets +onlyGivenNames -underBinder -merge -useContext xq8
    have hxq8 : Steady z xq8 := by
      unfold xq8
      refine hxq6 _ _ _ ?_
      · refine hxq6 _ _ _ ?_
        · refine hxq6 _ _ _ ?_
          · exact hxq5
    try clear_value xq8
    extract_lets +onlyGivenNames -underBinder -merge -useContext xq9
    have hxq9 : Steady z xq9 := by
      unfold xq9
      refine hxq6 _ _ _ ?_
      · refine hxq6 _ _ _ ?_
        · refine hxq6 _ _ _ ?_
          · exact hxq8
    try clear_value xq9
    refine hxq6 _ _ _ ?_
    · exact hxq9

theorem State.installRoutes_st {z : State} {s0} {x1} (h0 : Steady z s0) :
    Steady z (@State.installRoutes s0 x1) := by
  unfold State.installRoutes
  refine State.forEach_st ?_ ?_
  · exact h0
  · intro b0 b1 hbq1
    extract_lets +onlyGivenNames -underBinder -merge -useContext xq2
    try clear_value xq2
    extract_lets +onlyGivenNames -underBinder -merge -useContext xq3
    have hxq3 : Steady z xq3 := by
      unfold xq3
      split
      · extract_lets +onlyGivenNames -underBinder -merge -useContext xq4
        try clear_value xq4
        refine State.bootReg_st ?_
        exact hbq1
      · exact hbq1
    try clear_value xq3
    refine State.forEach_st ?_ ?_
    · exact hxq3
    · intro b0 b1 hbq5
      split
      · extract_lets +onlyGivenNames -underBinder -merge -useContext xq6
        try clear_value xq6
        refine State.bootReg_st ?_
        exact hbq5
      · exact hbq5

theorem State.tackFailed_st {z : State} {s0} {x1} (h0 : Steady z s0) :
    Steady z (@State.tackFailed s0 x1) := by
  unfold State.tackFailed
  extract_lets +onlyGivenNames -underBinder -merge -useContext xq1
  have hxq1 : Steady z xq1 := by
    unfold xq1
    refine State.wr_st ?_
    exact h0
  try clear_value xq1
  extract_lets +onlyGivenNames -underBinder -merge -useContext xq2
  try clear_value xq2
  extract_lets +onlyGivenNames -underBinder -merge -useContext xq3
  have hxq3 : Steady z xq3 := by
    unfold xq3
    split
    · exact h0
    · apply Steady.of_eq
      · exact hxq1
      all_goals rfl
  try clear_value xq3
  refine State.fault_st ?_
  refine State.evt_st ?_
  refine State.wr_st ?_
  exact hxq3

theorem State.tackStartPage_st {z : State} {s0} {x1} (h0 : Steady z s0) :
    Steady z (@State.tackStartPage s0 x1) := by
  unfold State.tackStartPage
  extract_lets +onlyGivenNames -underBinder -merge -useContext xq1
  have hxq1 : Steady z xq1 := by
    unfold xq1
    refine State.bootAct_st ?_ ?_
    · exact h0
    · intro b0 hbq2
      refine State.tryStart_st ?_
      exact hbq2
  try clear_value xq1
  split
  · refine State.tackFailed_st ?_
    exact hxq1
  · apply Steady.of_eq
    · exact hxq1
    all_goals rfl

theorem State.tackFinish_st {z : State} {s0} (h0 : Steady z s0) :
    Steady z (@State.tackFinish s0) := by
  unfold State.tackFinish
  split
  · refine State.tackIdle_st ?_
    refine State.evt_st ?_
    refine State.bump_st ?_
    exact h0
  · exact h0

theorem State.tackDeferred_st {z : State} {s0} (h0 : Steady z s0) :
    Steady z (@State.tackDeferred s0) := by
  unfold State.tackDeferred
  split
  · exact h0
  · split
    · exact h0
    · extract_lets +onlyGivenNames -underBinder -merge -useContext xq1
      try clear_value xq1
      extract_lets +onlyGivenNames -underBinder -merge -useContext xq2
      try clear_value xq2
      extract_lets +onlyGivenNames -underBinder -merge -useContext xq3
      have hxq3 : Steady z xq3 := by
        unfold xq3
        apply Steady.of_eq
        · exact h0
        all_goals rfl
      try clear_value xq3
      refine State.tackFinish_st ?_
      split
      · refine State.tackStartPage_st ?_
        exact hxq3
      · refine State.tackFailed_st ?_
        exact hxq3

theorem State.tackPowerDone_st {z : State} {s0} (h0 : Steady z s0) :
    Steady z (@State.tackPowerDone s0) := by
  unfold State.tackPowerDone
  split
  · exact h0
  · split
    · rename_i e
      have hmq1 := Steady.of_snd (z := z) e (by
        refine State.tackRead_st ?_
        refine State.wr_st ?_
        exact h0)
      split
      · refine State.tackReject_st ?_
        exact hmq1
      · extract_lets +onlyGivenNames -underBinder -merge -useContext xq2
        try clear_value xq2
        extract_lets +onlyGivenNames -underBinder -merge -useContext xq3
        try clear_value xq3
        extract_lets +onlyGivenNames -underBinder -merge -useContext xq4
        have hxq4 : Steady z xq4 := by
          unfold xq4
          refine State.forEach_st ?_ ?_
          · exact hmq1
          · intro b0 b1 hbq5
            refine State.bootReg_st ?_
            exact hbq5
        try clear_value xq4
        extract_lets +onlyGivenNames -underBinder -merge -useContext xq6
        have hxq6 : Steady z xq6 := by
          unfold xq6
          refine State.installRoutes_st ?_
          refine State.installMap_st ?_
          exact hxq4
        try clear_value xq6
        extract_lets +onlyGivenNames -underBinder -merge -useContext xq7
        have hxq7 : Steady z xq7 := by
          unfold xq7
          refine State.forEach_st ?_ ?_
          · exact hxq6
          · intro b0 b1 hbq8
            refine State.bootBlock_st ?_
            exact hbq8
        try clear_value xq7
        extract_lets +onlyGivenNames -underBinder -merge -useContext xq9
        have hxq9 : Steady z xq9 := by
          unfold xq9
          refine State.wr_st ?_
          refine State.bootReg_st ?_
          exact hxq7
        try clear_value xq9
        extract_lets +onlyGivenNames -underBinder -merge -useContext xq10
        have hxq10 : Steady z xq10 := by
          unfold xq10
          refine State.wr_st ?_
          exact hxq9
        try clear_value xq10
        extract_lets +onlyGivenNames -underBinder -merge -useContext xq11
        try clear_value xq11
        extract_lets +onlyGivenNames -underBinder -merge -useContext xq12
        have hxq12 : Steady z xq12 := by
          unfold xq12
          apply Steady.of_eq
          · exact hxq10
          all_goals rfl
        try clear_value xq12
        refine State.tackFinish_st ?_
        refine State.forEach_st ?_ ?_
        · exact hxq12
        · intro b0 b1 hbq13
          refine State.tackStartPage_st ?_
          exact hbq13

theorem State.startCompleteRow_st {z : State} {s0} {x1} (h0 : Steady z s0) :
    Steady z (@State.startCompleteRow s0 x1) := by
  unfold State.startCompleteRow
  extract_lets +onlyGivenNames -underBinder -merge -useContext xq1
  try clear_value xq1
  extract_lets +onlyGivenNames -underBinder -merge -useContext xq2
  have hxq2 : Steady z xq2 := by
    unfold xq2
    refine State.startComplete_st ?_
    exact h0
  try clear_value xq2
  split
  · refine State.tackRequest_st ?_
    apply Steady.of_eq
    · exact hxq2
    all_goals rfl
  · exact hxq2

theorem State.calDoneRow_st {z : State} {s0} {x1} {x2} {x3} {x4} {x5} {x6} (h0 : Steady z s0) :
    Steady z (@State.calDoneRow s0 x1 x2 x3 x4 x5 x6) := by
  unfold State.calDoneRow
  extract_lets +onlyGivenNames -underBinder -merge -useContext xq1
  try clear_value xq1
  extract_lets +onlyGivenNames -underBinder -merge -useContext xq2
  have hxq2 : Steady z xq2 := by
    unfold xq2
    refine State.calDone_st ?_
    exact h0
  try clear_value xq2
  split
  · refine State.tackFailed_st ?_
    exact hxq2
  · exact hxq2

theorem State.cinchRestart_st {z : State} {s0} (h0 : Steady z s0) :
    Steady z (@State.cinchRestart s0) := by
  unfold State.cinchRestart
  split
  · exact h0
  · extract_lets +onlyGivenNames -underBinder -merge -useContext xq1
    try clear_value xq1
    extract_lets +onlyGivenNames -underBinder -merge -useContext xq2
    have hxq2 : Steady z xq2 := by
      unfold xq2
      apply Steady.of_eq
      · exact h0
      all_goals rfl
    try clear_value xq2
    split
    · exact hxq2
    · extract_lets +onlyGivenNames -underBinder -merge -useContext xq3
      have hxq3 : Steady z xq3 := by
        unfold xq3
        refine State.bumpE_st ?_
        exact hxq2
      try clear_value xq3
      split
      · rename_i e
        have hmq4 := Steady.of_snd (z := z) e (by
          refine State.graphCheck_st ?_
          exact hxq3)
        split
        · refine State.modC_st ?_
          refine State.cinchBegin_st ?_
          refine State.setSt_st ?_
          exact hmq4
        · refine State.releaseClaims_st ?_
          refine State.cfgRej_st ?_
          refine State.wr_st ?_
          refine State.setSt_st ?_
          exact hmq4

theorem State.portStopI0_st {z : State} {s0} {x1} (h0 : Steady z s0) :
    Steady z (@State.portStopI0 s0 x1) := by
  unfold State.portStopI0
  split
  · extract_lets +onlyGivenNames -underBinder -merge -useContext xq1
    have hxq1 : Steady z xq1 := by
      unfold xq1
      refine State.portIdle_st ?_
      exact h0
    try clear_value xq1
    split
    · refine State.releaseClaims_st ?_
      refine State.setSt_st ?_
      exact hxq1
    · exact hxq1
  · exact h0

theorem State.i0Work_st {z : State} {s0} {x1} (h0 : Steady z s0) :
    Steady z (@State.i0Work s0 x1) := by
  unfold State.i0Work
  extract_lets +onlyGivenNames -underBinder -merge -useContext s1 a b s2 s3 s4 s5 s6
  have h1 : Steady z s1 := latI0_st h0
  have h2 : Steady z s2 := h1.of_eq rfl rfl rfl rfl rfl rfl rfl rfl
  have h3 : Steady z s3 := forEach_st h2 fun _ _ h => portStopI0_st (portI0_st h)
  have h4 : Steady z s4 := settleUse_st h3
  have h6 : Steady z s6 := forEach_st (cinchRestart_st h4) fun _ _ h => anaI0_st (feedI0_st h)
  exact forEach_st h6 fun _ _ h => loadSet_st h

theorem State.networkEnd_st {z : State} {s0} (h0 : Steady z s0) :
    Steady z (@State.networkEnd s0) := by
  unfold State.networkEnd
  split
  · extract_lets +onlyGivenNames -underBinder -merge -useContext xq1
    have hxq1 : Steady z xq1 := by
      unfold xq1
      refine State.forEach_st ?_ ?_
      · exact h0
      · intro b0 b1 hbq2
        refine State.portIdle_st ?_
        exact hbq2
    try clear_value xq1
    extract_lets +onlyGivenNames -underBinder -merge -useContext xq3
    try clear_value xq3
    extract_lets +onlyGivenNames -underBinder -merge -useContext xq4
    have hxq4 : Steady z xq4 := by
      unfold xq4
      apply Steady.of_eq
      · exact hxq1
      all_goals rfl
    try clear_value xq4
    refine State.tackStops_st ?_
    refine State.releaseClaims_st ?_
    refine State.setSt_st ?_
    exact hxq4
  · exact h0

theorem State.i0_st {z : State} {s0} {x1} (h0 : Steady z s0) :
    Steady z (@State.i0 s0 x1) := by
  unfold State.i0
  split
  · exact h0
  · extract_lets +onlyGivenNames -underBinder -merge -useContext xq1
    try clear_value xq1
    refine State.networkEnd_st ?_
    refine State.i0Work_st ?_
    apply Steady.of_eq
    · exact h0
    all_goals rfl

theorem State.i0Row_st {z : State} {s0} {x1} {x2} (h0 : Steady z s0) :
    Steady z (@State.i0Row s0 x1 x2) := by
  unfold State.i0Row
  split
  · refine State.i0_st ?_
    refine State.faultU_st ?_
    refine State.stateWord_st ?_
    exact h0
  · refine State.i0_st ?_
    exact h0

theorem State.downlinkRow_st {z : State} {s0} {x1} {x2} (h0 : Steady z s0) :
    Steady z (@State.downlinkRow s0 x1 x2) := by
  unfold State.downlinkRow
  split
  · refine State.stateWord_st ?_
    exact h0
  · refine State.downlinkSend_st ?_
    exact h0

theorem State.cycleZero_st {z : State} {s0} {x1} (h0 : Steady z s0) :
    Steady z (@State.cycleZero s0 x1) := by
  unfold State.cycleZero
  split
  · exact h0
  · split
    · exact h0
    · extract_lets +onlyGivenNames -underBinder -merge -useContext xq1
      try clear_value xq1
      extract_lets +onlyGivenNames -underBinder -merge -useContext xq2
      have hxq2 : Steady z xq2 := by
        unfold xq2
        apply Steady.of_eq
        · exact h0
        all_goals rfl
      try clear_value xq2
      extract_lets +onlyGivenNames -underBinder -merge -useContext xq3
      have hxq3 : Steady z xq3 := by
        unfold xq3
        refine State.i0Work_st ?_
        refine State.evt_st ?_
        refine State.setSt_st ?_
        exact hxq2
      try clear_value xq3
      split
      · refine State.planeCopy_st ?_
        refine State.setPstate_st ?_
        exact hxq3
      · exact hxq3

theorem State.cinchUpset_st {z : State} {s0} (h0 : Steady z s0) :
    Steady z (@State.cinchUpset s0) := by
  unfold State.cinchUpset
  extract_lets +onlyGivenNames -underBinder -merge -useContext xq1
  have hxq1 : Steady z xq1 := by
    unfold xq1
    refine State.faultU_st ?_
    refine State.stateWord_st ?_
    exact h0
  try clear_value xq1
  split
  · refine State.cinchFault_st ?_
    apply Steady.of_eq
    · exact hxq1
    all_goals rfl
  · exact hxq1

theorem State.cwstartRow_st {z : State} {s0} {x1} (h0 : Steady z s0) :
    Steady z (@State.cwstartRow s0 x1) := by
  unfold State.cwstartRow
  split
  · exact h0
  · refine State.cwstart_st ?_
    refine State.gapCheck_st ?_
    refine State.latForward_st ?_
    refine State.roleExchange_st ?_
    split
    · refine State.cinchUpset_st ?_
      exact h0
    · exact h0

theorem State.cycleDisagreement_st {z : State} {s0} (h0 : Steady z s0) :
    Steady z (@State.cycleDisagreement s0) := by
  unfold State.cycleDisagreement
  split
  · split
    · exact h0
    · extract_lets +onlyGivenNames -underBinder -merge -useContext xq1
      have hxq1 : Steady z xq1 := by
        unfold xq1
        refine State.bumpE_st ?_
        refine State.wr_st ?_
        refine State.faultU_st ?_
        exact h0
      try clear_value xq1
      extract_lets +onlyGivenNames -underBinder -merge -useContext xq2
      have hxq2 : Steady z xq2 := by
        unfold xq2
        refine State.modC_st ?_
        refine State.modLedger_st ?_
        exact hxq1
      try clear_value xq2
      extract_lets +onlyGivenNames -underBinder -merge -useContext xq3
      have hxq3 : Steady z xq3 := by
        unfold xq3
        refine State.evt_st ?_
        exact hxq2
      try clear_value xq3
      extract_lets +onlyGivenNames -underBinder -merge -useContext xq4
      try clear_value xq4
      extract_lets +onlyGivenNames -underBinder -merge -useContext xq5
      have hxq5 : Steady z xq5 := by
        unfold xq5
        apply Steady.of_eq
        · exact hxq3
        all_goals rfl
      try clear_value xq5
      split
      · refine State.cinchFault_st ?_
        exact hxq5
      · exact hxq5
  · exact h0

theorem State.decideAll_st {z : State} {s0} (h0 : Steady z s0) :
    Steady z (@State.decideAll s0).2 := by
  unfold State.decideAll
  refine Steady.foldl1 ?_ ?_
  · refine Steady.mk1 ?_
    exact h0
  · intro b0 b1 hbq1
    split
    · split
      · rename_i e
        have hmq2 := Steady.of_snd2 (z := z) e (by
          refine State.cutoffAxis_st ?_
          exact hbq1)
        extract_lets +onlyGivenNames -underBinder -merge -useContext xq3
        try clear_value xq3
        refine Steady.mk1 ?_
        exact hmq2

theorem State.noteSelf_st {z : State} {s0} {x1} (h0 : Steady z s0) :
    Steady z (@State.noteSelf s0 x1) := by
  unfold State.noteSelf
  extract_lets +onlyGivenNames -underBinder -merge -useContext xq1
  try clear_value xq1
  extract_lets +onlyGivenNames -underBinder -merge -useContext xq2
  try clear_value xq2
  refine State.modLat_st ?_
  exact h0

theorem State.countStops_st {z : State} {s0} (h0 : Steady z s0) :
    Steady z (@State.countStops s0) := by
  unfold State.countStops
  extract_lets +onlyGivenNames -underBinder -merge -useContext xq1
  have hxq1 : Steady z xq1 := by
    unfold xq1
    refine State.forEach_st ?_ ?_
    · exact h0
    · intro b0 b1 hbq2
      split
      · refine State.modPort_st ?_
        exact hbq2
      · exact hbq2
  try clear_value xq1
  split
  · apply Steady.of_eq
    · exact hxq1
    all_goals rfl
  · exact hxq1

theorem State.cutoffSend_st {z : State} {s0} (h0 : Steady z s0) :
    Steady z (@State.cutoffSend s0) := by
  unfold State.cutoffSend
  extract_lets +onlyGivenNames -underBinder -merge -useContext xq1
  try clear_value xq1
  extract_lets +onlyGivenNames -underBinder -merge -useContext xq2
  have hxq2 : Steady z xq2 := by
    unfold xq2
    apply Steady.of_eq
    · exact h0
    all_goals rfl
  try clear_value xq2
  extract_lets +onlyGivenNames -underBinder -merge -useContext xq3
  have hxq3 : Steady z xq3 := by
    unfold xq3
    refine State.setReg_st ?_
    exact hxq2
  try clear_value xq3
  extract_lets +onlyGivenNames -underBinder -merge -useContext xq4
  have hxq4 : Steady z xq4 := by
    unfold xq4
    refine State.cycleDisagreement_st ?_
    exact hxq3
  try clear_value xq4
  split
  · rename_i e
    have hmq5 := Steady.of_snd (z := z) e (by
      refine State.decideAll_st ?_
      exact hxq4)
    extract_lets +onlyGivenNames -underBinder -merge -useContext xq6
    have hxq6 : Steady z xq6 := by
      unfold xq6
      refine State.forEach_st ?_ ?_
      · exact hmq5
      · intro b0 b1 hbq7
        refine State.assemble_st ?_
        exact hbq7
    try clear_value xq6
    extract_lets +onlyGivenNames -underBinder -merge -useContext xq8
    have hxq8 : Steady z xq8 := by
      unfold xq8
      refine State.forEach_st ?_ ?_
      · exact hxq6
      · intro b0 b1 hbq9
        refine State.stitchCutoff_st ?_
        exact hbq9
    try clear_value xq8
    extract_lets +onlyGivenNames -underBinder -merge -useContext xq10
    have hxq10 : Steady z xq10 := by
      unfold xq10
      refine State.forEach_st ?_ ?_
      · exact hxq8
      · intro b0 b1 hbq11
        refine State.anaCutoff_st ?_
        exact hbq11
    try clear_value xq10
    refine State.countStops_st ?_
    refine State.noteSelf_st ?_
    exact hxq10

theorem State.cutoff_st {z : State} {s0} {x1} {x2} {x3} (h0 : Steady z s0) :
    Steady z (@State.cutoff s0 x1 x2 x3) := by
  unfold State.cutoff
  split
  · exact h0
  · refine State.cutoffSend_st ?_
    refine State.stampCutoff_st ?_
    exact h0

theorem State.holdLimit_st {z : State} {s0} {x1} (h0 : Steady z s0) :
    Steady z (@State.holdLimit s0 x1) := by
  unfold State.holdLimit
  split
  · exact h0
  · split
    · exact h0
    · split
      · rename_i e
        have hmq1 := Steady.of_snd2 (z := z) e (by
          refine State.cutoffAxis_st ?_
          exact h0)
        split
        · exact hmq1
        · exact h0

theorem State.bufRead_st {z : State} {s0} {x1} {x2} {x3} (h0 : Steady z s0) :
    Steady z (@State.bufRead s0 x1 x2 x3).2.2 := by
  unfold State.bufRead
  refine Steady.foldl2 ?_ ?_
  · refine Steady.mk2 ?_
    refine Steady.mk1 ?_
    exact h0
  · intro b0 b1 hbq1
    split
    · exact hbq1
    · extract_lets +onlyGivenNames -underBinder -merge -useContext xq2
      try clear_value xq2
      extract_lets +onlyGivenNames -underBinder -merge -useContext xq3
      try clear_value xq3
      split
      · refine Steady.mk2 ?_
        refine Steady.mk1 ?_
        exact hbq1
      · split
        · rename_i e
          have hmq4 := Steady.of_snd (z := z) e (by
            refine State.fabRead_st ?_
            exact hbq1)
          split
          · refine Steady.mk2 ?_
            refine Steady.mk1 ?_
            exact hmq4
          · refine Steady.mk2 ?_
            refine Steady.mk1 ?_
            exact hmq4

theorem State.bufWrite_st {z : State} {s0} {x1} {x2} {x3} (h0 : Steady z s0) :
    Steady z (@State.bufWrite s0 x1 x2 x3).2.2 := by
  unfold State.bufWrite
  refine Steady.foldl2 ?_ ?_
  · refine Steady.mk2 ?_
    refine Steady.mk1 ?_
    exact h0
  · intro b0 b1 hbq1
    split
    · exact hbq1
    · split
      · refine Steady.mk2 ?_
        refine Steady.mk1 ?_
        exact hbq1
      · split
        · rename_i e
          have hmq2 := Steady.of_snd (z := z) e (by
            refine State.fabStore_st ?_
            exact hbq1)
          split
          · refine Steady.mk2 ?_
            refine Steady.mk1 ?_
            exact hmq2
          · refine Steady.mk2 ?_
            refine Steady.mk1 ?_
            exact hmq2

theorem State.nextDesc_st {z : State} {s0} {x1} {x2} (h0 : Steady z s0) :
    Steady z (@State.nextDesc s0 x1 x2).2 := by
  induction x2 generalizing s0 with
  | zero => exact h0
  | succ k ih =>
    rw [State.nextDesc]
    refine Steady.ite1 h0 ?_
    have hd := descRead_st (x1 := x1) (x2 := s0.dmaHead x1) h0
    generalize s0.descRead x1 (s0.dmaHead x1) = p at hd ⊢
    obtain ⟨b, ok, s⟩ := p
    refine Steady.ite1 (ih (busError_st hd)) ?_
    split
    · exact ih (finish_st hd)
    · exact hd

theorem State.sourceRead_st {z : State} {s0} {x1} {x2} {x3} (h0 : Steady z s0) :
    Steady z (@State.sourceRead s0 x1 x2 x3).2.2 := by
  unfold State.sourceRead
  split
  · refine State.bufRead_st ?_
    exact h0
  · split
    · split
      · refine Steady.mk2 ?_
        refine Steady.mk1 ?_
        exact h0
      · refine Steady.mk2 ?_
        refine Steady.mk1 ?_
        refine State.bump_st ?_
        exact h0
    · refine Steady.mk2 ?_
      refine Steady.mk1 ?_
      refine State.bump_st ?_
      exact h0

theorem State.dmaFail_st {z : State} {s0} {x1} {x2} {x3} {x4} (h0 : Steady z s0) :
    Steady z (@State.dmaFail s0 x1 x2 x3 x4) := by
  unfold State.dmaFail
  split
  · refine State.dmaFreeze_st ?_
    exact h0
  · refine State.busError_st ?_
    exact h0

theorem State.serveCopy_st {z : State} {s0} {x1} {x2} {x3} {x4} (h0 : Steady z s0) :
    Steady z (@State.serveCopy s0 x1 x2 x3 x4) := by
  unfold State.serveCopy
  split
  · rename_i e
    have hmq1 := Steady.of_snd2 (z := z) e (by
      refine State.sourceRead_st ?_
      exact h0)
    split
    · rename_i e
      have hmq2 := Steady.of_snd2 (z := z) e (by
        split
        · refine State.bufWrite_st ?_
          exact hmq1
        · refine Steady.mk2 ?_
          refine Steady.mk1 ?_
          split
          · exact hmq1
          · refine State.emit_st ?_
            exact hmq1)
      split
      · refine State.dmaFail_st ?_
        exact hmq2
      · split
        · refine State.dmaFail_st ?_
          exact hmq2
        · refine State.headNext_st ?_
          refine State.writeBack_st ?_
          exact hmq2

theorem State.serveMailbox_st {z : State} {s0} {x1} {x2} {x3} {x4} (h0 : Steady z s0) :
    Steady z (@State.serveMailbox s0 x1 x2 x3 x4) := by
  unfold State.serveMailbox
  extract_lets +onlyGivenNames -underBinder -merge -useContext xq1
  try clear_value xq1
  split
  · refine State.finish_st ?_
    refine State.bumpE_st ?_
    exact h0
  · split
    · refine State.finish_st ?_
      exact h0
    · split
      · rename_i e
        have hmq2 := Steady.of_snd2 (z := z) e (by
          refine State.sourceRead_st ?_
          exact h0)
        split
        · refine State.dmaFail_st ?_
          exact hmq2
        · refine State.setDma_st ?_
          exact hmq2

theorem State.servePlant_st {z : State} {s0} {x1} {x2} {x3} {x4} {x5} (h0 : Steady z s0) :
    Steady z (@State.servePlant s0 x1 x2 x3 x4 x5) := by
  unfold State.servePlant
  extract_lets +onlyGivenNames -underBinder -merge -useContext xq1
  try clear_value xq1
  extract_lets +onlyGivenNames -underBinder -merge -useContext xq2
  try clear_value xq2
  extract_lets +onlyGivenNames -underBinder -merge -useContext xq3
  try clear_value xq3
  split
  · refine State.finish_st ?_
    exact h0
  · split
    · rename_i e
      have hmq4 := Steady.of_snd2 (z := z) e (by
        refine State.sourceRead_st ?_
        exact h0)
      split
      · refine State.dmaFail_st ?_
        exact hmq4
      · extract_lets +onlyGivenNames -underBinder -merge -useContext xq5
        try clear_value xq5
        extract_lets +onlyGivenNames -underBinder -merge -useContext xq6
        have hxq6 : Steady z xq6 := by
          unfold xq6
          refine State.bump_st ?_
          refine State.emit_st ?_
          exact hmq4
        try clear_value xq6
        extract_lets +onlyGivenNames -underBinder -merge -useContext xq7
        try clear_value xq7
        refine State.headNext_st ?_
        refine State.writeBack_st ?_
        exact hxq6

theorem State.dmaDescriptor_st {z : State} {s0} {x1} {x2} {x3} (h0 : Steady z s0) :
    Steady z (@State.dmaDescriptor s0 x1 x2 x3) := by
  unfold State.dmaDescriptor
  split
  · exact h0
  · split
    · rename_i e
      have hmq1 := Steady.of_snd2 (z := z) e (by
        refine State.descRead_st ?_
        exact h0)
      extract_lets +onlyGivenNames -underBinder -merge -useContext xq2
      try clear_value xq2
      split
      · refine State.busError_st ?_
        exact hmq1
      · split
        · refine State.finish_st ?_
          exact hmq1
        · split
          · refine State.serveCopy_st ?_
            exact hmq1
          · refine State.serveMailbox_st ?_
            exact hmq1
          · refine State.servePlant_st ?_
            exact hmq1
          · exact hmq1

theorem State.receiveInto_st {z : State} {s0} {x1} {x2} {x3} {x4} {x5} (h0 : Steady z s0) :
    Steady z (@State.receiveInto s0 x1 x2 x3 x4 x5).2 := by
  unfold State.receiveInto
  split
  · rename_i e
    have hmq1 := Steady.of_snd (z := z) e (by
      refine State.nextDesc_st ?_
      exact h0)
    split
    · refine Steady.mk1 ?_
      exact hmq1
    · split
      · refine Steady.mk1 ?_
        exact hmq1
      · split
        · rename_i e
          have hmq2 := Steady.of_snd2 (z := z) e (by
            split
            · refine State.bufWrite_st ?_
              exact hmq1
            · refine Steady.mk2 ?_
              refine Steady.mk1 ?_
              refine State.emit_st ?_
              exact hmq1)
          split
          · refine Steady.mk1 ?_
            refine State.dmaFail_st ?_
            exact hmq2
          · refine Steady.mk1 ?_
            refine State.headNext_st ?_
            refine State.writeBack_st ?_
            exact hmq2

theorem State.mailboxGood_st {z : State} {s0} {x1} {x2} (h0 : Steady z s0) :
    Steady z (@State.mailboxGood s0 x1 x2) := by
  unfold State.mailboxGood
  extract_lets +onlyGivenNames -underBinder -merge -useContext xq1
  try clear_value xq1
  extract_lets +onlyGivenNames -underBinder -merge -useContext xq2
  have hxq2 : ∀ a0, Steady z a0 → Steady z (xq2 a0) := by
    intro a0 haq3
    simp -zeta only [xq2]
    refine State.bumpE_st ?_
    exact haq3
  try clear_value xq2
  split
  · refine hxq2 _ ?_
    · exact h0
  · extract_lets +onlyGivenNames -underBinder -merge -useContext xq4
    have hxq4 : Steady z xq4 := by
      unfold xq4
      refine State.modPort_st ?_
      exact h0
    try clear_value xq4
    split
    · refine hxq2 _ ?_
      · exact hxq4
    · split
      · rename_i e
        have hmq5 := Steady.of_snd (z := z) e (by
          refine State.receiveInto_st ?_
          exact hxq4)
        split
        · refine State.bumpE_st ?_
          exact hmq5
        · refine State.bumpE_st ?_
          refine hxq2 _ ?_
          · exact hmq5

theorem State.mailboxReceive_st {z : State} {s0} {x1} {x2} (h0 : Steady z s0) :
    Steady z (@State.mailboxReceive s0 x1 x2) := by
  unfold State.mailboxReceive
  split
  · refine State.receive_st ?_ ?_
    · exact h0
    · intro b0 hbq1
      refine State.mailboxGood_st ?_
      exact hbq1
  · exact h0

theorem State.mailboxSend_st {z : State} {s0} {x1} {x2} (h0 : Steady z s0) :
    Steady z (@State.mailboxSend s0 x1 x2) := by
  unfold State.mailboxSend
  split
  · exact h0
  · split
    · exact h0
    · split
      · exact h0
      · split
        · extract_lets +onlyGivenNames -underBinder -merge -useContext xq1
          try clear_value xq1
          extract_lets +onlyGivenNames -underBinder -merge -useContext xq2
          have hxq2 : Steady z xq2 := by
            unfold xq2
            refine State.bumpE_st ?_
            refine State.sendPort_st ?_
            exact h0
          try clear_value xq2
          extract_lets +onlyGivenNames -underBinder -merge -useContext xq3
          have hxq3 : Steady z xq3 := by
            unfold xq3
            refine State.setDma_st ?_
            exact hxq2
          try clear_value xq3
          split
          · rename_i e
            have hmq4 := Steady.of_snd2 (z := z) e (by
              refine State.descRead_st ?_
              exact hxq3)
            refine State.headNext_st ?_
            refine State.writeBack_st ?_
            exact hmq4
        · exact h0

theorem State.acyclicWindow_st {z : State} {s0} {x1} (h0 : Steady z s0) :
    Steady z (@State.acyclicWindow s0 x1) := by
  unfold State.acyclicWindow
  split
  · exact h0
  · split
    · rename_i e
      have hmq1 := Steady.of_snd (z := z) e (by
        refine State.acyclicHead_st ?_
        exact h0)
      refine State.mailboxSend_st ?_
      exact hmq1

theorem State.plantReceive_st {z : State} {s0} {x1} {x2} {x3} {x4} (h0 : Steady z s0) :
    Steady z (@State.plantReceive s0 x1 x2 x3 x4) := by
  unfold State.plantReceive
  extract_lets +onlyGivenNames -underBinder -merge -useContext xq1
  try clear_value xq1
  split
  · exact h0
  · split
    · refine State.bump_st ?_
      exact h0
    · split
      · refine State.bump_st ?_
        exact h0
      · split
        · exact h0
        · extract_lets +onlyGivenNames -underBinder -merge -useContext xq2
          have hxq2 : Steady z xq2 := by
            unfold xq2
            refine State.bump_st ?_
            exact h0
          try clear_value xq2
          split
          · refine State.bump_st ?_
            exact hxq2
          · extract_lets +onlyGivenNames -underBinder -merge -useContext xq3
            try clear_value xq3
            split
            · rename_i e
              have hmq4 := Steady.of_snd (z := z) e (by
                refine State.receiveInto_st ?_
                exact hxq2)
              split
              · exact hmq4
              · refine State.bumpE_st ?_
                refine State.bump_st ?_
                exact hmq4

end Sys2Proof.Machine
end

