-- ==== Sys2Proof/Laws/SteadyExec.lean ====
section
/-! SUPPORT. Every command but the two of POR_N is made of steady operations (Sys2Proof/Laws/Steady.lean). -/
namespace Sys2Proof.Machine

theorem execNop_st (awl : Fin 64) (s : State) : Steady s (s.live (s.issue awl.val .nop)) :=
  State.live_st (.refl s) (State.issue_st (.refl s))
theorem execNopMoves_st (awl : Fin 64) (mv : Moves) (s : State) : Steady s (s.live (s.issue awl.val (.nopMoves mv))) :=
  State.live_st (.refl s) (State.issue_st (.refl s))
theorem execMov_st (awl : Fin 64) (d : Fin 16) (s1 : Fin 16) (mv : Moves) (s : State) : Steady s (s.live (s.issue awl.val (.una .mov d s1 mv))) :=
  State.live_st (.refl s) (State.issue_st (.refl s))
theorem execAdd_st (awl : Fin 64) (d : Fin 16) (s1 : Fin 16) (s2 : Src2) (mv : Moves) (s : State) : Steady s (s.live (s.issue awl.val (.bin .add d s1 s2 mv))) :=
  State.live_st (.refl s) (State.issue_st (.refl s))
theorem execSub_st (awl : Fin 64) (d : Fin 16) (s1 : Fin 16) (s2 : Src2) (mv : Moves) (s : State) : Steady s (s.live (s.issue awl.val (.bin .sub d s1 s2 mv))) :=
  State.live_st (.refl s) (State.issue_st (.refl s))
theorem execAddw_st (awl : Fin 64) (d : Fin 16) (s1 : Fin 16) (s2 : Src2) (mv : Moves) (s : State) : Steady s (s.live (s.issue awl.val (.bin .addw d s1 s2 mv))) :=
  State.live_st (.refl s) (State.issue_st (.refl s))
theorem execSubw_st (awl : Fin 64) (d : Fin 16) (s1 : Fin 16) (s2 : Src2) (mv : Moves) (s : State) : Steady s (s.live (s.issue awl.val (.bin .subw d s1 s2 mv))) :=
  State.live_st (.refl s) (State.issue_st (.refl s))
theorem execNeg_st (awl : Fin 64) (d : Fin 16) (s1 : Fin 16) (mv : Moves) (s : State) : Steady s (s.live (s.issue awl.val (.una .neg d s1 mv))) :=
  State.live_st (.refl s) (State.issue_st (.refl s))
theorem execAbs_st (awl : Fin 64) (d : Fin 16) (s1 : Fin 16) (mv : Moves) (s : State) : Steady s (s.live (s.issue awl.val (.una .abs d s1 mv))) :=
  State.live_st (.refl s) (State.issue_st (.refl s))
theorem execAnd_st (awl : Fin 64) (d : Fin 16) (s1 : Fin 16) (s2 : Src2) (mv : Moves) (s : State) : Steady s (s.live (s.issue awl.val (.bin .and d s1 s2 mv))) :=
  State.live_st (.refl s) (State.issue_st (.refl s))
theorem execOr_st (awl : Fin 64) (d : Fin 16) (s1 : Fin 16) (s2 : Src2) (mv : Moves) (s : State) : Steady s (s.live (s.issue awl.val (.bin .or d s1 s2 mv))) :=
  State.live_st (.refl s) (State.issue_st (.refl s))
theorem execXor_st (awl : Fin 64) (d : Fin 16) (s1 : Fin 16) (s2 : Src2) (mv : Moves) (s : State) : Steady s (s.live (s.issue awl.val (.bin .xor d s1 s2 mv))) :=
  State.live_st (.refl s) (State.issue_st (.refl s))
theorem execNot_st (awl : Fin 64) (d : Fin 16) (s1 : Fin 16) (mv : Moves) (s : State) : Steady s (s.live (s.issue awl.val (.una .not d s1 mv))) :=
  State.live_st (.refl s) (State.issue_st (.refl s))
theorem execMin_st (awl : Fin 64) (d : Fin 16) (s1 : Fin 16) (s2 : Src2) (mv : Moves) (s : State) : Steady s (s.live (s.issue awl.val (.bin .min d s1 s2 mv))) :=
  State.live_st (.refl s) (State.issue_st (.refl s))
theorem execMax_st (awl : Fin 64) (d : Fin 16) (s1 : Fin 16) (s2 : Src2) (mv : Moves) (s : State) : Steady s (s.live (s.issue awl.val (.bin .max d s1 s2 mv))) :=
  State.live_st (.refl s) (State.issue_st (.refl s))
theorem execClip_st (awl : Fin 64) (d : Fin 16) (s1 : Fin 16) (s2 : Src2) (mv : Moves) (s : State) : Steady s (s.live (s.issue awl.val (.bin .clip d s1 s2 mv))) :=
  State.live_st (.refl s) (State.issue_st (.refl s))
theorem execAsl_st (awl : Fin 64) (d : Fin 16) (s1 : Fin 16) (s2 : Src2) (mv : Moves) (s : State) : Steady s (s.live (s.issue awl.val (.bin .asl d s1 s2 mv))) :=
  State.live_st (.refl s) (State.issue_st (.refl s))
theorem execAsr_st (awl : Fin 64) (d : Fin 16) (s1 : Fin 16) (s2 : Src2) (mv : Moves) (s : State) : Steady s (s.live (s.issue awl.val (.bin .asr d s1 s2 mv))) :=
  State.live_st (.refl s) (State.issue_st (.refl s))
theorem execLsr_st (awl : Fin 64) (d : Fin 16) (s1 : Fin 16) (s2 : Src2) (mv : Moves) (s : State) : Steady s (s.live (s.issue awl.val (.bin .lsr d s1 s2 mv))) :=
  State.live_st (.refl s) (State.issue_st (.refl s))
theorem execNorm_st (awl : Fin 64) (d : Fin 16) (s1 : Fin 16) (mv : Moves) (s : State) : Steady s (s.live (s.issue awl.val (.una .norm d s1 mv))) :=
  State.live_st (.refl s) (State.issue_st (.refl s))
theorem execRcps_st (awl : Fin 64) (d : Fin 16) (s1 : Fin 16) (mv : Moves) (s : State) : Steady s (s.live (s.issue awl.val (.una .rcps d s1 mv))) :=
  State.live_st (.refl s) (State.issue_st (.refl s))
theorem execRsqs_st (awl : Fin 64) (d : Fin 16) (s1 : Fin 16) (mv : Moves) (s : State) : Steady s (s.live (s.issue awl.val (.una .rsqs d s1 mv))) :=
  State.live_st (.refl s) (State.issue_st (.refl s))
theorem execScs_st (awl : Fin 64) (d : Fin 16) (s1 : Fin 16) (mv : Moves) (s : State) : Steady s (s.live (s.issue awl.val (.una .scs d s1 mv))) :=
  State.live_st (.refl s) (State.issue_st (.refl s))
theorem execCadd_st (awl : Fin 64) (d : Fin 16) (s1 : Fin 16) (s2 : Src2) (mv : Moves) (s : State) : Steady s (s.live (s.issue awl.val (.bin .cadd d s1 s2 mv))) :=
  State.live_st (.refl s) (State.issue_st (.refl s))
theorem execCsub_st (awl : Fin 64) (d : Fin 16) (s1 : Fin 16) (s2 : Src2) (mv : Moves) (s : State) : Steady s (s.live (s.issue awl.val (.bin .csub d s1 s2 mv))) :=
  State.live_st (.refl s) (State.issue_st (.refl s))
theorem execCmp_st (awl : Fin 64) (s1 : Fin 16) (s2 : Src2) (mv : Moves) (s : State) : Steady s (s.live (s.issue awl.val (.cmp s1 s2 mv))) :=
  State.live_st (.refl s) (State.issue_st (.refl s))
theorem execTst_st (awl : Fin 64) (s1 : Fin 16) (s2 : Src2) (mv : Moves) (s : State) : Steady s (s.live (s.issue awl.val (.tst s1 s2 mv))) :=
  State.live_st (.refl s) (State.issue_st (.refl s))
theorem execMpy_st (awl : Fin 64) (a : Fin 4) (s1 : Fin 16) (s2 : MulSrc) (mv : Moves) (s : State) : Steady s (s.live (s.issue awl.val (.mul .mpy a s1 s2 mv))) :=
  State.live_st (.refl s) (State.issue_st (.refl s))
theorem execMac_st (awl : Fin 64) (a : Fin 4) (s1 : Fin 16) (s2 : MulSrc) (mv : Moves) (s : State) : Steady s (s.live (s.issue awl.val (.mul .mac a s1 s2 mv))) :=
  State.live_st (.refl s) (State.issue_st (.refl s))
theorem execMsu_st (awl : Fin 64) (a : Fin 4) (s1 : Fin 16) (s2 : MulSrc) (mv : Moves) (s : State) : Steady s (s.live (s.issue awl.val (.mul .msu a s1 s2 mv))) :=
  State.live_st (.refl s) (State.issue_st (.refl s))
theorem execCmpy_st (awl : Fin 64) (a : Fin 2) (s1 : Fin 16) (s2 : MulSrc) (mv : Moves) (s : State) : Steady s (s.live (s.issue awl.val (.cmul .cmpy a s1 s2 mv))) :=
  State.live_st (.refl s) (State.issue_st (.refl s))
theorem execCmac_st (awl : Fin 64) (a : Fin 2) (s1 : Fin 16) (s2 : MulSrc) (mv : Moves) (s : State) : Steady s (s.live (s.issue awl.val (.cmul .cmac a s1 s2 mv))) :=
  State.live_st (.refl s) (State.issue_st (.refl s))
theorem execCmacj_st (awl : Fin 64) (a : Fin 2) (s1 : Fin 16) (s2 : MulSrc) (mv : Moves) (s : State) : Steady s (s.live (s.issue awl.val (.cmul .cmacj a s1 s2 mv))) :=
  State.live_st (.refl s) (State.issue_st (.refl s))
theorem execClr_st (awl : Fin 64) (a : Fin 4) (mv : Moves) (s : State) : Steady s (s.live (s.issue awl.val (.clr a mv))) :=
  State.live_st (.refl s) (State.issue_st (.refl s))
theorem execMovELoad_st (awl : Fin 64) (a : Fin 4) (s1 : Fin 16) (s2 : Src2) (mv : Moves) (s : State) : Steady s (s.live (s.issue awl.val (.movE a s1 s2 mv))) :=
  State.live_st (.refl s) (State.issue_st (.refl s))
theorem execMovConv_st (awl : Fin 64) (dst : DReg) (a : Fin 4) (k : Fin 64) (form : Option Moves) (s : State) : Steady s (s.live (s.issue awl.val (.conv dst a k form))) :=
  State.live_st (.refl s) (State.issue_st (.refl s))
theorem execMovCconv_st (awl : Fin 64) (d : Fin 16) (a : Fin 2) (k : Fin 64) (form : Option Moves) (s : State) : Steady s (s.live (s.issue awl.val (.cconv d a k form))) :=
  State.live_st (.refl s) (State.issue_st (.refl s))
theorem execAddi_st (awl : Fin 64) (d : Fin 16) (s1 : Fin 16) (v : Imm) (s : State) : Steady s (s.live (s.issue awl.val (.binI .add d s1 v))) :=
  State.live_st (.refl s) (State.issue_st (.refl s))
theorem execAddwi_st (awl : Fin 64) (d : Fin 16) (s1 : Fin 16) (v : Imm) (s : State) : Steady s (s.live (s.issue awl.val (.binI .addw d s1 v))) :=
  State.live_st (.refl s) (State.issue_st (.refl s))
theorem execAndi_st (awl : Fin 64) (d : Fin 16) (s1 : Fin 16) (v : Imm) (s : State) : Steady s (s.live (s.issue awl.val (.binI .and d s1 v))) :=
  State.live_st (.refl s) (State.issue_st (.refl s))
theorem execOri_st (awl : Fin 64) (d : Fin 16) (s1 : Fin 16) (v : Imm) (s : State) : Steady s (s.live (s.issue awl.val (.binI .or d s1 v))) :=
  State.live_st (.refl s) (State.issue_st (.refl s))
theorem execXori_st (awl : Fin 64) (d : Fin 16) (s1 : Fin 16) (v : Imm) (s : State) : Steady s (s.live (s.issue awl.val (.binI .xor d s1 v))) :=
  State.live_st (.refl s) (State.issue_st (.refl s))
theorem execLdi_st (awl : Fin 64) (d : Fin 16) (v : Imm) (s : State) : Steady s (s.live (s.issue awl.val (.ldi d v))) :=
  State.live_st (.refl s) (State.issue_st (.refl s))
theorem execCmpi_st (awl : Fin 64) (s1 : Fin 16) (v : Imm) (s : State) : Steady s (s.live (s.issue awl.val (.cmpi s1 v))) :=
  State.live_st (.refl s) (State.issue_st (.refl s))
theorem execTsti_st (awl : Fin 64) (s1 : Fin 16) (v : Imm) (s : State) : Steady s (s.live (s.issue awl.val (.tsti s1 v))) :=
  State.live_st (.refl s) (State.issue_st (.refl s))
theorem execAsli_st (awl : Fin 64) (d : Fin 16) (s1 : Fin 16) (k : Fin 32) (s : State) : Steady s (s.live (s.issue awl.val (.shiftI .asl d s1 k))) :=
  State.live_st (.refl s) (State.issue_st (.refl s))
theorem execAsri_st (awl : Fin 64) (d : Fin 16) (s1 : Fin 16) (k : Fin 32) (s : State) : Steady s (s.live (s.issue awl.val (.shiftI .asr d s1 k))) :=
  State.live_st (.refl s) (State.issue_st (.refl s))
theorem execLsri_st (awl : Fin 64) (d : Fin 16) (s1 : Fin 16) (k : Fin 32) (s : State) : Steady s (s.live (s.issue awl.val (.shiftI .lsr d s1 k))) :=
  State.live_st (.refl s) (State.issue_st (.refl s))
theorem execNormE_st (awl : Fin 64) (d : Fin 16) (a : Fin 4) (s : State) : Steady s (s.live (s.issue awl.val (.normE d a))) :=
  State.live_st (.refl s) (State.issue_st (.refl s))
theorem execMovgRead_st (awl : Fin 64) (d : Fin 16) (a : Fin 4) (s : State) : Steady s (s.live (s.issue awl.val (.movgRead d a))) :=
  State.live_st (.refl s) (State.issue_st (.refl s))
theorem execMovgWrite_st (awl : Fin 64) (a : Fin 4) (g : Fin 16) (p : Fin 8) (s : State) : Steady s (s.live (s.issue awl.val (.movgWrite a g p))) :=
  State.live_st (.refl s) (State.issue_st (.refl s))
theorem execAddw64_st (awl : Fin 64) (d : Fin 8) (p : Fin 8) (q : Fin 8) (s : State) : Steady s (s.live (s.issue awl.val (.wide .addw d p q))) :=
  State.live_st (.refl s) (State.issue_st (.refl s))
theorem execSubw64_st (awl : Fin 64) (d : Fin 8) (p : Fin 8) (q : Fin 8) (s : State) : Steady s (s.live (s.issue awl.val (.wide .subw d p q))) :=
  State.live_st (.refl s) (State.issue_st (.refl s))
theorem execAdd64_st (awl : Fin 64) (d : Fin 8) (p : Fin 8) (q : Fin 8) (s : State) : Steady s (s.live (s.issue awl.val (.wide .add d p q))) :=
  State.live_st (.refl s) (State.issue_st (.refl s))
theorem execSub64_st (awl : Fin 64) (d : Fin 8) (p : Fin 8) (q : Fin 8) (s : State) : Steady s (s.live (s.issue awl.val (.wide .sub d p q))) :=
  State.live_st (.refl s) (State.issue_st (.refl s))
theorem execMov64_st (awl : Fin 64) (d : Fin 8) (p : Fin 8) (s : State) : Steady s (s.live (s.issue awl.val (.mov64 d p))) :=
  State.live_st (.refl s) (State.issue_st (.refl s))
theorem execCmp64_st (awl : Fin 64) (p : Fin 8) (q : Fin 8) (s : State) : Steady s (s.live (s.issue awl.val (.cmp64 p q))) :=
  State.live_st (.refl s) (State.issue_st (.refl s))
theorem execMovcRead_st (awl : Fin 64) (d : Fin 16) (cr : Fin 56) (s : State) : Steady s (s.live (s.issue awl.val (.movcRead d cr))) :=
  State.live_st (.refl s) (State.issue_st (.refl s))
theorem execMovcWrite_st (awl : Fin 64) (cr : Fin 56) (src : CtlSrc) (s : State) : Steady s (s.live (s.issue awl.val (.movcWrite cr src))) :=
  State.live_st (.refl s) (State.issue_st (.refl s))
theorem execLd_st (awl : Fin 64) (dst : DReg) (ak : Fin 8) (mode : MemMode) (s : State) : Steady s (s.live (s.issue awl.val (.ld dst ak mode))) :=
  State.live_st (.refl s) (State.issue_st (.refl s))
theorem execSt_st (awl : Fin 64) (src : DReg) (ak : Fin 8) (mode : MemMode) (s : State) : Steady s (s.live (s.issue awl.val (.st src ak mode))) :=
  State.live_st (.refl s) (State.issue_st (.refl s))
theorem execLdc_st (awl : Fin 64) (d : Fin 16) (j : Fin 2) (s : State) : Steady s (s.live (s.issue awl.val (.ldc d j))) :=
  State.live_st (.refl s) (State.issue_st (.refl s))
theorem execLdq_st (awl : Fin 64) (q : Fin 16) (dst : QReg) (ak : Fin 8) (off : Imm) (s : State) : Steady s (s.live (s.issue awl.val (.ldq q dst ak off))) :=
  State.live_st (.refl s) (State.issue_st (.refl s))
theorem execStq_st (awl : Fin 64) (q : Fin 16) (src : QReg) (ak : Fin 8) (off : Imm) (s : State) : Steady s (s.live (s.issue awl.val (.stq q src ak off))) :=
  State.live_st (.refl s) (State.issue_st (.refl s))
theorem execLdqB_st (awl : Fin 64) (q : Fin 16) (am : Fin 8) (ak : Fin 8) (off : Imm) (k : Fin 8) (s : State) : Steady s (s.live (s.issue awl.val (.ldqB q am ak off k))) :=
  State.live_st (.refl s) (State.issue_st (.refl s))
theorem execStqB_st (awl : Fin 64) (q : Fin 16) (am : Fin 8) (ak : Fin 8) (off : Imm) (k : Fin 8) (s : State) : Steady s (s.live (s.issue awl.val (.stqB q am ak off k))) :=
  State.live_st (.refl s) (State.issue_st (.refl s))
theorem execWaitq_st (awl : Fin 64) (mask : BitVec 16) (s : State) : Steady s (s.live (s.issue awl.val (.waitq mask))) :=
  State.live_st (.refl s) (State.issue_st (.refl s))
theorem execQueueEntryComplete_st (awl : Fin 64) (s : State) : Steady s (s.live (s.queueComplete awl.val)) :=
  State.live_st (.refl s) (State.queueComplete_st (.refl s))
theorem execEndt_st (awl : Fin 64) (s : State) : Steady s (s.live (s.issue awl.val .endt).latGive) :=
  State.live_st (.refl s) (State.latGive_st (State.issue_st (.refl s)))
theorem execPost_st (awl : Fin 64) (j : Fin 4) (s : State) : Steady s (s.live (s.issue awl.val (.post j))) :=
  State.live_st (.refl s) (State.issue_st (.refl s))
theorem execTrap_st (awl : Fin 64) (k : BitVec 8) (s : State) : Steady s (s.live (s.issue awl.val (.trap k))) :=
  State.live_st (.refl s) (State.issue_st (.refl s))
theorem execRte_st (awl : Fin 64) (s : State) : Steady s (s.live (s.issue awl.val .rte)) :=
  State.live_st (.refl s) (State.issue_st (.refl s))
theorem execBkpt_st (awl : Fin 64) (k : BitVec 8) (s : State) : Steady s (s.live (s.issue awl.val (.bkpt k))) :=
  State.live_st (.refl s) (State.issue_st (.refl s))
theorem execBr_st (awl : Fin 64) (cond : Fin 14) (off : BitVec 13) (s : State) : Steady s (s.live (s.issue awl.val (.br cond off))) :=
  State.live_st (.refl s) (State.issue_st (.refl s))
theorem execCall_st (awl : Fin 64) (d : Fin 16) (off : BitVec 13) (s : State) : Steady s (s.live (s.issue awl.val (.call d off))) :=
  State.live_st (.refl s) (State.issue_st (.refl s))
theorem execJmp_st (awl : Fin 64) (cond : Fin 14) (d : Fin 16) (s : State) : Steady s (s.live (s.issue awl.val (.jmp cond d))) :=
  State.live_st (.refl s) (State.issue_st (.refl s))
theorem execLoop_st (awl : Fin 64) (cnt : Count) (e : LoopEnd) (s : State) : Steady s (s.live (s.issue awl.val (.loop cnt e))) :=
  State.live_st (.refl s) (State.issue_st (.refl s))
theorem execRedo_st (awl : Fin 64) (cnt : Count) (s : State) : Steady s (s.live (s.issue awl.val (.redo cnt))) :=
  State.live_st (.refl s) (State.issue_st (.refl s))
theorem execIllegalInstruction_st (awl : Fin 64) (word : Word) (ext : Word) (s : State) : Steady s (s.live (s.illegalWord awl.val word ext)) :=
  State.live_st (.refl s) (State.illegalWord_st (.refl s))
theorem execTaskDispatch_st (bench : Fin 8) (s : State) : Steady s (s.live (s.dispatchPasses bench.val)) :=
  State.live_st (.refl s) (State.dispatchPasses_st (.refl s))
theorem execServiceDispatch_st (bench : Fin 8) (s : State) : Steady s (s.live (s.serviceDispatch bench.val)) :=
  State.live_st (.refl s) (State.serviceDispatch_st (.refl s))
theorem execServiceResume_st (awl : Fin 64) (s : State) : Steady s (s.live (s.serviceResume awl.val)) :=
  State.live_st (.refl s) (State.serviceResume_st (.refl s))
theorem execDeadline_st (ns : Nat) (s : State) : Steady s (s.live (s.deadline ns)) :=
  State.live_st (.refl s) (State.deadline_st (.refl s))
theorem execSvctrigWrite_st (m : Fin 96) (task : BitVec 12) (s : State) : Steady s (s.live (s.cmdWrite m.val pgCINCH CINCH.SVCTRIG (CINCH.SVCTRIG_TASK.put task.toNat 0))) :=
  State.live_st (.refl s) (State.cmdWrite_st (.refl s))
theorem execCmdtailWrite_st (m : Fin 96) (bench : Fin 8) (index : BitVec 12) (s : State) : Steady s (s.live (s.cmdWrite m.val (pgCINCHB bench.val) CINCHB.CMDTAIL (CINCHB.CMDTAIL_INDEX.put index.toNat 0))) :=
  State.live_st (.refl s) (State.cmdWrite_st (.refl s))
theorem execBudgetWrite_st (m : Fin 96) (bench : Fin 8) (e : Fin 8) (v : Word) (s : State) : Steady s (s.live (s.cmdWrite m.val (pgCINCHB bench.val) (0x80 + 4 * e.val) v)) :=
  State.live_st (.refl s) (State.cmdWrite_st (.refl s))
theorem execStatclr_st (m : Fin 96) (bench : Fin 8) (s : State) : Steady s (s.live (s.cmdWrite m.val (pgCINCHB bench.val) CINCHB.STATCLR (CINCHB.STATCLR_CLR.put 1 0))) :=
  State.live_st (.refl s) (State.cmdWrite_st (.refl s))
theorem execBenchStatclr_st (m : Fin 96) (bench : Fin 8) (s : State) : Steady s (s.live (s.cmdWrite m.val (pgBENCH bench.val) BENCH.STATCLR (BENCH.STATCLR_CLR.put 1 0))) :=
  State.live_st (.refl s) (State.cmdWrite_st (.refl s))
theorem execInstanceBudgetPassed_st (awl : Fin 64) (s : State) : Steady s (s.live (s.budgetPassed awl.val)) :=
  State.live_st (.refl s) (State.budgetPassed_st (.refl s))
theorem execPgEngineDone_st (ticks : Nat) (s : State) : Steady s (s.live (s.engineDone ticks)) :=
  State.live_st (.refl s) (State.engineDone_st (.refl s))
theorem execVmPendingApply_st (k : Fin 4) (s : State) : Steady s (s.live (s.vmPending k.val)) :=
  State.live_st (.refl s) (State.vmPending_st (.refl s))
theorem execStart_st (bench : Fin 8) (e : Entry) (s : State) : Steady s (s.live (s.cmdRow bench.val { e with op := 0x01 })) :=
  State.live_st (.refl s) (State.cmdRow_st (.refl s))
theorem execStop_st (bench : Fin 8) (e : Entry) (s : State) : Steady s (s.live (s.cmdRow bench.val { e with op := 0x02 })) :=
  State.live_st (.refl s) (State.cmdRow_st (.refl s))
theorem execAxreset_st (bench : Fin 8) (e : Entry) (s : State) : Steady s (s.live (s.cmdRow bench.val { e with op := 0x03 })) :=
  State.live_st (.refl s) (State.cmdRow_st (.refl s))
theorem execParwrite_st (bench : Fin 8) (e : Entry) (s : State) : Steady s (s.live (s.cmdRow bench.val { e with op := 0x04 })) :=
  State.live_st (.refl s) (State.cmdRow_st (.refl s))
theorem execMoveabs_st (bench : Fin 8) (e : Entry) (s : State) : Steady s (s.live (s.cmdRow bench.val { e with op := 0x10 })) :=
  State.live_st (.refl s) (State.cmdRow_st (.refl s))
theorem execMoverel_st (bench : Fin 8) (e : Entry) (s : State) : Steady s (s.live (s.cmdRow bench.val { e with op := 0x11 })) :=
  State.live_st (.refl s) (State.cmdRow_st (.refl s))
theorem execVelocity_st (bench : Fin 8) (e : Entry) (s : State) : Steady s (s.live (s.cmdRow bench.val { e with op := 0x12 })) :=
  State.live_st (.refl s) (State.cmdRow_st (.refl s))
theorem execHalt_st (bench : Fin 8) (e : Entry) (s : State) : Steady s (s.live (s.cmdRow bench.val { e with op := 0x13 })) :=
  State.live_st (.refl s) (State.cmdRow_st (.refl s))
theorem execSetpos_st (bench : Fin 8) (e : Entry) (s : State) : Steady s (s.live (s.cmdRow bench.val { e with op := 0x14 })) :=
  State.live_st (.refl s) (State.cmdRow_st (.refl s))
theorem execSetlim_st (bench : Fin 8) (e : Entry) (s : State) : Steady s (s.live (s.cmdRow bench.val { e with op := 0x15 })) :=
  State.live_st (.refl s) (State.cmdRow_st (.refl s))
theorem execSetstop_st (bench : Fin 8) (e : Entry) (s : State) : Steady s (s.live (s.cmdRow bench.val { e with op := 0x16 })) :=
  State.live_st (.refl s) (State.cmdRow_st (.refl s))
theorem execSetmaster_st (bench : Fin 8) (e : Entry) (s : State) : Steady s (s.live (s.cmdRow bench.val { e with op := 0x17 })) :=
  State.live_st (.refl s) (State.cmdRow_st (.refl s))
theorem execGearin_st (bench : Fin 8) (e : Entry) (s : State) : Steady s (s.live (s.cmdRow bench.val { e with op := 0x18 })) :=
  State.live_st (.refl s) (State.cmdRow_st (.refl s))
theorem execCamin_st (bench : Fin 8) (e : Entry) (s : State) : Steady s (s.live (s.cmdRow bench.val { e with op := 0x19 })) :=
  State.live_st (.refl s) (State.cmdRow_st (.refl s))
theorem execPhase_st (bench : Fin 8) (e : Entry) (s : State) : Steady s (s.live (s.cmdRow bench.val { e with op := 0x1A })) :=
  State.live_st (.refl s) (State.cmdRow_st (.refl s))
theorem execGearout_st (bench : Fin 8) (e : Entry) (s : State) : Steady s (s.live (s.cmdRow bench.val { e with op := 0x1B })) :=
  State.live_st (.refl s) (State.cmdRow_st (.refl s))
theorem execCamsel_st (bench : Fin 8) (e : Entry) (s : State) : Steady s (s.live (s.cmdRow bench.val { e with op := 0x1C })) :=
  State.live_st (.refl s) (State.cmdRow_st (.refl s))
theorem execIgtgt_st (bench : Fin 8) (e : Entry) (s : State) : Steady s (s.live (s.cmdRow bench.val { e with op := 0x20 })) :=
  State.live_st (.refl s) (State.cmdRow_st (.refl s))
theorem execIgstart_st (bench : Fin 8) (e : Entry) (s : State) : Steady s (s.live (s.cmdRow bench.val { e with op := 0x21 })) :=
  State.live_st (.refl s) (State.cmdRow_st (.refl s))
theorem execIghalt_st (bench : Fin 8) (e : Entry) (s : State) : Steady s (s.live (s.cmdRow bench.val { e with op := 0x22 })) :=
  State.live_st (.refl s) (State.cmdRow_st (.refl s))
theorem execVmset_st (bench : Fin 8) (k : Fin 4) (e : Entry) (s : State) : Steady s (s.live (s.cmdRow bench.val { e with op := 0x30 + k.val })) :=
  State.live_st (.refl s) (State.cmdRow_st (.refl s))
theorem execVmvel_st (bench : Fin 8) (k : Fin 4) (e : Entry) (s : State) : Steady s (s.live (s.cmdRow bench.val { e with op := 0x34 + k.val })) :=
  State.live_st (.refl s) (State.cmdRow_st (.refl s))
theorem execI0_st (upset : Bool) (idle : BitVec 16) (s : State) : Steady s (s.live (s.i0Row upset idle)) :=
  State.live_st (.refl s) (State.i0Row_st (.refl s))
theorem execCycleZero_st (idle : BitVec 16) (s : State) : Steady s (s.live (s.cycleZero idle)) :=
  State.live_st (.refl s) (State.cycleZero_st (.refl s))
theorem execNetworkStop_st (m : Fin 96) (s : State) : Steady s (s.live (s.cmdWrite m.val pgGIRTH HDR.PCTL (HDR.PCTL_RUN.put 0 (s.reg pgGIRTH HDR.PCTL)))) :=
  State.live_st (.refl s) (State.cmdWrite_st (.refl s))
theorem execLocalArrival_st (s : State) : Steady s (s.live s.localArrival) :=
  State.live_st (.refl s) (State.localArrival_st (.refl s))
theorem execCwstart_st (upset : Bool) (s : State) : Steady s (s.live (s.cwstartRow upset)) :=
  State.live_st (.refl s) (State.cwstartRow_st (.refl s))
theorem execCutoff_st (trip : BitVec 8) (high : BitVec 8) (low : BitVec 8) (s : State) : Steady s (s.live (s.cutoff trip.toNat high.toNat low.toNat)) :=
  State.live_st (.refl s) (State.cutoff_st (.refl s))
theorem execHoldLimit_st (axis : Fin 256) (s : State) : Steady s (s.live (s.holdLimit axis.val)) :=
  State.live_st (.refl s) (State.holdLimit_st (.refl s))
theorem execBlockStart_st (m : Fin 96) (page : Fin 4096) (s : State) : Steady s (s.live (s.cmdWrite m.val page.val HDR.PCTL (HDR.PCTL_RUN.put 1 (s.reg page.val HDR.PCTL)))) :=
  State.live_st (.refl s) (State.cmdWrite_st (.refl s))
theorem execStartComplete_st (page : Fin 4096) (s : State) : Steady s (s.live (s.startCompleteRow page.val)) :=
  State.live_st (.refl s) (State.startCompleteRow_st (.refl s))
theorem execBlockStop_st (m : Fin 96) (page : Fin 4096) (s : State) : Steady s (s.live (s.cmdWrite m.val page.val HDR.PCTL (HDR.PCTL_RUN.put 0 (s.reg page.val HDR.PCTL)))) :=
  State.live_st (.refl s) (State.cmdWrite_st (.refl s))
theorem execStopComplete_st (page : Fin 4096) (s : State) : Steady s (s.live (s.stopComplete page.val)) :=
  State.live_st (.refl s) (State.stopComplete_st (.refl s))
theorem execFaultReactionComplete_st (page : Fin 4096) (s : State) : Steady s (s.live (s.faultReactionComplete page.val)) :=
  State.live_st (.refl s) (State.faultReactionComplete_st (.refl s))
theorem execEvtsetWrite_st (m : Fin 96) (page : Fin 4096) (v : Word) (s : State) : Steady s (s.live (s.cmdWrite m.val page.val HDR.EVTSET v)) :=
  State.live_st (.refl s) (State.cmdWrite_st (.refl s))
theorem execEcapClear_st (m : Fin 96) (page : Fin 4096) (s : State) : Steady s (s.live (s.cmdWrite m.val page.val HDR.ECAP0 0xFFFFFFFF#32)) :=
  State.live_st (.refl s) (State.cmdWrite_st (.refl s))
theorem execCounterRead_st (m : Fin 96) (page : Fin 4096) (off : Fin 4096) (s : State) : Steady s (s.live (s.cmdRead m.val page.val off.val)) :=
  State.live_st (.refl s) (State.cmdRead_st (.refl s))
theorem execRegisterWrite_st (m : Fin 96) (addr : Word) (bytes : List Byte) (s : State) : Steady s (s.live (s.busWrite m.val addr.toNat bytes)) :=
  State.live_st (.refl s) (State.busWrite_st (.refl s))
theorem execCalibrationStart_st (m : Fin 96) (page : Fin 4096) (k : Fin 30) (s : State) : Steady s (s.live (s.cmdWrite m.val page.val (0x100 + 0x80 * k.val) (s.reg page.val (0x100 + 0x80 * k.val) ||| 1#32))) :=
  State.live_st (.refl s) (State.cmdWrite_st (.refl s))
theorem execCalibrationDone_st (page : Fin 4096) (k : Fin 30) (ok : Bool) (res0 : Word) (res1 : Word) (err : BitVec 8) (s : State) : Steady s (s.live (s.calDoneRow page.val k.val ok res0 res1 err.toNat)) :=
  State.live_st (.refl s) (State.calDoneRow_st (.refl s))
theorem execShellMonitorMeasure_st (page : Fin 4096) (k : Fin 30) (value : BitVec 16) (s : State) : Steady s (s.live (s.monMeasure page.val k.val value.toNat)) :=
  State.live_st (.refl s) (State.monMeasure_st (.refl s))
theorem execHaltRequest_st (m : Fin 96) (awl : Fin 64) (s : State) : Steady s (s.live (s.cmdWrite m.val (pgAWL awl.val) AWL.DBGCTL (AWL.DBGCTL_HALT.put 1 (s.reg (pgAWL awl.val) AWL.DBGCTL)))) :=
  State.live_st (.refl s) (State.cmdWrite_st (.refl s))
theorem execHaltResume_st (m : Fin 96) (awl : Fin 64) (s : State) : Steady s (s.live (s.cmdWrite m.val (pgAWL awl.val) AWL.DBGCTL (AWL.DBGCTL_HALT.put 0 (s.reg (pgAWL awl.val) AWL.DBGCTL)))) :=
  State.live_st (.refl s) (State.cmdWrite_st (.refl s))
theorem execDebugStep_st (m : Fin 96) (awl : Fin 64) (s : State) : Steady s (s.live (s.cmdWrite m.val (pgAWL awl.val) AWL.DBGCTL (AWL.DBGCTL_STEP.put 1 (s.reg (pgAWL awl.val) AWL.DBGCTL)))) :=
  State.live_st (.refl s) (State.cmdWrite_st (.refl s))
theorem execHardwareBreakpoint_st (awl : Fin 64) (s : State) : Steady s (s.live (s.breakpoint awl.val)) :=
  State.live_st (.refl s) (State.breakpoint_st (.refl s))
theorem execDbgrdataAccess_st (m : Fin 96) (awl : Fin 64) (write : Option Word) (s : State) : Steady s (s.live (s.dbgAccess m.val awl.val write)) :=
  State.live_st (.refl s) (State.dbgAccess_st (.refl s))
theorem execDebugPortAccess_st (addr : Word) (size : Nat) (write : Option (List Byte)) (s : State) : Steady s (s.live (s.debugPort addr.toNat size write)) :=
  State.live_st (.refl s) (State.debugPort_st (.refl s))
theorem execQuadratureStep_st (n : Fin 16) (a : Bool) (b : Bool) (k : Nat) (s : State) : Steady s (s.live (s.quadPins n.val a b k)) :=
  State.live_st (.refl s) (State.quadPins_st (.refl s))
theorem execHallCodeChange_st (n : Fin 16) (code : Fin 8) (k : Nat) (s : State) : Steady s (s.live (s.hallPins n.val code.val k)) :=
  State.live_st (.refl s) (State.hallPins_st (.refl s))
theorem execIndexCapture_st (n : Fin 16) (z : Bool) (k : Nat) (s : State) : Steady s (s.live (s.indexPin n.val z k)) :=
  State.live_st (.refl s) (State.indexPin_st (.refl s))
theorem execIllegalStepFault_st (n : Fin 16) (s : State) : Steady s (s.live (s.illFault n.val)) :=
  State.live_st (.refl s) (State.illFault_st (.refl s))
theorem execSerialTransferDone_st (n : Fin 16) (idle : Bool) (bits : BitVec 64) (s : State) : Steady s (s.live (s.serDone n.val idle bits.toNat)) :=
  State.live_st (.refl s) (State.serDone_st (.refl s))
theorem execSerialFault_st (n : Fin 16) (s : State) : Steady s (s.live (s.serFault n.val)) :=
  State.live_st (.refl s) (State.serFault_st (.refl s))
theorem execConversionDone_st (n : Fin 16) (raw : BitVec 12) (s : State) : Steady s (s.live (s.conversionDone n.val raw)) :=
  State.live_st (.refl s) (State.conversionDone_st (.refl s))
theorem execContinuousSlot_st (n : Fin 16) (s : State) : Steady s (s.live (s.contSlot n.val)) :=
  State.live_st (.refl s) (State.contSlot_st (.refl s))
theorem execAuxiliaryConversion_st (n : Fin 16) (s : State) : Steady s (s.live (s.auxConversion n.val)) :=
  State.live_st (.refl s) (State.auxConversion_st (.refl s))
theorem execOutvalWrite_st (m : Fin 96) (n : Fin 16) (v : Word) (s : State) : Steady s (s.live (s.cmdWrite m.val (pgAXCH n.val) AXCH.OUTVAL v)) :=
  State.live_st (.refl s) (State.cmdWrite_st (.refl s))
theorem execMonitorConversion_st (k : Fin 8) (value : BitVec 16) (s : State) : Steady s (s.live (s.monitorConv k.val value.toNat)) :=
  State.live_st (.refl s) (State.monitorConv_st (.refl s))
theorem execPcieRefclkLoss_st (s : State) : Steady s (s.live s.refclkLoss) :=
  State.live_st (.refl s) (State.refclkLoss_st (.refl s))
theorem execHostBar2Access_st (addr : Word) (size : Nat) (write : Option (List (Option Byte))) (s : State) : Steady s (s.live (s.bar2Access addr.toNat size write)) :=
  State.live_st (.refl s) (State.bar2Access_st (.refl s))
theorem execPlantFrameReceive_st (x : Fin 2) (bytes : List Byte) (fcsOk : Bool) (startBit : Nat) (s : State) : Steady s (s.live (s.plantReceive x.val bytes fcsOk startBit)) :=
  State.live_st (.refl s) (State.plantReceive_st (.refl s))
theorem execHostReset_st (kind : Fin 4) (s : State) : Steady s (s.live (s.hostReset kind)) :=
  State.live_st (.refl s) (State.hostReset_st (.refl s))
theorem execRearmWrite_st (m : Fin 96) (half : Fin 2) (v : Word) (s : State) : Steady s (s.live (s.cmdWrite m.val pgMSIX (MSIX.REARM0 + 4 * half.val) v)) :=
  State.live_st (.refl s) (State.cmdWrite_st (.refl s))
theorem execTailWrite_st (m : Fin 96) (k : Fin 8) (index : BitVec 12) (s : State) : Steady s (s.live (s.cmdWrite m.val (pgDMA k.val) DMA.TAIL (DMA.TAIL_INDEX.put index.toNat 0))) :=
  State.live_st (.refl s) (State.cmdWrite_st (.refl s))
theorem execDmaDescriptor_st (k : Fin 8) (pcie : Option (List Byte)) (startBit : Nat) (s : State) : Steady s (s.live (s.dmaDescriptor k.val pcie startBit)) :=
  State.live_st (.refl s) (State.dmaDescriptor_st (.refl s))
theorem execGateRelease_st (m : Fin 96) (gate : Fin 96) (s : State) : Steady s (s.live (s.cmdWrite m.val (pgGATE gate.val) GATE.STAT (GATE.STAT_FROZEN.put 1 0))) :=
  State.live_st (.refl s) (State.cmdWrite_st (.refl s))
theorem execWindowWrite_st (m : Fin 96) (gate : Fin 96) (k : Fin 8) (ctl : Bool) (v : Word) (s : State) : Steady s (s.live (s.cmdWrite m.val (pgGATE gate.val) (if ctl then GATE.WCTL k.val else GATE.WBASE k.val) v)) :=
  State.live_st (.refl s) (State.cmdWrite_st (.refl s))
theorem execPcieRefclkReturn_st (s : State) : Steady s (s.live s.refclkReturn) :=
  State.live_st (.refl s) (State.refclkReturn_st (.refl s))
theorem execPcieLinkUp_st (gen : Nat) (width : Nat) (s : State) : Steady s (s.live (s.linkUp gen width)) :=
  State.live_st (.refl s) (State.linkUp_st (.refl s))
theorem execPciePowerStateChange_st (d3 : Bool) (s : State) : Steady s (s.live (s.powerState d3)) :=
  State.live_st (.refl s) (State.powerState_st (.refl s))
theorem execPlantLinkChange_st (x : Fin 2) (up : Bool) (s : State) : Steady s (s.live (s.plantLink x.val up)) :=
  State.live_st (.refl s) (State.plantLink_st (.refl s))
theorem execCycleMarkSend_st (n : Fin 32) (s : State) : Steady s (s.live (s.markSend n.val)) :=
  State.live_st (.refl s) (State.markSend_st (.refl s))
theorem execCycleUp_st (n : Fin 32) (f : RxFrame) (s : State) : Steady s (s.live (s.cycleUp n.val f)) :=
  State.live_st (.refl s) (State.cycleUp_st (.refl s))
theorem execArrivalTimeout_st (n : Fin 32) (s : State) : Steady s (s.live (s.arrivalTimeout n.val)) :=
  State.live_st (.refl s) (State.arrivalTimeout_st (.refl s))
theorem execWindowTruncation_st (n : Fin 32) (f : RxFrame) (s : State) : Steady s (s.live (s.windowTruncation n.val f)) :=
  State.live_st (.refl s) (State.windowTruncation_st (.refl s))
theorem execForbiddenOrderedSet_st (n : Fin 32) (what : Forbidden) (s : State) : Steady s (s.live (s.forbidden n.val what)) :=
  State.live_st (.refl s) (State.forbidden_st (.refl s))
theorem execPortBlock_st (n : Fin 32) (s : State) : Steady s (s.live (s.blockIfDue n.val)) :=
  State.live_st (.refl s) (State.blockIfDue_st (.refl s))
theorem execBlockedWrite_st (m : Fin 96) (n : Fin 32) (s : State) : Steady s (s.live (s.cmdWrite m.val (pgNPORT n.val) NPORT.SCHSTAT (NPORT.SCHSTAT_BLOCKED.put 1 0))) :=
  State.live_st (.refl s) (State.cmdWrite_st (.refl s))
theorem execPortSyncGain_st (n : Fin 32) (s : State) : Steady s (s.live (s.syncGain n.val)) :=
  State.live_st (.refl s) (State.syncGain_st (.refl s))
theorem execPortSyncLoss_st (n : Fin 32) (s : State) : Steady s (s.live (s.syncLoss n.val)) :=
  State.live_st (.refl s) (State.syncLoss_st (.refl s))
theorem execJoin_st (n : Fin 32) (f : RxFrame) (s : State) : Steady s (s.live (s.join n.val f)) :=
  State.live_st (.refl s) (State.join_st (.refl s))
theorem execDelayResp_st (n : Fin 32) (f : RxFrame) (s : State) : Steady s (s.live (s.delayResp n.val f)) :=
  State.live_st (.refl s) (State.delayResp_st (.refl s))
theorem execMailboxReceive_st (n : Fin 32) (f : RxFrame) (s : State) : Steady s (s.live (s.mailboxReceive n.val f)) :=
  State.live_st (.refl s) (State.mailboxReceive_st (.refl s))
theorem execDownlinkSend_st (n : Fin 32) (upset : Bool) (s : State) : Steady s (s.live (s.downlinkRow n.val upset)) :=
  State.live_st (.refl s) (State.downlinkRow_st (.refl s))
theorem execAcyclicWindow_st (n : Fin 32) (s : State) : Steady s (s.live (s.acyclicWindow n.val)) :=
  State.live_st (.refl s) (State.acyclicWindow_st (.refl s))
theorem execRelaySend_st (n : Fin 32) (s : State) : Steady s (s.live (s.relaySend n.val)) :=
  State.live_st (.refl s) (State.relaySend_st (.refl s))
theorem execCodeGroupError_st (n : Fin 32) (s : State) : Steady s (s.live (s.codeGroupError n.val)) :=
  State.live_st (.refl s) (State.codeGroupError_st (.refl s))
theorem execEvaluation_st (upset : Bool) (s : State) : Steady s (s.live (s.evaluation upset)) :=
  State.live_st (.refl s) (State.evaluation_st (.refl s))
theorem execDiscrepancyLock_st (n : Fin 16) (s : State) : Steady s (s.live (s.discrepancyLock n.val)) :=
  State.live_st (.refl s) (State.discrepancyLock_st (.refl s))
theorem execTwoHandTimeout_st (n : Fin 16) (s : State) : Steady s (s.live (s.twoHandTimeout n.val)) :=
  State.live_st (.refl s) (State.twoHandTimeout_st (.refl s))
theorem execResetStuck_st (n : Fin 16) (s : State) : Steady s (s.live (s.resetStuckRow n.val)) :=
  State.live_st (.refl s) (State.resetStuckRow_st (.refl s))
theorem execSelfTest_st (pass : Bool) (s : State) : Steady s (s.live (s.selfTest pass)) :=
  State.live_st (.refl s) (State.selfTest_st (.refl s))
theorem execConfigCrcPass_st (s : State) : Steady s (s.live s.crcPass) :=
  State.live_st (.refl s) (State.crcPass_st (.refl s))
theorem execInputTestPulse_st (sf : Fin 16) (ch2 : Bool) (s : State) : Steady s (s.live (s.inputPulse sf.val ch2)) :=
  State.live_st (.refl s) (State.inputPulse_st (.refl s))
theorem execOutputTestPulse_st (n : Fin 16) (s : State) : Steady s (s.live (s.outputPulse n.val)) :=
  State.live_st (.refl s) (State.outputPulse_st (.refl s))
theorem execManagementFrame_st (result : Fin 3) (crossed : Bool) (s : State) : Steady s (s.live (s.manageFrame result crossed)) :=
  State.live_st (.refl s) (State.manageFrame_st (.refl s))
theorem execFieldLinkLoss_st (s : State) : Steady s (s.live s.fieldLinkLoss) :=
  State.live_st (.refl s) (State.fieldLinkLoss_st (.refl s))
theorem execInputSample_st (n : Fin 32) (microamp : Nat) (millivolt : Nat) (s : State) : Steady s (s.live (s.inputSample n.val microamp millivolt)) :=
  State.live_st (.refl s) (State.inputSample_st (.refl s))
theorem execOutputRefresh_st (n : Fin 16) (crossed : Bool) (s : State) : Steady s (s.live (s.outputRefresh n.val crossed)) :=
  State.live_st (.refl s) (State.outputRefresh_st (.refl s))
theorem execReadback_st (above : BitVec 16) (below : BitVec 16) (s : State) : Steady s (s.readback above.toNat below.toNat) :=
  State.readback_st (.refl s)
theorem execThermalShutdown_st (n : Fin 16) (s : State) : Steady s (s.thermalShutdown n.val) :=
  State.thermalShutdown_st (.refl s)
theorem execRetry_st (n : Fin 16) (s : State) : Steady s (s.retry n.val) :=
  State.retry_st (.refl s)
theorem execOpenLoad_st (n : Fin 16) (low : Bool) (s : State) : Steady s (s.openLoad n.val low) :=
  State.openLoad_st (.refl s)
theorem execSafeStateTimeout_st (n : Fin 16) (s : State) : Steady s (s.safeTimeout n.val) :=
  State.safeTimeout_st (.refl s)
theorem execSafeactRelease_st (m : Fin 96) (mask : BitVec 16) (s : State) : Steady s (s.live (s.cmdWrite m.val pgFLDDO FLDDO.SAFEACT (FLDDO.SAFEACT_SAFE.put mask.toNat 0))) :=
  State.live_st (.refl s) (State.cmdWrite_st (.refl s))
theorem execVfldMeasure_st (millivolt : Nat) (kelvin : Nat) (s : State) : Steady s (s.vfldMeasure millivolt kelvin) :=
  State.vfldMeasure_st (.refl s)
theorem execArm_st (m : Fin 96) (n : Fin 16) (s : State) : Steady s (s.live (s.cmdWrite m.val (pgSTAMP n.val) STAMP.CTL (STAMP.CTL_ARM.put 1 0))) :=
  State.live_st (.refl s) (State.cmdWrite_st (.refl s))
theorem execForce_st (m : Fin 96) (n : Fin 16) (s : State) : Steady s (s.live (s.cmdWrite m.val (pgSTAMP n.val) STAMP.CTL (STAMP.CTL_FORCE.put 1 0))) :=
  State.live_st (.refl s) (State.cmdWrite_st (.refl s))
theorem execAbort_st (m : Fin 96) (n : Fin 16) (s : State) : Steady s (s.live (s.cmdWrite m.val (pgSTAMP n.val) STAMP.CTL (STAMP.CTL_ABORT.put 1 0))) :=
  State.live_st (.refl s) (State.cmdWrite_st (.refl s))
theorem execRelease_st (m : Fin 96) (n : Fin 16) (count : BitVec 16) (s : State) : Steady s (s.live (s.cmdWrite m.val (pgSTAMP n.val) STAMP.RELEASE (STAMP.RELEASE_COUNT.put count.toNat 0))) :=
  State.live_st (.refl s) (State.cmdWrite_st (.refl s))
theorem execQuotaWrite_st (m : Fin 96) (n : Fin 16) (v : Word) (s : State) : Steady s (s.live (s.cmdWrite m.val (pgSTAMP n.val) STAMP.QUOTA v)) :=
  State.live_st (.refl s) (State.cmdWrite_st (.refl s))
theorem execPeriodStart_st (n : Fin 8) (s : State) : Steady s (s.live (s.periodStart n.val)) :=
  State.live_st (.refl s) (State.periodStart_st (.refl s))
theorem execCompareMatch_st (n : Fin 8) (ns : Nat) (s : State) : Steady s (s.live (s.compareMatch n.val ns)) :=
  State.live_st (.refl s) (State.compareMatch_st (.refl s))
theorem execDeadTimeEnd_st (n : Fin 8) (leg : Fin 3) (s : State) : Steady s (s.live (s.deadTimeEnd n.val leg.val)) :=
  State.live_st (.refl s) (State.deadTimeEnd_st (.refl s))
theorem execAuxChannelActivate_st (n : Fin 8) (k : Fin 4) (ns : Nat) (s : State) : Steady s (s.live (s.auxChannel n.val k.val ns)) :=
  State.live_st (.refl s) (State.auxChannel_st (.refl s))
theorem execTripInput_st (n : Fin 8) (levels : BitVec 8) (k : Nat) (s : State) : Steady s (s.live (s.tripInput n.val levels.toNat k)) :=
  State.live_st (.refl s) (State.tripInput_st (.refl s))
theorem execBlankWindowEnd_st (n : Fin 8) (s : State) : Steady s (s.live (s.blankEnd n.val)) :=
  State.live_st (.refl s) (State.blankEnd_st (.refl s))
theorem execTripClear_st (m : Fin 96) (n : Fin 8) (s : State) : Steady s (s.live (s.cmdWrite m.val (pgSTITCH n.val) STITCH.TRIPSTAT (STITCH.TRIPSTAT_LATCH.put 1 0))) :=
  State.live_st (.refl s) (State.cmdWrite_st (.refl s))
theorem execPeriodWrite_st (m : Fin 96) (n : Fin 8) (v : Word) (s : State) : Steady s (s.live (s.cmdWrite m.val (pgSTITCH n.val) STITCH.PERIOD v)) :=
  State.live_st (.refl s) (State.cmdWrite_st (.refl s))
theorem execCompareWrite_st (m : Fin 96) (n : Fin 8) (leg : Fin 3) (v : Word) (s : State) : Steady s (s.live (s.cmdWrite m.val (pgSTITCH n.val) (STITCH.LEGA + 4 * leg.val) v)) :=
  State.live_st (.refl s) (State.cmdWrite_st (.refl s))
theorem execLegoffWrite_st (m : Fin 96) (n : Fin 8) (v : Word) (s : State) : Steady s (s.live (s.cmdWrite m.val (pgSTITCH n.val) STITCH.LEGOFF v)) :=
  State.live_st (.refl s) (State.cmdWrite_st (.refl s))
theorem execHaltNRise_st (s : State) : Steady s (s.live s.haltRise) :=
  State.live_st (.refl s) (State.haltRise_st (.refl s))
theorem execPwrTargetWrite_st (m : Fin 96) (v : Word) (s : State) : Steady s (s.live (s.cmdWrite m.val pgPWR PWR.TARGET v)) :=
  State.live_st (.refl s) (State.cmdWrite_st (.refl s))
theorem execPowerStepDone_st (s : State) : Steady s (s.live s.powerStep) :=
  State.live_st (.refl s) (State.powerStep_st (.refl s))
theorem execClockMonitorMeasure_st (count : BitVec 16) (s : State) : Steady s (s.live (s.clockMeasure count.toNat)) :=
  State.live_st (.refl s) (State.clockMeasure_st (.refl s))
theorem execPllLossOfLock_st (s : State) : Steady s (s.live s.pllLoss) :=
  State.live_st (.refl s) (State.pllLoss_st (.refl s))
theorem execPllRelock_st (s : State) : Steady s (s.live s.pllRelock) :=
  State.live_st (.refl s) (State.pllRelock_st (.refl s))
theorem execScrubSlot_st (s : State) : Steady s (s.live s.scrubSlot) :=
  State.live_st (.refl s) (State.scrubSlot_st (.refl s))
theorem execErrorInjectArm_st (m : Fin 96) (v : Word) (s : State) : Steady s (s.live (s.cmdWrite m.val pgECC ECC.INJCTL v)) :=
  State.live_st (.refl s) (State.cmdWrite_st (.refl s))
theorem execBootComplete_st (image : List Byte) (unreadable : Option Nat) (s : State) : Steady s (s.live (s.bootComplete image unreadable)) :=
  State.live_st (.refl s) (State.bootComplete_st (.refl s))
theorem execHostLoadGo_st (m : Fin 96) (s : State) : Steady s (s.live (s.cmdWrite m.val pgBOOT BOOT.HLCTL (BOOT.HLCTL_GO.put 1 0))) :=
  State.live_st (.refl s) (State.cmdWrite_st (.refl s))
theorem execOtpProgram_st (m : Fin 96) (v : Word) (s : State) : Steady s (s.live (s.cmdWrite m.val pgBOOT BOOT.OTPCTL (BOOT.OTPCTL_PROG.put 1 v))) :=
  State.live_st (.refl s) (State.cmdWrite_st (.refl s))
theorem execTackSwitch_st (m : Fin 96) (tsel : Fin 4) (s : State) : Steady s (s.live (s.cmdWrite m.val pgTACK TACK.CTL (TACK.CTL_TSEL.put tsel.val (TACK.CTL_SWITCH.put 1 0)))) :=
  State.live_st (.refl s) (State.cmdWrite_st (.refl s))
theorem execTackselPinRequest_st (pins : Fin 4) (s : State) : Steady s (s.live (s.tackPins pins.val)) :=
  State.live_st (.refl s) (State.tackPins_st (.refl s))
theorem execTackStopDone_st (s : State) : Steady s (s.live s.tackStopDone) :=
  State.live_st (.refl s) (State.tackStopDone_st (.refl s))
theorem execTackPowerDone_st (s : State) : Steady s (s.live s.tackPowerDone) :=
  State.live_st (.refl s) (State.tackPowerDone_st (.refl s))
theorem execTackDeferredStart_st (s : State) : Steady s (s.live s.tackDeferred) :=
  State.live_st (.refl s) (State.tackDeferred_st (.refl s))
theorem execTemperatureWarning_st (kelvin : Nat) (s : State) : Steady s (s.live (s.tempWarning kelvin)) :=
  State.live_st (.refl s) (State.tempWarning_st (.refl s))
theorem execTemperatureShutdown_st (s : State) : Steady s (s.live s.tempShutdown) :=
  State.live_st (.refl s) (State.tempShutdown_st (.refl s))
theorem execSupplyOutOfWindow_st (supply : Fin 5) (s : State) : Steady s (s.live (s.supplyOut supply.val)) :=
  State.live_st (.refl s) (State.supplyOut_st (.refl s))
theorem execOtpProgramDone_st (s : State) : Steady s (s.live s.otpDone) :=
  State.live_st (.refl s) (State.otpDone_st (.refl s))
theorem execTemperatureWarningRearm_st (kelvin : Nat) (s : State) : Steady s (s.live (s.tempRearm kelvin)) :=
  State.live_st (.refl s) (State.tempRearm_st (.refl s))
theorem execRateWrite_st (m : Fin 96) (v : Word) (s : State) : Steady s (s.live (s.cmdWrite m.val pgTIME TIME.RATE v)) :=
  State.live_st (.refl s) (State.cmdWrite_st (.refl s))
theorem execOffloWrite_st (m : Fin 96) (v : Word) (s : State) : Steady s (s.live (s.cmdWrite m.val pgTIME TIME.OFFLO v)) :=
  State.live_st (.refl s) (State.cmdWrite_st (.refl s))
theorem execOffhiWrite_st (m : Fin 96) (v : Word) (s : State) : Steady s (s.live (s.cmdWrite m.val pgTIME TIME.OFFHI v)) :=
  State.live_st (.refl s) (State.cmdWrite_st (.refl s))
theorem execSteploWrite_st (m : Fin 96) (v : Word) (s : State) : Steady s (s.live (s.cmdWrite m.val pgTIME TIME.STEPLO v)) :=
  State.live_st (.refl s) (State.cmdWrite_st (.refl s))
theorem execStephiWrite_st (m : Fin 96) (v : Word) (s : State) : Steady s (s.live (s.cmdWrite m.val pgTIME TIME.STEPHI v)) :=
  State.live_st (.refl s) (State.cmdWrite_st (.refl s))
theorem execNowloRead_st (m : Fin 96) (s : State) : Steady s (s.live (s.cmdRead m.val pgTIME TIME.NOWLO)) :=
  State.live_st (.refl s) (State.cmdRead_st (.refl s))
theorem execOffloRead_st (m : Fin 96) (s : State) : Steady s (s.live (s.cmdRead m.val pgTIME TIME.OFFLO)) :=
  State.live_st (.refl s) (State.cmdRead_st (.refl s))
theorem execRrefloRead_st (m : Fin 96) (s : State) : Steady s (s.live (s.cmdRead m.val pgTIME TIME.RREFLO)) :=
  State.live_st (.refl s) (State.cmdRead_st (.refl s))
theorem execCycloRead_st (m : Fin 96) (s : State) : Steady s (s.live (s.cmdRead m.val pgGIRTH GIRTH.CYCLO)) :=
  State.live_st (.refl s) (State.cmdRead_st (.refl s))
theorem execTgtloRead_st (m : Fin 96) (k : Fin 8) (s : State) : Steady s (s.live (s.cmdRead m.val pgTPIN (TPIN.TGTLO k.val))) :=
  State.live_st (.refl s) (State.cmdRead_st (.refl s))
theorem execPinArm_st (m : Fin 96) (k : Fin 8) (v : Word) (s : State) : Steady s (s.live (s.cmdWrite m.val pgTPIN (TPIN.CTL k.val) ((TPIN.CTL_ARM k.val).put 1 v))) :=
  State.live_st (.refl s) (State.cmdWrite_st (.refl s))
theorem execPinDisarm_st (m : Fin 96) (k : Fin 8) (v : Word) (s : State) : Steady s (s.live (s.cmdWrite m.val pgTPIN (TPIN.CTL k.val) ((TPIN.CTL_ARM k.val).put 0 v))) :=
  State.live_st (.refl s) (State.cmdWrite_st (.refl s))
theorem execPinFire_st (k : Fin 8) (s : State) : Steady s (s.live (s.pinFire k.val)) :=
  State.live_st (.refl s) (State.pinFire_st (.refl s))
theorem execPulseEnd_st (k : Fin 8) (s : State) : Steady s (s.live (s.pulseEnd k.val)) :=
  State.live_st (.refl s) (State.pulseEnd_st (.refl s))
theorem execTetherSyncSend_st (s : State) : Steady s (s.live s.syncSend) :=
  State.live_st (.refl s) (State.syncSend_st (.refl s))
theorem execTetherSyncReceive_st (f : RxFrame) (s : State) : Steady s (s.live (s.syncReceive f)) :=
  State.live_st (.refl s) (State.syncReceive_st (.refl s))
theorem execTetherColdstartSend_st (s : State) : Steady s (s.live s.tetherColdstart) :=
  State.live_st (.refl s) (State.tetherColdstart_st (.refl s))
theorem execColdstartReceive_st (f : RxFrame) (s : State) : Steady s (s.live (s.coldstartReceive f)) :=
  State.live_st (.refl s) (State.coldstartReceive_st (.refl s))
theorem execArriveSend_st (s : State) : Steady s (s.live s.arriveSend) :=
  State.live_st (.refl s) (State.arriveSend_st (.refl s))
theorem execArriveReceive_st (f : RxFrame) (s : State) : Steady s (s.live (s.arriveReceive f)) :=
  State.live_st (.refl s) (State.arriveReceive_st (.refl s))
theorem execCmdReceive_st (f : RxFrame) (s : State) : Steady s (s.live (s.cmdReceive f)) :=
  State.live_st (.refl s) (State.cmdReceive_st (.refl s))
theorem execRreq_st (f : RxFrame) (s : State) : Steady s (s.live (s.rreqReceive f)) :=
  State.live_st (.refl s) (State.rreqReceive_st (.refl s))
theorem execRcopyReceive_st (f : RxFrame) (image : Machine.Pg) (s : State) : Steady s (s.live (s.rcopyReceive f image)) :=
  State.live_st (.refl s) (State.rcopyReceive_st (.refl s))
theorem execRblockReceive_st (f : RxFrame) (image : Machine.GenImage) (s : State) : Steady s (s.live (s.rblockReceive f image)) :=
  State.live_st (.refl s) (State.rblockReceive_st (.refl s))
theorem execCopyInstall_st (kind : Fin 4) (index : Nat) (s : State) : Steady s (s.live (s.copyInstall kind.val index)) :=
  State.live_st (.refl s) (State.copyInstall_st (.refl s))
theorem execTetherLoss_st (s : State) : Steady s (s.live s.tetherLoss) :=
  State.live_st (.refl s) (State.tetherLoss_st (.refl s))
theorem execHoldoverLimit_st (s : State) : Steady s (s.live s.holdoverLimit) :=
  State.live_st (.refl s) (State.holdoverLimit_st (.refl s))
theorem execHandoverWrite_st (m : Fin 96) (s : State) : Steady s (s.live (s.cmdWrite m.val pgLAT LAT.CTL (LAT.CTL_HANDOVER.put 1 0))) :=
  State.live_st (.refl s) (State.cmdWrite_st (.refl s))
theorem execRoleExchange_st (s : State) : Steady s (s.live s.roleExchange) :=
  State.live_st (.refl s) (State.roleExchange_st (.refl s))
theorem execSoloWrite_st (m : Fin 96) (s : State) : Steady s (s.live (s.cmdWrite m.val pgLAT LAT.CTL (LAT.CTL_SOLO.put 1 0))) :=
  State.live_st (.refl s) (State.cmdWrite_st (.refl s))
theorem execTrateWrite_st (m : Fin 96) (v : Word) (s : State) : Steady s (s.live (s.cmdWrite m.val pgLAT LAT.TRATE v)) :=
  State.live_st (.refl s) (State.cmdWrite_st (.refl s))
theorem execTetherLaneSyncChange_st (lane : Fin 2) (up : Bool) (s : State) : Steady s (s.live (s.laneChange lane.val up)) :=
  State.live_st (.refl s) (State.laneChange_st (.refl s))
theorem execPairingListenTimeout_st (s : State) : Steady s (s.live s.listenTimeout) :=
  State.live_st (.refl s) (State.listenTimeout_st (.refl s))

/-- What a command other than the two of POR_N answers comes from the state by operations of the block. -/
theorem exec_steady (c : Instr) (s : State) (h1 : c ≠ .porNFall) (h2 : ∀ r b p k, c ≠ .powerOnReset r b p k) :
    ∃ t, exec c s = .next t ∧ Steady s t := by
  cases c
  case porNFall => exact absurd rfl h1
  case powerOnReset r b p k => exact absurd rfl (h2 r b p k)
  case i0 upset idle => exact ⟨_, rfl, execI0_st _ _ s⟩
  case cycleMarkSend n => exact ⟨_, rfl, execCycleMarkSend_st _ s⟩
  case cycleZero idle => exact ⟨_, rfl, execCycleZero_st _ s⟩
  case networkStop m => exact ⟨_, rfl, execNetworkStop_st _ s⟩
  case localArrival => exact ⟨_, rfl, execLocalArrival_st s⟩
  case cycleUp n f => exact ⟨_, rfl, execCycleUp_st _ _ s⟩
  case arrivalTimeout n => exact ⟨_, rfl, execArrivalTimeout_st _ s⟩
  case windowTruncation n f => exact ⟨_, rfl, execWindowTruncation_st _ _ s⟩
  case forbiddenOrderedSet n what => exact ⟨_, rfl, execForbiddenOrderedSet_st _ _ s⟩
  case portBlock n => exact ⟨_, rfl, execPortBlock_st _ s⟩
  case blockedWrite m n => exact ⟨_, rfl, execBlockedWrite_st _ _ s⟩
  case portSyncGain n => exact ⟨_, rfl, execPortSyncGain_st _ s⟩
  case portSyncLoss n => exact ⟨_, rfl, execPortSyncLoss_st _ s⟩
  case join n f => exact ⟨_, rfl, execJoin_st _ _ s⟩
  case delayResp n f => exact ⟨_, rfl, execDelayResp_st _ _ s⟩
  case mailboxReceive n f => exact ⟨_, rfl, execMailboxReceive_st _ _ s⟩
  case cwstart upset => exact ⟨_, rfl, execCwstart_st _ s⟩
  case pgEngineDone ticks => exact ⟨_, rfl, execPgEngineDone_st _ s⟩
  case vmPendingApply k => exact ⟨_, rfl, execVmPendingApply_st _ s⟩
  case taskDispatch bench => exact ⟨_, rfl, execTaskDispatch_st _ s⟩
  case serviceDispatch bench => exact ⟨_, rfl, execServiceDispatch_st _ s⟩
  case serviceResume awl => exact ⟨_, rfl, execServiceResume_st _ s⟩
  case deadline ns => exact ⟨_, rfl, execDeadline_st _ s⟩
  case cutoff trip high low => exact ⟨_, rfl, execCutoff_st _ _ _ s⟩
  case holdLimit axis => exact ⟨_, rfl, execHoldLimit_st _ s⟩
  case downlinkSend n upset => exact ⟨_, rfl, execDownlinkSend_st _ _ s⟩
  case acyclicWindow n => exact ⟨_, rfl, execAcyclicWindow_st _ s⟩
  case relaySend n => exact ⟨_, rfl, execRelaySend_st _ s⟩
  case start bench e => exact ⟨_, rfl, execStart_st _ _ s⟩
  case stop bench e => exact ⟨_, rfl, execStop_st _ _ s⟩
  case axreset bench e => exact ⟨_, rfl, execAxreset_st _ _ s⟩
  case parwrite bench e => exact ⟨_, rfl, execParwrite_st _ _ s⟩
  case moveabs bench e => exact ⟨_, rfl, execMoveabs_st _ _ s⟩
  case moverel bench e => exact ⟨_, rfl, execMoverel_st _ _ s⟩
  case velocity bench e => exact ⟨_, rfl, execVelocity_st _ _ s⟩
  case halt bench e => exact ⟨_, rfl, execHalt_st _ _ s⟩
  case setpos bench e => exact ⟨_, rfl, execSetpos_st _ _ s⟩
  case setlim bench e => exact ⟨_, rfl, execSetlim_st _ _ s⟩
  case setstop bench e => exact ⟨_, rfl, execSetstop_st _ _ s⟩
  case setmaster bench e => exact ⟨_, rfl, execSetmaster_st _ _ s⟩
  case gearin bench e => exact ⟨_, rfl, execGearin_st _ _ s⟩
  case camin bench e => exact ⟨_, rfl, execCamin_st _ _ s⟩
  case phase bench e => exact ⟨_, rfl, execPhase_st _ _ s⟩
  case gearout bench e => exact ⟨_, rfl, execGearout_st _ _ s⟩
  case camsel bench e => exact ⟨_, rfl, execCamsel_st _ _ s⟩
  case igtgt bench e => exact ⟨_, rfl, execIgtgt_st _ _ s⟩
  case igstart bench e => exact ⟨_, rfl, execIgstart_st _ _ s⟩
  case ighalt bench e => exact ⟨_, rfl, execIghalt_st _ _ s⟩
  case vmset bench k e => exact ⟨_, rfl, execVmset_st _ _ _ s⟩
  case vmvel bench k e => exact ⟨_, rfl, execVmvel_st _ _ _ s⟩
  case svctrigWrite m task => exact ⟨_, rfl, execSvctrigWrite_st _ _ s⟩
  case cmdtailWrite m bench index => exact ⟨_, rfl, execCmdtailWrite_st _ _ _ s⟩
  case budgetWrite m bench e v => exact ⟨_, rfl, execBudgetWrite_st _ _ _ _ s⟩
  case statclr m bench => exact ⟨_, rfl, execStatclr_st _ _ s⟩
  case benchStatclr m bench => exact ⟨_, rfl, execBenchStatclr_st _ _ s⟩
  case nop awl => exact ⟨_, rfl, execNop_st _ s⟩
  case nopMoves awl mv => exact ⟨_, rfl, execNopMoves_st _ _ s⟩
  case mov awl d s1 mv => exact ⟨_, rfl, execMov_st _ _ _ _ s⟩
  case add awl d s1 s2 mv => exact ⟨_, rfl, execAdd_st _ _ _ _ _ s⟩
  case sub awl d s1 s2 mv => exact ⟨_, rfl, execSub_st _ _ _ _ _ s⟩
  case addw awl d s1 s2 mv => exact ⟨_, rfl, execAddw_st _ _ _ _ _ s⟩
  case subw awl d s1 s2 mv => exact ⟨_, rfl, execSubw_st _ _ _ _ _ s⟩
  case neg awl d s1 mv => exact ⟨_, rfl, execNeg_st _ _ _ _ s⟩
  case abs awl d s1 mv => exact ⟨_, rfl, execAbs_st _ _ _ _ s⟩
  case and awl d s1 s2 mv => exact ⟨_, rfl, execAnd_st _ _ _ _ _ s⟩
  case or awl d s1 s2 mv => exact ⟨_, rfl, execOr_st _ _ _ _ _ s⟩
  case xor awl d s1 s2 mv => exact ⟨_, rfl, execXor_st _ _ _ _ _ s⟩
  case not awl d s1 mv => exact ⟨_, rfl, execNot_st _ _ _ _ s⟩
  case min awl d s1 s2 mv => exact ⟨_, rfl, execMin_st _ _ _ _ _ s⟩
  case max awl d s1 s2 mv => exact ⟨_, rfl, execMax_st _ _ _ _ _ s⟩
  case clip awl d s1 s2 mv => exact ⟨_, rfl, execClip_st _ _ _ _ _ s⟩
  case asl awl d s1 s2 mv => exact ⟨_, rfl, execAsl_st _ _ _ _ _ s⟩
  case asr awl d s1 s2 mv => exact ⟨_, rfl, execAsr_st _ _ _ _ _ s⟩
  case lsr awl d s1 s2 mv => exact ⟨_, rfl, execLsr_st _ _ _ _ _ s⟩
  case norm awl d s1 mv => exact ⟨_, rfl, execNorm_st _ _ _ _ s⟩
  case rcps awl d s1 mv => exact ⟨_, rfl, execRcps_st _ _ _ _ s⟩
  case rsqs awl d s1 mv => exact ⟨_, rfl, execRsqs_st _ _ _ _ s⟩
  case scs awl d s1 mv => exact ⟨_, rfl, execScs_st _ _ _ _ s⟩
  case cadd awl d s1 s2 mv => exact ⟨_, rfl, execCadd_st _ _ _ _ _ s⟩
  case csub awl d s1 s2 mv => exact ⟨_, rfl, execCsub_st _ _ _ _ _ s⟩
  case cmp awl s1 s2 mv => exact ⟨_, rfl, execCmp_st _ _ _ _ s⟩
  case tst awl s1 s2 mv => exact ⟨_, rfl, execTst_st _ _ _ _ s⟩
  case mpy awl a s1 s2 mv => exact ⟨_, rfl, execMpy_st _ _ _ _ _ s⟩
  case mac awl a s1 s2 mv => exact ⟨_, rfl, execMac_st _ _ _ _ _ s⟩
  case msu awl a s1 s2 mv => exact ⟨_, rfl, execMsu_st _ _ _ _ _ s⟩
  case cmpy awl a s1 s2 mv => exact ⟨_, rfl, execCmpy_st _ _ _ _ _ s⟩
  case cmac awl a s1 s2 mv => exact ⟨_, rfl, execCmac_st _ _ _ _ _ s⟩
  case cmacj awl a s1 s2 mv => exact ⟨_, rfl, execCmacj_st _ _ _ _ _ s⟩
  case clr awl a mv => exact ⟨_, rfl, execClr_st _ _ _ s⟩
  case movELoad awl a s1 s2 mv => exact ⟨_, rfl, execMovELoad_st _ _ _ _ _ s⟩
  case movConv awl dst a k form => exact ⟨_, rfl, execMovConv_st _ _ _ _ _ s⟩
  case movCconv awl d a k form => exact ⟨_, rfl, execMovCconv_st _ _ _ _ _ s⟩
  case addi awl d s1 v => exact ⟨_, rfl, execAddi_st _ _ _ _ s⟩
  case addwi awl d s1 v => exact ⟨_, rfl, execAddwi_st _ _ _ _ s⟩
  case andi awl d s1 v => exact ⟨_, rfl, execAndi_st _ _ _ _ s⟩
  case ori awl d s1 v => exact ⟨_, rfl, execOri_st _ _ _ _ s⟩
  case xori awl d s1 v => exact ⟨_, rfl, execXori_st _ _ _ _ s⟩
  case ldi awl d v => exact ⟨_, rfl, execLdi_st _ _ _ s⟩
  case cmpi awl s1 v => exact ⟨_, rfl, execCmpi_st _ _ _ s⟩
  case tsti awl s1 v => exact ⟨_, rfl, execTsti_st _ _ _ s⟩
  case asli awl d s1 k => exact ⟨_, rfl, execAsli_st _ _ _ _ s⟩
  case asri awl d s1 k => exact ⟨_, rfl, execAsri_st _ _ _ _ s⟩
  case lsri awl d s1 k => exact ⟨_, rfl, execLsri_st _ _ _ _ s⟩
  case normE awl d a => exact ⟨_, rfl, execNormE_st _ _ _ s⟩
  case movgRead awl d a => exact ⟨_, rfl, execMovgRead_st _ _ _ s⟩
  case movgWrite awl a g p => exact ⟨_, rfl, execMovgWrite_st _ _ _ _ s⟩
  case addw64 awl d p q => exact ⟨_, rfl, execAddw64_st _ _ _ _ s⟩
  case subw64 awl d p q => exact ⟨_, rfl, execSubw64_st _ _ _ _ s⟩
  case add64 awl d p q => exact ⟨_, rfl, execAdd64_st _ _ _ _ s⟩
  case sub64 awl d p q => exact ⟨_, rfl, execSub64_st _ _ _ _ s⟩
  case mov64 awl d p => exact ⟨_, rfl, execMov64_st _ _ _ s⟩
  case cmp64 awl p q => exact ⟨_, rfl, execCmp64_st _ _ _ s⟩
  case movcRead awl d cr => exact ⟨_, rfl, execMovcRead_st _ _ _ s⟩
  case movcWrite awl cr src => exact ⟨_, rfl, execMovcWrite_st _ _ _ s⟩
  case ld awl dst ak mode => exact ⟨_, rfl, execLd_st _ _ _ _ s⟩
  case st awl src ak mode => exact ⟨_, rfl, execSt_st _ _ _ _ s⟩
  case ldc awl d j => exact ⟨_, rfl, execLdc_st _ _ _ s⟩
  case ldq awl q dst ak off => exact ⟨_, rfl, execLdq_st _ _ _ _ _ s⟩
  case stq awl q src ak off => exact ⟨_, rfl, execStq_st _ _ _ _ _ s⟩
  case ldqB awl q am ak off k => exact ⟨_, rfl, execLdqB_st _ _ _ _ _ _ s⟩
  case stqB awl q am ak off k => exact ⟨_, rfl, execStqB_st _ _ _ _ _ _ s⟩
  case waitq awl mask => exact ⟨_, rfl, execWaitq_st _ _ s⟩
  case queueEntryComplete awl => exact ⟨_, rfl, execQueueEntryComplete_st _ s⟩
  case endt awl => exact ⟨_, rfl, execEndt_st _ s⟩
  case post awl j => exact ⟨_, rfl, execPost_st _ _ s⟩
  case trap awl k => exact ⟨_, rfl, execTrap_st _ _ s⟩
  case rte awl => exact ⟨_, rfl, execRte_st _ s⟩
  case bkpt awl k => exact ⟨_, rfl, execBkpt_st _ _ s⟩
  case br awl cond off => exact ⟨_, rfl, execBr_st _ _ _ s⟩
  case call awl d off => exact ⟨_, rfl, execCall_st _ _ _ s⟩
  case jmp awl cond d => exact ⟨_, rfl, execJmp_st _ _ _ s⟩
  case loop awl cnt e => exact ⟨_, rfl, execLoop_st _ _ _ s⟩
  case redo awl cnt => exact ⟨_, rfl, execRedo_st _ _ s⟩
  case haltRequest m awl => exact ⟨_, rfl, execHaltRequest_st _ _ s⟩
  case haltResume m awl => exact ⟨_, rfl, execHaltResume_st _ _ s⟩
  case debugStep m awl => exact ⟨_, rfl, execDebugStep_st _ _ s⟩
  case hardwareBreakpoint awl => exact ⟨_, rfl, execHardwareBreakpoint_st _ s⟩
  case dbgrdataAccess m awl write => exact ⟨_, rfl, execDbgrdataAccess_st _ _ _ s⟩
  case blockStart m page => exact ⟨_, rfl, execBlockStart_st _ _ s⟩
  case startComplete page => exact ⟨_, rfl, execStartComplete_st _ s⟩
  case blockStop m page => exact ⟨_, rfl, execBlockStop_st _ _ s⟩
  case stopComplete page => exact ⟨_, rfl, execStopComplete_st _ s⟩
  case faultReactionComplete page => exact ⟨_, rfl, execFaultReactionComplete_st _ s⟩
  case evtsetWrite m page v => exact ⟨_, rfl, execEvtsetWrite_st _ _ _ s⟩
  case ecapClear m page => exact ⟨_, rfl, execEcapClear_st _ _ s⟩
  case counterRead m page off => exact ⟨_, rfl, execCounterRead_st _ _ _ s⟩
  case registerWrite m addr bytes => exact ⟨_, rfl, execRegisterWrite_st _ _ _ s⟩
  case calibrationStart m page k => exact ⟨_, rfl, execCalibrationStart_st _ _ _ s⟩
  case calibrationDone page k ok res0 res1 err => exact ⟨_, rfl, execCalibrationDone_st _ _ _ _ _ _ s⟩
  case pwrTargetWrite m v => exact ⟨_, rfl, execPwrTargetWrite_st _ _ s⟩
  case powerStepDone => exact ⟨_, rfl, execPowerStepDone_st s⟩
  case clockMonitorMeasure count => exact ⟨_, rfl, execClockMonitorMeasure_st _ s⟩
  case pllLossOfLock => exact ⟨_, rfl, execPllLossOfLock_st s⟩
  case pllRelock => exact ⟨_, rfl, execPllRelock_st s⟩
  case pcieRefclkLoss => exact ⟨_, rfl, execPcieRefclkLoss_st s⟩
  case scrubSlot => exact ⟨_, rfl, execScrubSlot_st s⟩
  case errorInjectArm m v => exact ⟨_, rfl, execErrorInjectArm_st _ _ s⟩
  case hostBar2Access addr size write => exact ⟨_, rfl, execHostBar2Access_st _ _ _ s⟩
  case rateWrite m v => exact ⟨_, rfl, execRateWrite_st _ _ s⟩
  case offloWrite m v => exact ⟨_, rfl, execOffloWrite_st _ _ s⟩
  case offhiWrite m v => exact ⟨_, rfl, execOffhiWrite_st _ _ s⟩
  case steploWrite m v => exact ⟨_, rfl, execSteploWrite_st _ _ s⟩
  case stephiWrite m v => exact ⟨_, rfl, execStephiWrite_st _ _ s⟩
  case nowloRead m => exact ⟨_, rfl, execNowloRead_st _ s⟩
  case offloRead m => exact ⟨_, rfl, execOffloRead_st _ s⟩
  case rrefloRead m => exact ⟨_, rfl, execRrefloRead_st _ s⟩
  case cycloRead m => exact ⟨_, rfl, execCycloRead_st _ s⟩
  case tgtloRead m k => exact ⟨_, rfl, execTgtloRead_st _ _ s⟩
  case pinArm m k v => exact ⟨_, rfl, execPinArm_st _ _ _ s⟩
  case pinDisarm m k v => exact ⟨_, rfl, execPinDisarm_st _ _ _ s⟩
  case pinFire k => exact ⟨_, rfl, execPinFire_st _ s⟩
  case pulseEnd k => exact ⟨_, rfl, execPulseEnd_st _ s⟩
  case plantFrameReceive x bytes fcsOk startBit => exact ⟨_, rfl, execPlantFrameReceive_st _ _ _ _ s⟩
  case tetherSyncSend => exact ⟨_, rfl, execTetherSyncSend_st s⟩
  case tetherSyncReceive f => exact ⟨_, rfl, execTetherSyncReceive_st _ s⟩
  case tetherColdstartSend => exact ⟨_, rfl, execTetherColdstartSend_st s⟩
  case coldstartReceive f => exact ⟨_, rfl, execColdstartReceive_st _ s⟩
  case arriveSend => exact ⟨_, rfl, execArriveSend_st s⟩
  case arriveReceive f => exact ⟨_, rfl, execArriveReceive_st _ s⟩
  case cmdReceive f => exact ⟨_, rfl, execCmdReceive_st _ s⟩
  case rreq f => exact ⟨_, rfl, execRreq_st _ s⟩
  case rcopyReceive f image => exact ⟨_, rfl, execRcopyReceive_st _ _ s⟩
  case rblockReceive f image => exact ⟨_, rfl, execRblockReceive_st _ _ s⟩
  case copyInstall kind index => exact ⟨_, rfl, execCopyInstall_st _ _ s⟩
  case tetherLoss => exact ⟨_, rfl, execTetherLoss_st s⟩
  case holdoverLimit => exact ⟨_, rfl, execHoldoverLimit_st s⟩
  case handoverWrite m => exact ⟨_, rfl, execHandoverWrite_st _ s⟩
  case roleExchange => exact ⟨_, rfl, execRoleExchange_st s⟩
  case soloWrite m => exact ⟨_, rfl, execSoloWrite_st _ s⟩
  case trateWrite m v => exact ⟨_, rfl, execTrateWrite_st _ _ s⟩
  case arm m n => exact ⟨_, rfl, execArm_st _ _ s⟩
  case force m n => exact ⟨_, rfl, execForce_st _ _ s⟩
  case abort m n => exact ⟨_, rfl, execAbort_st _ _ s⟩
  case release m n count => exact ⟨_, rfl, execRelease_st _ _ _ s⟩
  case quotaWrite m n v => exact ⟨_, rfl, execQuotaWrite_st _ _ _ s⟩
  case evaluation upset => exact ⟨_, rfl, execEvaluation_st _ s⟩
  case discrepancyLock n => exact ⟨_, rfl, execDiscrepancyLock_st _ s⟩
  case twoHandTimeout n => exact ⟨_, rfl, execTwoHandTimeout_st _ s⟩
  case resetStuck n => exact ⟨_, rfl, execResetStuck_st _ s⟩
  case selfTest pass => exact ⟨_, rfl, execSelfTest_st _ s⟩
  case configCrcPass => exact ⟨_, rfl, execConfigCrcPass_st s⟩
  case inputTestPulse sf ch2 => exact ⟨_, rfl, execInputTestPulse_st _ _ s⟩
  case outputTestPulse n => exact ⟨_, rfl, execOutputTestPulse_st _ s⟩
  case managementFrame result crossed => exact ⟨_, rfl, execManagementFrame_st _ _ s⟩
  case fieldLinkLoss => exact ⟨_, rfl, execFieldLinkLoss_st s⟩
  case inputSample n microamp millivolt => exact ⟨_, rfl, execInputSample_st _ _ _ s⟩
  case outputRefresh n crossed => exact ⟨_, rfl, execOutputRefresh_st _ _ s⟩
  case readback above below => exact ⟨_, rfl, execReadback_st _ _ s⟩
  case thermalShutdown n => exact ⟨_, rfl, execThermalShutdown_st _ s⟩
  case retry n => exact ⟨_, rfl, execRetry_st _ s⟩
  case openLoad n low => exact ⟨_, rfl, execOpenLoad_st _ _ s⟩
  case safeStateTimeout n => exact ⟨_, rfl, execSafeStateTimeout_st _ s⟩
  case safeactRelease m mask => exact ⟨_, rfl, execSafeactRelease_st _ _ s⟩
  case vfldMeasure millivolt kelvin => exact ⟨_, rfl, execVfldMeasure_st _ _ s⟩
  case quadratureStep n a b k => exact ⟨_, rfl, execQuadratureStep_st _ _ _ _ s⟩
  case hallCodeChange n code k => exact ⟨_, rfl, execHallCodeChange_st _ _ _ s⟩
  case indexCapture n z k => exact ⟨_, rfl, execIndexCapture_st _ _ _ s⟩
  case illegalStepFault n => exact ⟨_, rfl, execIllegalStepFault_st _ s⟩
  case serialTransferDone n idle bits => exact ⟨_, rfl, execSerialTransferDone_st _ _ _ s⟩
  case serialFault n => exact ⟨_, rfl, execSerialFault_st _ s⟩
  case conversionDone n raw => exact ⟨_, rfl, execConversionDone_st _ _ s⟩
  case continuousSlot n => exact ⟨_, rfl, execContinuousSlot_st _ s⟩
  case auxiliaryConversion n => exact ⟨_, rfl, execAuxiliaryConversion_st _ s⟩
  case outvalWrite m n v => exact ⟨_, rfl, execOutvalWrite_st _ _ _ s⟩
  case monitorConversion k value => exact ⟨_, rfl, execMonitorConversion_st _ _ s⟩
  case periodStart n => exact ⟨_, rfl, execPeriodStart_st _ s⟩
  case compareMatch n ns => exact ⟨_, rfl, execCompareMatch_st _ _ s⟩
  case deadTimeEnd n leg => exact ⟨_, rfl, execDeadTimeEnd_st _ _ s⟩
  case auxChannelActivate n k ns => exact ⟨_, rfl, execAuxChannelActivate_st _ _ _ s⟩
  case tripInput n levels k => exact ⟨_, rfl, execTripInput_st _ _ _ s⟩
  case blankWindowEnd n => exact ⟨_, rfl, execBlankWindowEnd_st _ s⟩
  case tripClear m n => exact ⟨_, rfl, execTripClear_st _ _ s⟩
  case periodWrite m n v => exact ⟨_, rfl, execPeriodWrite_st _ _ _ s⟩
  case compareWrite m n leg v => exact ⟨_, rfl, execCompareWrite_st _ _ _ _ s⟩
  case legoffWrite m n v => exact ⟨_, rfl, execLegoffWrite_st _ _ _ s⟩
  case haltNRise => exact ⟨_, rfl, execHaltNRise_st s⟩
  case hostReset kind => exact ⟨_, rfl, execHostReset_st _ s⟩
  case rearmWrite m half v => exact ⟨_, rfl, execRearmWrite_st _ _ _ s⟩
  case tailWrite m k index => exact ⟨_, rfl, execTailWrite_st _ _ _ s⟩
  case dmaDescriptor k pcie startBit => exact ⟨_, rfl, execDmaDescriptor_st _ _ _ s⟩
  case gateRelease m gate => exact ⟨_, rfl, execGateRelease_st _ _ s⟩
  case windowWrite m gate k ctl v => exact ⟨_, rfl, execWindowWrite_st _ _ _ _ _ s⟩
  case bootComplete image unreadable => exact ⟨_, rfl, execBootComplete_st _ _ s⟩
  case hostLoadGo m => exact ⟨_, rfl, execHostLoadGo_st _ s⟩
  case otpProgram m v => exact ⟨_, rfl, execOtpProgram_st _ _ s⟩
  case tackSwitch m tsel => exact ⟨_, rfl, execTackSwitch_st _ _ s⟩
  case tackselPinRequest pins => exact ⟨_, rfl, execTackselPinRequest_st _ s⟩
  case tackStopDone => exact ⟨_, rfl, execTackStopDone_st s⟩
  case tackPowerDone => exact ⟨_, rfl, execTackPowerDone_st s⟩
  case tackDeferredStart => exact ⟨_, rfl, execTackDeferredStart_st s⟩
  case temperatureWarning kelvin => exact ⟨_, rfl, execTemperatureWarning_st _ s⟩
  case temperatureShutdown => exact ⟨_, rfl, execTemperatureShutdown_st s⟩
  case supplyOutOfWindow supply => exact ⟨_, rfl, execSupplyOutOfWindow_st _ s⟩
  case illegalInstruction awl word ext => exact ⟨_, rfl, execIllegalInstruction_st _ _ _ s⟩
  case pcieRefclkReturn => exact ⟨_, rfl, execPcieRefclkReturn_st s⟩
  case pcieLinkUp gen width => exact ⟨_, rfl, execPcieLinkUp_st _ _ s⟩
  case pciePowerStateChange d3 => exact ⟨_, rfl, execPciePowerStateChange_st _ s⟩
  case plantLinkChange x up => exact ⟨_, rfl, execPlantLinkChange_st _ _ s⟩
  case tetherLaneSyncChange lane up => exact ⟨_, rfl, execTetherLaneSyncChange_st _ _ s⟩
  case pairingListenTimeout => exact ⟨_, rfl, execPairingListenTimeout_st s⟩
  case instanceBudgetPassed awl => exact ⟨_, rfl, execInstanceBudgetPassed_st _ s⟩
  case otpProgramDone => exact ⟨_, rfl, execOtpProgramDone_st s⟩
  case temperatureWarningRearm kelvin => exact ⟨_, rfl, execTemperatureWarningRearm_st _ s⟩
  case shellMonitorMeasure page k value => exact ⟨_, rfl, execShellMonitorMeasure_st _ _ _ s⟩
  case debugPortAccess addr size write => exact ⟨_, rfl, execDebugPortAccess_st _ _ _ s⟩
  case codeGroupError n => exact ⟨_, rfl, execCodeGroupError_st _ s⟩

end Sys2Proof.Machine
end

