-- ==== Sys2Proof/Tests/Slice0.lean ====
section
/-! SUPPORT. Tests: ill-formed commands that the check of WellFormed refuses, states and operands that meet the hypotheses of each
statement of Certificates/Slice0/Obligations.lean, and effects worked out by hand from the rules. -/
set_option maxRecDepth 100000
namespace Sys2Proof.Tests
open Sys2Proof Sys2Proof.Machine Sys2Proof.Machine.State

/-- The block after reset with every domain on and registers (page, offset, value) as listed. -/
def built (l : List (Nat × Nat × Nat)) : State :=
  l.foldl (fun s r => s.setReg r.1 r.2.1 (BitVec.ofNat 32 r.2.2)) (State.reset.wr pgPWR PWR.STATUS_DOMAIN 0x3FFFF)

/-- The state a command answers. -/
def after (c : Instr) (s : State) : State :=
  match exec c s with
  | .next t => t
  | _ => s

/-- Window 0 of master `m` over the whole space, with every right. -/
def openGate (m : Nat) : Nat × Nat × Nat := (pgGATE m, GATE.WCTL 0, 0x80000720)

/-- A page in a state of its block. -/
def inState (p v : Nat) : Nat × Nat × Nat := (p, HDR.PSTAT, v)

def host : Fin 96 := ⟨64, by decide⟩
def debug : Fin 96 := ⟨92, by decide⟩

/-- The state at a tick of cycle 0. -/
def atTick (tick : Nat) (s : State) : State := { s with time := { s.time with raw := BitVec.ofNat 64 (64 * tick) } }

/-! ### WellFormed: one ill-formed term for each check, which the check refuses -/

/-- A frame of class `c` with `n` payload bytes, the first of them `k`. -/
def frameOf (c n k : Nat) : Frame :=
  { etype := 0x88B5, ver := 1, cls := c, port := 0, node := 0, cyc := 0, flags := 0, len := n, axcnt := 0, markadj := 0, holdmax := 0,
    payload := (BitVec.ofNat 8 k) :: List.replicate (n - 1) 0 }

/-- A frame received clean at T64 0. -/
def rx (f : Frame) : RxFrame := { edge := 0, bit := 0, wire := 72, cgErr := 0, vErr := false, fcsOk := true, srcK := 0, frame := f }

/-- A command entry with 16 operand bytes. -/
def entry (op : Nat) : Entry := { op := op, status := 0, axis := 0, apply := 0, offset := 0, len := 0, rsvd := 0, data := List.replicate 16 0 }

theorem test_ill_formed_frames :
    [Instr.cycleUp 0 (rx (frameOf 4 8 0)), .cycleUp 0 { rx (frameOf 2 8 0) with srcK := 16 }, .cycleUp 0 (rx { frameOf 2 8 0 with ver := 256 }),
      .windowTruncation 0 (rx { frameOf 2 8 0 with etype := 0x10000 }), .join 0 (rx (frameOf 2 8 0)), .delayResp 0 (rx (frameOf 9 8 0)),
      .mailboxReceive 0 (rx (frameOf 5 8 0)), .tetherSyncReceive (rx (frameOf 0xA 8 0)), .coldstartReceive (rx (frameOf 9 8 0)),
      .arriveReceive (rx (frameOf 0xA 8 2)), .cmdReceive (rx (frameOf 0xA 8 1)), .rreq (rx (frameOf 0xA 8 1)),
      .rcopyReceive (rx (frameOf 0xA 8 4)) {}].all (fun c => !c.wellFormed) = true := by decide

theorem test_well_formed_frames :
    [Instr.cycleUp 0 (rx (frameOf 2 8 0)), .join 0 (rx (frameOf 5 8 0)), .delayResp 0 (rx (frameOf 8 8 0)), .mailboxReceive 0 (rx (frameOf 4 8 0)),
      .tetherSyncReceive (rx (frameOf 9 8 0)), .coldstartReceive (rx (frameOf 0xB 8 0)), .arriveReceive (rx (frameOf 0xA 8 1)),
      .cmdReceive (rx (frameOf 0xA 8 2)), .rreq (rx (frameOf 0xA 8 5)), .rcopyReceive (rx (frameOf 0xA 8 3)) {}].all Instr.wellFormed = true := by decide

/-- Each ring command refuses the entry of the next opcode, and one whose operands are not 16 bytes. -/
theorem test_ill_formed_entries :
    (∀ x ∈ ([(0x01, .start 0), (0x02, .stop 0), (0x03, .axreset 0), (0x04, .parwrite 0), (0x10, .moveabs 0), (0x11, .moverel 0), (0x12, .velocity 0),
        (0x13, .halt 0), (0x14, .setpos 0), (0x15, .setlim 0), (0x16, .setstop 0), (0x17, .setmaster 0), (0x18, .gearin 0), (0x19, .camin 0),
        (0x1A, .phase 0), (0x1B, .gearout 0), (0x1C, .camsel 0), (0x20, .igtgt 0), (0x21, .igstart 0), (0x22, .ighalt 0), (0x30, .vmset 0 0),
        (0x37, .vmvel 0 3)] : List (Nat × (Entry → Instr))),
      (x.2 (entry x.1)).wellFormed = true ∧ (x.2 (entry (x.1 + 1))).wellFormed = false ∧ (x.2 { entry x.1 with data := [] }).wellFormed = false
        ∧ (x.2 { entry x.1 with apply := 2 ^ 48 }).wellFormed = false) := by decide

/-- Operands that no encoding spells (R244, R245, R257): a second move beside a coefficient, counts and immediates beyond their field, a
read-only control register. -/
theorem test_ill_formed_instructions :
    [Instr.mpy 0 0 0 (.c 0) { x := some ⟨.load, 0, 0⟩, y := none }, .mac 0 0 0 (.c 0) { x := some ⟨.load, 0, 0⟩, y := none },
      .msu 0 0 0 (.c 0) { x := some ⟨.load, 0, 0⟩, y := none }, .cmpy 0 0 0 (.c 0) { x := some ⟨.load, 0, 0⟩, y := none },
      .cmac 0 0 0 (.c 0) { x := some ⟨.load, 0, 0⟩, y := none }, .cmacj 0 0 0 (.c 0) { x := some ⟨.load, 0, 0⟩, y := none },
      .movConv 0 (.d 0) 0 32 (some {}), .movCconv 0 0 0 16 (some {}), .addi 0 0 0 ⟨16384, false⟩, .addwi 0 0 0 ⟨16384, false⟩, .andi 0 0 0 ⟨16384, false⟩,
      .ori 0 0 0 ⟨16384, false⟩, .xori 0 0 0 ⟨16384, false⟩, .ldi 0 0 ⟨16384, false⟩, .cmpi 0 0 ⟨16384, false⟩, .tsti 0 0 ⟨16384, false⟩,
      .movcWrite 0 ⟨39, by decide⟩ (.d 0), .movcWrite 0 0 (.imm ⟨65536, false⟩), .ld 0 (.d 0) 0 (.index ⟨4096, false⟩), .st 0 (.d 0) 0 (.index ⟨4096, false⟩),
      .ldq 0 0 (.w32 0) 0 ⟨1024, false⟩, .stq 0 0 (.w32 0) 0 ⟨1024, false⟩, .ldqB 0 0 0 0 ⟨4, false⟩ 0, .stqB 0 0 0 0 ⟨4096, false⟩ 0].all
        (fun c => !c.wellFormed) = true := by decide

theorem test_ill_formed_operands :
    [Instr.blockStart host ⟨0x007, by decide⟩, .startComplete ⟨0x007, by decide⟩, .blockStop host ⟨0x007, by decide⟩, .stopComplete ⟨0x007, by decide⟩,
      .faultReactionComplete ⟨0xFFF, by decide⟩, .evtsetWrite host ⟨0x007, by decide⟩ 0, .ecapClear host ⟨0x007, by decide⟩,
      .counterRead host ⟨0x007, by decide⟩ 0, .registerWrite host 0 [1, 2, 3], .calibrationStart host ⟨pgCLK, by decide⟩ 1,
      .calibrationDone ⟨pgCLK, by decide⟩ 1 true 0 0 0, .shellMonitorMeasure ⟨pgGLOB, by decide⟩ 0 0, .hostBar2Access 0 4097 none,
      .plantFrameReceive 0 (List.replicate 2001 0) true 0, .pcieLinkUp 0 1, .pcieLinkUp 1 3, .debugPortAccess 0 3 none].all
        (fun c => !c.wellFormed) = true := by decide

/-! ### The machine and the registers -/

/-- R141: 64 units for a tick once booted, none while POR_N is low; CYC and memory stand. -/
theorem test_tick :
    (State.tick (built [(pgBOOT, BOOT.STAT, 0x80000000)])).time.raw = (if (built [(pgBOOT, BOOT.STAT, 0x80000000)]).on pgBOOT BOOT.STAT_DONE then 64 else 0)
      ∧ (State.tick (built [])).time.raw = 0 := by decide

theorem test_formed_reset : Formed State.reset := by unfold Formed; decide

/-- A plain register and an RWS register that the host reaches; GIRTH.CWIN changed while RUNNING is rejected with 0x20F2 (R72). -/
theorem test_witness_register_write :
    plainReg pgGIRTH GIRTH.CWIN = true ∧ regFields pgGIRTH GIRTH.CWIN ≠ [] ∧ Reaches (built [inState pgGIRTH 3]) host pgGIRTH GIRTH.CWIN true
      ∧ plainReg (pgSF 0) 0x40 = true ∧ regFields (pgSF 0) 0x40 ≠ [] ∧ safetyPage (pgSF 0) = true ∧ Reaches (built [openGate 92]) debug (pgSF 0) 0x40 true
      ∧ plainReg (pgAXCH 0) 0x40 = true ∧ pageKind (pgAXCH 0) = some .axch ∧ Reaches (built []) host (pgAXCH 0) 0x40 true
      ∧ plainReg pgGLOB HDR.EVT = true ∧ Reaches (built []) host pgGLOB HDR.EVT true
      ∧ regFields pgGLOB 0xFFC = [] ∧ (built []).gateKind host (regAddr pgGLOB 0xFFC) 4 true = none ∧ (built []).commandMaster host = true
      ∧ State.reset.pageOn (pgAWL 63) = false ∧ State.reset.gateKind host (regAddr (pgAWL 63) AWL.EXCCFG) 4 true = none := by
  unfold Reaches; decide

theorem test_register_write :
    (after (.registerWrite host (BitVec.ofNat 32 (regAddr pgGIRTH GIRTH.CWIN)) [1, 0, 2, 0]) (built [])).reg pgGIRTH GIRTH.CWIN = 0x00020001
      ∧ (after (.registerWrite host (BitVec.ofNat 32 (regAddr pgGIRTH GIRTH.CWIN)) [1, 0, 2, 0]) (built [inState pgGIRTH 3])).rd pgGIRTH HDR.PSTAT_CFGREJ = 1
      ∧ (after (.registerWrite host (BitVec.ofNat 32 (regAddr pgGIRTH GIRTH.CWIN)) [1, 0, 2, 0]) (built [inState pgGIRTH 3])).reg pgGIRTH GIRTH.CWIN
          = (2750 * 65536 + 375 : Nat) := by decide

theorem test_witness_events :
    Reaches (built []) host pgGLOB HDR.EVTSET true ∧ Reaches (built []) host pgGLOB HDR.ECAP0 true ∧ Reaches (built []) host pgCINCH CINCH.DONE false
      ∧ (∃ f, regFields pgCINCH CINCH.DONE = [f] ∧ f.acc = .rc) := by
  unfold Reaches; exact ⟨by decide, by decide, by decide, CINCH.DONE_COUNT, by decide, rfl⟩

/-- R192, R512, R195: the offsets and access of the counters. -/
theorem test_counter_fields :
    (∀ o ∈ [0x05C, 0x060, 0x064, 0x068], regFields pgCINCH o = [⟨o, 31, 0, .rc, 0⟩])
      ∧ (∀ o ∈ [0x054, 0x058, 0x05C, 0x060, 0x064, 0x068, 0x06C], regFields pgFLT o = [⟨o, 31, 0, .rc, 0⟩])
      ∧ (∀ o ∈ [0x044, 0x048, 0x04C, 0x050], regFields pgECC o = [⟨o, 31, 0, .rc, 0⟩])
      ∧ (∀ o ∈ [0x054, 0x058, 0x05C], regFields (pgCINCHB 7) o = [⟨o, 31, 0, .rc, 0⟩]) := by decide

/-- R75, R461: a request routed to vector 5, armed and unmasked, sends one message and disarms it. -/
theorem test_event_sends :
    let s := built [(pgPWR, HDR.EVTEN, 1), (pgMSIX, 0x400 + pgPWR / 4 * 4, 0x85 * 2 ^ (8 * (pgPWR % 4))), (pgMSIX, 0x800 + 16 * 5 + 12, 0)]
    (s.evt pgPWR 0).wire = [.msix 5] ∧ (s.evt pgPWR 0).armed 5 = false ∧ (s.evt pgPWR 1).wire = [] ∧ pgPWR ≠ pgMSIX := by decide

/-- R76, R508: the first of two faults is captured; both are counted. -/
theorem test_fault_capture :
    let t := ((built []).fault pgTIME 0x1001 7).fault pgTIME 0x1003 9
    codeClass 0x1001 ≠ .d ∧ t.rd pgTIME HDR.ECAP0_CODE = 0x1001 ∧ t.reg pgTIME HDR.ECAP1 = 7 ∧ t.reg pgFLT FLT.TOTAL = 2 := by decide

/-! ### Block states, claims, shells -/

theorem test_witness_block_start :
    Reaches (built []) host (pgFBCH 0) HDR.PCTL true ∧ runFixed (pgFBCH 0) = false ∧ (built []).st (pgFBCH 0) = 1
      ∧ (built []).startCheck (pgFBCH 0) = (.ok, built []) ∧ ((built []).claim (pgFBCH 0)).1 = true
      ∧ ((built []).pageClaims (pgFBCH 0)).1.map (·.1) = [idFb 0, idPin 256, idPin 257]
      ∧ (built [(pgFBCH 0, FBCH.CFG, 3)]).startCheck (pgFBCH 0) = (.bad (some FBCH.CFG), built [(pgFBCH 0, FBCH.CFG, 3)])
      ∧ (built [inState (pgFBCH 0) 3]).st (pgFBCH 0) ≠ 1 := by
  unfold Reaches; decide

/-- Another page holds pin 257: the start of FBCH 0 is refused with 0x60F0 and the holder (R78). -/
theorem test_claim_conflict :
    let s := { built [] with claims := [(idPin 257, some pgSTO)] }
    Reaches s host (pgFBCH 0) HDR.PCTL true ∧ s.startCheck (pgFBCH 0) = (.ok, s) ∧ s.holder (idPin 257) = some pgSTO
      ∧ (s.pageClaims (pgFBCH 0)).2 = s ∧ s.holder (idFb 0) = none ∧ s.holder (idPin 256) = none ∧ (∀ x ∈ (s.pageClaims (pgFBCH 0)).1, ∀ d ∈ (idDomain x.1).toList, s.domOn d = true)
      ∧ (after (.blockStart host ⟨pgFBCH 0, by decide⟩) s).rd (pgFBCH 0) HDR.PSTAT_CONFLICT = 1
      ∧ (after (.blockStart host ⟨pgFBCH 0, by decide⟩) s).st (pgFBCH 0) = 1 := by
  unfold Reaches; decide

theorem test_claims_taken :
    let t := ((built []).claim (pgFBCH 0)).2
    ((built []).claim (pgFBCH 0)).1 = true ∧ t.holder (idFb 0) = some (pgFBCH 0) ∧ t.holder (idPin 257) = some (pgFBCH 0)
      ∧ t.holder (idPin 258) = none ∧ t.rd (pgFBCH 0) HDR.CLAIM_HELD = 1 := by decide

theorem test_witness_start_completes :
    (built []).por = false ∧ (built [inState pgTPIN 2]).st pgTPIN = 2 ∧ (built [inState pgTPIN 2]).shellBusy pgTPIN = false
      ∧ (built [inState pgTPIN 2]).startReady pgTPIN = true ∧ pageKind pgTPIN = some .tpin
      ∧ (built [inState pgBUCKLE 2]).st pgBUCKLE = 2 ∧ (built [inState pgBUCKLE 2]).shellBusy pgBUCKLE = false
      ∧ (built [inState pgBUCKLE 2]).startReady pgBUCKLE = true
      ∧ (built [inState pgTACK 2]).st pgTACK = 2 ∧ (built [inState pgTACK 2]).startReady pgTACK = true ∧ (built []).boot.autotack = false
      ∧ (built [inState pgTPIN 1]).st pgTPIN ≠ 2 := by decide

theorem test_witness_block_stop :
    Reaches (built [inState pgTPIN 3]) host pgTPIN HDR.PCTL true ∧ runFixed pgTPIN = false ∧ (built [inState pgTPIN 3]).st pgTPIN = 3
      ∧ (built [inState pgTPIN 2]).st pgTPIN = 2 ∧ pgTPIN ≠ pgGIRTH ∧ pageKind pgTPIN ≠ some .awl ∧ (built [inState pgGIRTH 2]).st pgGIRTH = 2
      ∧ (built [inState (pgAWL 3) 2]).st (pgAWL 3) = 2 ∧ pageKind (pgAWL 3) = some .awl
      ∧ (built [inState pgTPIN 5]).st pgTPIN = 5 ∧ (built [inState (pgAWL 3) 6]).st (pgAWL 3) = 6 ∧ (built [inState pgTPIN 4]).st pgTPIN = 4
      ∧ (built [inState pgTPIN 4]).stopReady pgTPIN = true ∧ (built [inState (pgAWL 3) 5]).rd (pgAWL 3) HDR.PCTL_RUN = 0
      ∧ ((built []).awl 3).fifo = [] ∧ (built [(pgTPIN, HDR.PCTL, 1)]).on pgTPIN HDR.PCTL_RUN = true
      ∧ (built []).rd pgTACK TACK.STAT_PHASE ≠ 2 := by
  unfold Reaches; decide

theorem test_witness_shells :
    shellOf ⟨pgCLK, by decide⟩ ⟨0, by decide⟩ ∧ shellOf ⟨pgHOST, by decide⟩ ⟨3, by decide⟩ ∧ Reaches (built []) host pgCLK 0x100 true ∧ Formed (built [])
      ∧ (built []).st pgCLK = 1 ∧ (built []).on pgCLK (SHELL.CALSTAT_BUSY 0) = false ∧ (built []).rd pgCLK (SHELL.CALCTL_START 0) = 0
      ∧ Reaches (built [inState pgCLK 3]) host pgCLK 0x100 true ∧ Formed (built [inState pgCLK 3]) ∧ (built [inState pgCLK 3]).st pgCLK = 3
      ∧ ((built []).wr pgCLK (SHELL.CALSTAT_BUSY 0) 1).on pgCLK (SHELL.CALSTAT_BUSY 0) = true
      ∧ ((built [inState pgCLK 2]).wr pgCLK (SHELL.CALSTAT_BUSY 0) 1).st pgCLK = 2
      ∧ 32 * pgCLK + 0 ∈ ((built [inState pgCLK 2]).setAutoRun pgCLK 0 true).autoRuns ∧ 32 * pgCLK + 0 ∉ (built []).autoRuns
      ∧ ((built []).wr pgCLK (SHELL.MONCTL_EN 0) 1).on pgCLK (SHELL.MONCTL_EN 0) = true ∧ (built []).pageOn pgCLK = true
      ∧ (built []).rd pgCLK (SHELL.MONCTL_SELECT 0) = 0 := by
  unfold Reaches Formed shellOf; decide

/-- R82: a failed run of AUTO in STARTING returns the block to STOPPED with 0xF4 and its code. -/
theorem test_calibration_fails :
    let t := after (.calibrationDone ⟨pgCLK, by decide⟩ ⟨0, by decide⟩ false 0 0 5) (((built [inState pgCLK 2]).wr pgCLK (SHELL.CALSTAT_BUSY 0) 1).setAutoRun pgCLK 0 true)
    t.st pgCLK = 1 ∧ t.rd pgCLK HDR.ECAP0_CODE = blockCode pgCLK 0xF4 ∧ t.rd pgCLK (SHELL.CALSTAT_ERR 0) = 5 := by decide

/-! ### Memory, gates and the host interface -/

theorem test_witness_stores :
    cleanWords (built []) 0x01000FFF 2 ∧ Permits (built []) host 0x01000FFF 2 true ∧ Permits (built [openGate 92]) debug 0x01000FFF 2 true
      ∧ Permits (built []) host 0x01000FFF 2 false ∧ Permits (built [openGate 92]) debug 0x01000FFF 2 false := by
  unfold cleanWords Permits; decide

/-- R35, R39: bytes stored across a word boundary are read back. -/
theorem test_store_then_load :
    let s := after (.hostBar2Access 0x01000FFF 0 (some [some 0xAA, some 0x55])) (built [])
    s.byte 0x01000FFF = 0xAA ∧ s.byte 0x01001000 = 0x55 ∧ s.byte 0x01001001 = 0
      ∧ (after (.hostBar2Access 0x01000FFF 2 none) s).reply = .data [0xAA, 0x55] := by decide

theorem test_witness_refused :
    (built []).commandMaster host = true ∧ (built []).gateKind host 0x03000000 4 true = some 3
      ∧ (built []).commandMaster debug = true ∧ (built []).gateKind debug 0x01000000 4 true = some 1
      ∧ (built []).commandMaster 0 = true ∧ (built []).gateKind 0 0x01000000 4 true = some 1
      ∧ (built []).on (pgGATE 64) GATE.STAT_VALID = false ∧ (built [(pgGATE 64, GATE.STAT, 1)]).on (pgGATE 64) GATE.STAT_VALID = true
      ∧ (built [inState (pgGATE 64) 3]).running (pgGATE 64) = true := by decide

/-- R469: an Awl whose window is missing is FROZEN; GATE0 holds the address and kind 1. -/
theorem test_awl_frozen :
    let t := after (.registerWrite ⟨0, by decide⟩ 0x01000040 [1, 2, 3, 4]) (built [inState (pgAWL 0) 3])
    t.st (pgAWL 0) = 6 ∧ t.reg (pgGATE 0) GATE.VADDR = 0x01000040 ∧ t.rd (pgGATE 0) GATE.VINFO_KIND = 1 ∧ t.byte 0x01000040 = 0 := by decide

theorem test_witness_windows :
    Reaches (built []) host (pgGATE 3) (GATE.WCTL 7) true ∧ Reaches (built []) host (pgGATE 3) (GATE.WBASE 7) true
      ∧ (built []).windowOpen 3 64 = true ∧ (built [inState (pgAWL 3) 3]).windowOpen 3 64 = false
      ∧ (GATE.WCTL_SZ 7).get 12 = 12 ∧ (GATE.WCTL_SZ 7).get 33 = 33
      ∧ masterPage 3 = some (pgAWL 3) ∧ Reaches (built [inState (pgAWL 3) 6]) host (pgGATE 3) GATE.STAT true
      ∧ (built [inState (pgAWL 3) 6]).st (pgAWL 3) = 6 ∧ (built [inState (pgAWL 3) 6]).rd (pgAWL 3) HDR.PCTL_RUN = 0
      ∧ (built [inState (pgAWL 3) 6, (pgAWL 3, HDR.PCTL, 1)]).rd (pgAWL 3) HDR.PCTL_RUN ≠ 0 := by
  unfold Reaches; decide

theorem test_witness_rearm : Reaches (built []) host pgMSIX (MSIX.REARM0 + 4) true := by unfold Reaches; decide

/-- R462: TAIL below the ring size (16 entries at RLOG2 = 4) is taken, the size itself is refused. -/
theorem test_tail :
    let s := built [(pgDMA 0, DMA.RING, 4)]
    Reaches s host (pgDMA 0) DMA.TAIL true ∧ s.rd (pgDMA 0) DMA.RING_RLOG2 = 4
      ∧ (after (.tailWrite host ⟨0, by decide⟩ 15) s).rd (pgDMA 0) DMA.TAIL_INDEX = 15
      ∧ (after (.tailWrite host ⟨0, by decide⟩ 16) s).rd (pgDMA 0) HDR.PSTAT_CFGREJ = 1 := by
  unfold Reaches; decide

/-! ### DMA, plant ports, the host link -/

/-- DMA 0 runs with one descriptor at 0 in central memory. -/
def dmaOn (kind : Nat) (desc : List Byte) : State :=
  ((built [openGate 65, inState (pgDMA 0) 3, (pgDMA 0, DMA.CFG, kind), (pgDMA 0, DMA.RING, 4), (pgDMA 0, DMA.TAIL, 1)]).fabStore mHost 0 desc).2

/-- An owned descriptor (R463): CTL, LEN, and the buffer addresses. -/
def desc (ctl len buf dst : Nat) : List Byte :=
  [BitVec.ofNat 8 ctl, 0] ++ leBytes 2 len ++ leBytes 4 0 ++ leBytes 8 buf ++ leBytes 8 dst ++ leBytes 8 0

theorem test_witness_dma :
    let s := dmaOn 0 (desc 0x31 8 0x800 0x900)
    let r := s.descRead 0 (s.rd (pgDMA 0) DMA.HEAD_INDEX)
    s.por = false ∧ s.running (pgDMA 0) = true ∧ s.on pgHOST HOST.LINKSTAT_D3 = false ∧ (s.dma 0).offer = none
      ∧ s.rd (pgDMA 0) DMA.HEAD_INDEX ≠ s.rd (pgDMA 0) DMA.TAIL_INDEX ∧ r.2.1 = true ∧ fieldAt r.1 0 1 % 2 = 1
      ∧ descBad 0 (Desc.of r.1) = none ∧ r.2.2.dmaKind 0 = 0 ∧ (r.2.2.sourceRead 0 (Desc.of r.1) none).1 = .ok ∧ bitOf (Desc.of r.1).ctl 5 = true
      ∧ ((r.2.2.sourceRead 0 (Desc.of r.1) none).2.2.bufWrite 0 (Desc.of r.1).tstamp (r.2.2.sourceRead 0 (Desc.of r.1) none).2.1).1 = .ok
      ∧ fieldAt ((dmaOn 0 (desc 0x30 8 0 0)).descRead 0 0).1 0 1 % 2 = 0 ∧ ((dmaOn 0 (desc 0x30 8 0 0)).descRead 0 0).2.1 = true
      ∧ (built []).running (pgDMA 0) = false := by decide

/-- R464: a copy within the fabric moves its bytes, writes status 1 back and advances HEAD. -/
theorem test_dma_copy :
    let t := after (.dmaDescriptor 0 none 0) (((dmaOn 0 (desc 0x31 8 0x800 0x900)).fabStore mHost 0x800 [1, 2, 3, 4, 5, 6, 7, 8]).2)
    t.bytes 0x900 8 = [1, 2, 3, 4, 5, 6, 7, 8] ∧ t.byte 1 = 1 ∧ t.rd (pgDMA 0) DMA.HEAD_INDEX = 1 ∧ t.reg (pgDMA 0) DMA.DONE = 1 := by decide

/-- A broadcast frame of type 0x88F7. -/
def plantFrame (t : Nat) : List Byte := List.replicate 6 0xFF ++ List.replicate 6 2 ++ [BitVec.ofNat 8 (t / 256), BitVec.ofNat 8 t] ++ List.replicate 46 0

theorem test_witness_plant :
    let s := built [inState (pgPLNT 1) 3, (pgPLNT 1, PLNT.MACSTAT, 1)]
    s.running (pgPLNT 1) = true ∧ s.on (pgPLNT 1) PLNT.MACSTAT_LINK = true ∧ s.pageOn (pgPLNT 1) = true
      ∧ beToNat (slice (plantFrame 0x8808) 12 2) = 0x8808 ∧ beToNat (slice (plantFrame 0x88F7) 12 2) ≠ 0x8808
      ∧ s.plantAccepts 1 (plantFrame 0x88F7) = true ∧ s.plantAccepts 1 (List.replicate 60 0x03) = false
      ∧ (∀ k, k < 8 → ¬(s.running (pgDMA k) = true ∧ s.rd (pgDMA k) DMA.CFG_KIND = 4 ∧ s.rd (pgDMA k) DMA.CFG_PLNT = 1)) := by decide

/-- R467: a received frame goes to the channel's descriptor with its stamp. -/
theorem test_plant_received :
    let s := (dmaOn 4 (desc 0x11 64 0x800 0)).setReg (pgPLNT 0) HDR.PSTAT 3 |>.setReg (pgPLNT 0) PLNT.MACSTAT 1
    s.running (pgDMA 0) = true ∧ s.rd (pgDMA 0) DMA.CFG_KIND = 4 ∧ s.rd (pgDMA 0) DMA.CFG_PLNT = 0 ∧ s.plantAccepts 0 (plantFrame 0x88F7) = true
      ∧ ((s.bump (pgPLNT 0) PLNT.RXOK).receiveInto 0 (plantFrame 0x88F7) 0
          (s.t64 + BitVec.ofNat 64 0 - BitVec.ofNat 64 (s.rd (pgPLNT 0) PLNT.TSCFG_RXLAT)) (s.girth.cyc.toNat % 2 ^ 32)).1 = true
      ∧ (after (.plantFrameReceive 0 (plantFrame 0x88F7) true 0) s).byte 0x80C = 0x88 := by decide

theorem test_witness_host_link :
    (built []).pageOn pgHOST = true ∧ (built [(pgHOST, HOST.LINKSTAT, 0x80000000)]).rd pgHOST HOST.LINKSTAT_D3 ≤ 1
      ∧ ((built []).wr pgHOST HOST.LINKSTAT_UP 1).on pgHOST HOST.LINKSTAT_UP = true := by decide

/-! ### Time -/

theorem test_witness_time_writes :
    Reaches (built []) host pgTIME TIME.RATE true ∧ (built []).timeMaster host = true ∧ (built []).timeMaster debug = false ∧ (built []).rateOver 5 = false
      ∧ Reaches (built [openGate 92]) debug pgTIME TIME.RATE true ∧ (built [inState pgGIRTH 3]).rateOver 16385 = true
      ∧ (built [inState pgGIRTH 3]).rateOver 16384 = false ∧ Reaches (built []) host pgTIME TIME.OFFLO true ∧ Reaches (built []) host pgTIME TIME.OFFHI true
      ∧ Reaches (built []) host pgTIME TIME.STEPLO true ∧ Reaches (built []) host pgTIME TIME.STEPHI true
      ∧ (built [inState pgGIRTH 2]).girthBusy = true ∧ (built [inState pgGIRTH 1]).girthBusy = false := by
  unfold Reaches; decide

/-- R145: a change of RATE is no step: T64 at the next edge is what the old rate gives, and RREF is the raw time of that edge. -/
theorem test_rate_continuous :
    let s := { built [] with time := { raw := 0x123456789AB, rref := 0x1000, offset := 77, rate := 13743895 } }
    let t := after (.rateWrite host 0xFFFFFFFF) s
    let edge (u : State) : State := { u with time := { u.time with raw := u.time.raw + 64 } }
    t.t64 = s.t64 ∧ (edge t).timeEdge.t64 = (edge s).t64 ∧ (edge t).timeEdge.time.rref = 0x123456789EB ∧ (edge t).timeEdge.time.rate = 0xFFFFFFFF := by decide

theorem test_witness_latches :
    Reaches (built []) host pgTIME TIME.NOWLO false ∧ Reaches (built []) host pgTIME TIME.OFFLO false ∧ Reaches (built []) host pgTIME TIME.RREFLO false
      ∧ Reaches (built []) host pgGIRTH GIRTH.CYCLO false ∧ Reaches (built []) host pgTPIN (TPIN.TGTLO 7) false
      ∧ (∀ off ∈ [TIME.NOWHI, TIME.RAWLO, TIME.RAWHI, TIME.SCYCLO, TIME.SCYCHI, TIME.SPHASE],
          (built []).gateKind host (regAddr pgTIME off) 4 false = none ∧ (built []).pageOn pgTIME = true) := by
  unfold Reaches; decide

/-- R149: a master reads its own snapshot, whatever another has read since. -/
theorem test_snapshot :
    let s := { built [openGate 92] with time := { raw := 0x500000001 } }
    let t := after (.nowloRead debug) { after (.nowloRead host) s with time := { (after (.nowloRead host) s).time with raw := 0x900000002 } }
    (t.cmdRead host pgTIME TIME.NOWHI).reply = .data [5, 0, 0, 0] ∧ (t.cmdRead debug pgTIME TIME.NOWHI).reply = .data [9, 0, 0, 0] := by decide

/-- Time pin 0 enabled, with TARGET and CTL. -/
def pin (target ctl : Nat) (raw : Nat) : State :=
  { built [inState pgTPIN 3, (pgTPIN, TPIN.CFG 0, 1), (pgTPIN, TPIN.TGTLO 0, target), (pgTPIN, TPIN.CTL 0, ctl), (pgTPIN, TPIN.PERLO 0, 640)]
    with time := { raw := BitVec.ofNat 64 raw } }

theorem test_witness_pins :
    let s := pin 6400 0 6399
    Reaches s host pgTPIN (TPIN.CTL 0) true ∧ s.running pgTPIN = true ∧ s.on pgTPIN (TPIN.CFG_EN 0) = true ∧ (TPIN.CTL_WIDTH 0).get 0x80000001 = 1
      ∧ geT64 s.t64 (s.pinTarget 0) = false ∧ geT64 (pin 6400 0 6400).t64 ((pin 6400 0 6400).pinTarget 0) = true
      ∧ (TPIN.CTL_WIDTH 0).get 0x80000000 = 0 ∧ s.pinPeriod 0 = (9 + 1) * 64 ∧ ¬ s.pinPeriod 0 < (9 + 1) * 64 ∧ s.pinPeriod 0 < (10 + 1) * 64
      ∧ (pin 6400 0x80000001 6400).on pgTPIN (TPIN.CTL_ARM 0) = true ∧ (pin 6400 0x80000001 6400).on pgTPIN (TPIN.CTL_PERIODIC 0) = false
      ∧ (pin 6400 0xC0000001 6400).on pgTPIN (TPIN.CTL_PERIODIC 0) = true
      ∧ (let t := after (.pinFire 0) (pin 6400 0x80000002 6400)
        t.on pgTPIN (TPIN.STAT_ACTIVE 0) = true ∧ geT64 t.time.raw (t.pulseUntil 0) = false
          ∧ geT64 ({ t with time := { t.time with raw := 6528 } } : State).time.raw (t.pulseUntil 0) = true) := by
  unfold Reaches; decide

/-- R155: a periodic pin that is two periods late fires once, SKIP counts the passed targets, LATE is set. -/
theorem test_pin_fires_late :
    let t := after (.pinFire 0) (pin 6400 0xC0000001 (6400 + 1280))
    t.pinTarget 0 = 6400 + 1920 ∧ t.reg pgTPIN (TPIN.SKIP 0) = 2 ∧ t.rd pgTPIN (TPIN.STAT_LATE 0) = 1 ∧ t.rd pgTPIN (TPIN.CTL_ARM 0) = 1 := by decide

/-! ### Repeated judging, interrupts, DMA, host link, time: the further clauses -/

/-- R458: two whole DWs of the host are two accesses; the one that GATE64 does not permit alone is refused. -/
theorem test_two_words :
    let a := regAddr pgMSIX 0x400
    let t := after (.registerWrite host (BitVec.ofNat 32 a) (leBytes 4 1 ++ leBytes 4 2)) (built [])
    isReg a = true ∧ a % 4 = 0 ∧ isReg (a + 4) = true ∧ isReg (regAddr pgGIRTH GIRTH.CWIN + 4) = true
      ∧ (leBytes 4 1 ++ leBytes 4 2).length = 8 ∧ t.reg pgMSIX 0x400 = 1 ∧ t.reg pgMSIX 0x404 = 2 := by decide

theorem test_witness_msix_words :
    Reaches (built []) host pgMSIX 0x400 true ∧ Reaches (built []) host pgMSIX 0xBFC true ∧ 0xBFC % 4 = 0 := by unfold Reaches; decide

/-- R460, R461: the mask of an armed vector with a request routed to it is taken away: its message goes out, once. -/
theorem test_msix_unmask :
    let s := built [(pgPWR, HDR.EVTEN, 1), (pgPWR, HDR.EVT, 1), (pgMSIX, 0x400 + pgPWR / 4 * 4, 0x85 * 2 ^ (8 * (pgPWR % 4)))]
    let t := after (.registerWrite host (BitVec.ofNat 32 (regAddr pgMSIX (0x800 + 16 * 5 + 12))) [0, 0, 0, 0]) s
    s.masked 5 = true ∧ s.armed 5 = true ∧ t.wire = [.msix 5] ∧ t.armed 5 = false ∧ t.masked 5 = false ∧ t.armed 6 = s.armed 6 := by decide

theorem test_witness_dma_lengths :
    lengthAllowed 0 8 ∧ lengthAllowed 0 65528 ∧ ¬ lengthAllowed 0 4 ∧ ¬ lengthAllowed 0 65532 ∧ lengthAllowed 1 4 ∧ lengthAllowed 2 1024 ∧ ¬ lengthAllowed 1 1025
      ∧ lengthAllowed 3 14 ∧ lengthAllowed 3 1518 ∧ ¬ lengthAllowed 3 13 ∧ lengthAllowed 4 64 ∧ ¬ lengthAllowed 4 56 := by
  unfold lengthAllowed; omega

theorem test_witness_dma_rings :
    let s := dmaOn 0 (desc 0x31 8 0x800 0x900)
    cleanRing s 0 ∧ s.rd (pgDMA 0) DMA.HEAD_INDEX < 2 ^ s.rd (pgDMA 0) DMA.RING_RLOG2 ∧ s.rd (pgDMA 0) DMA.TAIL_INDEX < 2 ^ s.rd (pgDMA 0) DMA.RING_RLOG2
      ∧ s.pageOn (pgDMA 0) = true ∧ (s.descRead 0 0).1.length = 32 := by
  unfold cleanRing cleanWords; decide

/-- R465, R466: STATUS 2 of a bad length, 4 of a mailbox frame at a port that is not CYCLIC, 6 with the channel FROZEN at a target that no window covers; each clears OWN. -/
theorem test_dma_statuses :
    let run (kind : Nat) (d : List Byte) : State := after (.dmaDescriptor 0 none 0) (dmaOn kind d)
    let shut : State := after (.dmaDescriptor 0 none 0) ((dmaOn 0 (desc 0x31 8 0x800 0x03000000)))
    (run 0 (desc 0x31 4 0x800 0x900)).bytes 0 2 = [0x30, 2] ∧ (run 0 (desc 0x31 4 0x800 0x900)).reg (pgDMA 0) DMA.LENERR = 1
      ∧ (run 1 (desc 0x01 8 0x800 0)).byte 1 = 4 ∧ (run 1 (desc 0x01 8 0x800 0)).reg (pgDMA 0) DMA.FAIL = 1
      ∧ shut.byte 1 = 6 ∧ shut.st (pgDMA 0) = 6 ∧ shut.rd (pgDMA 0) DMA.HEAD_INDEX = 1 := by decide

/-- A descriptor with an uncorrectable word cannot be read. -/
theorem test_witness_dma_unreadable :
    let s := { dmaOn 0 (desc 0x31 8 0x800 0x900) with flips := [(24, 7)] }
    s.running (pgDMA 0) = true ∧ s.rd (pgDMA 0) DMA.HEAD_INDEX ≠ s.rd (pgDMA 0) DMA.TAIL_INDEX ∧ (s.descRead 0 0).2.1 = false := by decide

/-- R462: a stop drains the ring with status 7. -/
theorem test_dma_drain :
    let t := (dmaOn 0 (desc 0x31 8 0x800 0x900)).drainRing 0 7
    t.bytes 0 2 = [0x30, 7] ∧ t.rd (pgDMA 0) DMA.HEAD_INDEX = 1 := by decide

theorem test_witness_host_reset :
    let s := (built [inState (pgDMA 0) 3, inState (pgDMA 1) 6]).wr pgHOST HOST.LINKSTAT_UP 1
    s.por = false ∧ s.pageOn pgHOST = true ∧ s.st (pgDMA 0) = 3 ∧ s.st (pgDMA 1) = 6 ∧ s.st (pgDMA 2) = 1 ∧ s.on pgHOST HOST.LINKSTAT_UP = true
      ∧ ((built []).wr pgPWR PWR.STATUS_DOMAIN 0).pageOn pgHOST = false ∧ (∀ j : Fin 8, (built []).st (pgDMA j) ≤ 1) := by decide

/-- R459: an FLR counts itself, keeps the link, masks the vectors and stops a running channel. -/
theorem test_host_reset :
    let t := after (.hostReset 0) (((built [inState (pgDMA 0) 3, (pgDMA 0, HDR.PCTL, 1), (pgHOST, HOST.REFUSED, 9)]).wr pgHOST HOST.LINKSTAT_UP 1).wr pgHOST HOST.LINKSTAT_D3 1)
    t.reg pgHOST HOST.RESETCNT = 1 ∧ t.rd pgHOST HOST.LINKSTAT_UP = 1 ∧ t.rd pgHOST HOST.LINKSTAT_D3 = 0 ∧ t.st (pgDMA 0) = 1
      ∧ t.rd (pgDMA 0) HDR.PCTL_RUN = 0 ∧ t.reg pgHOST HOST.REFUSED = 0 ∧ t.masked 3 = true := by decide

/-- A booted block with writes of the time base that wait for the next edge. -/
def stagedTime (l : List TimeChange) : State :=
  { built [] with time := { raw := 0x123456789AB, rref := 0x1000, offset := 77, rate := 13743895, staged := l } }.wr pgBOOT BOOT.STAT_DONE 1

theorem test_witness_time_edge :
    (∀ l ∈ [[], [TimeChange.rate 5], [.offset 9], [.step 9]], (stagedTime l).pending = [] ∧ (stagedTime l).por = false ∧ (stagedTime l).on pgBOOT BOOT.STAT_DONE = true
      ∧ (stagedTime l).time.staged = l ∧ ∃ t, Machine.step (stagedTime l) = .next t) := by
  intro l h; refine ⟨?_, ?_, ?_, ?_, _, rfl⟩ <;> revert l <;> decide

theorem test_witness_pin_writes :
    let s := built []
    (∀ off ∈ [TPIN.TGTLO 7, TPIN.TGTHI 7, TPIN.PERLO 7, TPIN.PERHI 7, TPIN.CFG 7], Reaches s host pgTPIN off true) ∧ s.on pgTPIN (TPIN.CTL_ARM 7) = false
      ∧ (s.wr pgTPIN (TPIN.CTL_ARM 7) 1).on pgTPIN (TPIN.CTL_ARM 7) = true ∧ s.st pgTPIN = 1 ∧ Formed (built [inState pgTPIN 3])
      ∧ Reaches (built [inState pgTPIN 3]) host pgTPIN (TPIN.CFG 7) true ∧ ((1 : Word) ^^^ s.reg pgTPIN (TPIN.CFG 7)) &&& 3#32 ≠ 0#32 := by
  unfold Reaches Formed; decide

/-- R154: TARGET and PERIOD of an armed pin stand. -/
theorem test_pin_writes :
    let w (off : Nat) (s : State) : State := after (.registerWrite host (BitVec.ofNat 32 (regAddr pgTPIN off)) [0xFF, 0xFF, 0xFF, 0xFF]) s
    let armed := (built []).wr pgTPIN (TPIN.CTL_ARM 7) 1
    (w (TPIN.PERHI 7) (built [])).reg pgTPIN (TPIN.PERHI 7) = 0xFFFF ∧ (w (TPIN.TGTLO 7) (built [])).reg pgTPIN (TPIN.TGTLO 7) = 0xFFFFFFFF
      ∧ (w (TPIN.TGTLO 7) armed).reg pgTPIN (TPIN.TGTLO 7) = 0 ∧ (w (TPIN.TGTLO 7) armed).rd pgTPIN HDR.PSTAT_CFGREJ = 1 := by decide

/-! ### The Glifen link -/

/-- Node port 0 in a state of R118 with SYNC, in a running network of cycle 0 from T64 0. -/
def portIn (ps : Nat) (l : List (Nat × Nat × Nat)) : State :=
  built ([inState pgGIRTH 3, inState (pgNPORT 0) 3, (pgNPORT 0, NPORT.SCHSTAT, ps), (pgNPORT 0, NPORT.LINKSTAT, 1)] ++ l)

/-- An uplink without blocks whose first byte comes at a tick of the cycle. -/
def upAt (tick : Nat) : RxFrame := { rx { frameOf 2 0 0 with payload := [], flags := 4 } with edge := BitVec.ofNat 64 (64 * tick) }

theorem test_witness_uplink_windows :
    let s := portIn 4 []
    openPort s 0 ∧ (upAt 250).cgErr = 0 ∧ (upAt 250).frame.cls = 2 ∧ s.startTick 0 (upAt 209) < 210 ∧ ¬ s.startTick 0 (upAt 210) < 210
      ∧ (1040 : Int) < s.startTick 0 (upAt 1041) ∧ insideWindow s 0 (upAt 210) 210 1040 ∧ insideWindow s 0 (upAt 968) 210 1040
      ∧ ¬ insideWindow s 0 (upAt 969) 210 1040 ∧ cleanFrame s 0 (upAt 250) ∧ (upAt 250).frame.len = 16 * s.axcnt 0
      ∧ cleanFrame s 0 { upAt 250 with frame := { frameOf 2 16 0 with axcnt := 1 } } ∧ 16 ≠ 16 * s.axcnt 0
      ∧ bitOf (upAt 250).frame.flags 2 = true ∧ s.portSt 0 = 4 ∧ (portIn 3 []).portSt 0 = 3 ∧ (portIn 2 []).portSt 0 = 2 ∧ openPort (portIn 2 []) 0
      ∧ (s.port 0).passed = false ∧ ((s.modPort 0 fun q => { q with passed := true }).port 0).passed = true
      ∧ ({ s with girth := { s.girth with cyc := 1 } }.girth.cyc.truncate 32 - (upAt 250).frame.cyc).toNat = 1 := by
  unfold openPort insideWindow cleanFrame; decide

/-- R116, R103: EARLY, LATE, TRUNC, FCSERR, HDRERR, LENERR; a frame with SYNC takes a port in ALIGN to CYCLIC. -/
theorem test_uplink_judged :
    (after (.cycleUp 0 (upAt 209)) (portIn 4 [])).reg (pgNPORT 0) NPORT.EARLY = 1 ∧ (after (.cycleUp 0 (upAt 1041)) (portIn 4 [])).reg (pgNPORT 0) NPORT.LATE = 1
      ∧ (after (.cycleUp 0 (upAt 969)) (portIn 4 [])).reg (pgNPORT 0) NPORT.TRUNC = 1
      ∧ (after (.cycleUp 0 { upAt 250 with fcsOk := false }) (portIn 4 [])).reg (pgNPORT 0) NPORT.FCSERR = 1
      ∧ (after (.cycleUp 0 { upAt 250 with frame := { (upAt 250).frame with ver := 2 } }) (portIn 4 [])).reg (pgNPORT 0) NPORT.HDRERR = 1
      ∧ (after (.cycleUp 0 { upAt 250 with frame := frameOf 2 16 0 }) (portIn 4 [])).reg (pgNPORT 0) NPORT.LENERR = 1
      ∧ (after (.cycleUp 0 (upAt 210)) (portIn 3 [])).portSt 0 = 4 := by decide

theorem test_witness_uplink_upset : ({ upAt 250 with upset := true } : RxFrame).upset = true ∧ (upAt 250).upset = false := by decide

theorem test_witness_arrival_timeout :
    (let tick := (portIn 4 []).rd (pgNPORT 0) NPORT.UPWIN_CLOSE + (portIn 4 []).rd (pgNPORT 0) NPORT.PORTCFG_GUARD + 24;
      (atTick tick (portIn 4 [])).due tick = true ∧ (atTick (tick - 1) (portIn 4 [])).due tick = false)
      ∧ (built []).girthServes = false ∧ (portIn 4 []).axcnt 0 = 0 ∧ (portIn 4 []).girthServes = true ∧ ((portIn 4 []).port 0).arrived = false
      ∧ ((portIn 0 []).wr (pgNPORT 0) NPORT.PORTCFG_AXCNT 1).axcnt 0 = 1 ∧ (((portIn 0 []).wr (pgNPORT 0) NPORT.PORTCFG_AXCNT 1).port 0).delivered = false
      ∧ ((((portIn 4 []).wr (pgNPORT 0) NPORT.PORTCFG_AXCNT 1).modPort 0 fun q => { q with delivered := true }).port 0).delivered = true
      ∧ ((((portIn 4 []).wr (pgNPORT 0) NPORT.PORTCFG_AXCNT 1).modPort 0 fun q => { q with stale := true, everCyclic := true }).port 0).stale = true
      ∧ (((portIn 4 []).modPort 0 fun q => { q with arrived := true }).port 0).arrived = true := by decide

theorem test_witness_transmission :
    let s := portIn 4 [(pgNPORT 0, NPORT.RELAYCFG, 1)]
    s.girthServes = true ∧ s.silent = false ∧ s.latOn = false ∧ s.portSt 0 = 4 ∧ s.rd (pgNPORT 0) NPORT.RELAYCFG_COUNT ≠ 0
      ∧ (portIn 4 []).rd (pgNPORT 0) NPORT.RELAYCFG_COUNT = 0 ∧ (portIn 5 []).portSt 0 = 5 ∧ (portIn 3 []).reg (pgNPORT 0) NPORT.JOINWIN = 0
      ∧ (portIn 3 [(pgNPORT 0, NPORT.JOINWIN, 1)]).on (pgNPORT 0) NPORT.SCHSTAT_GRANTED = false
      ∧ (portIn 1 []).portSt 0 = 1 ∧ ((portIn 1 []).port 0).join = none
      ∧ (portIn 2 [(pgNPORT 0, NPORT.ACYWIN, 3656 * 65536 + 3500)]).rd (pgNPORT 0) NPORT.ACYWIN_END = 3500 + 156
      ∧ (portIn 2 [(pgNPORT 0, NPORT.ACYWIN, 3655 * 65536 + 3500)]).rd (pgNPORT 0) NPORT.ACYWIN_END < 3500 + 156
      ∧ (portIn 2 [(pgNPORT 0, NPORT.ACYWIN, 3571 * 65536 + 3500)]).rd (pgNPORT 0) NPORT.ACYWIN_END < 3500 + 72
      ∧ ((portIn 4 []).port 0).delayDue = none ∧ (∀ k, k < 8 → ((portIn 4 []).dma k).offer = none)
      ∧ (let o := { portIn 4 [inState (pgDMA 2) 3] with dmas := [(2, { offer := some (0, [1, 2, 3, 4]) })] }
        (atTick 3500 o).girthServes = true ∧ o.silent = false ∧ (atTick 4000 o).due (o.rd (pgNPORT 0) NPORT.ACYWIN_START) = true ∧ o.due (o.rd (pgNPORT 0) NPORT.ACYWIN_START) = false
          ∧ (atTick 4000 o).due (o.rd (pgNPORT 0) NPORT.DLWIN_DLSTART) = true ∧ (atTick 4000 o).due (o.rd (pgNPORT 0) NPORT.RELAYCFG_RLYSTART) = true
          ∧ (atTick 4000 o).due (o.tc - 100) = true ∧ o.due (o.tc - 100) = false
          ∧ o.running (pgDMA 2) = true ∧ (o.dma 2).offer = some (0, [1, 2, 3, 4]) ∧ (∀ j, j < 2 → (o.dma j).offer = none) ∧ o.fatal = false
          ∧ o.rd (pgNPORT 0) NPORT.ACYWIN_START + 72 ≤ o.rd (pgNPORT 0) NPORT.ACYWIN_END) := by decide

/-- R90: the frame of port 3 of a device with PAIRID 5: 64 bytes with pad and FCS, destination, source, EtherType, VER. -/
theorem test_mac_frame :
    let b := (built [(pgGLOB, GLOB.STRAP, 0)] |>.wr pgGLOB GLOB.STRAP_PAIRID 5).macFrame { frameOf 7 1 9 with port := 3 }
    b.length = 64 ∧ slice b 0 15 = List.replicate 6 0xFF ++ [2, 0, 0, 0, 5, 3, 0x88, 0xB5, 1] ∧ slice b 30 2 = [9, 0]
      ∧ slice b 60 4 = leBytes 4 (crc32 (b.take 60)).toNat := by decide

/-- R87, R144: the mark carries the next cycle number at LDMAX without a valid delay, not one tick early, and nothing leaves an idle port. -/
theorem test_mark :
    let lead := (portIn 4 []).tc - 100
    (after (.cycleMarkSend 0) (atTick lead (portIn 4 []))).wire = [.mark 0 1 100] ∧ (after (.cycleMarkSend 0) (atTick (lead - 1) (portIn 4 []))).wire = []
      ∧ (after (.cycleMarkSend 0) (atTick lead (portIn 0 []))).wire = []
      ∧ (let acy (stop : Nat) := (after (.acyclicWindow 0) (atTick 3500 (portIn 2 [(pgNPORT 0, NPORT.ACYWIN, stop * 65536 + 3500)]))).wire.length
        acy 3656 = 2 ∧ acy 3655 = 1 ∧ acy 3571 = 0) := by decide

/-- R128: the GRANT leaves a CYCLIC port in the acyclic window of the cycle after the JOIN, not in that of the JOIN. -/
theorem test_grant_sent :
    let s := atTick 3500 (portIn 4 [(pgNPORT 0, NPORT.ACYWIN, 3600 * 65536 + 3500)])
    let j := { s with girth := { s.girth with cyc := 1 } }.modPort 0 fun q => { q with join := some { cyc := 0, result := 0, nuid := 7 } }
    ((j.acyclicHead 0).2.wire.length = 1 ∧ ((j.acyclicHead 0).2.port 0).join = none)
      ∧ (({ j with girth := s.girth } : State).acyclicHead 0).2.wire = [] := by decide

theorem test_witness_containment :
    let s := portIn 4 []
    openPort s 0 ∧ (s.port 0).reenable = false ∧ ((s.port 0).hist.map (·.2)).sum + 1 < s.rd (pgNPORT 0) NPORT.BABCFG_BABN
      ∧ (portIn 5 []).portSt 0 = 5 ∧ ((portIn 5 []).port 0).reenable = false ∧ (portIn 0 []).portSt 0 = 0 ∧ (portIn 0 []).blockDue 0 = false
      ∧ Reaches (portIn 5 []) host (pgNPORT 0) NPORT.SCHSTAT true ∧ Reaches (portIn 5 [openGate 92]) debug (pgNPORT 0) NPORT.SCHSTAT true
      ∧ ((((portIn 4 []).modPort 0 fun q => { q with hist := [(0, 8)] }).port 0).hist.map (·.2)).sum = (portIn 4 []).rd (pgNPORT 0) NPORT.BABCFG_BABN := by
  unfold openPort Reaches; decide

theorem test_witness_containment_block :
    let full := (portIn 4 []).modPort 0 fun q => { q with hist := [(0, 7)] }
    let asked := (portIn 5 []).modPort 0 fun q => { q with reenable := true, hist := [(0, 8)] }
    openPort full 0 ∧ (full.port 0).reenable = false ∧ ((full.port 0).hist.map (·.2)).sum + 1 = full.rd (pgNPORT 0) NPORT.BABCFG_BABN ∧ full.portSt 0 = 4
      ∧ asked.girthServes = true ∧ asked.sync 0 = true ∧ asked.portSt 0 = 5 ∧ (asked.port 0).reenable = true
      ∧ (let x := full.setAxis 3 { map := some { mode := 0, place := .port 0 0, home := 0, rslot := 1, fb := none, ain := [] }, state := .running }
        (x.axis 3).state.started = true ∧ (x.axis 3).map.map (·.place) = some (.port 0 0)) := by unfold openPort; decide

/-- R123: below BABN a violation enters the history and the port goes on; a block notes its started axes. -/
theorem test_port_history :
    let one := (portIn 4 []).modPort 0 fun q => { q with hist := [(0, 6)] }
    let x := one.setAxis 3 { map := some { mode := 0, place := .port 0 0, home := 0, rslot := 1, fb := none, ain := [] }, state := .running }
    (one.violation 0).portSt 0 = 4 ∧ (one.violation 0).blockDue 0 = false ∧ ((one.violation 0).port 0).hist = [(0, 7)]
      ∧ ((x.markRest fun m => match m.place with | .port k _ => k == 0 | _ => false).axis 3).placeRest = true
      ∧ ((x.markRest fun m => match m.place with | .port k _ => k == 1 | _ => false).axis 3).placeRest = false := by decide

/-- R123, R124: each violation is counted and enters the history; the host alone re-enables a blocked port. -/
theorem test_port_blocks :
    let t := (portIn 4 []).violation 0
    t.reg (pgNPORT 0) NPORT.VIOL = 1 ∧ t.rd (pgNPORT 0) NPORT.SCHSTAT_HIST = 1 ∧ ((after (.blockedWrite host 0) (portIn 5 [])).port 0).reenable = true
      ∧ (after (.blockedWrite debug 0) (portIn 5 [openGate 92])).rd (pgNPORT 0) HDR.PSTAT_CFGREJ = 1 := by decide

theorem test_witness_link_and_join :
    let s := portIn 4 []
    (State.reset.pageOn (pgNPORT 31) = false ∨ State.reset.pageOn (pgNPORT 31) = true) ∧ s.pageOn (pgNPORT 0) = true ∧ s.sync 0 = true ∧ s.active (pgNPORT 0) = true
      ∧ (portIn 5 []).sync 0 = true ∧ (portIn 5 []).portSt 0 = 5 ∧ (built []).sync 0 = false ∧ (built [(pgNPORT 0, NPORT.LINKSTAT, 1)]).active (pgNPORT 0) = false ∧ (built []).portSt 0 = 0
      ∧ openPort s 0 ∧ cleanFrame s 0 { rx (frameOf 8 20 0) with edge := 64 * 3500 }
      ∧ insideWindow s 0 { rx (frameOf 8 20 0) with edge := 64 * 3500 } (s.rd (pgNPORT 0) NPORT.ACYWIN_START) ((s.tc : Int) - 1)
      ∧ (s.port 0).delayReq = none
      ∧ cleanFrame s 0 (rx { frameOf 5 16 0 with node := 9 })
      ∧ cleanFrame s 0 (rx (frameOf 4 4 0)) ∧ (s.port 0).mbxRx = false ∧ (s.port 0).joined = false
      ∧ insideWindow s 0 { rx (frameOf 4 4 0) with edge := 64 * 3500 } (s.rd (pgNPORT 0) NPORT.ACYWIN_START) (s.rd (pgNPORT 0) NPORT.ACYWIN_END)
      ∧ (∀ k, k < 8 → s.running (pgDMA k) = false) := by
  unfold openPort cleanFrame insideWindow; decide

/-- R89: a response to the request of the cycle gives half the round trip less the turnaround. -/
theorem test_link_delay :
    let s := (portIn 2 []).modPort 0 fun q => { q with delayReq := some { cyc := 0, seq := 3, t1 := 64 * 3400 } }
    let b : List Byte := leBytes 2 3 ++ leBytes 2 0 ++ leBytes 8 (64 * 3400) ++ leBytes 4 2400 ++ leBytes 4 0
    let f := { rx { frameOf 8 20 0 with payload := b } with edge := 64 * 3500 }
    (s.port 0).delayReq.isSome = true ∧ ((after (.delayResp 0 f) s).port 0).delayNew = some ((6400 - 2400) / 2) := by decide

/-- R127, R128: a JOIN that matches is granted from the second next cycle; one of another class has RESULT 2. -/
theorem test_join :
    let s := portIn 3 [(pgNPORT 0, NPORT.JOINWIN, 3700 * 65536 + 3500), (pgNPORT 0, NPORT.PORTCFG, 7 * 65536 + 0x2028)]
    let b (c : Nat) : List Byte := leBytes 2 c ++ [0, 0] ++ leBytes 2 72 ++ leBytes 2 72 ++ leBytes 8 0xAB
    let f (c : Nat) : RxFrame := { rx { frameOf 5 16 0 with payload := b c } with edge := 64 * 3500 }
    s.reg (pgNPORT 0) NPORT.JOINWIN ≠ 0 ∧ ((after (.join 0 (f 7)) s).port 0).grant = some (0xAB, 2)
      ∧ ((after (.join 0 (f 8)) s).port 0).join.map (·.result) = some 2 ∧ (after (.join 0 (f 8)) s).reg (pgNPORT 0) NPORT.JOINREJ = 1 := by decide

/-! ### The control cycle -/

/-- A running network at a cycle, with registers and T64 I0s from 0. -/
def netAt (cyc : Nat) (l : List (Nat × Nat × Nat)) : State :=
  { built ([inState pgGIRTH 3] ++ l) with girth := { (built []).girth with cyc := BitVec.ofNat 48 cyc } }

theorem test_witness_cycle_instants :
    (built []).st pgGIRTH ≠ 3 ∧ (built []).st pgGIRTH ≠ 4 ∧ (netAt 5 []).st pgGIRTH = 3
      ∧ geT64 (netAt 5 []).t64 ((netAt 5 []).tI0 6) = false
      ∧ geT64 ({ netAt 5 [] with time := { raw := 256000 * 6 } } : State).t64 (({ netAt 5 [] with time := { raw := 256000 * 6 } } : State).tI0 6) = true
      ∧ ({ built [inState pgGIRTH 4] with girth := { (built []).girth with stopCuts := 2 } }).st pgGIRTH = 4
      ∧ (built [inState pgGIRTH 2]).st pgGIRTH = 2 ∧ (built [inState pgGIRTH 2]).isFollower = false ∧ (built []).reg64 pgGIRTH GIRTH.EPOCHLO = 0
      ∧ (built []).girth.t0 = 0 ∧ geT64 (built []).t64 1 = false ∧ geT64 ({ built [] with time := { raw := 1 } }).t64 0 = true
      ∧ (built [inState pgGIRTH 2, inState pgLAT 3, (pgLAT, LAT.PCFG, LAT.PCFG_EN.put 1 0 |>.toNat), (pgLAT, LAT.STAT, LAT.STAT_ROLE.put 2 0 |>.toNat)]).isFollower = true
      ∧ (built []).lat.twinRunning = false := by decide

/-- R8, R144: an I0 acts once T64 has reached the ideal I0 of the next cycle, here of cycle 6, and not one unit before. -/
theorem test_i0_due :
    (after (.i0 false) { netAt 5 [] with time := { raw := 256000 * 6 } }).girth.cyc = 6
      ∧ (after (.i0 false) { netAt 5 [] with time := { raw := 256000 * 6 - 1 } }).girth.cyc = 5 := by decide +kernel

/-- R8: without a network an I0 changes nothing. -/
theorem test_i0_idle : (after (.i0 false) (built [])).girth.cyc = 0 ∧ (after (.i0 false) (built [])).wire = [] := by decide

/-- R126: cycle 0 two cycles after the start with EPOCH 0, and on the first point of the grid of an EPOCH not before that. -/
theorem test_cycle_zero :
    ({ built [inState pgGIRTH 2] with time := { raw := 0x1000 } }.startHook pgGIRTH).zeroIdeal = 0x1000 + 512000
      ∧ ({ built [inState pgGIRTH 2, (pgGIRTH, GIRTH.EPOCHLO, 0x40)] with time := { raw := 0x1000 } }.startHook pgGIRTH).zeroIdeal = 0x40 + 3 * 256000
      ∧ ({ built [inState pgGIRTH 2, (pgGIRTH, GIRTH.EPOCHLO, 600000)] with time := { raw := 0x1000 } }.startHook pgGIRTH).zeroIdeal = 600000
      ∧ (after .cycleZero { built [inState pgGIRTH 2] with time := { raw := 511999 }, girth := { (built []).girth with t0 := 512000 } }).st pgGIRTH = 2
      ∧ (after .cycleZero { built [inState pgGIRTH 2] with time := { raw := 512003 }, girth := { (built []).girth with t0 := 512000 } }).girth.t0 = 512000 := by decide +kernel

/-- Axis 3 in slot 0 of node port 0, record 1 of Bench 0, in a state. -/
def axisIn (st : AxState) (f : Axis → Axis) (s : State) : State :=
  s.setAxis 3 (f { map := some { mode := 0, place := .port 0 0, home := 0, rslot := 1, fb := none, ain := [] }, state := st })

/-- The map of that axis. -/
def map3 : AxisMap := { mode := 0, place := .port 0 0, home := 0, rslot := 1, fb := none, ain := [] }

theorem test_witness_cutoff :
    Reaches (netAt 0 []) host pgGIRTH HDR.PCTL true ∧ (netAt 0 []).st pgGIRTH = 3 ∧ (built []).st pgGIRTH = 1 ∧ (built []).rd pgTACK TACK.STAT_PHASE ≠ 2
      ∧ ((axisIn .running id (built [inState pgGIRTH 4])).axis 3).state.started = true ∧ (axisIn .running id (built [inState pgGIRTH 4])).fatal = false
      ∧ (AxState.rest).started = false
      ∧ (let s := { netAt 0 [inState pgBUCKLE 3] with time := { raw := 127 }, buckle := { before := 5 } }
        s.running pgBUCKLE = true ∧ (s.time.raw - s.buckle.evalAt).toNat < 128 ∧ s.stoTaken = 5) := by
  unfold Reaches; decide

theorem test_network_stop : (after (.networkStop host) (netAt 0 [])).st pgGIRTH = 4 := by decide

theorem test_witness_hold_limit :
    let s := axisIn .hold (fun x => { x with holdCnt := 2 }) (netAt 0 [inState (pgNPORT 0) 3, (pgNPORT 0, NPORT.SCHSTAT, 4)])
    let r := (s.fabStore mHost (map3.base + 0x94) [1, 0, 0, 0]).2
    (s.axis 3).map = some map3 ∧ (s.axis 3).state = .hold ∧ s.girthServes = true ∧ (atTick 4000 s).due (s.rd pgGIRTH GIRTH.CWIN_CUTOFF) = true ∧ s.due (s.rd pgGIRTH GIRTH.CWIN_CUTOFF) = false
      ∧ s.holdMax map3 = 2 ∧ (s.axis 3).standstill = false
      ∧ (s.fixRead mGirth (map3.base + 0x80) 0x20).1.isSome = true ∧ (r.fixRead mGirth (map3.base + 0x80) 0x20).1.map (fun b => fieldAt b 20 4) = some 1
      ∧ (r.axis 3).late = false ∧ (r.fixRead mGirth (map3.base + 0x80) 0x20).2.restCause 3 map3 = false
      ∧ (axisIn .hold (fun x => { x with holdCnt := 1 }) (built [])).holdMax map3 = 2 ∧ (built []).girthServes = false := by decide

/-- R20, R144: at HOLDMAX an axis without a ready output enters REST, at the CUTOFF tick and not before. -/
theorem test_hold_limit :
    let s (tick n : Nat) := atTick tick (axisIn .hold (fun x => { x with holdCnt := n }) (netAt 0 []))
    let cut := (netAt 0 []).rd pgGIRTH GIRTH.CWIN_CUTOFF
    ((after (.holdLimit 3) (s cut 2)).axis 3).state = .rest ∧ ((after (.holdLimit 3) (s cut 1)).axis 3).state = .hold
      ∧ ((after (.holdLimit 3) (s (cut - 1) 2)).axis 3).state = .hold := by decide

theorem test_witness_compute_window :
    (built []).girthServes = false ∧ (netAt 7 []).girthServes = true ∧ (netAt 7 []).latOn = false ∧ (netAt 7 [inState pgCINCH 3]).running pgCINCH = true
      ∧ (built []).cinchActive = false ∧ (built [inState pgPG 3]).active pgPG = true ∧ (built [inState pgCINCH 3]).cinchActive = true
      ∧ (built []).active pgPG = false ∧ (built []).mapped = []
      ∧ (netAt 7 [inState pgCINCH 3]).st pgCINCH = 3 ∧ (netAt 7 []).reg pgFLT HDR.ECAP0 = 0
      ∧ (netAt 7 []).due ((netAt 7 []).rd pgGIRTH GIRTH.CWIN_CWSTART) = false ∧ (atTick 32000 (netAt 7 [])).due ((netAt 7 []).rd pgGIRTH GIRTH.CWIN_CWSTART) = true
      ∧ (atTick 32000 (netAt 7 [])).due (netAt 7 []).arrivalTick = true ∧ (netAt 7 []).due (netAt 7 []).arrivalTick = false
      ∧ (netAt 7 [inState pgCINCH 3]).cinch.tokens = [] := by decide

/-- R11: CWSTART reports Cinch's cycle where Cinch runs, and nothing where it does not. -/
theorem test_cwstart :
    let tick := 28000 + (netAt 7 []).rd pgGIRTH GIRTH.CWIN_CWSTART
    (after (.cwstart false) (atTick tick (netAt 7 []))).girth.report = none ∧ (after (.cwstart false) (atTick tick (netAt 7 [inState pgCINCH 3]))).girth.report = some 0
      ∧ (after (.cwstart false) (atTick (tick - 1) (netAt 7 [inState pgCINCH 3]))).girth.report = none
      ∧ (after (.pgEngineDone 70000) (built [inState pgPG 3])).rd pgPG PG.PGTIME_LAST = 0xFFFF := by decide

/-! ### Cinch -/

/-- A task of Bench 0 with affinity to Awl 0. -/
def task0 : Task :=
  { service := false, prio := 0, home := 0, aff := 0, entry := 0x100, axis := none, preds := [], deadline := 5000, budget := 0, rper := 1, rphase := 0, arg := 9 }

/-- Cinch runs with Awls 0 and 1 of Bench 0. -/
def cinchOn (c : Cinch) : State :=
  { built [inState pgGIRTH 3, inState pgCINCH 3, inState (pgCINCHB 0) 3, inState (pgAWL 0) 3, inState (pgAWL 1) 3, (pgCINCHB 0, CINCHB.AWLEN, 3),
      (pgCINCH, CINCH.GRAPHCFG, CINCH.GRAPHCFG_TASKCNT.put 1 0 |>.toNat), (pgCINCHB 0, 0x80, 1000), (pgCINCHB 0, 0x84, 1000)] with cinch := c }

def token0 : Token := { task := 0, cyc := 0, axis := none, waits := [], readyAt := some 0 }

theorem test_witness_task_dispatch :
    let s := cinchOn { tasks := [task0], tokens := [token0] }
    let u := s.setReg (pgAWL 0) HDR.PSTAT 1
    s.running pgCINCH = true ∧ s.readyTokens 0 = [token0] ∧ s.available (s.lastAwl 0) = true ∧ s.lastAwl 0 = 0
      ∧ u.available (u.lastAwl 0) = false ∧ u.migratable token0 = true ∧ u.migrationAwl 0 = some 1
      ∧ (u.setReg (pgAWL 1) HDR.PSTAT 1).migrationAwl 0 = none ∧ (cinchOn {}).readyTokens 0 = [] ∧ (built []).running pgCINCH = false := by decide

/-- R169: D15 is the descriptor's ARG, PC its entry. -/
theorem test_task_dispatch :
    let t := after (.taskDispatch 0) (cinchOn { tasks := [task0], tokens := [token0] })
    (t.act 0).D 15 = 9 ∧ (t.act 0).pc = 0x100 ∧ t.cinch.tokens.map (·.on) = [some (0, (t.awl 0).bank)] := by decide

/-- A SERVICE task and an instance of it. -/
def service0 : Task := { task0 with service := true, budget := 100 }
def svc0 (on : Option (Nat × Nat)) (p : Bool) : Svc := { task := 0, cyc := 0, waits := [], queued := some 0, on := on, preempted := p }

theorem test_witness_services :
    let s := cinchOn { tasks := [service0], svcs := [svc0 none false] }
    let h := cinchOn { tasks := [service0], svcs := [svc0 (some (0, 1)) true] }
    s.svcQueue 0 = [svc0 none false] ∧ s.drains 0 none = false ∧ s.canServe 0 = true ∧ (0 : Nat) = s.lastAwl 0
      ∧ (s.setReg (pgAWL 0) HDR.PSTAT 1).canServe 0 = false ∧ (s.setReg (pgAWL 0) HDR.PSTAT 1).canServe 1 = true
      ∧ (∀ e, e < 8 → ((s.setReg (pgAWL 0) HDR.PSTAT 1).setReg (pgAWL 1) HDR.PSTAT 1).canServe e = false)
      ∧ h.svcAt 0 (1 - (h.awl 0).bank) = some (svc0 (some (0, 1)) true) ∧ h.running (pgAWL 0) = true ∧ h.halted 0 = false ∧ h.awlBusy 0 = false
      ∧ h.tokenFor 0 = false ∧ h.eligible 0 = true ∧ h.budgetOk 0 = true ∧ (h.setReg (pgCINCHB 0) 0x80 0).budgetOk 0 = false
      ∧ (cinchOn {}).svcAt 0 1 = none := by decide

theorem test_witness_deadlines :
    let s := cinchOn { tasks := [task0], tokens := [token0] }
    let v := cinchOn { tasks := [service0], svcs := [svc0 (some (0, 0)) false] }
    s.cinchActive = true ∧ (atTick 1250 s).due (5000 / 4) = true ∧ (atTick 1249 s).due (5000 / 4) = false ∧ (s.cinch.tokens.filter fun t => t.cyc == s.girth.cyc && !t.late && s.deadlineOf t.task == 5000) = [token0]
      ∧ (s.cinch.tokens.filter fun t => t.cyc == s.girth.cyc && !t.late && s.deadlineOf t.task == 5001) = []
      ∧ (v.instOf 0 (v.awl 0).bank).bind (fun i => v.task i.1) = some service0 ∧ service0.budget ≠ 0 ∧ 0 ∉ (v.useOf 0).overBanks
      ∧ task0.budget = 0 ∧ (s.instOf 0 (s.awl 0).bank).bind (fun i => s.task i.1) = none := by decide

/-- R177: at its deadline a token goes LATE; an instance past its BUDGET is counted once. -/
theorem test_deadline :
    (after (.deadline 5000) (atTick 1250 (cinchOn { tasks := [task0], tokens := [token0] }))).cinch.tokens.map (·.late) = [true]
      ∧ (after (.deadline 5000) (atTick 1249 (cinchOn { tasks := [task0], tokens := [token0] }))).cinch.tokens.map (·.late) = [false]
      ∧ (let v := cinchOn { tasks := [service0], svcs := [svc0 (some (0, 0)) false] }
        (after (.instanceBudgetPassed 0) (after (.instanceBudgetPassed 0) v)).reg (pgCINCHB 0) (CINCHB.OVERBUD 0) = 1) := by decide

theorem test_witness_cinch_registers :
    let s := cinchOn { tasks := [service0], svcs := [] }
    let h := cinchOn { tasks := [service0], svcs := [svc0 none false] }
    Reaches s host pgCINCH CINCH.SVCTRIG true ∧ s.task 0 = some service0 ∧ s.running pgCINCH = true ∧ service0.service = true
      ∧ s.rd pgCINCH CINCH.GRAPHCFG_TASKCNT = 1 ∧ (∀ v ∈ s.cinch.svcs, v.task ≠ 0) ∧ h.cinch.svcs = [svc0 none false] ∧ (svc0 none false).task = 0
      ∧ (svc0 none false).queued.isSome = true ∧ { svc0 none false with queued := none }.queued = none ∧ (svc0 none false).on = none
      ∧ s.task 1 = none ∧ task0.service = false ∧ (built []).running pgCINCH = false
      ∧ Reaches (built []) host (pgCINCHB 7) CINCHB.CMDTAIL true ∧ (built []).refusesTail = false ∧ 64 = 2 ^ (built []).rd (pgCINCHB 7) CINCHB.CMDCFG_RINGLOG2
      ∧ Reaches (built []) host (pgCINCHB 7) (0x80 + 4 * 7) true ∧ Reaches (built []) host (pgCINCHB 7) CINCHB.STATCLR true
      ∧ Reaches (built []) host (pgBENCH 7) BENCH.STATCLR true := by
  unfold Reaches; decide

/-- R184, R197, R195: the end of the ring, the largest BUDGET, WAITMIN after STATCLR. -/
theorem test_cinch_registers :
    (after (.cmdtailWrite host 7 64) (built [])).rd (pgCINCHB 7) HDR.PSTAT_CFGREJ = 1 ∧ (after (.cmdtailWrite host 7 63) (built [])).rd (pgCINCHB 7) CINCHB.CMDTAIL_INDEX = 63
      ∧ (after (.budgetWrite host 7 0 1000001) (built [])).rd (pgCINCHB 7) HDR.PSTAT_CFGREJ = 1
      ∧ (after (.budgetWrite host 7 0 1000000) (built [])).rd (pgCINCHB 7) (CINCHB.BUDGET_NS 0) = 1000000
      ∧ (after (.statclr host 7) (built [])).rd (pgCINCHB 7) CINCHB.WAITMIN_NS = 0xFFFF := by decide

/-! ### Commands of the rings -/

/-- Axis 3 of Bench 0 in a state, the generators running. -/
def motion (st : AxState) (f : Axis → Axis) : State :=
  axisIn st f (netAt 1 [inState pgPG 3, inState (pgPGB 0) 3, inState pgCINCH 3, inState (pgNPORT 0) 3, (pgNPORT 0, NPORT.SCHSTAT, 4),
    (pgPGB 0, PGB.VLIMLO 1, 0x1000), (pgPGB 0, PGB.ALIMLO 1, 0x100), (pgPGB 0, PGB.DSTOPLO 1, 0x100)])

/-- An entry for axis 3. -/
def entry3 (op : Nat) : Entry := { entry op with axis := 3 }

theorem test_witness_axis_commands :
    let s := motion .stopped fun x => { x with posCopy := [(0, 77)] }
    s.por = false ∧ (s.axis (entry3 1).axis).map = some map3 ∧ map3.home = 0 ∧ (entry3 1).rsvd = 0 ∧ { entry3 1 with rsvd := 1 }.rsvd ≠ 0
      ∧ (s.axis 4).map = none ∧ (s.axis 3).eccOff = none ∧ (s.axis 3).state = .stopped ∧ s.domainsOn map3 = true
      ∧ (axisIn .stopped id State.reset).domainsOn map3 = false ∧ s.on (pgPGB 0) (PGB.SCFG_STARTSRC 1) = false
      ∧ (s.axis 3).posCopy.find? (fun c => c.1 = s.girth.cyc - 1) = some (0, 77) ∧ ((motion .stopped id).axis 3).posCopy = []
      ∧ ((motion .running id).axis 3).state = .running ∧ ((motion .hold id).axis 3).state = .hold ∧ ((motion .rest id).axis 3).state = .rest
      ∧ (motion .rest id).portBlocked map3 = false ∧ bitOf ((motion .rest id).axis 3).stat 1 = false ∧ (motion .rest id).lxTripped map3 = false
      ∧ (motion .rest id).st pgCINCH ≠ 5 ∧ bitOf ((motion .rest fun x => { x with stat := 2 }).axis 3).stat 1 = true
      ∧ s.heldBack 3 1 = false ∧ s.held 3 s.girth.cyc = false
      ∧ ({ s with cinch := { tasks := [task0], tokens := [{ token0 with axis := some 3, on := some (0, 0) }] } } : State).heldBack 3 1 = true
      ∧ ((s.wr (pgPGB 0) (PGB.SCFG_STARTSRC 1) 1).on (pgPGB 0) (PGB.SCFG_STARTSRC 1) = true)
      ∧ ((entry3 4).len = 0 ∧ { entry3 4 with len := 16, offset := 0x1F0 }.offset + 16 = 0x200) := by decide

/-- R21, R28: START, STOP in HOLD, AXRESET; PARWRITE at the end of the parameters. -/
theorem test_axis_commands :
    ((after (.start 0 (entry3 1)) (motion .stopped fun x => { x with posCopy := [(0, 77)] })).axis 3).state = .starting
      ∧ (after (.start 0 (entry3 1)) (motion .stopped id)).cinch.lastStatus = 8
      ∧ ((after (.stop 0 (entry3 2)) (motion .hold id)).axis 3).resume = true ∧ ((after (.axreset 0 (entry3 3)) (motion .rest id)).axis 3).state = .stopped
      ∧ (after (.axreset 0 (entry3 3)) (motion .rest fun x => { x with stat := 2 })).cinch.lastStatus = 6
      ∧ (after (.parwrite 0 { entry3 4 with len := 16, offset := 0x1F0, data := List.replicate 16 7 }) (motion .stopped id)).byte (map3.base + 0x1FF) = 7
      ∧ (after (.parwrite 0 { entry3 4 with len := 16, offset := 0x1F4 }) (motion .stopped id)).cinch.lastStatus = 5 := by decide

/-- An entry of a motion command for axis 3 with operands. -/
def move3 (op len : Nat) (a b : Nat) : Entry := { entry3 op with len := len, data := leBytes 8 a ++ leBytes 8 b }

theorem test_witness_motion_refusals :
    (motionRows 0 (entry3 0x10)).map (·.1) = [0x10, 0x11, 0x12, 0x13, 0x14, 0x15, 0x16, 0x17, 0x18, 0x19, 0x1A, 0x1B, 0x1C, 0x20, 0x21, 0x22]
      ∧ { entry3 0x10 with offset := 1 }.offset ≠ 0 ∧ (motion .running id).running pgPG = true ∧ (motion .running id).running (pgPGB 0) = true
      ∧ (built []).running pgPG = false ∧ ((motion .running id).axis 3).state ≠ .stopped ∧ isMotion 0x10 = true
      ∧ ((motion .hold fun x => { x with resume := true }).axis 3).resume = true ∧ ((motion .stopping id).axis 3).state = .stopping
      ∧ ((motion .running id).pgReason 0x12 3 map3 1 (leBytes 8 0x1001 ++ leBytes 8 0)).1 = 3 := by decide

/-- Accepted motion commands exist: the reason of R306 is 0. -/
theorem test_witness_motion :
    let s := motion .running id
    let ok (s : State) (op len a b : Nat) : Bool := (s.pgReason op 3 map3 len (leBytes 8 a ++ leBytes 8 b)).1 == 0
    let geared := s.setPg 3 { mode := .gear, sync := 1 }
    let mastered := (s.setReg (pgPGB 0) (PGB.SCFG 1) 0x40000001).setReg pgPG (PG.CAMBASE 0) 1
    let grouped := ((s.setReg (pgIGRP 0) HDR.PSTAT 3).setReg (pgIGRP 0) IGRP.GCFG 0x101).setReg (pgIGRP 0) IGRP.MEM0 3
    ok s 0x10 0 100 0 = true ∧ ok s 0x11 0 100 0 = true ∧ ok s 0x12 0 100 0 = true ∧ ok s 0x13 0 0 0 = true ∧ ok (motion .stopped id) 0x14 0 5 0 = true
      ∧ ok s 0x15 0 0x1000 0x100 = true ∧ ok s 0x16 0 0x100 0 = true ∧ ok s 0x17 0 0 0 = true ∧ ok geared 0x1A 0 100 0 = true ∧ ok geared 0x1B 0 0 0 = true
      ∧ ok mastered 0x18 0 (1 + 2 ^ 32) 5 = true ∧ ok mastered 0x19 0 0 5 = true
      ∧ (mastered.camHead 0).1.isSome = true ∧ ok (mastered.setPg 3 { mode := .cam, sync := 1 }) 0x1C 0 0 0 = true ∧ ok s 0x20 0 100 0 = true
      ∧ grouped.members 0 = [3] ∧ ok grouped 0x21 0 0 0 = true ∧ ok grouped 0x22 0 0 0 = true := by decide

/-- R305: MOVEABS sets mode and target; VELOCITY its speed. -/
theorem test_motion :
    let t := after (.moveabs 0 (move3 0x10 0 100 0)) (motion .running id)
    (t.pg 3).mode = .move ∧ (t.pg 3).tgt = 100 ∧ t.cinch.lastStatus = 1
      ∧ ((after (.velocity 0 (move3 0x12 0 (2 ^ 64 - 5) 0)) (motion .running id)).pg 3).vcmd = -5
      ∧ (after (.moveabs 0 (move3 0x10 0 100 0)) (motion .stopping id)).reg pgPG PG.LASTREF = 0x10020003 := by decide

theorem test_witness_virtual_masters :
    let s := netAt 1 [inState pgPG 3]
    (entry 0x30).rsvd = 0 ∧ (entry 0x30).offset = 0 ∧ (entry 0x30).len = 0 ∧ (built []).running pgPG = false ∧ s.running pgPG = true
      ∧ geT64 (s.tI0 s.cyc) 0 = true ∧ (0 : BitVec 64) ≠ s.tI0 s.cyc ∧ geT64 (s.tI0 s.cyc) 256001 = false ∧ s.tI0 s.cyc = 256000
      ∧ (s.vm 3).velPend = none ∧ (s.vm 3).setPend = none ∧ (s.vm 3).plan.atRest = true
      ∧ ((s.setVm 3 { plan := { w := 1 } }).vm 3).plan.atRest = false ∧ ((s.setVm 3 { setPend := some (256000, 9) }).vm 3).setPend = some (256000, 9) := by decide

/-- R318: a command waits for TSTART and is taken in the cycle whose I0 reaches it; a passed TSTART acts at once with LATE. -/
theorem test_virtual_masters :
    let s := netAt 1 [inState pgPG 3]
    let e (op t x : Nat) : Entry := { entry op with data := leBytes 8 t ++ leBytes 8 x }
    (s.running pgPG = true) ∧ ((after (.vmset 0 3 (e 0x33 256001 9)) s).vm 3).setPend = some (256001, 9)
      ∧ ((after (.vmvel 0 3 (e 0x37 0 9)) s).vm 3).vcmd = 9 ∧ (after (.vmvel 0 3 (e 0x37 0 9)) s).on pgPG (PG.VMSTAT_LATE 3) = true
      ∧ ((after (.vmPendingApply 3) (s.setVm 3 { setPend := some (256000, 9) })).vm 3).plan.q = 9
      ∧ ((after (.vmPendingApply 3) (s.setVm 3 { setPend := some (256001, 9) })).vm 3).plan.q = 0 := by decide


/-! ### Steps within CWSTART, two tokens, the follower's cycle 0 -/

theorem test_witness_follower_zero :
    let s : State := { built [inState pgGIRTH 2, inState pgLAT 3, (pgLAT, LAT.PCFG, LAT.PCFG_EN.put 1 0 |>.toNat), (pgLAT, LAT.STAT, LAT.STAT_ROLE.put 2 0 |>.toNat)] with
      time := { raw := 600000 }, lat := { twinRunning := true, twinI0 := 256000 } }
    s.st pgGIRTH = 2 ∧ s.isFollower = true ∧ geT64 (s.lat.twinI0 + BitVec.ofNat 64 (1 * s.tc * 64)) s.girth.t0 = true
      ∧ geT64 (s.lat.twinI0 + BitVec.ofNat 64 (1 * s.tc * 64)) ({ s.girth with t0 := 512001 } : Girth).t0 = false := by decide

theorem test_witness_token_creation :
    let s := atTick 4000 (cinchOn { tasks := [task0] })
    s.girthServes = true ∧ s.due (s.rd pgGIRTH GIRTH.CWIN_CWSTART) = true ∧ s.running pgCINCH = true ∧ (∀ u ∈ s.cinch.tokens, u.cyc ≠ s.girth.cinchCyc)
      ∧ s.st pgCINCH = 3 ∧ s.task 0 = some task0 ∧ task0.service = false ∧ s.running (pgCINCHB task0.home) = true ∧ task0.axis = none := by decide

/-- R166: CWSTART creates the token of a CYCLIC task, which waits for the generators; a Bench whose CINCHB page does not run gets none. -/
theorem test_token_creation :
    let t := after (.cwstart false) (atTick 4000 (cinchOn { tasks := [task0] }))
    let u := after (.cwstart false) (atTick 4000 ((cinchOn { tasks := [task0] }).setReg (pgCINCHB 0) HDR.PSTAT 1))
    t.cinch.tokens.map (fun x => (x.task, x.cyc, x.on, x.waits.contains 0x8200)) = [(0, 0, none, true)] ∧ t.girth.cw = some 0 ∧ u.cinch.tokens = [] := by decide

/-- Two tasks of Bench 0, the second with its own affinity and deadline. -/
def twoTokens (aff dl : Nat) : State :=
  (cinchOn { tasks := [task0, { task0 with aff := aff, deadline := dl }], tokens := [token0, { token0 with task := 1 }] }).setReg pgCINCH CINCH.GRAPHCFG
    (CINCH.GRAPHCFG_TASKCNT.put 2 0)

theorem test_witness_two_tokens :
    let s := twoTokens 1 6000
    let b := twoTokens 0 6000
    let lame := s.setReg (pgAWL 0) HDR.PSTAT 1
    s.running pgCINCH = true ∧ (s.cinch.tokens.map fun x => (x.task, x.cyc)).Nodup ∧ s.readyTokens 0 = [token0, { token0 with task := 1 }]
      ∧ s.lastAwl 0 = 0 ∧ s.lastAwl 1 = 1 ∧ s.available 0 = true ∧ s.available 1 = true
      ∧ b.readyTokens 0 = [token0, { token0 with task := 1 }] ∧ b.lastAwl 1 = 0
      ∧ (let c := b.setReg (pgAWL 1) HDR.PSTAT 1; c.readyTokens 0 = [token0, { token0 with task := 1 }] ∧ c.available 0 = true
          ∧ ∀ e, e < 8 → c.available (8 * 0 + e) = true → 8 * 0 + e = 0)
      ∧ lame.readyTokens 0 = [token0, { token0 with task := 1 }] ∧ lame.available 0 = false ∧ lame.available 1 = true
      ∧ (∀ e, e < 8 → lame.available (8 * 0 + e) = true → 8 * 0 + e = 1) := by decide

/-- R171: the earlier deadline goes first, whatever its ID; each token to its own last Awl. -/
theorem test_two_tokens :
    ((twoTokens 0 4000).readyTokens 0).map (·.task) = [1, 0]
      ∧ (after (.taskDispatch 0) (twoTokens 1 6000)).cinch.tokens.map (fun t => t.on.map (·.1)) = [some 0, some 1]
      ∧ (after (.taskDispatch 0) ((twoTokens 0 4000).setReg (pgAWL 1) HDR.PSTAT 1)).cinch.tokens.map (fun t => t.on.map (·.1)) = [none, some 0] := by decide

/-- Bench 0 with a ring at 0x100 in its central memory, one entry written. -/
def ringOn (apply : Nat) (l : List (Nat × Nat × Nat)) : State :=
  let s := motion .running id
  let s := ((s.setReg (pgCINCHB 0) CINCHB.CMDBASE 0x100).setReg (pgCINCHB 0) CINCHB.CMDTAIL 1).setReg (pgCINCHB 0) HDR.PSTAT 3
  let s : State := { s with girth := { s.girth with cinchCyc := 1 } }
  let s := (s.fabStore mHost (s.rd (pgCINCHB 0) CINCHB.CMDBASE_ADDR * 32) ([0x12, 0, 3, 0] ++ leBytes 6 apply ++ List.replicate 6 0 ++ leBytes 8 5 ++ List.replicate 8 0)).2
  l.foldl (fun s r => s.setReg r.1 r.2.1 (BitVec.ofNat 32 r.2.2)) s

theorem test_witness_command_ring :
    let s := ringOn 0 []
    let addr := s.rd (pgCINCHB 0) CINCHB.CMDBASE_ADDR * 32
    s.rd (pgCINCHB 0) CINCHB.CMDHEAD_INDEX ≠ s.rd (pgCINCHB 0) CINCHB.CMDTAIL_INDEX ∧ ((s.fixRead mCinch addr 32).1.map fun d => (fieldAt d 0 1, fieldAt d 2 2, fieldAt d 4 6)) = some (0x12, 3, 0)
      ∧ ((({ s with flips := [(addr + 24, 7)] } : State).fixRead mCinch addr 32).1).isNone = true
      ∧ ((ringOn 2 []).fixRead mCinch addr 32).1.map (fun d => fieldAt d 4 6) = some 2 ∧ s.girth.cinchCyc.toNat < 2
      ∧ (let w : State := { s with cinch := { s.cinch with tasks := [task0], tokens := [{ token0 with axis := some 3, on := some (0, 0) }] } }
        w.heldBack 3 w.girth.cinchCyc = true ∧ s.heldBack 3 s.girth.cinchCyc = false ∧ (s.axis 3).map.map (·.home) = some 0) := by decide

/-- R185, R186: an entry that is due acts, gets STATUS 1 and the cycle that served it; one for a later cycle waits; an empty ring does nothing. -/
theorem test_command_ring :
    let s := ringOn 0 []
    let addr := s.rd (pgCINCHB 0) CINCHB.CMDBASE_ADDR * 32
    let t := s.serveRing 0 4
    t.bytes (addr + 1) 1 = [1] ∧ t.bytes (addr + 4) 6 = [1, 0, 0, 0, 0, 0] ∧ t.rd (pgCINCHB 0) CINCHB.CMDHEAD_INDEX = 1 ∧ t.reg (pgCINCHB 0) CINCHB.CMDAPP = 1
      ∧ (t.pg 3).vcmd = 5 ∧ (ringOn 2 []).serveRing 0 4 = ringOn 2 [] ∧ t.serveRing 0 4 = t := by decide

theorem test_witness_ecc_present :
    let s := motion .stopped fun x => { x with eccOff := some 0x148 }
    let u : State := { s with flips := [(map3.base + 0x148, 7)] }
    (u.eccPresent 3 map3).1 = true ∧ (u.axis 3).state = .stopped ∧ u.domainsOn map3 = true ∧ (s.eccPresent 3 map3).1 = false := by decide

/-- The generators of axis 3 in a mode. -/
def engineOn (g : Pg) : State := (motion .running id).setPg 3 g

theorem test_witness_engine :
    let s := engineOn { mode := .velocity, vcmd := 5 }
    let grouped : State := { ((engineOn { group := some 0, dist := 1 }).setReg (pgIGRP 0) HDR.PSTAT 3 |>.setReg (pgIGRP 0) IGRP.GCFG 0x101 |>.setReg (pgIGRP 0) IGRP.MEM0 3) with
      igrps := [(0, { dlead := 10 })] }
    s.active pgPG = true ∧ (s.axes.map (·.1)).Pairwise (· < ·) ∧ (built []).active pgPG = false ∧ s.pgSteps 3 map3 = true ∧ s.riding 3 = false ∧ (s.pg 3).waiting = []
      ∧ s.pgWaits 3 map3 s.girth.cyc 256 = false ∧ map3.mode ≠ 4 ∧ (motion .stopped id).pgSteps 3 map3 = false
      ∧ (s.vm 0).setPend = none ∧ (s.vm 0).velPend = none ∧ grouped.active (pgIGRP 0) = true ∧ grouped.rides 3 = some 0
      ∧ (∀ m ∈ [PgMode.move, .velocity, .stop, .gear], ((engineOn { mode := m }).pg 3).mode = m)
      ∧ (let x := (motion .running fun x => { x with posCopy := [(0, 9)] }); (x.axis 3).posCopy.find? (fun c => c.1 = x.girth.cyc - 1) = some (0, 9)) := by decide

/-- R299, R302: a generator at VELOCITY takes one step of its acceleration and gives an SP section for the cycle; with PG stopped nothing moves. -/
theorem test_engine :
    let t := (engineOn { mode := .velocity, vcmd := 5 }).engineRun
    (t.pg 3).plan.w = 5 ∧ (t.pg 3).plan.pout = 5 ∧ (t.pg 3).spCyc = 1 ∧ (t.pg 3).sp.isSome = true
      ∧ ((engineOn { mode := .velocity, vcmd := 5 }).setReg pgPG HDR.PSTAT 1).engineRun = (engineOn { mode := .velocity, vcmd := 5 }).setReg pgPG HDR.PSTAT 1 := by decide
/-! ### Power, clocks, memory protection, boot and tack sets -/

theorem test_witness_power :
    Reaches State.reset host pgPWR PWR.TARGET true ∧ State.reset.on pgPWR PWR.STATUS_BUSY = false ∧ State.reset.domOn 14 = true ∧ State.reset.domOn 8 = true
      ∧ State.reset.domOn 0 = false ∧ (State.reset.wr pgPWR PWR.STATUS_BUSY 1).on pgPWR PWR.STATUS_BUSY = true
      ∧ bitOf 0x4000 8 = false ∧ bitOf 0xC100 15 = true
      ∧ pageDomain (pgAWL 0) = some 0 ∧ (built [inState (pgAWL 0) 3]).st (pgAWL 0) = 3 ∧ pgAWL 0 ∈ allPages
      ∧ idDomain (idGran 0) = some 8 ∧ (State.reset.wr pgHOST HOST.LINKSTAT_UP 1).on pgHOST HOST.LINKSTAT_UP = true := by
  unfold Reaches; decide

/-- R50: the reasons 1 to 5, then a vector that is taken. -/
theorem test_witness_power_steps :
    let s := State.reset.wr pgPWR PWR.TARGET_DOMAIN 0x4101 |>.wr pgPWR PWR.STATUS_BUSY 1
    s.on pgPWR PWR.STATUS_BUSY = true ∧ (offOrder.find? fun k => s.domOn k && !bitOf 0x4101 k) = none ∧ (onOrder.find? fun k => !s.domOn k && bitOf 0x4101 k) = some 0
      ∧ s.rd pgPWR PWR.TARGET_DOMAIN = 0x4101 ∧ (offOrder.find? fun k => (built []).domOn k && !bitOf 0x4101 k).isSome = true := by decide

/-- R49, R51: the domain of Bench 0 comes on and BUSY falls. -/
theorem test_power_step :
    let t := after .powerStepDone (State.reset.wr pgPWR PWR.TARGET_DOMAIN 0x4101 |>.wr pgPWR PWR.STATUS_BUSY 1)
    t.domOn 0 = true ∧ t.on pgPWR PWR.STATUS_BUSY = false ∧ t.st (pgAWL 0) = 1
      ∧ (after (.pwrTargetWrite host 0x4101) State.reset).on pgPWR PWR.STATUS_BUSY = true ∧ (after (.pwrTargetWrite host 0x4100) State.reset).on pgPWR PWR.STATUS_BUSY = false := by decide

theorem test_witness_clocks :
    let s := built [(pgCLK, HDR.PCTL, 1)]
    s.rd pgCLK HDR.PCTL_RUN = 1 ∧ (built []).rd pgCLK HDR.PCTL_RUN = 0 ∧ s.rd pgCLK CLK.WDLIM_LO ≠ 0 ∧ s.rd pgCLK CLK.WDLIM_LO ≤ 25600
      ∧ 25600 ≤ s.rd pgCLK CLK.WDLIM_HI ∧ s.rd pgCLK CLK.WDLIM_HI < 0xFFFF ∧ s.clk.out = 0 ∧ s.clk.raised = false
      ∧ ({ s with clk := { out := 1 } } : State).clk.out = 1 := by decide

/-- R45: the second measurement outside the window in a row is the one that raises. -/
theorem test_clock_monitor :
    let s := built [(pgCLK, HDR.PCTL, 1)]
    (after (.clockMonitorMeasure 1) s).clk = { out := 1, raised := false } ∧ (after (.clockMonitorMeasure 25600) (after (.clockMonitorMeasure 1) s)).clk = {}
      ∧ (after (.clockMonitorMeasure 1) s).rd pgCLK CLK.WDCNT_LAST = 1 := by decide

theorem test_witness_memory_protection :
    let s := { built [] with flips := [(0, 0x7)] }
    State.reset.poweredFrom 0x01000000 = none ∧ State.reset.poweredFrom 0 = some 0 ∧ { State.reset with regs := [] }.poweredFrom 0 = State.reset.poweredFrom 0
      ∧ ({ State.reset.wr pgPWR PWR.STATUS_DOMAIN 0 with scrub := 8 }.poweredFrom 0) = none ∧ State.reset.running pgECC = true ∧ s.running pgECC = true ∧ s.poweredFrom s.scrub = some 0 ∧ popCount 80 (s.flip 0).toNat = 3
      ∧ ({ built [] with flips := [(0, 0x5)] } : State).flip 0 = 5 ∧ popCount 80 5 = 2 ∧ (built [inState pgECC 1]).running pgECC = false
      ∧ Reaches (built []) host pgECC ECC.INJCTL true ∧ (built []).on pgECC ECC.INJCTL_ARM = false
      ∧ ((built []).wr pgECC ECC.INJCTL_ARM 1).on pgECC ECC.INJCTL_ARM = true ∧ ECC.INJCTL_ARM.get 0x82000100 = 1 ∧ ECC.INJCTL_COUNT.get 0x82000100 = 2
      ∧ ECC.INJCTL_BITA.get 0x82000100 = 0 ∧ ECC.INJCTL_BITB.get 0x82000100 = 1 := by
  unfold Reaches; decide

/-- R41: a word without errors stays, and the walk goes on; behind the last powered word it begins anew, also where the domains ahead have
gone off. -/
theorem test_scrub :
    (after .scrubSlot (built [])).scrub = 8 ∧ (after .scrubSlot { State.reset with scrub := 0x01000000 }).scrub = 8
      ∧ (after .scrubSlot { State.reset with scrub := 0x01000000 }).reg pgECC ECC.PASSCNT = 1 ∧ (after .scrubSlot { built [] with scrub := 0x021FFFF8 }).scrub = 0
      ∧ (after .scrubSlot { built [] with scrub := 0x021FFFF8 }).reg pgECC ECC.PASSCNT = 1 := by decide

/-- R64: two equal positions, or one above 79, do not arm. -/
theorem test_inject :
    (after (.errorInjectArm host 0x82000100) (built [])).on pgECC ECC.INJCTL_ARM = true ∧ (after (.errorInjectArm host 0x82000101) (built [])).on pgECC ECC.INJCTL_ARM = false
      ∧ (after (.errorInjectArm host 0x8100004F) (built [])).on pgECC ECC.INJCTL_ARM = true ∧ (after (.errorInjectArm host 0x81000050) (built [])).on pgECC ECC.INJCTL_ARM = false := by decide

/-- R479, R480: POR_N low clears; at its rise the straps are latched. -/
theorem test_power_on :
    (after .porNFall (built [])).por = true ∧ (after (.powerOnReset true true 5 2) (after .porNFall (built []))).rd pgGLOB GLOB.STRAP_PAIRID = 5
      ∧ (after (.powerOnReset true true 5 2) (after .porNFall (built []))).boot.phase = 2 ∧ (built []).por = false := by decide

theorem test_witness_boot :
    State.reset.boot.phase = 0 ∧ (List.replicate 256 (0 : Byte)).length = 256 ∧ slice (List.replicate 256 (0 : Byte)) 0 4 ≠ [0x55, 0x42, 0x57, 0x4E]
      ∧ Reaches (built []) host pgBOOT BOOT.HLCTL true ∧ Reaches (built []) host pgBOOT BOOT.OTPCTL true ∧ (built [inState pgBOOT 3]).running pgBOOT = true
      ∧ (built [inState pgBOOT 3]).on pgBOOT BOOT.OTPCTL_BUSY = false ∧ BOOT.OTPCTL_WORD.get 0x80000009 = 9 ∧ BOOT.OTPCTL_WORD.get 0x8000000A = 10
      ∧ (built []).boot.otp = none ∧ ({ built [] with boot := { otp := some (9, 1) } } : State).boot.otp = some (9, 1)
      ∧ ({ built [] with boot := { phase := 2 } } : State).boot.phase = 2 := by
  unfold Reaches; decide

/-- R485, R482: a header without the magic gives way to slot B; the OTP takes word 9 from the host, and its bits stay set. -/
theorem test_boot :
    (after (.bootComplete (List.replicate 256 0) none) State.reset).boot.phase = 1
      ∧ (after (.hostLoadGo host) { built [] with boot := { phase := 2 } }).boot.phase = 3
      ∧ (after (.otpProgram host 9) (built [inState pgBOOT 3, (pgBOOT, BOOT.OTPDATA, 6)])).boot.otp = some (9, 6)
      ∧ (after (.otpProgram host 10) (built [inState pgBOOT 3])).rd pgBOOT HDR.PSTAT_CFGREJ = 1
      ∧ (after .otpProgramDone { built [(pgBOOT, BOOT.OTPRD 9, 1)] with boot := { otp := some (9, 6) } }).reg pgBOOT (BOOT.OTPRD 9) = 7 := by decide

/-- An empty tack set 0 of 64 bytes with PWRDOM 0x4100 (R489): its TCRC, and the CRC of a safety configuration of reset values. -/
def tackImage : List Byte :=
  [0x54, 0x41, 0x43, 0x4B] ++ leBytes 4 1 ++ leBytes 4 64 ++ leBytes 4 0x1B7CEDA3 ++ leBytes 4 0x53C890B8 ++ leBytes 4 0x4100 ++ List.replicate 40 0

/-- The tack engine runs with a set 0 of 64 bytes stored at `a`. -/
def tackOn (l : List (Nat × Nat × Nat)) : State :=
  (State.reset.setReg pgTACK HDR.PSTAT 3).setReg pgTACK (TACK.TLEN 0) 64 |> fun s => l.foldl (fun s r => s.setReg r.1 r.2.1 (BitVec.ofNat 32 r.2.2)) s

theorem test_witness_tack :
    let s := tackOn []
    Reaches s host pgTACK TACK.CTL true ∧ s.running pgTACK = true ∧ s.on pgTACK TACK.STAT_BUSY = false ∧ s.rd pgTACK (TACK.TLEN_LEN 0) = 64
      ∧ s.rd pgTACK (TACK.TLEN_LEN 1) = 0 ∧ State.reset.running pgTACK = false ∧ (s.fixRead mBoot 0 64).1 = some (List.replicate 64 0)
      ∧ (match s.tackJudge 0 64 (List.replicate 64 0) with | .error e => e.1 | .ok _ => 0) = 2
      ∧ s.on pgTACK TACK.CFG_PINSEL = false ∧ (s.wr pgTACK TACK.CFG_PINSEL 1).on pgTACK TACK.CFG_PINSEL = true ∧ s.rd pgTACK TACK.STAT_ACTIVE ≠ 2
      ∧ (s.wr pgTACK TACK.STAT_BUSY 1).on pgTACK TACK.STAT_BUSY = true ∧ (s.wr pgTACK TACK.STAT_PHASE 2).rd pgTACK TACK.STAT_PHASE = 2
      ∧ (s.wr pgTACK TACK.STAT_PHASE 3).rd pgTACK TACK.STAT_PHASE = 3 ∧ (s.wr pgTACK TACK.STAT_PHASE 5).rd pgTACK TACK.STAT_PHASE = 5 := by
  unfold Reaches; decide

/-- R489, R492: the empty set passes every check of phase 1. -/
theorem test_tack_set_accepted :
    (match (tackOn []).tackJudge 0 64 tackImage with | .ok t => t.pwrdom | .error _ => 0) = 0x4100 := by decide +kernel

/-- R492: phase 2 ends where every switched page is STOPPED or OFF, and PWR takes the set's domains; an empty set needs nothing of phase 4. -/
theorem test_tack_phases :
    let s := (tackOn []).wr pgTACK TACK.STAT_PHASE 2
    (∀ p ∈ allPages, switchedPage p = true → s.st p ≤ 1) ∧ ((s.wr pgTACK TACK.STAT_PHASE 3).targetWrite (0x4100 ||| 0x4100)).1 = true
      ∧ ((s.wr pgTACK TACK.STAT_PHASE 3).targetWrite (0x8000 ||| 0x4100)).1 = true
      ∧ (((s.wr pgPWR PWR.STATUS_BUSY 1).wr pgTACK TACK.STAT_PHASE 3).targetWrite 0x4100).1 = false
      ∧ tackWrites tackImage = [] ∧ tackAxes tackImage = some [] ∧ tackBlocks tackImage = some [] ∧ tackStart tackImage = [] := by decide +kernel

theorem test_witness_tack_contents :
    let s := { (tackOn []).wr pgTACK TACK.STAT_PHASE 3 with tack := { len := 64 } }
    let c := List.replicate 64 (0 : Byte)
    (({ s with flips := [(0, 7)] }.wr pgTACK TACK.STAT_PHASE 4).tackRead).1 = none
      ∧ s.on pgPWR PWR.STATUS_BUSY = false ∧ ((s.wr pgTACK TACK.STAT_PHASE 4).tackRead).1 = some c ∧ tackWrites c = [] ∧ tackAxes c = some [] ∧ tackBlocks c = some []
      ∧ tackStart c = [] := by decide

theorem test_witness_tack_deferred :
    let s := { (tackOn []).wr pgTACK TACK.STAT_PHASE 5 with tack := { deferred := [pgGIRTH] } }
    s.tackDecides pgGIRTH = some false ∧ (s.wr pgLAT LAT.STAT_ROLE 1).tackDecides pgGIRTH = some true ∧ ((s.wr pgPWR PWR.STATUS_DOMAIN 0x3FFFF).setSt pgLAT 2).tackDecides pgGIRTH = none
      ∧ (s.tack.deferred.find? fun p => (p ≠ pgGIRTH || s.tack.deferred.length == 1) && (s.tackDecides p).isSome) = some pgGIRTH ∧ s.rd pgTACK TACK.STAT_PHASE = 5 := by decide


/-- A tack set of 168 bytes: FBCH 0's CFG = 1, axis 3 in slot 0 of port 0, 8 bytes for 0x1000, FBCH 0 to start (R489, R490). -/
def fullSet : List Byte :=
  [0x54, 0x41, 0x43, 0x4B] ++ leBytes 4 1 ++ leBytes 4 168 ++ leBytes 8 0 ++ leBytes 4 0x4100 ++ leBytes 4 64 ++ leBytes 4 1 ++ leBytes 4 72 ++ leBytes 4 1
    ++ leBytes 4 136 ++ leBytes 4 1 ++ leBytes 4 160 ++ leBytes 4 1 ++ leBytes 8 0
    ++ (leBytes 4 (pgFBCH 0 * 65536 + FBCH.CFG) ++ leBytes 4 1)
    ++ (leBytes 2 3 ++ [0, 0, 0, 0, 1, 0] ++ List.replicate 56 0)
    ++ (leBytes 4 0x1000 ++ leBytes 4 8 ++ leBytes 4 152 ++ leBytes 4 0) ++ [1, 2, 3, 4, 5, 6, 7, 8] ++ leBytes 2 (pgFBCH 0) ++ List.replicate 6 0

/-- A switch to the set at 0 that waits for power. -/
def loading (set : List Byte) : State :=
  let s := ((built [inState pgTACK 3]).fabStore mHost 0 set).2
  { s.wr pgTACK TACK.STAT_PHASE 3 |>.wr pgTACK TACK.STAT_BUSY 1 with tack := { len := set.length } }

theorem test_witness_tack_load :
    let s := loading fullSet
    fullSet.length = 168 ∧ s.rd pgTACK TACK.STAT_PHASE = 3 ∧ s.on pgPWR PWR.STATUS_BUSY = false ∧ ((s.wr pgTACK TACK.STAT_PHASE 4).tackRead).1 = some fullSet
      ∧ ((tackAxes fullSet).map fun l => (l.map (·.1), l.map (·.2.1.place))) = some ([3], [.port 0 0]) ∧ tackBlocks fullSet = some [(0x1000, [1, 2, 3, 4, 5, 6, 7, 8])]
      ∧ tackWrites fullSet = [(pgFBCH 0, FBCH.CFG, 1)] ∧ tackStart fullSet = [pgFBCH 0] ∧ s.gateKind mBoot (regAddr pgBUCKLE BUCKLE.SCRCEXP) 4 true = none
      ∧ s.pageOn pgBUCKLE = true ∧ s.st pgBUCKLE = 1 := by decide

/-- R492: phase 4 writes the list, the map and the block, phase 5 starts the page, and the switch ends. -/
theorem test_tack_load :
    let t := after .tackPowerDone (loading fullSet)
    t.rd (pgFBCH 0) FBCH.CFG_MODE = 1 ∧ (t.axis 3).map.map (·.rslot) = some 1 ∧ t.bytes 0x1000 8 = [1, 2, 3, 4, 5, 6, 7, 8] ∧ 1 < t.st (pgFBCH 0)
      ∧ t.reg pgTACK TACK.SWITCHES = 1 ∧ t.rd pgTACK TACK.STAT_PHASE = 0 ∧ t.on pgTACK TACK.STAT_BUSY = false ∧ t.on pgTACK TACK.STAT_PARTIAL = false := by decide

/-- R488: pins that name another stored set begin its switch, and GIRTH stops; a set that is not stored is refused. -/
theorem test_tack_pins :
    let s := (((tackOn []).wr pgTACK TACK.CFG_PINSEL 1).fabStore mHost 0 tackImage).2
    let idle := s.wr pgTACK TACK.STAT_ACTIVE 7
    (after (.tackselPinRequest 0) idle).rd pgTACK TACK.STAT_PHASE = 2 ∧ (after (.tackselPinRequest 0) idle).on pgTACK TACK.STAT_BUSY = true
      ∧ (after (.tackselPinRequest 1) idle).reg pgTACK TACK.REJECTS = 1 ∧ (after (.tackselPinRequest 0) (s.wr pgTACK TACK.STAT_ACTIVE 0)).rd pgTACK TACK.STAT_PHASE = 0 := by
  decide +kernel

theorem test_witness_tack_ends :
    let s := (tackOn []).wr pgTACK TACK.CFG_PINSEL 1
    let b : State := { s.wr pgTACK TACK.STAT_PHASE 3 with flips := [(0, 7)] }
    (s.wr pgTACK TACK.STAT_PINS 2).rd pgTACK TACK.STAT_ACTIVE ≠ (s.wr pgTACK TACK.STAT_PINS 2).rd pgTACK TACK.STAT_PINS ∧ s.running pgTACK = true
      ∧ b.rd pgTACK TACK.STAT_PHASE = 3
      ∧ (let r := (built [inState pgTACK 3]).bootAct (pgFBCH 0) HDR.PCTL (fun u => u.tryStart (pgFBCH 0))
        1 < r.st (pgFBCH 0) ∧ ((built [inState pgTACK 3]).tackStartPage (pgFBCH 0)).tack.starts = [pgFBCH 0])
      ∧ (let r := (built [inState pgTACK 3, (pgFBCH 0, FBCH.CFG, 3)]).bootAct (pgFBCH 0) HDR.PCTL (fun u => u.tryStart (pgFBCH 0)); r.st (pgFBCH 0) ≤ 1) := by decide

/-- A good image of 512 bytes: version 5, one section of 8 bytes from 272 to 0x2000 (R484). -/
def goodImage : List Byte :=
  [0x55, 0x42, 0x57, 0x4E] ++ leBytes 2 1 ++ leBytes 2 0 ++ leBytes 4 5 ++ leBytes 4 512 ++ leBytes 2 1 ++ [1, 4] ++ List.replicate 236 0
    ++ leBytes 2 1 ++ leBytes 2 0 ++ leBytes 4 272 ++ leBytes 4 8 ++ leBytes 4 0x2000 ++ [1, 2, 3, 4, 5, 6, 7, 8] ++ List.replicate 232 0

theorem test_witness_good_image :
    let s := State.reset
    s.boot.phase = 0 ∧ imageHeaderOk goodImage = true ∧ imageTableOk goodImage = true ∧ fieldAt goodImage 12 4 ≤ goodImage.length
      ∧ 256 + 16 * fieldAt goodImage 16 2 ≤ goodImage.length ∧ (imageDomains goodImage).foldl withBit s.domains = s.domains ∧ s.otpFlag 0 = false
      ∧ ¬ fieldAt goodImage 8 4 < s.minVersion ∧ fieldAt goodImage 8 4 < (s.setReg pgBOOT (BOOT.OTPRD 9) 0x3F).minVersion := by decide

/-- R484–R487: the image is copied, DONE with its version; one below MINVER is not (reason 6), slot B comes next. -/
theorem test_good_image :
    let t := after (.bootComplete goodImage none) State.reset
    let u := after (.bootComplete goodImage none) (State.reset.setReg pgBOOT (BOOT.OTPRD 9) 0x3F)
    t.on pgBOOT BOOT.STAT_DONE = true ∧ t.reg pgBOOT BOOT.IVER = 5 ∧ t.bytes 0x2000 8 = [1, 2, 3, 4, 5, 6, 7, 8]
      ∧ u.on pgBOOT BOOT.STAT_DONE = false ∧ u.rd pgBOOT BOOT.STAT_REASON = 6 ∧ u.boot.phase = 1 ∧ u.byte 0x2000 = 0 := by decide

theorem test_witness_fail_silent : codeClass 0x0604 = .d ∧ codeClass 0x1001 ≠ .d ∧ (built []).pageOn (pgSTITCH 7) = true ∧ (built []).pageOn (pgAXCH 15) = true
    ∧ ((built []).wr (pgAXCH 15) AXCH.CFG_DIR 1).on (pgAXCH 15) AXCH.CFG_DIR = true ∧ ((built []).wr pgFLD FLD.STAT_LINK 1).on pgFLD FLD.STAT_LINK = true := by decide

/-- R502: a class-D fault silences the block: FATAL with its code, which a second one leaves; no output, no frame, no command to the outputs. -/
theorem test_fail_silent :
    let s := (built [(pgSTO, STO.WORD, 0xFF), (pgAXCH 3, AXCH.OCFG_RESTCODE.off, 0)]).wr (pgSTITCH 2) STITCH.OUTSTAT_OUT 5 |>.wr pgSTO STO.OUTSTAT_CMD 3
    let t := s.fault pgFLT 0x0604 0
    t.fatal = true ∧ t.rd pgFLT FLT.STAT_FATALCODE = 0x0604 ∧ (t.fault pgFLT 0x0602 0).rd pgFLT FLT.STAT_FATALCODE = 0x0604 ∧ t.reg pgSTO STO.WORD = 0
      ∧ t.rd pgSTO STO.OUTSTAT_CMD = 0 ∧ t.rd (pgSTITCH 2) STITCH.OUTSTAT_OUT = 0 ∧ (t.send (.msix 1)).wire = t.wire := by decide
/-! ### Debug -/

theorem test_witness_debug_ports :
    let s := built [openGate 0, openGate 92, inState (pgAWL 5) 3]
    s.debugOpen 0 = false ∧ Reaches s 0 (pgAWL 5) AWL.DBGCTL true ∧ s.debugLock = false ∧ Reaches s host (pgAWL 5) AWL.DBGCTL true
      ∧ Reaches s debug (pgAWL 5) AWL.DBGCTL true ∧ s.rd (pgAWL 5) AWL.DBGCTL_STEP = 0 ∧ s.running (pgAWL 5) = true ∧ s.halted 5 = false
      ∧ (s.wr (pgAWL 5) AWL.DBGSTAT_HALTED 1).halted 5 = true ∧ (built []).running (pgAWL 5) = false := by
  unfold Reaches; decide

theorem test_witness_debug_registers :
    let s := built [openGate 0, openGate 92, inState (pgAWL 5) 3]
    Reaches s host (pgAWL 5) AWL.DBGRDATA true ∧ Reaches s host (pgAWL 5) AWL.DBGRDATA false ∧ s.debugOpen host = true
      ∧ Reaches s host (pgAWL 5) AWL.BP0 true ∧ Reaches s 0 (pgAWL 5) AWL.BP1 true ∧ Reaches s host (pgAWL 5) AWL.DBGRSEL true
      ∧ (s.setReg (pgAWL 5) AWL.DBGRSEL 79).rd (pgAWL 5) AWL.DBGRSEL_REG = 79 ∧ (s.setReg (pgAWL 5) AWL.DBGRSEL 64).rd (pgAWL 5) AWL.DBGRSEL_REG = 64
      ∧ (s.setReg (pgAWL 5) AWL.DBGRSEL 92).rd (pgAWL 5) AWL.DBGRSEL_REG = 92 := by
  unfold Reaches; decide

/-- Awl 0 executes an instance of task 0 with registers as listed. -/
def awlRuns (l : List (Nat × Nat × Nat)) : State :=
  let s := cinchOn { tasks := [task0], tokens := [{ token0 with on := some (0, 0) }] }
  l.foldl (fun s r => s.setReg r.1 r.2.1 (BitVec.ofNat 32 r.2.2)) s

theorem test_witness_breakpoints :
    let s := awlRuns [(pgAWL 0, AWL.DBGCTL, AWL.DBGCTL_BKEN.put 1 0 |>.toNat), (pgAWL 0, AWL.BP0, 0x80000000), (pgAWL 0, AWL.BP1, 0x80000004)]
    s.running (pgAWL 0) = true ∧ s.halted 0 = false ∧ s.awlBusy 0 = true ∧ s.on (pgAWL 0) AWL.DBGCTL_BKEN = true ∧ (s.act 0).bpSkip = false
      ∧ s.on (pgAWL 0) AWL.BP0_EN = true ∧ s.rd (pgAWL 0) AWL.BP0_ADDR / 4 = (s.act 0).pc / 4 ∧ s.on (pgAWL 0) AWL.BP1_EN = true
      ∧ ¬ s.rd (pgAWL 0) AWL.BP1_ADDR / 4 = (s.act 0).pc / 4 := by decide

/-- R271–R274: the host halts and resumes; a breakpoint gives REASON 3; another master is refused; DBGRDATA writes D0. -/
theorem test_debug :
    let s := awlRuns [openGate 0, (pgAWL 0, AWL.DBGCTL, AWL.DBGCTL_BKEN.put 1 0 |>.toNat), (pgAWL 0, AWL.BP0, 0x80000000)]
    (after (.hardwareBreakpoint 0) s).rd (pgAWL 0) AWL.DBGSTAT_REASON = 3 ∧ (after (.haltRequest 0 0) s).rd (pgAWL 0) HDR.PSTAT_CFGREJ = 1
      ∧ (after (.haltRequest host 0) s).halted 0 = true ∧ (after (.haltResume host 0) (after (.haltRequest host 0) s)).halted 0 = false
      ∧ ((after (.dbgrdataAccess host 0 (some 7)) ((after (.haltRequest host 0) s).setReg (pgAWL 0) AWL.DBGRSEL 64)).act 0).D 0 = 7 := by decide

/-! ### Pairs -/

/-- Latigo runs on lane L0 with a role and a pair state. -/
def pairOn (role ps : Nat) (l : List (Nat × Nat × Nat)) : State :=
  ((built ([inState pgLAT 3, (pgLAT, LAT.PCFG, 0x80100400), (pgLAT, LAT.STAT, 0x10000)] ++ l)).wr pgLAT LAT.STAT_ROLE role).wr pgLAT LAT.STAT_PSTATE ps

/-- A clean tether frame with a payload. -/
def tether (cls : Nat) (b : List Byte) : RxFrame :=
  rx { etype := 0x88B5, ver := 1, cls := cls, port := 0xFF, node := 0, cyc := 0, flags := 0, len := b.length, axcnt := 0, markadj := 0, holdmax := 0, payload := b }

theorem test_witness_pair_transmission :
    (pairOn 1 3 []).running pgLAT = true ∧ (pairOn 1 3 []).on pgLAT LAT.PCFG_EN = true ∧ (built []).running pgLAT = false
      ∧ (pairOn 0 0 []).rd pgLAT LAT.STAT_ROLE = 0 ∧ (pairOn 0 0 []).latPstate = psUNPAIRED ∧ (pairOn 0 0 []).on pgLAT LAT.STAT_CFGERR = false
      ∧ (pairOn 1 3 []).rd pgLAT LAT.STAT_ROLE = 1 ∧ ({ pairOn 1 3 [] with lat := { coldOff := true } } : State).lat.coldOff = true
      ∧ (pairOn 1 3 []).girthOn = false ∧ (pairOn 1 3 [inState pgGIRTH 3]).girthOn = true ∧ (pairOn 1 3 []).on pgLAT LAT.STAT_LANE0 = true
      ∧ ((pairOn 0 0 []).wr pgLAT LAT.STAT_CFGERR 1).on pgLAT LAT.STAT_CFGERR = true := by decide

/-- R379: an UNPAIRED device sends COLDSTART on L0, and no TETHER-SYNC. -/
theorem test_pair_cold :
    (after .tetherColdstartSend (pairOn 0 0 [])).wire.length = 1 ∧ (after .tetherSyncSend (pairOn 0 0 [])).wire.length = 0
      ∧ (after .tetherColdstartSend (built [])).wire.length = 0 := by decide

/-- A COLDSTART of PAIRID `k` without a running network, on the other plane. -/
def cold (k : Nat) : RxFrame :=
  let f := tether 0xB (leBytes 6 0 ++ leBytes 2 0 ++ leBytes 4 4000 ++ leBytes 1 2 ++ leBytes 3 0)
  { f with srcK := k, frame := { f.frame with flags := 1 } }

theorem test_witness_pair_coldstart :
    let s := pairOn 0 0 [(pgGLOB, GLOB.STRAP, GLOB.STRAP_PAIRID.put 2 0 |>.toNat)]
    s.latOn = true ∧ cleanTether (cold 3) 0xB 16 ∧ s.on pgLAT LAT.STAT_CFGERR = false ∧ s.latPstate = psUNPAIRED ∧ s.rd pgGLOB GLOB.STRAP_PAIRID = 2
      ∧ fieldAt (cold 3).frame.payload 8 4 = s.tc ∧ fieldAt (cold 3).frame.payload 12 1 = s.perdiv ∧ (cold 3).frame.flags % 2 ≠ s.planeBit := by
  unfold cleanTether; decide

theorem test_witness_pair_coldstart_fields :
    let s := pairOn 0 0 [(pgGLOB, GLOB.STRAP, GLOB.STRAP_PAIRID.put 2 0 |>.toNat)]
    fieldAt (cold 3).frame.payload 0 6 = 0 ∧ s.girthOn = false ∧ (cold 3).srcK = 3 ∧ (cold 2).srcK = 2 ∧ (cold 1).srcK = 1
      ∧ ({ cold 1 with frame := { (cold 1).frame with flags := 0 } }).frame.flags % 2 = s.planeBit
      ∧ { cold 3 with fcsOk := false }.fcsOk = false ∧ { cold 3 with vErr := true }.vErr = true ∧ { cold 3 with cgErr := 1 }.cgErr ≠ 0 := by decide

/-- R379: the lower PAIRID leads. -/
theorem test_pair_roles :
    let s := pairOn 0 0 [(pgGLOB, GLOB.STRAP, GLOB.STRAP_PAIRID.put 2 0 |>.toNat)]
    (after (.coldstartReceive (cold 3)) s).latRole = 1 ∧ (after (.coldstartReceive (cold 1)) s).latRole = 2
      ∧ (after (.coldstartReceive (cold 1)) s).latPstate = psLOCKING := by decide

theorem test_witness_pair_arrive :
    cleanTether (tether 0xA (leBytes 4 1 ++ leBytes 4 0x80000001)) 0xA 8
      ∧ fieldAt (tether 0xA (leBytes 4 1 ++ leBytes 4 0x80000001)).frame.payload 0 1 = 1 := by
  unfold cleanTether; decide

/-- A TETHER-SYNC of a role, its Girth running or not. -/
def sync (role run : Nat) : List Byte := leBytes 6 0 ++ [BitVec.ofNat 8 role] ++ List.replicate 37 0 ++ leBytes 4 run ++ List.replicate 144 0

theorem test_witness_pair_sync : cleanTether (tether 9 (sync 2 1)) 9 192 := by unfold cleanTether; decide

theorem test_witness_pair_sync_cases :
    fieldAt (sync 0 0) 6 1 = 0 ∧ fieldAt (sync 1 1) 6 1 = 1 ∧ fieldAt (sync 2 1) 6 1 = 2 ∧ bitOf (fieldAt (sync 1 1) 44 4) 0 = true
      ∧ bitOf (fieldAt (sync 2 0) 44 4) 0 = false ∧ (pairOn 0 0 []).on pgLAT LAT.STAT_CFGERR = false ∧ (pairOn 0 0 []).latPstate = psUNPAIRED
      ∧ (pairOn 2 3 []).latPstate ≠ psUNPAIRED ∧ (pairOn 2 3 []).latPstate ≠ psSOLO ∧ (0 : BitVec 64) ≠ 1
      ∧ ({ tether 9 (sync 1 1) with srcK := 3 }).srcK ≠ (pairOn 0 0 []).rd pgGLOB GLOB.STRAP_PAIRID
      ∧ { (tether 9 (sync 1 1)).frame with flags := 1 }.flags % 2 ≠ (pairOn 0 0 []).planeBit
      ∧ (tether 9 (sync 1 1)).frame.flags % 2 = (pairOn 0 0 []).planeBit := by decide

/-- R379: a TETHER-SYNC of a leader makes a device without a running Girth its follower; one in which both run is a fault. -/
theorem test_pair_sync :
    let f : RxFrame := { tether 9 (sync 1 1) with srcK := 3, frame := { (tether 9 (sync 1 1)).frame with flags := 1 } }
    (after (.tetherSyncReceive f) (pairOn 0 0 [])).latRole = 2 := by decide

theorem test_witness_pair_cmd : cleanTether (tether 0xA ([2, 0, 0, 0, 7, 1, 0, 0] ++ List.replicate 32 0)) 0xA 40
    ∧ fieldAt ([2, 0, 0, 0, 7, 1, 0, 0] : List Byte) 0 1 = 2 ∧ fieldAt ([2, 0, 0, 0, 7, 1, 0, 0] : List Byte) 5 1 = 1 := by
  unfold cleanTether; decide

theorem test_witness_pair_rreq : cleanTether (tether 0xA (leBytes 4 5 ++ leBytes 4 0xFFFFFFFF)) 0xA 8 := by unfold cleanTether; decide

theorem test_witness_pair_rcopy :
    cleanTether (tether 0xA ([3, 0, 0, 0, 3, 0] ++ List.replicate 1546 0)) 0xA 1552 ∧ fieldAt ([3, 0, 0, 0, 3, 0] ++ List.replicate 1546 0 : List Byte) 4 2 = 3 := by
  unfold cleanTether; decide

theorem test_witness_pair_rblock :
    cleanTether (tether 0xA ([4, 0, 0, 0, 2, 0] ++ List.replicate 1034 0)) 0xA 1040 ∧ fieldAt ([4, 0, 0, 0, 2, 0] : List Byte) 4 2 < 3 := by
  unfold cleanTether; decide

theorem test_witness_pair_order :
    (pairOn 2 3 []).latRole = 2 ∧ (pairOn 2 3 []).expected 7 = 0 ∧ (0 + 256 - (pairOn 2 3 []).expected 7) % 256 = 0
      ∧ (pairOn 1 3 []).latRole ≠ 2 ∧ ({ pairOn 2 3 [] with lat := { lost := true } } : State).lat.lost = true
      ∧ (0 + 1) % 2 ^ (pairOn 2 3 []).rd (pgCINCHB 7) CINCHB.CMDCFG_RINGLOG2 ≠ (pairOn 2 3 []).rd (pgCINCHB 7) CINCHB.CMDHEAD_INDEX
      ∧ (pairOn 2 3 []).cinch.cwCyc = none ∧ ({ pairOn 2 3 [] with lat := { expect := [(7, 1)] } } : State).expected 7 = 1 := by decide

theorem test_witness_pair_copies :
    let s : State := { pairOn 2 2 [] with lat := { want := [(0, 3)] }, girth := { (built []).girth with cw := some 0 } }
    let m : CopyMsg := { kind := 0, index := 3, cyc := 0, bytes := List.replicate 896 0, image := .pg {} }
    let h : State := { axisIn .stopped id s with lat := { s.lat with held := [m] } }
    s.wanted 0 3 = true ∧ s.wanted 1 3 = false ∧ s.wanted 0 4 = false ∧ s.girth.cw = some 0 ∧ ¬ (0 : BitVec 48).toNat < (0 : BitVec 48).toNat
      ∧ (0 : BitVec 48).toNat < (1 : BitVec 48).toNat ∧ (h.lat.held.filter fun x => x.kind == 0 && x.index == 3) = [m] ∧ h.copyReady m = true
      ∧ (h.axis 3).map = some map3 ∧ ({ h with girth := { h.girth with cw := none } } : State).copyReady m = false ∧ ({ h with girth := { h.girth with cw := some 1 } } : State).copyReady m = true ∧ s.lat.held = [] := by decide

/-- R388: a held copy of the cycle is installed: the generator image and the wanted list. -/
theorem test_pair_copy :
    let s : State := { pairOn 2 2 [] with lat := { want := [(0, 3)] }, girth := { (built []).girth with cw := some 0 } }
    let m : CopyMsg := { kind := 0, index := 3, cyc := 0, bytes := List.replicate 896 0, image := .pg { tgt := 5 } }
    let h : State := { axisIn .stopped id s with lat := { s.lat with held := [m] } }
    ((after (.copyInstall 0 3) h).pg 3).tgt = 5 ∧ (after (.copyInstall 0 3) h).lat.want = [] := by decide

theorem test_witness_pair_states :
    let s := pairOn 2 3 [inState pgGIRTH 3]
    s.latOn = true ∧ s.laneSync 0 = true ∧ s.girthOn = true ∧ s.rd pgLAT LAT.PCFG_TLOST = 4 ∧ s.lat.since = 0
      ∧ s.rd pgLAT LAT.PCFG_TLOST < ({ s with lat := { since := 5 } } : State).lat.since ∧ s.latRole = 2 ∧ s.lat.lost = false ∧ (pairOn 1 3 [inState pgGIRTH 3]).latRole = 1
      ∧ (pairOn 2 4 []).latPstate = psHOLDOVER ∧ (pairOn 2 4 []).rd pgLAT LAT.HOLDCFG_HOLDLIM = 9000
      ∧ ({ s with lat := { listen := true } } : State).lat.listen = true ∧ ({ s with lat := { hcyc := some 0 } } : State).lat.hcyc = some s.girth.cyc
      ∧ s.lat.hcyc ≠ some s.girth.cyc := by decide

theorem test_witness_pair_writes :
    let s := (pairOn 1 3 [inState pgGIRTH 3, (pgGLOB, GLOB.STRAP, GLOB.STRAP_PAIRID.put 2 0 |>.toNat)]).wr pgLAT LAT.STAT_TWINID 1
    let u := pairOn 0 0 [inState pgGIRTH 3]
    Reaches s host pgLAT LAT.CTL true ∧ s.latOn = true ∧ s.latRole = 1 ∧ s.rd pgLAT LAT.STAT_TWINID < s.rd pgGLOB GLOB.STRAP_PAIRID
      ∧ ({ s with lat := { twinPstate := 3 } } : State).lat.twinPstate = psACTIVE ∧ s.lat.lost = false ∧ s.lat.twinPstate ≠ psACTIVE
      ∧ u.latPstate = psUNPAIRED ∧ u.st pgGIRTH = 3 ∧ (pairOn 0 0 []).st pgGIRTH = 1
      ∧ u.rd pgLAT LAT.PCFG_TLOST ≤ (({ u with time := { raw := 1024000 } } : State).time.raw - u.lat.heardAt).toNat / (u.tc * 64) ∧ s.lat.hcyc = none
      ∧ Reaches s host pgLAT LAT.TRATE true ∧ State.reset.pageOn pgLAT = false ∧ (built [inState pgLAT 2]).st pgLAT = 2
      ∧ (built [inState pgLAT 2]).on pgLAT (SHELL.CALSTAT_BUSY 0) = false ∧ (pairOn 1 3 []).st pgLAT ≠ 2
      ∧ ((pairOn 1 3 []).wr pgLAT LAT.STAT_LANE1 1).laneSync 1 = true ∧ (built []).latOn = false := by
  unfold Reaches; decide

/-- R392, R393: a handover is announced 16 cycles on, once; SOLO after TLOST quiet cycles. -/
theorem test_pair_writes :
    let s := (pairOn 1 3 [inState pgGIRTH 3, (pgGLOB, GLOB.STRAP, GLOB.STRAP_PAIRID.put 2 0 |>.toNat)]).wr pgLAT LAT.STAT_TWINID 1
    (after (.handoverWrite host) { s with lat := { twinPstate := 3 } }).lat.hcyc = some 16 ∧ (after (.handoverWrite host) s).rd pgLAT HDR.PSTAT_CFGREJ = 1
      ∧ (after (.handoverWrite host) { s with lat := { twinPstate := 3, hcyc := some 9 } }).lat.hcyc = some 9
      ∧ (after (.soloWrite host) { pairOn 0 0 [inState pgGIRTH 3] with time := { raw := 1024000 } }).latPstate = psSOLO
      ∧ (after (.soloWrite host) { pairOn 0 0 [inState pgGIRTH 3] with time := { raw := 1023999 } }).rd pgLAT HDR.PSTAT_CFGREJ = 1
      ∧ (after (.tetherLaneSyncChange 1 true) (built [inState pgLAT 2])).st pgLAT = 3 := by decide

/-! ### Stamp -/

/-- Stamp 0 in an acquisition state, one signal, 16 samples a slot, one granule, `h` slots held. -/
def stampIn (acq h : Nat) : State :=
  (built [inState (pgSTAMP 0) 3, (pgSTAMP 0, STAMP.SIG 0, 0x80000000), (pgSTAMP 0, STAMP.SEGCFG, 9)]).wr (pgSTAMP 0) STAMP.ACQCFG_RLEN 16
    |>.wr (pgSTAMP 0) STAMP.REGION_NGRAN 1 |>.wr (pgSTAMP 0) STAMP.HELD_HELD h |>.wr (pgSTAMP 0) STAMP.STAT_ACQ acq

theorem test_witness_stamp :
    Reaches (stampIn 0 0) host (pgSTAMP 0) STAMP.CTL true ∧ (stampIn 0 0).running (pgSTAMP 0) = true ∧ (stampIn 0 0).acq 0 = acqIDLE
      ∧ (stampIn 5 0).acq 0 = acqDONE ∧ (stampIn 1 0).acq 0 = acqQWAIT ∧ (stampIn 2 0).acq 0 = acqFILL ∧ (stampIn 3 0).acq 0 = acqARMED ∧ (stampIn 4 0).acq 0 = acqPOST
      ∧ (built []).running (pgSTAMP 0) = false ∧ Reaches (stampIn 1 2) host (pgSTAMP 0) STAMP.RELEASE true ∧ (stampIn 1 2).rd (pgSTAMP 0) STAMP.HELD_HELD = 2
      ∧ (stampIn 0 0).stampSoon 0 = false ∧ 0 < (stampIn 1 2).nslot 0 ∧ (stampIn 1 2).filling 0 = false ∧ Reaches (stampIn 0 0) host (pgSTAMP 0) STAMP.QUOTA true := by
  unfold Reaches; decide

/-- R402, R404: ARM, the release of as many slots as held and of one more, and the limits of QUOTA. -/
theorem test_stamp :
    (after (.arm host 0) (stampIn 5 0)).acq 0 = acqQWAIT ∧ (after (.arm host 0) (stampIn 5 0)).rd (pgSTAMP 0) STAMP.SEGLEFT_COUNT = 9
      ∧ (after (.arm host 0) (stampIn 1 0)).rd (pgSTAMP 0) HDR.PSTAT_CFGREJ = 1 ∧ (after (.release host 0 2) (stampIn 1 2)).rd (pgSTAMP 0) STAMP.IDX_RD = 2
      ∧ (after (.release host 0 3) (stampIn 1 2)).rd (pgSTAMP 0) HDR.PSTAT_CFGREJ = 1 ∧ (after (.abort host 0) (stampIn 4 0)).reg (pgSTAMP 0) STAMP.UNFILLED = 1
      ∧ (after (.quotaWrite host 0 0x01000000) (stampIn 0 0)).rd (pgSTAMP 0) STAMP.QUOTA_BYTES = 0x01000000
      ∧ (after (.quotaWrite host 0 0x01000001) (stampIn 0 0)).rd (pgSTAMP 0) HDR.PSTAT_CFGREJ = 1 := by decide


/-- R410, R144: a write less than 40 ns before the sampling CUTOFF tick, the first edge at or after its instant, is kept for after its sample. -/
theorem test_stamp_late :
    let cut : Nat := 64 * (netAt 0 []).rd pgGIRTH GIRTH.CWIN_CUTOFF
    let s (back : Nat) : State := { ((stampIn 4 0).setSt pgGIRTH 3).wr (pgSTAMP 0) STAMP.ACQCFG_SDIV 1 with time := { raw := BitVec.ofNat 64 (cut - back) } }
    (s 576).stampSoon 0 = true ∧ (s 640).stampSoon 0 = false ∧ (s 639).stampSoon 0 = false ∧ ((after (.abort host 0) (s 576)).stamp 0).late.length = 1
      ∧ (after (.abort host 0) (s 576)).acq 0 = acqPOST ∧ (after (.abort host 0) (s 640)).acq 0 = acqIDLE := by decide

/-! ### The twin: late entries, a device alone; Stamp: samples and records -/

/-- A forwarded entry of Bench 0 for a cycle. -/
def fwd (apply : Nat) : List Byte := [0x12, 0, 3, 0] ++ leBytes 6 apply ++ List.replicate 22 0

theorem test_witness_forwarded_late :
    let s (ps : Nat) : State := { pairOn 2 ps [] with girth := { (built []).girth with cw := some 5 } }
    (s 3).latRole = 2 ∧ (s 3).girth.cw = some 5 ∧ fieldAt (fwd 5) 4 6 = 5 ∧ (5 : BitVec 48).toNat < fieldAt (fwd 6) 4 6 ∧ (s 3).expected 0 = 0
      ∧ (0 + 1) % 2 ^ (s 3).rd (pgCINCHB 0) CINCHB.CMDCFG_RINGLOG2 ≠ (s 3).rd (pgCINCHB 0) CINCHB.CMDHEAD_INDEX
      ∧ (s 3).actsAlone = false ∧ (s 5).actsAlone = true ∧ (s psLOCKING).actsAlone = false := by decide

/-- R384: an entry in time enters the ring and is counted; one out of sequence is kept as a gap, one already had is dropped. -/
theorem test_forwarded :
    let s : State := { pairOn 2 3 [openGate 90] with girth := { (built []).girth with cw := some 5 } }
    (s.takeForwarded 0 0 (fwd 6)).rd (pgCINCHB 0) CINCHB.CMDTAIL_INDEX = 1 ∧ (s.takeForwarded 0 0 (fwd 6)).reg pgLAT LAT.CMDFWD = 1
      ∧ (s.takeForwarded 0 2 (fwd 6)).lat.gap = [(0, 2, 6)] ∧ s.takeForwarded 0 255 (fwd 6) = s := by decide

theorem test_witness_pair_alone :
    (pairOn 0 psSOLO []).latPstate = psSOLO ∧ (pairOn 0 psSOLO []).on pgLAT LAT.STAT_CFGERR = false
      ∧ ({ pairOn 1 3 [] with lat := { lost := true } } : State).lat.lost = true ∧ (pairOn 1 3 []).latRole = 1 ∧ psSOLO ≠ psUNPAIRED
      ∧ ((pairOn 0 0 []).wr pgLAT LAT.STAT_CFGERR 1).on pgLAT LAT.STAT_CFGERR = true
      ∧ (atTick 4000 (pairOn 1 3 [inState pgGIRTH 3])).due ((pairOn 1 3 []).rd pgLAT LAT.SCHED_SYNCT) = true
      ∧ (atTick 4000 (pairOn 1 3 [inState pgGIRTH 3])).due (pairOn 1 3 []).arrTick = true
      ∧ ({ pairOn 1 3 [] with lat := { coldOff := true } } : State).lat.coldOff = true := by decide

/-- Stamp 0 samples the COUNT of channel 0 in every cycle: records of two samples in a region at 0x100000, triggered above 10. -/
def stampRuns (acq pre count : Nat) (l : List (Nat × Fld × Nat)) : State :=
  let p := pgSTAMP 0
  ([(p, STAMP.SIG_EN 0, 1), (p, STAMP.SIG_KIND 0, 1), (p, STAMP.ACQCFG_RLEN, 2), (p, STAMP.ACQCFG_SDIV, 1), (p, STAMP.REGION_BASE, 16), (p, STAMP.REGION_NGRAN, 1),
      (p, STAMP.SEGCFG_PRE, pre), (p, STAMP.SEGLEFT_COUNT, 1), (p, STAMP.QUOTA_BYTES, 4096), (p, STAMP.CONDCFG_TRIGEN, 1), (p, STAMP.CONDCFG_LABOVE, 1), (p, STAMP.STAT_ACQ, acq)] ++ l).foldl
    (fun s e => s.wr e.1 e.2.1 e.2.2)
    (built [openGate 73, inState p 3, inState (pgFBCH 0) 3, inState pgGIRTH 3, (pgFBCH 0, FBCH.COUNT, count), (p, STAMP.LVLTHR, 10)])

theorem test_witness_stamp_samples :
    let s := stampRuns acqQWAIT 0 20 []
    let z := atTick ((built []).rd pgGIRTH GIRTH.CWIN_CUTOFF) s
    s.por = false ∧ s.girthServes = true ∧ z.due (z.rd pgGIRTH GIRTH.CWIN_CUTOFF) = true ∧ s.running (pgSTAMP 0) = true ∧ s.girthOn = true ∧ s.acq 0 = acqQWAIT
      ∧ s.cyc % s.rd (pgSTAMP 0) STAMP.ACQCFG_SDIV = 0 ∧ (s.readSample 0 0).1 = [(0, 20)] ∧ (s.maskTest 0 [(0, 20)]).1 = some false ∧ s.slotFree 0 = true
      ∧ (s.takeSlot 0).1 = true ∧ (s.takeSlot 0).2.acq 0 = acqARMED ∧ ((s.takeSlot 0).2.storeSample 0 [(0, 20)] false).1 = true
      ∧ ((stampRuns acqARMED 0 20 []).storeSample 0 [(0, 20)] false).1 = true ∧ (stampRuns acqQWAIT 0 20 [(pgSTAMP 0, STAMP.QUOTA_BYTES, 0)]).slotFree 0 = false
      ∧ (stampRuns acqFILL 1 20 []).acq 0 = acqFILL := by decide

theorem test_witness_stamp_masks :
    let m := stampRuns acqARMED 0 20 [(pgSTAMP 0, STAMP.MASKCFG_MEN, 1), (pgSTAMP 0, STAMP.MASKCFG_MLEN, 1), (pgSTAMP 0, STAMP.MASKCFG_MSTOP, 1)]
    let p (l : List (Nat × Word)) : State := (m.maskTest 0 l).2
    m.on (pgSTAMP 0) STAMP.MASKCFG_MEN = true ∧ (m.stampGet 0 (m.regionBase 0 + m.regionSize 0 - m.maskBytes 0 + 8 * 0) 8).1 = some (List.replicate 8 0)
      ∧ (m.maskTest 0 [(0, 0)]).1 = some false ∧ (m.maskTest 0 [(0, 20)]).1 = some true ∧ (p [(0, 20)]).reg (pgSTAMP 0) STAMP.VIOL = 1
      ∧ m.on (pgSTAMP 0) STAMP.MASKCFG_MSTOP = true ∧ (m.afterStore 0 0 true).acq 0 = acqDONE ∧ (m.afterStore 0 0 true).reg (pgSTAMP 0) STAMP.UNFILLED = 1 := by decide

theorem test_witness_stamp_after :
    let a := stampRuns acqARMED 0 20 []
    let f := stampRuns acqFILL 1 20 []
    let post := (stampRuns acqPOST 0 20 []).setStamp 0 { np := 1, stored := 2 }
    a.acq 0 ≠ acqPOST ∧ a.rd (pgSTAMP 0) STAMP.SEGCFG_PRE ≤ (a.stamp 0).nb ∧ a.holdoffOver 0 = true ∧ 0 + 1 ≠ a.rlen 0 - 0 ∧ (post.stamp 0).np + 1 = post.rlen 0 - 0
      ∧ ¬ 1 ≤ (f.stamp 0).nb ∧ (f.afterStore 0 1 false).acq 0 = acqARMED ∧ (f.afterStore 0 1 false).reg (pgSTAMP 0) STAMP.TRIGIGN = 1 ∧ 0 < a.nslot 0
      ∧ a.gateKind (mStamp 0) 0x100000 8 true = none ∧ (built []).gateKind (mStamp 0) 0x100000 8 true = some 1
      ∧ ((a.setStamp 0 { lastTrig := some 1 }).wr (pgSTAMP 0) ⟨STAMP.HOLDOFF, 31, 0, .rw, 0⟩ 9).holdoffOver 0 = false := by decide

/-- R405, R408, R409: the first sample above the threshold takes a slot and triggers; the second completes the record with cause LEVEL and both samples. -/
theorem test_stamp_record :
    let s := stampRuns acqQWAIT 0 20 []
    let one := s.stampStep 0 0 false
    let two := one.stampStep 0 0 false
    one.acq 0 = acqPOST ∧ one.bytes 0x100006 2 = [0, 0] ∧ (one.stamp 0).cause = 1 ∧ two.acq 0 = acqDONE ∧ two.rd (pgSTAMP 0) STAMP.HELD_HELD = 1
      ∧ two.reg (pgSTAMP 0) STAMP.FILLED = 1 ∧ two.bytes 0x100006 2 = [5, 0] ∧ two.bytes 0x100014 4 = [1, 0, 2, 0] ∧ two.bytes 0x100020 8 = [20, 0, 0, 0, 20, 0, 0, 0] := by decide

/-- R400: CUTOFF lets a unit sample once in its cycle. -/
theorem test_stamp_cutoff :
    let s := atTick ((built []).rd pgGIRTH GIRTH.CWIN_CUTOFF) (stampRuns acqARMED 0 5 [])
    ((after (.cutoff 0 0 0) s).stamp 0).stored = 1 ∧ (after (.cutoff 0 0 0) s).acq 0 = acqARMED := by decide
/-! ### Buckle and the field die -/

/-- A state with fields as listed. -/
def fields (l : List (Nat × Fld × Nat)) (s : State) : State := l.foldl (fun s r => s.wr r.1 r.2.1 r.2.2) s

/-- Buckle runs with SF0 (E-stop type, inputs 0 and 1, reset input 2) in a state, fresh samples in the classes listed. -/
def buckleOn (l : List (Nat × Fld × Nat)) (cls : List Nat) : State :=
  let s := fields ([(pgSF 0, SF.CFG_EN, 1), (pgSF 0, SF.INPUT_CH2, 1), (pgSF 0, SF.INPUT_RST, 2), (pgSF 0, SF.GROUPS_MASK, 1), (pgSTO, STO.GRPEN_EN, 3), (pgBUCKLE, HDR.CLAIM_HELD, 1)] ++ l)
    (built [inState pgBUCKLE 3])
  (List.range 3).foldl (fun s i => s.setFin i { cls := cls.getD i 0, raw := cls.getD i 0, fresh := true }) s

theorem test_witness_buckle_evaluation :
    let s := buckleOn [] [1, 1, 0]
    s.por = false ∧ (built []).running pgBUCKLE = false ∧ s.running pgBUCKLE = true ∧ s.fatal = false ∧ s.buckleIn 0 = true ∧ s.buckleIn 3 = false
      ∧ (s.setFin 0 {}).buckleIn 0 = true ∧ ((s.setFin 0 {}).fin 0).fresh = false ∧ s.sfOn 0 = true ∧ (s.sf 0).pulse1 = false ∧ (s.sf 0).pulse2 = false
      ∧ ((buckleOn [] [0, 1, 0]).fin ((buckleOn [] [0, 1, 0]).rd (pgSF 0) SF.INPUT_CH1)).cls = 0
      ∧ ((buckleOn [] [1, 2, 0]).fin ((buckleOn [] [1, 2, 0]).rd (pgSF 0) SF.INPUT_CH2)).cls = 2
      ∧ ((buckleOn [] [2, 1, 0]).fin ((buckleOn [] [2, 1, 0]).rd (pgSF 0) SF.INPUT_CH1)).cls = 2 := by decide

theorem test_witness_buckle_inputs : ∀ i, i < 24 → (buckleOn [] [1, 1, 0]).buckleIn i = true → ((buckleOn [] [1, 1, 0]).fin i).fresh = true := by decide

/-- R418, R425: an evaluation of safe inputs: the group whose function does not permit reads 0, those of no function read 1. -/
theorem test_evaluation :
    let t := after (.evaluation false) (buckleOn [] [0, 0, 0])
    t.reg pgBUCKLE BUCKLE.EVAL = 1 ∧ t.reg pgSTO STO.WORD = 0xFFFFFFFE ∧ (t.fin 0).fresh = false ∧ t.sfSt 0 = sfDEMAND := by decide

theorem test_witness_buckle_rows :
    let s := buckleOn [(pgSF 0, SF.STAT_DCNT, 100), (pgSF 0, SF.CFG_DISC, 100), (pgSF 0, SF.STAT_STATE, sfPERMIT)] []
    let h := buckleOn [(pgSF 0, SF.CFG_TYPE, 2), (pgSF 0, SF.STAT_DCNT, 4000), (pgSF 0, SF.STAT_STATE, sfDEMAND)] []
    s.sfOn 0 = true ∧ s.sfTwo 0 = false ∧ s.rd (pgSF 0) SF.CFG_DISC ≤ s.rd (pgSF 0) SF.STAT_DCNT ∧ s.sfSt 0 ≠ sfLOCKED
      ∧ s.sfOn 1 = false ∧ h.sfTwo 0 = true ∧ (s.wr (pgSF 0) SF.STAT_DCNT 99).rd (pgSF 0) SF.STAT_DCNT < s.rd (pgSF 0) SF.CFG_DISC
      ∧ (s.wr (pgSF 0) SF.STAT_STATE sfLOCKED).sfSt 0 = sfLOCKED ∧ h.sfSt 0 = sfDEMAND ∧ ((h.setSf 0 { counting := true }).sf 0).counting = true
      ∧ 4000 ≤ h.rd (pgSF 0) SF.STAT_DCNT ∧ (h.sf 0).counting = false ∧ ((s.setSf 0 { active := 24001 }).sf 0).active = 24001
      ∧ (s.setSf 0 { active := 24001 }).sfOn 0 = true ∧ (s.setSf 0 { active := 24001 }).sfTwo 0 = false
      ∧ (s.wr (pgSF 0) SF.TEST_T1EN 1).on (pgSF 0) SF.TEST_T1EN = true ∧ (s.wr (pgSF 0) SF.TEST_T2EN 1).on (pgSF 0) SF.TEST_T2EN = true := by decide

theorem test_witness_buckle_outputs :
    let s := fields [(pgSTO, STO.OUTSTAT_CMD, 1)] ((buckleOn [] []).setReg pgSTO STO.OUTCFG 0x80)
    s.safetyOutEn 12 = true ∧ bitOf (s.rd pgSTO STO.OUTSTAT_CMD) (12 - 12) = true ∧ (buckleOn [] []).safetyOutEn 12 = false
      ∧ (after (.outputTestPulse 12) s).rd pgSTO STO.OUTSTAT_CMD = 0 ∧ (after (.outputTestPulse 12) s).reg pgSTO STO.OTEST = 1 := by decide

/-- R422, R423: the discrepancy does not lock before DISC; the two-hand count ends at 4 000. -/
theorem test_buckle_rows :
    let s := buckleOn [(pgSF 0, SF.STAT_DCNT, 100), (pgSF 0, SF.CFG_DISC, 100), (pgSF 0, SF.STAT_STATE, sfPERMIT)] []
    let h := (buckleOn [(pgSF 0, SF.CFG_TYPE, 2), (pgSF 0, SF.STAT_DCNT, 4000), (pgSF 0, SF.STAT_STATE, sfDEMAND)] []).setSf 0 { counting := true }
    (after (.discrepancyLock 0) (s.wr (pgSF 0) SF.STAT_DCNT 99)).sfSt 0 = sfPERMIT
      ∧ (after (.twoHandTimeout 0) h).sfSt 0 = sfRELEASE ∧ (after (.twoHandTimeout 0) (h.wr (pgSF 0) SF.STAT_DCNT 3999)).sfSt 0 = sfDEMAND
      ∧ (after (.resetStuck 0) (s.setSf 0 { active := 24000 })).on (pgSF 0) SF.STAT_RSTSTK = false
      ∧ (after (.inputTestPulse 0 true) (s.wr (pgSF 0) SF.TEST_T2EN 1)).sf 0 = { s.sf 0 with pulse2 := true } := by decide +kernel

/-- R417: a passed self-test is counted. -/
theorem test_self_test : (after (.selfTest true) (buckleOn [] [])).reg pgBUCKLE BUCKLE.STPASS = 1 := by decide

theorem test_witness_buckle_crc :
    (buckleOn [] []).reg pgBUCKLE BUCKLE.SCRCEXP ≠ crc32 (buckleOn [] []).safetyImage
      ∧ ((buckleOn [] []).setReg pgBUCKLE BUCKLE.SCRCEXP (crc32 (buckleOn [] []).safetyImage)).reg pgBUCKLE BUCKLE.SCRCEXP
          = crc32 ((buckleOn [] []).setReg pgBUCKLE BUCKLE.SCRCEXP (crc32 (buckleOn [] []).safetyImage)).safetyImage := by decide +kernel

/-- The field die serves, with its inputs and outputs. -/
def fieldOn (l : List (Nat × Fld × Nat)) : State := fields l (built [inState pgFLD 3, inState pgFLDDI 3, inState pgFLDDO 3])

/-- The same with the field die as given. -/
def dieOn (l : List (Nat × Fld × Nat)) (d : Die) : State := { fieldOn l with die := d }

theorem test_witness_field_link :
    let s := fieldOn [(pgFLD, FLD.STAT_LINK, 1)]
    s.por = false ∧ s.fieldServes = true ∧ (built []).fieldServes = false ∧ s.on pgFLD FLD.STAT_LINK = true
      ∧ ({ s with linkMiss := 14 } : State).linkMiss < 15 ∧ 15 ≤ ({ s with linkMiss := 15 } : State).linkMiss ∧ ({ s with linkMiss := 16 } : State).linkMiss = 16 ∧ (fieldOn []).on pgFLD FLD.STAT_LINK = false
      ∧ s.running pgFLD = true ∧ s.running pgFLDDI = true ∧ (built []).running pgFLD = false := by decide

/-- R440: fifteen frames missed in a row keep the link; a good frame sets it; a failed one is counted. -/
theorem test_field_link :
    let s := fieldOn [(pgFLD, FLD.STAT_LINK, 1)]
    (after (.managementFrame 2 true) { s with linkMiss := 14 }).st pgFLD = 3
      ∧ (after (.managementFrame 0 false) (fieldOn [])).on pgFLD FLD.STAT_LINK = true ∧ (after (.managementFrame 1 true) s).reg pgFLD FLD.LINKERR = 1
      ∧ (after (.managementFrame 0 true) (fieldOn [(pgFLDDO, FLDDO.OCFG_SAFE 3, 2)])).die.cfg.modes.getD 3 0 = 2 := by decide

theorem test_witness_field_samples :
    let s := dieOn [] { cfg := { wben := 8, type1 := 16 } }
    bitOf s.die.cfg.wben 3 = true ∧ bitOf s.die.cfg.type1 4 = true ∧ s.die.uv = false ∧ (dieOn [] { uv := true }).die.uv = true ∧ (s.fin 3).cls = 0 := by decide

/-- R443: the classes of currents and voltages at their limits: OFF, ON from 2.001 mA and 11 V (15 V at TYPE1), TRANS between, BREAK below 0.5 mA with WBEN. -/
theorem test_field_samples :
    let s := dieOn [] { cfg := { wben := 8, type1 := 16 } }
    let r (n : Fin 32) (ua mv : Nat) := ((after (.inputSample n ua mv) s).fin n).raw
    r 3 499 24000 = 2 ∧ r 5 499 24000 = 0 ∧ r 5 1500 24000 = 0 ∧ r 5 1501 24000 = 3 ∧ r 5 2000 24000 = 3 ∧ r 5 2001 11000 = 1 ∧ r 5 2001 10999 = 3
      ∧ r 4 2001 11000 = 3 ∧ r 4 2001 15000 = 1 ∧ r 5 2001 5000 = 0 := by decide

/-- The field die with output 2 on and its open load watched. -/
def outputOn (d : Die → Die) : State :=
  dieOn [(pgFLD, FLD.STAT_LINK, 1), (pgFLDDO, FLDDO.OUT_OUT, 4)] (d { cmd := 4, rb := 9, cfg := { olen := 4, modes := [0, 0, 1] } })

theorem test_witness_field_outputs :
    let s := outputOn id
    s.safeAct 2 = false ∧ (outputOn fun d => { d with safe := 4 }).safeAct 2 = true ∧ bitOf s.die.cmd 2 = true ∧ bitOf s.die.cmd 3 = false
      ∧ bitOf s.die.tsd 2 = false ∧ bitOf (outputOn fun d => { d with tsd := 4 }).die.tsd 2 = true ∧ s.die.uv = false
      ∧ (outputOn fun d => { d with uv := true }).die.uv = true ∧ bitOf s.die.cfg.olen 2 = true ∧ bitOf s.die.cfg.olen 3 = false ∧ bitOf s.die.openld 2 = false
      ∧ bitOf (s.rd pgFLDDO FLDDO.SAFEACT_SAFE) 2 = false ∧ s.on pgFLD FLD.STAT_LINK = true
      ∧ (s.rd pgFLDDO FLDDO.TSD_NOW = s.die.tsd ∧ s.rd pgFLDDO FLDDO.EXTHIGH_NOW = s.die.exth ∧ s.rd pgFLDDO FLDDO.OPENLD_NOW = s.die.openld)
      ∧ Reaches s host pgFLDDO FLDDO.SAFEACT true := by
  unfold Reaches; decide

/-- R445–R449: a refresh carries OUT; readbacks above and below the thresholds; a shutdown and its retry; the safe state of SAFE 1 is ON. -/
theorem test_field_outputs :
    let s := outputOn id
    ((after (.outputRefresh 2 true) s).fout 2).level = true ∧ (after (.readback 6 1) s).rd pgFLDDO FLDDO.RB_RB = 14
      ∧ (after (.thermalShutdown 2) s).reg pgFLDDO FLDDO.SHORTS = 1 ∧ (after (.retry 2) (outputOn fun d => { d with tsd := 4 })).die.tsd = 0
      ∧ (after (.openLoad 2 true) s).rd pgFLDDO FLDDO.OPENLD_STK = 4 ∧ (after (.safeStateTimeout 2) s).safeAct 2 = true
      ∧ bitOf (after (.safeStateTimeout 2) s).die.cmd 2 = true := by decide

/-- R449: the host ends a safe state after 100 refreshes in a row; another master never does. -/
theorem test_safeact :
    let safe (k : Nat) := (outputOn fun d => { d with safe := 4 }).setFout 2 { seen := k }
    (after (.safeactRelease host 4) (safe 100)).safeAct 2 = false ∧ (after (.safeactRelease host 4) (safe 99)).safeAct 2 = true
      ∧ (after (.safeactRelease host 4) (safe 99)).reg pgFLDDO FLDDO.SAFEREF = 1 := by decide

theorem test_witness_field_supply :
    let s := fieldOn [(pgFLD, FLD.VLIM_HI, 26000), (pgFLD, FLD.VLIM_LO, 20000), (pgFLD, FLD.STAT_LINK, 1)]
    s.rd pgFLD FLD.VLIM_HI < 26001 ∧ 19999 < s.rd pgFLD FLD.VLIM_LO ∧ s.on pgFLD FLD.STAT_LINK = true ∧ s.on pgFLD FLD.STAT_UV = false
      ∧ s.on pgFLD FLD.STAT_OT = false ∧ (after (.vfldMeasure 15999 4800) (fieldOn [])).die.uv = true
      ∧ (after (.vfldMeasure 24000 6771) (fieldOn [])).die.ot = true := by decide

/-- R450, R451: no undervoltage at 16 V, and it lasts until above 17 V; no overtemperature at 150 degrees, and it lasts until below 135. -/
theorem test_field_supply :
    let uv (b : Bool) (mv : Nat) := (after (.vfldMeasure mv 4800) (dieOn [] { uv := b })).die.uv
    let ot (b : Bool) (k : Nat) := (after (.vfldMeasure 24000 k) (dieOn [] { ot := b })).die.ot
    uv false 16000 = false ∧ uv true 17000 = true ∧ uv true 17001 = false ∧ ot false 6770 = false ∧ ot true 6531 = true ∧ ot true 6530 = false := by
  decide


/-- SF0 with DISC 3 after two differing evaluations, channel 1 at the run level; a two-hand function that counts; a reset input active so far. -/
def differing (dcnt : Nat) : State := (buckleOn [(pgSF 0, SF.STAT_DCNT, dcnt), (pgSF 0, SF.CFG_DISC, 3), (pgSF 0, SF.STAT_STATE, sfDEMAND)] [1, 0, 0]).setSf 0 { lvl1 := true }
def twoHand (dcnt : Nat) : State :=
  (buckleOn [(pgSF 0, SF.CFG_TYPE, 2), (pgSF 0, SF.CFG_DISC, 3), (pgSF 0, SF.STAT_DCNT, dcnt), (pgSF 0, SF.STAT_STATE, sfDEMAND)] [1, 0, 0]).setSf 0 { lvl1 := true, counting := true }
def pressed (active : Nat) : State := (buckleOn [(pgSF 0, SF.CFG_DISC, 3)] [0, 0, 1]).setSf 0 { rlvl := true, active := active }

theorem test_witness_buckle_settled :
    buckleSettled (differing 2) 0 ∧ buckleSettled (twoHand 3999) 0 ∧ buckleSettled (pressed 24000) 0 ∧ ¬ buckleSettled (differing 3) 0 := by
  unfold buckleSettled; refine ⟨?_, ?_, ?_, ?_⟩ <;> decide

theorem test_witness_evaluation_limits :
    (differing 2).sfOn 0 = true ∧ (differing 2).sfTwo 0 = false ∧ (twoHand 3999).sfTwo 0 = true ∧ 0 < (differing 2).rd (pgSF 0) SF.CFG_DISC
      ∧ (differing 2).rd (pgSF 0) SF.STAT_DCNT + 1 = (differing 2).rd (pgSF 0) SF.CFG_DISC ∧ (differing 2).sfSt 0 ≠ sfLOCKED
      ∧ (∀ i, i < 24 → (differing 2).buckleIn i = true → ((differing 2).fin i).fresh = true) ∧ (twoHand 3999).sfSt 0 = sfDEMAND := by decide

/-- R422–R424: an evaluation before DISC counts and does not lock; the 4 000th of a two-hand function releases it; a reset input is not stuck in its 24 000th active one. -/
theorem test_evaluation_limits :
    let ev (s : State) : State := after (.evaluation false) s
    (ev (differing 1)).sfSt 0 = sfDEMAND ∧ (ev (differing 1)).rd (pgSF 0) SF.STAT_DCNT = 2
      ∧ (ev (twoHand 3998)).sfSt 0 = sfDEMAND ∧ (ev (twoHand 3999)).sfSt 0 = sfRELEASE
      ∧ (ev (pressed 23999)).on (pgSF 0) SF.STAT_RSTSTK = false ∧ ((ev (pressed 23999)).sf 0).active = 24000 := by decide

/-- Input 5 with FILT 2 and PER 1, the newest sample at raw time 0, `run` differing samples seen. -/
def inputOn (run : Nat) : State := (fieldOn [(pgFLDDI, FLDDI.DICFG_FILT 5, 2), (pgFLDDI, FLDDI.DICFG_PER 5, 1), (pgFLDDI, FLDDI.CHGEN_EN, 32)]).setFin 5 { run := run, at_ := some 0 }

theorem test_witness_field_levels :
    let s := inputOn 1
    s.fieldServes = true ∧ s.rd pgFLDDI (FLDDI.DICFG_FILT 5) = 2 ∧ (s.fin 5).run < 2 ∧ bitOf (s.rd pgFLDDI FLDDI.LEVEL_LEVEL) 5 = false ∧ s.on pgFLDDI (FLDDI.DICFG_INV 5) = false
      ∧ ((inputOn 2).fin 5).run = 2 ∧ bitOf (s.rd pgFLDDI FLDDI.CHGEN_EN) 5 = true ∧ s.pageOn pgFLDDI = true ∧ s.buckleIn 5 = false ∧ (buckleOn [] []).buckleIn 0 = true := by decide

/-- R444: LEVEL follows at the third sample in a row and posts event 0; a sample in TRANS changes no level and is counted; VALID up to two periods after the newest sample. -/
theorem test_field_levels :
    let on (s : State) : State := after (.inputSample 5 3000 24000) s
    let age (raw : Nat) : State := { inputOn 0 with time := { raw := BitVec.ofNat 64 raw } }
    bitOf ((on (inputOn 1)).rd pgFLDDI FLDDI.LEVEL_LEVEL) 5 = false ∧ ((on (inputOn 1)).fin 5).run = 2 ∧ bitOf ((on (inputOn 2)).rd pgFLDDI FLDDI.LEVEL_LEVEL) 5 = true
      ∧ bitOf ((on (inputOn 2)).reg pgFLDDI HDR.EVT).toNat 0 = true ∧ (after (.inputSample 5 1800 24000) (inputOn 2)).reg pgFLDDI FLDDI.TRANS = 1
      ∧ bitOf ((after (.inputSample 5 1800 24000) (inputOn 2)).rd pgFLDDI FLDDI.LEVEL_LEVEL) 5 = false
      ∧ bitOf ((age 2000000).regView 64 pgFLDDI FLDDI.VALID).toNat 5 = true ∧ bitOf ((age 2000001).regView 64 pgFLDDI FLDDI.VALID).toNat 5 = false := by decide

/-- R449, R450: a released output waits for the next refresh; a value outside VLIM that was measured without a link is judged with the first frame. -/
theorem test_field_waits :
    let s := (outputOn fun d => { d with safe := 4 }).setFout 2 { seen := 100, level := true }
    let t := after (.safeactRelease host 4) s
    let v : State := { fieldOn [(pgFLD, FLD.VLIM_HI, 26000), (pgFLD, FLD.VLIM_LO, 20000)] with die := { vfld := 19999, unjudged := true } }
    (t.fout 2).waits = true ∧ ((after (.outputRefresh 2 true) t).fout 2).waits = false ∧ ((after (.outputRefresh 2 false) t).fout 2).waits = true
      ∧ (after (.managementFrame 0 false) v).on pgFLD FLD.STAT_VOUT = true ∧ v.rd pgFLD FLD.VLIM_LO = 20000 := by decide
/-! ### Feedback, analog channels, Stitch -/

/-- Feedback channel 2 runs. -/
def feedOn (l : List (Nat × Fld × Nat)) : State := fields l (built [inState (pgFBCH 2) 3])

theorem test_witness_feedback_steps :
    let s := feedOn []
    let h := feedOn [(pgFBCH 2, FBCH.CFG_MODE, 1)]
    s.por = false ∧ s.running (pgFBCH 2) = true ∧ s.rd (pgFBCH 2) FBCH.CFG_MODE = 0 ∧ h.rd (pgFBCH 2) FBCH.CFG_MODE = 1 ∧ (built []).running (pgFBCH 2) = false
      ∧ (quadIndex (4 / 2) + 4 - quadIndex (0 / 2)) % 4 = 1 ∧ (quadIndex (6 / 2) + 4 - quadIndex (0 / 2)) % 4 = 2
      ∧ (quadIndex (2 / 2) + 4 - quadIndex (0 / 2)) % 4 = 3 ∧ (quadIndex (1 / 2) + 4 - quadIndex (0 / 2)) % 4 = 0 ∧ s.pageOn (pgFBCH 2) = true ∧ s.pinCode 2 = 0
      ∧ s.on (pgFBCH 2) FBCH.STAT_DIR = false ∧ s.on (pgFBCH 2) FBCH.CFG_REV = false ∧ (s.wr (pgFBCH 2) FBCH.CFG_REV 1).on (pgFBCH 2) FBCH.CFG_REV = true
      ∧ (h.feed 2).hall = 0 ∧ ((h.setFeed 2 { hall := 1 }).feed 2).hall = 1 ∧ (hallIndex 3 + 6 - hallIndex 1) % 6 = 1 ∧ (hallIndex 5 + 6 - hallIndex 1) % 6 = 5
      ∧ (hallIndex 2 + 6 - hallIndex 1) % 6 = 2 ∧ (hallIndex 6 + 6 - hallIndex 1) % 6 = 3 ∧ (hallIndex 4 + 6 - hallIndex 1) % 6 = 4 := by decide

/-- R346, R348–R350: a forward step counts, one backwards is absorbed, both levels at once are illegal; with FILT 2, its reset value, the third sample counts; Hall codes
step in their sequence, 7 is bad. -/
theorem test_feedback_steps :
    let s := feedOn []
    let h := (feedOn [(pgFBCH 2, FBCH.CFG_MODE, 1)]).setFeed 2 { hall := 1 }
    (after (.quadratureStep 2 true false 3) s).reg (pgFBCH 2) FBCH.COUNT = 1 ∧ (after (.quadratureStep 2 false true 3) s).reg (pgFBCH 2) FBCH.COUNT = 0
      ∧ (after (.quadratureStep 2 false true 3) s).reg (pgFBCH 2) FBCH.ABSORB = 1 ∧ (after (.quadratureStep 2 true true 3) s).reg (pgFBCH 2) FBCH.ILLEGAL = 1
      ∧ (after (.quadratureStep 2 true false 2) s).reg (pgFBCH 2) FBCH.COUNT = 0
      ∧ (after (.hallCodeChange 2 3 3) h).reg (pgFBCH 2) FBCH.COUNT = 1 ∧ (after (.hallCodeChange 2 7 3) h).reg (pgFBCH 2) FBCH.HALLBAD = 1
      ∧ (after (.hallCodeChange 2 4 3) h).reg (pgFBCH 2) FBCH.ILLEGAL = 1 := by decide

theorem test_witness_feedback_faults :
    let s := (feedOn [(pgFBCH 2, FBCH.CFG_ZEN, 1), (pgFBCH 2, FBCH.ILLCFG_ILLMAX, 3), (pgFBCH 2, FBCH.ILLCFG_ILLWIN, 4), (pgFBCH 2, FBCH.SERPOLY_SERMAX, 2)]).setFeed 2
      { ill := [(0, 3)], fails := 2 }
    s.on (pgFBCH 2) FBCH.CFG_ZEN = true ∧ (feedOn []).on (pgFBCH 2) FBCH.CFG_ZEN = false ∧ s.rd (pgFBCH 2) FBCH.ILLCFG_ILLMAX = 3 ∧ s.illCount 2 = 3
      ∧ (s.setFeed 2 { ill := [(0, 2)] }).illCount 2 = 2 ∧ s.rd (pgFBCH 2) FBCH.SERPOLY_SERMAX = 2 ∧ (s.feed 2).fails = 2 ∧ (s.setFeed 2 { fails := 1 }).running (pgFBCH 2) = true
      ∧ (after (.illegalStepFault 2) s).st (pgFBCH 2) = 5 ∧ (after (.illegalStepFault 2) s).reg (pgFBCH 2) HDR.ECAP1 = 3
      ∧ (after (.indexCapture 2 true 3) (s.setReg (pgFBCH 2) FBCH.COUNT 77)).reg (pgFBCH 2) FBCH.ZCAP = 77 := by decide

/-- A serial channel: 8 position bits without error bit or CRC. -/
def serialOn (l : List (Nat × Fld × Nat)) (f : Feed) : State :=
  (feedOn ([(pgFBCH 2, FBCH.CFG_MODE, 2), (pgFBCH 2, FBCH.SERCFG_PBITS, 8)] ++ l)).setFeed 2 f

theorem test_witness_serial :
    let s := serialOn [] { busy := true, clocked := true, raw := some 250 }
    let c := serialOn [(pgFBCH 2, FBCH.SERCFG_CBITS, 4), (pgFBCH 2, FBCH.SERPOLY_POLY, 3)] { busy := true }
    let e := serialOn [(pgFBCH 2, FBCH.SERCFG_EEN, 1)] { busy := true }
    s.running (pgFBCH 2) = true ∧ s.rd (pgFBCH 2) FBCH.CFG_MODE = 2 ∧ (s.feed 2).busy = true ∧ (serialOn [] {}).feed 2 = {} ∧ s.serCheck 2 4 = none
      ∧ (s.feed 2).raw = some 250 ∧ ((serialOn [] { busy := true }).feed 2).raw = none ∧ c.serCheck 2 1 = some FBCH.STAT_CRCS ∧ e.serCheck 2 0 = some FBCH.STAT_ENCS := by
  decide

/-- R356, R357: the difference of two raw values is signed in PBITS bits: 250 to 4 is 10 forwards. -/
theorem test_serial :
    let s := (serialOn [] { busy := true, clocked := true, raw := some 250 }).setReg (pgFBCH 2) FBCH.COUNT 1000
    (after (.serialTransferDone 2 true 4) s).reg (pgFBCH 2) FBCH.COUNT = 1010 ∧ (after (.serialTransferDone 2 true 4) s).reg (pgFBCH 2) FBCH.POS = 1010
      ∧ (after (.serialTransferDone 2 false 4) s).reg (pgFBCH 2) FBCH.SERERR = 1 ∧ (after (.serialTransferDone 2 true 4) (serialOn [] { busy := true, clocked := true })).reg (pgFBCH 2) FBCH.COUNT = 4
      ∧ (after (.serialTransferDone 2 true 4) (serialOn [] { busy := true })).reg (pgFBCH 2) FBCH.COUNT = 0 := by
  decide

/-- Analog channel 1 in a state. -/
def anaOn (l : List (Nat × Fld × Nat)) (a : Ana) : State := (fields l (built [inState (pgAXCH 1) 3])).setAna 1 a

theorem test_witness_analog :
    let s := anaOn [(pgAXCH 1, AXCH.CFG_CONT, 1), (pgAXCH 1, AXCH.CFG_XSEL, 2)] {}
    let o := anaOn [(pgAXCH 1, AXCH.CFG_DIR, 1), (pgAXCH 1, AXCH.OCFG_FREE, 1), (pgAXCH 1, AXCH.OCFG_RESTCODE, 9)] {}
    (s.ana 1).conv = none ∧ ((s.setAna 1 { conv := some .i0 }).ana 1).conv = some .i0 ∧ s.anaIn 1 = true ∧ s.on (pgAXCH 1) AXCH.CFG_CONT = true ∧ s.phase + 64 ≤ s.tc
      ∧ (({ s.wr (pgSTITCH 0) (STITCH.XSTAT_ACTIVE 1) 1 with stitches := [(0, { xOn := [(1, 0)] })] } : State).auxDue 1 = true) ∧ s.auxDue 1 = false
      ∧ s.rd (pgAXCH 1) AXCH.CFG_XSEL ≠ 0 ∧ Reaches s host (pgAXCH 1) AXCH.OUTVAL true ∧ o.anaOut 1 = true ∧ o.on (pgAXCH 1) AXCH.OCFG_FREE = true
      ∧ s.anaOut 1 = false ∧ ((o.setAna 1 { sto := true }).ana 1).sto = true ∧ (o.ana 1).sto = false ∧ o.fatal = false := by
  unfold Reaches; decide

/-- R361–R364: an I0 conversion with gain 1 and no offset stores its code; a full-scale code is out of range; a slot starts; a FREE output follows OUTVAL. -/
theorem test_analog :
    let s := fields [(pgAXCH 1, SHELL.CALTRIM1_TRIM 0, 0x8000), (pgAXCH 1, SHELL.CALCTL_USETRIM 0, 1)] (anaOn [] { conv := some .i0 })
    let o := anaOn [(pgAXCH 1, AXCH.CFG_DIR, 1), (pgAXCH 1, AXCH.OCFG_FREE, 1), (pgAXCH 1, AXCH.OCFG_RESTCODE, 9)] {}
    (after (.conversionDone 1 100) s).rd (pgAXCH 1) AXCH.SAMP_I0 = 1601 ∧ (after (.conversionDone 1 2047) s).rd (pgAXCH 1) AXCH.SAMP_I0 = 0x7FF3
      ∧ (after (.conversionDone 1 2047) s).reg (pgAXCH 1) AXCH.RANGE = 1 ∧ (after (.outvalWrite host 1 0x1FFF) o).rd (pgAXCH 1) AXCH.OUTNOW_CODE = 0xFFF
      ∧ (after (.outvalWrite host 1 5) (o.setAna 1 { sto := true })).rd (pgAXCH 1) AXCH.OUTNOW_CODE = 9
      ∧ (let x := ((fields [(pgAXCH 1, AXCH.CFG_XSEL, 2)] s).auxActivate 0 1)
        x.reg (pgAXCH 1) AXCH.XDROP = 1 ∧ (after (.auxiliaryConversion 1) x).reg (pgAXCH 1) AXCH.XDROP = 1
          ∧ (((fields [(pgAXCH 1, AXCH.CFG_XSEL, 2)] (anaOn [] {})).auxActivate 0 1).ana 1).conv = some .aux) := by decide

theorem test_witness_monitor :
    let s := fields [(pgANA, ANA.MONLIM_HI 3, 3000), (pgANA, ANA.MONLIM_LO 3, 1000)] (built [inState pgANA 3])
    s.running pgANA = true ∧ (built []).running pgANA = false ∧ s.rd pgANA (ANA.MONLIM_HI 3) = 3000 ∧ s.rd pgANA (ANA.MONLIM_LO 3) = 1000
      ∧ (after (.monitorConversion 3 3001) s).rd pgANA ANA.MONSTAT_ABOVE = 8 ∧ (after (.monitorConversion 3 3000) s).rd pgANA ANA.MONSTAT_ABOVE = 0
      ∧ (after (.monitorConversion 3 999) s).rd pgANA ANA.MONSTAT_BELOW = 8 ∧ (after (.monitorConversion 3 999) s).reg pgANA HDR.ECAP1 = 3 := by decide

/-- Stitch unit 4 runs in FREE mode with legs A and B enabled: leg A from 100 ns to 900 ns. -/
def stitchOn (l : List (Nat × Fld × Nat)) (u : Stitch) : State :=
  let p := pgSTITCH 4
  (fields ([(p, STITCH.UCFG_MODE, 1), (p, STITCH.UCFG_LEGEN, 3), (p, STITCH.PERIOD_TICKS, 1000), (p, STITCH.PERNOW_TICKS, 1000), (p, STITCH.LEGA_RISE, 100),
    (p, STITCH.LEGA_FALL, 900), (p, STITCH.DT_NS, 50)] ++ l) (built [inState p 3])).setStitch 4 u

theorem test_witness_stitch_times :
    let s := stitchOn [] {}
    let f := stitchOn [(pgSTITCH 4, STITCH.OUTSTAT_FROZEN, 1)] { thaw := true }
    s.por = false ∧ s.running (pgSTITCH 4) = true ∧ s.frozen 4 = false ∧ f.frozen 4 = true ∧ (f.stitch 4).thaw = true ∧ f.haltLow = false ∧ s.freeMode 4 = true
      ∧ (stitchOn [(pgSTITCH 4, STITCH.UCFG_MODE, 0)] {}).freeMode 4 = false ∧ (netAt 4 []).cyc % (netAt 4 []).perdiv = 0 ∧ (built []).running (pgSTITCH 4) = false
      ∧ 900 < s.periodNs 4 ∧ s.legOff 4 0 = false ∧ s.legOff 4 2 = true ∧ ((s.wr (pgAWL 0) AWL.DBGSTAT_HALTED 1)).haltLow = true
      ∧ Reaches s host (pgSTITCH 4) STITCH.TRIPSTAT true ∧ Reaches s host (pgSTITCH 4) STITCH.PERIOD true ∧ Reaches s host (pgSTITCH 4) STITCH.LEGA true
      ∧ Reaches s host (pgSTITCH 4) (STITCH.LEGA + 4 * 2) true ∧ Reaches s host (pgSTITCH 4) STITCH.LEGOFF true := by
  unfold Reaches; decide

/-- R330–R332: at RISE the low switch goes off at once and the high one at the end of the dead time; a FREE period takes PERIOD, 250 at least. -/
theorem test_stitch_times :
    let s := stitchOn [(pgSTITCH 4, STITCH.OUTSTAT_OUT, 2)] {}
    let t := after (.compareMatch 4 100) s
    (t.stitch 4).h = 1 ∧ t.rd (pgSTITCH 4) STITCH.OUTSTAT_OUT = 0 ∧ (after (.deadTimeEnd 4 0) t).rd (pgSTITCH 4) STITCH.OUTSTAT_OUT = 1
      ∧ (after (.periodStart 4) (s.wr (pgSTITCH 4) STITCH.PERIOD_TICKS 500)).rd (pgSTITCH 4) STITCH.PERNOW_TICKS = 500
      ∧ (after (.periodWrite host 4 250) s).rd (pgSTITCH 4) STITCH.PERIOD_TICKS = 250 ∧ (after (.periodWrite host 4 249) s).rd (pgSTITCH 4) HDR.PSTAT_CFGREJ = 1
      ∧ (after (.compareWrite host 4 0 0x03840064) s).reg (pgSTITCH 4) STITCH.LEGA = 0x03840064 ∧ (after (.legoffWrite host 4 7) s).rd (pgSTITCH 4) STITCH.OUTSTAT_OUT = 0 := by
  decide

theorem test_witness_stitch_trips :
    let s := stitchOn [(pgSTITCH 4, STITCH.TRIPCFG_SEL, 6), (pgSTITCH 4, STITCH.TRIPCFG_ACTHI, 255), (pgSTITCH 4, STITCH.OUTSTAT_OUT, 1)] { h := 1 }
    let b := s.wr (pgSTITCH 4) STITCH.TRIPCFG_BLANK 2 |>.wr (pgSTITCH 4) (STITCH.XSTAT_ACTIVE 1) 1 |>.wr (pgSTITCH 4) STITCH.TRIPSTAT_LIVE 4
    0x0F &&& s.rd (pgSTITCH 4) STITCH.TRIPCFG_SEL ≠ 0 ∧ s.blanked 4 = false ∧ b.blanked 4 = true ∧ s.on (pgSTITCH 4) STITCH.TRIPSTAT_LATCH = false
      ∧ (s.wr (pgSTITCH 4) STITCH.TRIPSTAT_LATCH 1).on (pgSTITCH 4) STITCH.TRIPSTAT_LATCH = true ∧ b.rd (pgSTITCH 4) STITCH.TRIPCFG_BLANK = 1 + 1
      ∧ b.rd (pgSTITCH 4) STITCH.TRIPSTAT_LIVE ≠ 0 ∧ s.rd (pgSTITCH 4) STITCH.TRIPSTAT_LIVE = 0 ∧ s.on (pgSTITCH 4) (STITCH.XSTAT_ACTIVE 1) = false
      ∧ s.pageOn (pgSTITCH 4) = true ∧ ({ (s.stitch 4) with cleared := some s.time.raw } : Stitch).cleared = some s.time.raw
      ∧ (s.stitch 4).cleared ≠ some s.time.raw := by decide

/-- A unit with channel 1 in EDGE mode, active until `e`, and channel 0 in FIXED mode from 100 ns to 900 ns. -/
def auxOn (e : BitVec 64) : State :=
  stitchOn [(pgSTITCH 4, STITCH.XCFG_XMODE 1, 1), (pgSTITCH 4, STITCH.XSTAT_ACTIVE 1, 1), (pgSTITCH 4, STITCH.XCMP_START 0, 100), (pgSTITCH 4, STITCH.XCMP_END 0, 900)]
    { xEnd := [(1, e)] }

theorem test_witness_stitch_aux :
    let s := auxOn 0
    s.on (pgSTITCH 4) (STITCH.XCFG_XMODE 1) = true ∧ s.on (pgSTITCH 4) (STITCH.XCFG_XMODE 0) = false ∧ 900 < 4 * s.rd (pgSTITCH 4) STITCH.PERNOW_TICKS
      ∧ (s.stitch 4).wrote.contains (3 + 0, s.time.raw) = false ∧ (s.stitch 4).xEnd.find? (fun e => e.1 = 1) = some (1, 0)
      ∧ s.on (pgSTITCH 4) (STITCH.XSTAT_ACTIVE 1) = true ∧ geT64 (s.t64 + 63) 0 = true ∧ s.frozen 4 = false ∧ s.rd (pgSTITCH 4) (STITCH.XCMP_END 0) ≠ 100
      ∧ (after (.auxChannelActivate 4 0 900) (after (.auxChannelActivate 4 0 100) s)).on (pgSTITCH 4) (STITCH.XSTAT_ACTIVE 0) = false := by decide

/-- R341: START makes a FIXED channel active; an EDGE channel is active until its XLEN has passed. -/
theorem test_stitch_aux :
    (after (.auxChannelActivate 4 0 100) (auxOn 0)).on (pgSTITCH 4) (STITCH.XSTAT_ACTIVE 0) = true
      ∧ (after (.auxChannelActivate 4 1 0) (auxOn 0)).on (pgSTITCH 4) (STITCH.XSTAT_ACTIVE 1) = false
      ∧ (after (.auxChannelActivate 4 1 0) (auxOn 100)).on (pgSTITCH 4) (STITCH.XSTAT_ACTIVE 1) = true := by decide

/-- R335, R336: a selected input trips once, a blanked one at the end of blanking; a clear while an input is active is refused. -/
theorem test_stitch_trips :
    let s := stitchOn [(pgSTITCH 4, STITCH.TRIPCFG_SEL, 6), (pgSTITCH 4, STITCH.TRIPCFG_ACTHI, 255), (pgSTITCH 4, STITCH.OUTSTAT_OUT, 1)] { h := 1 }
    let b := s.wr (pgSTITCH 4) STITCH.TRIPCFG_BLANK 2 |>.wr (pgSTITCH 4) (STITCH.XSTAT_ACTIVE 1) 1
    let t := after (.tripInput 4 0x0F 5) s
    t.rd (pgSTITCH 4) STITCH.TRIPSTAT_SRC = 6 ∧ t.rd (pgSTITCH 4) STITCH.OUTSTAT_OUT = 0 ∧ t.reg (pgSTITCH 4) HDR.ECAP1 = 6
      ∧ (after (.tripInput 4 0x04 5) b).on (pgSTITCH 4) STITCH.TRIPSTAT_LATCH = false ∧ (after (.blankWindowEnd 4) (after (.tripInput 4 0x04 5) b)).rd (pgSTITCH 4) STITCH.TRIPSTAT_SRC = 4
      ∧ (after (.auxChannelActivate 4 1 0) (after (.tripInput 4 0x04 5) b)).rd (pgSTITCH 4) STITCH.TRIPSTAT_SRC = 4
      ∧ (after (.tripClear host 4) (after (.tripInput 4 0 5) t)).on (pgSTITCH 4) STITCH.TRIPSTAT_LATCH = false := by decide

/-- R340: frozen units thaw once HALT_N has returned high. -/
theorem test_halt_n_rise :
    ((after .haltNRise (stitchOn [(pgSTITCH 4, STITCH.OUTSTAT_FROZEN, 1)] {})).stitch 4).thaw = true
      ∧ ((after .haltNRise (stitchOn [] {})).stitch 4).thaw = false := by decide


/-- R363: of the channels that name a channel that becomes active, one that is free converts and one that converts drops it; a channel that was active starts nothing. -/
theorem test_witness_aux_names :
    let s := fields [(pgAXCH 1, AXCH.CFG_XSEL, 1), (pgAXCH 1, AXCH.CFG_XUNIT, 4), (pgAXCH 2, AXCH.CFG_XSEL, 1), (pgAXCH 2, AXCH.CFG_XUNIT, 4)]
      (((auxOn 100).setReg (pgAXCH 1) HDR.PSTAT 3).setReg (pgAXCH 2) HDR.PSTAT 3 |>.setAna 2 { conv := some .i0 })
    let t := after (.auxChannelActivate 4 0 100) s
    s.anaIn 1 = true ∧ s.rd (pgAXCH 1) AXCH.CFG_XSEL = 0 + 1 ∧ s.rd (pgAXCH 1) AXCH.CFG_XUNIT = 4 ∧ s.on (pgSTITCH 4) (STITCH.XSTAT_ACTIVE 0) = false
      ∧ (s.ana 1).conv = none ∧ (s.ana 2).conv = some .i0 ∧ (s.ana 1).xAt = none ∧ s.auxDue 1 = false
      ∧ (t.ana 1).conv = some .aux ∧ (t.ana 2).conv = some .i0 ∧ t.reg (pgAXCH 2) AXCH.XDROP = 1 ∧ t.reg (pgAXCH 1) AXCH.XDROP = 0
      ∧ (s.wr (pgSTITCH 4) (STITCH.XSTAT_ACTIVE 0) 1).on (pgSTITCH 4) (STITCH.XSTAT_ACTIVE 0) = true := by decide

/-- R355: at I0 a serial channel sends its clock where the line is idle. -/
theorem test_serial_clock :
    let s := serialOn [] {}
    (s.feedI0 2 true).wire = [.serialClock 2 9 (2 * (s.rd (pgFBCH 2) FBCH.SERCFG_CLKDIV + 1))] ∧ ((s.feedI0 2 true).feed 2).clocked = true ∧ (s.feedI0 2 false).wire = [] ∧ ((s.feedI0 2 false).feed 2).busy = true := by decide
/-! ### The Awl instructions -/

/-- Awl 0 executes, its active bank as given, registers as listed. -/
def awl (l : List (Nat × Nat × Nat)) (b : Bank) : State := (awlRuns l).setAct 0 b

/-- Registers of a bank. -/
def bank (d : List (Nat × Word)) (f : Bank → Bank) : Bank := f { d := d }

theorem test_witness_ready :
    let s := awl [] (bank [(1, 5), (2, 7)] id)
    (∀ op ∈ ([.add, .sub, .addw, .subw, .and, .or, .xor, .min, .max, .clip, .asl, .asr, .lsr, .cadd, .csub] : List BinOp),
        Ready s 0 (.bin op 3 1 (.d 2) {}) ∧ Ready s 0 (.bin op 3 1 .coef {}))
      ∧ (∀ op ∈ ([.mov, .neg, .abs, .not, .norm, .rcps, .rsqs, .scs] : List UnaOp), Ready s 0 (.una op 3 1 {}))
      ∧ (∀ op ∈ ([.add, .addw, .and, .or, .xor] : List BinOp), Ready s 0 (.binI op 3 1 ⟨16383, false⟩) ∧ Ready s 0 (.binI op 3 1 ⟨0x80000000, true⟩))
      ∧ (∀ op ∈ ([.asl, .asr, .lsr] : List BinOp), Ready s 0 (.shiftI op 3 1 31))
      ∧ (∀ op ∈ ([.add, .sub, .addw, .subw] : List WideOp), Ready s 0 (.wide op 3 1 2)) := by
  unfold Ready; decide

theorem test_witness_ready_more :
    let s := awl [] (bank [(1, 5), (2, 7)] id)
    (∀ i ∈ ([.cmp 1 (.d 2) {}, .tst 1 .coef {}, .ldi 1 ⟨1, false⟩, .cmpi 1 ⟨1, true⟩, .tsti 1 ⟨1, false⟩, .mov64 1 2, .cmp64 1 2, .mul .mpy 0 1 (.c 1) {}, .mul .mac 1 1 .k {},
        .mul .msu 3 1 (.d 2) { x := some ⟨.load, 3, 3⟩, y := some ⟨.store, 0, 0⟩ }, .cmul .cmpy 0 1 (.d 2) {}, .cmul .cmac 1 1 (.d 2) {}, .cmul .cmacj 1 1 .k {}, .clr 2 {},
        .movE 0 1 (.d 2) {}, .conv (.d 1) 0 63 none, .conv (.pair 1) 3 31 none, .conv (.d 1) 0 31 (some {}), .cconv 1 1 15 (some {}), .normE 1 3, .movgRead 1 3, .movgWrite 3 1 7, .nop,
        .ld (.d 1) 7 .incr, .ld (.pair 1) 3 .step, .st (.d 1) 0 (.index ⟨-1, false⟩), .st (.pair 7) 0 .plain, .ldc 1 1,
        .nopMoves { x := some ⟨.loadPair, 1, 0⟩, y := some ⟨.load, 0, 0⟩ }, .movcRead 1 55, .movcWrite 37 (.d 1), .movcWrite 38 (.d 1), .movcWrite 43 (.imm ⟨5, false⟩)] : List AwlIns),
      Ready s 0 i) := by
  unfold Ready; decide

/-- An instruction on the bank with D1 = `x`, D2 = `y`, and D3 and its flags Z, N, C, V after it. -/
def result (c : Instr) (x y : Word) : Word × Nat :=
  let b := (after c (awl [] (bank [(1, x), (2, y)] id))).act 0
  (b.D 3, b.sr.toNat % 16)

/-- R220, R240: saturation and carries, worked by hand; V is 8, C 4, N 2, Z 1. -/
theorem test_add_sub :
    result (.add 0 3 1 (.d 2) {}) 0x7FFFFFFF 1 = (0x7FFFFFFF, 8) ∧ result (.add 0 3 1 (.d 2) {}) 0xFFFFFFFF 1 = (0, 5)
      ∧ result (.sub 0 3 1 (.d 2) {}) 0x80000000 1 = (0x80000000, 10) ∧ result (.sub 0 3 1 (.d 2) {}) 0 1 = (0xFFFFFFFF, 6)
      ∧ result (.addw 0 3 1 (.d 2) {}) 0x7FFFFFFF 1 = (0x80000000, 10) ∧ result (.addw 0 3 1 (.d 2) {}) 0xFFFFFF00 0x300 = (0x200, 4)
      ∧ result (.subw 0 3 1 (.d 2) {}) 0x100 0xFFFFFF00 = (0x200, 4) ∧ result (.subw 0 3 1 (.d 2) {}) 5 5 = (0, 1) := by decide

/-- R240, R241: the corners of negation, absolute value, limits and shifts. -/
theorem test_unary_and_shifts :
    result (.neg 0 3 1 {}) 0x80000000 0 = (0x7FFFFFFF, 8) ∧ result (.abs 0 3 1 {}) 0x80000000 0 = (0x7FFFFFFF, 8) ∧ result (.abs 0 3 1 {}) 0xFFFFFFFE 0 = (2, 0)
      ∧ result (.min 0 3 1 (.d 2) {}) 0xFFFFFFFF 1 = (0xFFFFFFFF, 2) ∧ result (.max 0 3 1 (.d 2) {}) 0xFFFFFFFF 1 = (1, 0) ∧ result (.not 0 3 1 {}) 0xFFFFFFFF 0 = (0, 1)
      ∧ result (.norm 0 3 1 {}) 1 0 = (30, 0) ∧ result (.norm 0 3 1 {}) 0 0 = (31, 0) ∧ result (.asl 0 3 1 (.d 2) {}) 0x40000000 1 = (0x7FFFFFFF, 8)
      ∧ result (.asr 0 3 1 (.d 2) {}) 0x80000001 1 = (0xC0000000, 6) ∧ result (.asr 0 3 1 (.d 2) {}) 0x80000000 63 = (0xFFFFFFFF, 6)
      ∧ result (.lsr 0 3 1 (.d 2) {}) 0x80000000 32 = (0, 5) ∧ result (.lsr 0 3 1 (.d 2) {}) 0x80000000 33 = (0, 1) := by decide

theorem test_logic_and_moves :
    result (.and 0 3 1 (.d 2) {}) 0xF0F0F0F0 0x0FFFFFFF = (0x00F0F0F0, 0) ∧ result (.or 0 3 1 (.d 2) {}) 0x80000000 1 = (0x80000001, 2)
      ∧ result (.xor 0 3 1 (.d 2) {}) 7 7 = (0, 1) ∧ (result (.mov 0 3 1 {}) 9 0).1 = 9 ∧ result (.clip 0 3 1 (.d 2) {}) 5 9 = (5, 8)
      ∧ result (.addi 0 3 1 ⟨0xFFFFFFFF, false⟩) 1 0 = (0, 5) ∧ result (.addwi 0 3 1 ⟨1, false⟩) 0x7FFFFFFF 0 = (0x80000000, 10)
      ∧ result (.andi 0 3 1 ⟨1, false⟩) 3 0 = (1, 0) ∧ result (.ori 0 3 1 ⟨4, false⟩) 3 0 = (7, 0) ∧ result (.xori 0 3 1 ⟨3, false⟩) 3 0 = (0, 1)
      ∧ (result (.ldi 0 3 ⟨0x12345, true⟩) 0 0).1 = 0x12345 ∧ (result (.cmp 0 1 (.d 2) {}) 1 2).2 = 6 ∧ (result (.tst 0 1 (.d 2) {}) 1 2).2 = 1
      ∧ (result (.cmpi 0 1 ⟨1, false⟩) 1 0).2 = 1 ∧ (result (.tsti 0 1 ⟨0x80000000, true⟩) 0x80000000 0).2 = 2 := by decide

theorem test_immediate_shifts_and_packed :
    result (.asli 0 3 1 31) 1 0 = (0x7FFFFFFF, 8) ∧ result (.asri 0 3 1 0) 5 0 = (5, 0) ∧ result (.lsri 0 3 1 4) 0x1F 0 = (1, 4)
      ∧ (result (.cadd 0 3 1 (.d 2) {}) 0x7FFF0001 0x0001FFFF).1 = 0x7FFF0000 ∧ (result (.csub 0 3 1 (.d 2) {}) 0x80000005 0x00010002).1 = 0x80000003 := by decide

/-- R242: the seeds at 0.5 and at 0.25, by the formula; a result comes one instruction later. -/
theorem test_seeds :
    let s (x : Word) := awl [] (bank [(1, x)] id)
    ((after (.rcps 0 3 1 {}) (s 0x40000000)).act 0).flight = [⟨1, .d 3, (2 ^ 61 + 0x40020000 / 2) / 0x40020000⟩]
      ∧ ((after (.rcps 0 3 1 {}) (s 0x3FFFFFFF)).act 0).flight = [⟨1, .d 3, 0x7FFFFFFF⟩]
      ∧ ((after (.nop 0) (after (.rcps 0 3 1 {}) (s 0x80000000))).act 0).D 3 = 0x7FFFFFFF
      ∧ ((after (.rsqs 0 3 1 {}) (s 0x1FFFFFFF)).act 0).flight = [⟨1, .d 3, 0x7FFFFFFF⟩] := by decide

/-- The pairs P0 = (D0, D1) and P1 = (D2, D3), and P2 and the flags after an instruction. -/
def wide (c : Instr) (x y : BitVec 64) : BitVec 64 × Nat :=
  let b := (after c (awl [] (bank [(0, x.extractLsb' 32 32), (1, x.truncate 32), (2, y.extractLsb' 32 32), (3, y.truncate 32)] id))).act 0
  (b.D64 2, b.sr.toNat % 16)

/-- R246: pairs wrap or saturate at 64 bits. -/
theorem test_wide :
    wide (.addw64 0 2 0 1) 0x7FFFFFFFFFFFFFFF 1 = (0x8000000000000000, 10) ∧ wide (.add64 0 2 0 1) 0x7FFFFFFFFFFFFFFF 1 = (0x7FFFFFFFFFFFFFFF, 8)
      ∧ wide (.subw64 0 2 0 1) 0 1 = (0xFFFFFFFFFFFFFFFF, 6) ∧ wide (.sub64 0 2 0 1) 0x8000000000000000 1 = (0x8000000000000000, 10)
      ∧ (wide (.mov64 0 2 1) 1 2).1 = 2 ∧ (wide (.cmp64 0 0 1) 1 0x100000000).2 = 6 := by decide

/-- An instruction on the bank with D1, D2, E0 and E1, and E0 and E1 after it. -/
def acc (c : Instr) (sr x y : Word) (e : BitVec 72) : BitVec 72 × BitVec 72 :=
  let b := (after c (awl [] (bank [(1, x), (2, y)] fun b => { (b.putE 0 e).putEV 0 e with sr := sr }))).act 0
  (b.E 0, b.E 1)

/-- R223–R226: doubled products, the clamps at 72 and 40 bits, complex products. -/
theorem test_accumulate :
    (acc (.mpy 0 0 1 (.d 2) {}) 0 0x80000000 0x80000000 0).1 = 0x4000000000000000 ∧ (acc (.mpy 0 0 1 (.d 2) {}) 0x100 0x80000000 0x80000000 0).1 = 0x7FFFFFFFFFFFFFFF
      ∧ (acc (.mac 0 0 1 (.d 2) {}) 0 1 1 0x7FFFFFFFFFFFFFFFFF).1 = 0x7FFFFFFFFFFFFFFFFF ∧ (acc (.msu 0 0 1 (.d 2) {}) 0 2 3 10).1 = 4
      ∧ acc (.cmpy 0 0 1 (.d 2) {}) 0 0x00020003 0x00040005 0 = (-7, 22) ∧ acc (.cmac 0 0 1 (.d 2) {}) 0 0x00020003 0x00040005 0x7FFFFFFFFF = (0x7FFFFFFFF8, 22)
      ∧ acc (.cmacj 0 0 1 (.d 2) {}) 0 0x00020003 0x00040005 0 = (23, 2) ∧ (acc (.clr 0 0 {}) 0 0 0 9).1 = 0
      ∧ (acc (.movELoad 0 0 1 (.d 2) {}) 0 0x80000000 1 0).1 = 0xFF8000000000000001 := by decide

/-- R225, R227: a sum clamped at 72 bits is on its way to V, SV and SG; one that fits clears V alone; a part clamped at 40 bits is reported too. -/
theorem test_accumulate_flags :
    let run (c : Instr) (x y : Word) (e : BitVec 72) := ((after c (awl [] (bank [(1, x), (2, y)] fun b => (b.putE 0 e).putEV 0 e))).act 0).flight
    let hit (v : Nat) (l : List Flight) : Bool := l.contains ⟨2, .v, v⟩
    let sticky (l : List Flight) : Bool × Bool := (l.contains ⟨2, .sv, 1⟩, l.contains ⟨2, .sg, 1⟩)
    hit 1 (run (.mac 0 0 1 (.d 2) {}) 1 1 0x7FFFFFFFFFFFFFFFFF) = true ∧ sticky (run (.mac 0 0 1 (.d 2) {}) 1 1 0x7FFFFFFFFFFFFFFFFF) = (true, true)
      ∧ hit 0 (run (.mac 0 0 1 (.d 2) {}) 1 1 5) = true ∧ sticky (run (.mac 0 0 1 (.d 2) {}) 1 1 5) = (false, false)
      ∧ hit 1 (run (.cmacj 0 0 1 (.d 2) {}) 0x00020003 0x00040005 0x7FFFFFFFFF) = true ∧ hit 0 (run (.cmac 0 0 1 (.d 2) {}) 0x00020003 0x00040005 0) = true := by decide

/-- R224, R225: conversions round and saturate; guard bits; NORM of E. -/
theorem test_convert :
    let s (sr : Word) (e : BitVec 72) := awl [] (bank [(1, 0x1FF), (4, 1), (5, 2)] fun b => { (b.putE 0 e).putEV 0 e with sr := sr })
    let d (sr : Word) (e : BitVec 72) (c : Instr) := ((after c (s sr e)).act 0).D 3
    d 0 3 (.movConv 0 (.d 3) 0 1 none) = 2 ∧ d 0x200 3 (.movConv 0 (.d 3) 0 1 none) = 1 ∧ d 0 0x100000000 (.movConv 0 (.d 3) 0 0 none) = 0x7FFFFFFF
      ∧ ((after (.movConv 0 (.pair 1) 0 4 none) (s 0 0x50)).act 0).D64 1 = 5 ∧ d 0 0x8000 (.movCconv 0 3 0 0 none) = 0x7FFF0000
      ∧ d 0 1 (.normE 0 3 0) = 70 ∧ d 0 0xFF0000000000000000 (.movgRead 0 3 0) = 0xFFFFFFFF
      ∧ ((after (.movgWrite 0 0 1 2) (s 0 0)).act 0).E 0 = 0xFF0000000100000002 := by decide

/-- The words of the spec's hand assembly decode to its sources. -/
theorem test_hand_assembly :
    awlDecode 0x70123494 0 = some (.ldq 3 (.w32 2) 2 ⟨0x94, false⟩) ∧ awlDecode 0x60084000 0 = some (.ld (.d 1) 0 .incr)
      ∧ awlDecode 0x10001002 0 = some (.loop (.imm 16) (.short 2))
      ∧ awlDecode 0xC2118822 0 = some (.mul .mac 0 8 (.d 12) { x := some ⟨.load, 0, 0⟩, y := some ⟨.load, 0, 1⟩ }) ∧ awlDecode 0 0 = some .nop
      ∧ awlDecode 0x40220001 0 = some (.binI .add 4 4 ⟨1, false⟩) ∧ awlDecode 0xD0C00000 0 = some (.conv (.d 6) 0 0 (some {}))
      ∧ awlDecode 0x45980000 0x12345 = some (.ldi 3 ⟨0x12345, true⟩) ∧ awlDecode 0x04401FF8 0 = some (.br 2 0x1FF8) := by decide

/-- R258: the five-word ring of the spec. -/
theorem test_ring :
    let p (a : Word) (step : Int) := stepped (awl [] (bank [] fun b => ((b.setCR 4 a).setCR 12 0x100).setCR 20 20)) 0 4 step
    p 0x110 4 = 0x100 ∧ p 0x100 (-8) = 0x10C ∧ p 0x108 24 = 0x10C ∧ p 0x200 4 = 0x100 := by decide

/-- R258: the load through A4 steps it as the ring says; loads come one instruction later, stores three. -/
theorem test_moves :
    let s := awl [] (bank [(1, 77)] fun b => ((b.setCR 4 0x110).setCR 12 0x100).setCR 20 20)
    ((after (.ld 0 (.d 2) 4 .incr) s).act 0).AV 4 = 0x100 ∧ ((after (.st 0 (.d 1) 0 (.index ⟨8, false⟩)) s).act 0).flight = [⟨3, .mem 0x4008, 77⟩]
      ∧ (after (.nop 0) (s.setAct 0 { (s.act 0) with flight := [⟨1, .mem 0x4008, 77⟩] })).bytes (localBase 0 + 0x4008) 4 = [77, 0, 0, 0]
      ∧ ((after (.movcWrite 0 38 (.imm ⟨0xFFF, false⟩)) s).act 0).sr = 0x37F ∧ ((after (.movcWrite 0 43 (.imm ⟨5, false⟩)) s).act 0).CR 43 = 4
      ∧ ((after (.movcRead 0 2 4) s).act 0).D 2 = 0x110 ∧ ((after (.ldc 0 2 1) s).act 0).AV 33 = 4
      ∧ ((after (.nopMoves 0 { y := some ⟨.store, 0, 0⟩ }) s).act 0).flight = [⟨3, .mem 0x6110, 0⟩] := by decide

theorem test_witness_frame :
    let s := awl [] (bank [] fun b => { b with flight := [⟨1, .mem 0x4008, 77⟩, ⟨2, .d 5, 1⟩] })
    Ready s 0 .nop ∧ s.rd pgECC ECC.INJCTL_ARM = 0 ∧ dataRow (.nop 0) = some (0, .nop) ∧ (∀ f ∈ (s.act 0).flight, f.tgt = .mem 0x4008 ∨ f.tgt = .d 5)
      ∧ due s 0 .nop = [⟨1, .mem 0x4008, 77⟩] ∧ (s.act 0).br = none ∧ (s.act 0).redo = 0 ∧ (s.act 0).atEnd (s.act 0).pc (insLen .nop) = false := by
  unfold Ready; decide

/-! ### The Bench queue, control flow and exceptions of the Awl -/

/-- The queue instructions of entry 3 through A2. -/
def queueIns : List AwlIns :=
  [.ldq 3 (.w16 1) 2 ⟨1023, false⟩, .ldq 3 (.w32 1) 2 ⟨0, false⟩, .ldq 3 (.w64 0) 2 ⟨0, false⟩, .stq 3 (.w16 1) 2 ⟨1023, false⟩, .stq 3 (.w32 1) 2 ⟨0, false⟩,
    .stq 3 (.w64 0) 2 ⟨0, false⟩, .ldqB 3 1 2 ⟨0, false⟩ 7, .stqB 3 1 2 ⟨8, false⟩ 0, .waitq 8, .post 3]

theorem test_witness_queue :
    let s := awl [openGate 0] (bank [(1, 0xAABBCCDD)] fun b => b.setCR 2 0x01000100)
    let w := s.setAct 0 ((s.act 0).putQ 3 { st := .pending })
    (∀ i ∈ queueIns, Ready s 0 i ∧ Waits w 0 i) ∧ Ready w 0 (.waitq 4) ∧ Ready s 0 .endt := by
  unfold Ready Waits; decide

theorem test_witness_queue_gate :
    let s := awl [openGate 0] (bank [] fun b => (b.setCR 2 0x01000100).putQ 4 { st := .done })
    ((s.act 0).q1 3).st = .free ∧ ((s.act 0).q1 3).err = false ∧ ((s.act 0).q1 4).st = .done ∧ Ready s 0 (.ldq 4 (.w32 1) 2 ⟨0, false⟩)
      ∧ s.gateKind 0 0x01000100 4 false = none ∧ s.gateKind 0 0x01000100 4 true = none ∧ (∀ i, i ≤ 7 → s.gateKind 0 (0x01000100 + 8 * i) 8 false = none)
      ∧ (∀ i, i ≤ 7 → s.gateKind 0 (0x01000100 + 8 * i) 8 true = none) ∧ (awl [] {}).gateKind 0 0x01000100 4 false ≠ none ∧ (awl [] {}).gateKind 0 0x01000100 4 true ≠ none
      ∧ Ready (awl [] (bank [] fun b => b.setCR 2 0x01000100)) 0 (.ldq 3 (.w32 1) 2 ⟨0, false⟩)
      ∧ Ready (awl [] (bank [] fun b => b.setCR 2 0x01000100)) 0 (.stq 3 (.w32 1) 2 ⟨0, false⟩)
      ∧ s.tokenAt 0 (s.awl 0).bank = some { token0 with on := some (0, 0) } ∧ (s.act 0).flight = [] ∧ (awl [] {}).act 0 = {} := by
  unfold Ready; decide

/-- An access of entry 3 of bank 0 at the head of the Awl's accesses. -/
def item (data : Option (List Byte)) : QItem :=
  { bank := 0, q := 3, addr := 0x01000100, n := 4, block := false, data := data, task := 0, axis := none, posted := 0, orphan := false }

theorem test_witness_queue_complete :
    let s := awl [openGate 0] {}
    s.por = false ∧ (s.awl 0).fifo = [] ∧ s.flips = [] ∧ ((s.modAwl 0 fun w => { w with fifo := [item none] }).awl 0).fifo = [item none]
      ∧ (s.gateKind 0 0x01000100 4 false).all (· < 3) = true ∧ (s.gateKind 0 0x01000100 4 true).all (· < 3) = true := by decide

/-- R213–R215, R249: a load is posted, performed and committed; a store reaches its target when it is performed. -/
theorem test_queue :
    let s := awl [openGate 0] (bank [(1, 0xAABBCCDD)] fun b => b.setCR 2 0x01000100)
    let t := after (.stq 0 3 (.w32 1) 2 ⟨4, false⟩) s
    let u := after (.queueEntryComplete 0) t
    let v := after (.queueEntryComplete 0) (after (.ldq 0 5 (.w16 6) 2 ⟨4, false⟩) u)
    t.bytes 0x01000104 4 = [0, 0, 0, 0] ∧ u.bytes 0x01000104 4 = [0xDD, 0xCC, 0xBB, 0xAA] ∧ (u.act 0).q1 3 = {} ∧ (v.act 0).D 6 = 0
      ∧ ((after (.waitq 0 0x20) v).act 0).D 6 = 0xFFFFCCDD ∧ (after (.waitq 0 8) t).awl 0 = { t.awl 0 with qwait := true } := by decide

/-- R249: the block forms post k + 1 words of 8 bytes; POST j of task 0 is event 0x4000 + 0x1000 j; ENDT keeps CTX. -/
theorem test_queue_blocks :
    let s := awl [openGate 0] (bank [] fun b => { b.setCR 2 0x01000100 with ctx := 5 })
    ((after (.ldqB 0 3 1 2 ⟨8, false⟩ 7) s).awl 0).fifo.map (fun i => (i.addr, i.n, i.block)) = [(0x01000108, 64, true)]
      ∧ ((after (.stqB 0 3 1 2 ⟨8, false⟩ 1) s).awl 0).fifo.map (fun i => i.data) = [some (List.replicate 16 0)]
      ∧ (after (.post 0 2) s).cinch.events = [(0, 0x6000)] ∧ (after (.endt 0) s).reg (pgAWL 0) AWL.ENDCTX = 5
      ∧ (after (.endt 0) s).reg pgCINCH CINCH.DONE = 1 := by decide

theorem test_witness_flow :
    let s := awl [] (bank [(1, 0x123)] fun b => { b with pc := 0x204, sr := 1 })
    (∀ i ∈ ([.br 13 0x1FF8, .call 15 5, .jmp 1 1, .loop (.imm 16) (.short 2), .loop (.reg 1) (.long 0x300), .loop (.imm 0) (.short 2), .redo (.imm 3), .redo (.imm 0),
        .redo (.reg 1)] : List AwlIns), Ready s 0 i)
      ∧ (s.act 0).atEnd 0x204 4 = false ∧ loopEnd 0x208 (.short 2) = some 0x214 ∧ loopEnd 0x204 (.long 0x300) = some 0x300 ∧ (s.act 0).lsp = 0
      ∧ (s.act 0).atEnd 0x208 (s.lenAt 0 0x208) = false := by
  unfold Ready; decide

theorem test_witness_slots :
    (∀ b ∈ ([{ br := some (2, none) }, { br := some (1, some 0x100) }, { redo := 2 }, { redo := 1 }] : List Bank), Ready (awl [] b) 0 (.nopMoves {}))
      ∧ Ready (awl [] { br := some (2, none) }) 0 .nop ∧ Ready (awl [] { br := some (1, some 0x100) }) 0 .nop := by
  unfold Ready; decide

theorem test_witness_loop_end :
    let s (c lsp : Nat) := awl [] (bank [] fun b =>
      { ((b.setCR 43 (BitVec.ofNat 32 lsp)).setCR 48 0x204).setCR 52 (BitVec.ofNat 32 c) with pc := 0x204 })
    Ready (s 2 1) 0 .nop ∧ ((s 2 1).act 0).atEnd 0x204 4 = true ∧ ((s 2 1).act 0).lsp = 0 + 1 ∧ ((s 2 1).act 0).br = none ∧ ((s 2 1).act 0).redo = 0 ∧ ((s 2 1).act 0).flight = [] := by
  unfold Ready; decide

/-- R252–R256: two delay slots, then the target; the return address of a call lies after them; a JMP drops the low bits. -/
theorem test_branches :
    let s := awl [] (bank [(1, 0x123)] fun b => { b with pc := 0x224 })
    let n (s : State) := after (.nop 0) s
    ((n (n (after (.br 0 2 0x1FF8) s))).act 0).pc = 0x204 ∧ ((n (after (.br 0 2 0x1FF8) s)).act 0).pc = 0x22C
      ∧ ((n (n (after (.br 0 1 0x1FF8) s))).act 0).pc = 0x230 ∧ ((after (.call 0 15 4) s).act 0).D 15 = 0x230
      ∧ ((n (n (after (.jmp 0 0 1) s))).act 0).pc = 0x120 := by decide

/-- R255, R260–R263: the body of the spec's LOOP at 0x0208; a count of 0 passes it; REDO repeats one instruction. -/
theorem test_loops :
    let s := awl [] (bank [] fun b => { b with pc := 0x208 })
    let t := after (.loop 0 (.imm 2) (.short 2)) s
    let n (s : State) := after (.nop 0) s
    (t.act 0).lsStart 0 = 0x20C ∧ (t.act 0).lsEnd 0 = 0x214 ∧ ((n (n (n t))).act 0).pc = 0x20C ∧ ((n (n (n (n (n (n t)))))).act 0).pc = 0x218
      ∧ ((n (n (n (n (n (n t)))))).act 0).lsp = 0 ∧ ((after (.loop 0 (.imm 0) (.short 2)) s).act 0).pc = 0x218
      ∧ ((after (.nopMoves 0 {}) (after (.redo 0 (.imm 2)) s)).act 0).pc = 0x20C ∧ ((after (.redo 0 (.imm 0)) s).act 0).pc = 0x210 := by decide

theorem test_witness_exceptions :
    let s := awl [(pgAWL 0, AWL.EXCCFG, AWL.EXCCFG_EN.put 1 0 |>.toNat)] (bank [] fun b => { b with pc := 0x480 })
    let r := s.setAct 0 { (s.act 0) with excm := true }
    Ready s 0 (.trap 7) ∧ Ready s 0 (.bkpt 255) ∧ (s.act 0).br = none ∧ (s.act 0).redo = 0 ∧ (s.act 0).atEnd 0x480 4 = false ∧ s.on (pgAWL 0) AWL.DBGCTL_BKEN = false
      ∧ ((s.wr (pgAWL 0) AWL.DBGCTL_BKEN 1).on (pgAWL 0) AWL.DBGCTL_BKEN = true) ∧ s.on (pgAWL 0) AWL.EXCCFG_EN = true ∧ s.on (pgAWL 0) AWL.DBGCTL_EXCHALT = false
      ∧ (s.act 0).excm = false ∧ Ready r 0 .rte ∧ (r.act 0).flight = [] ∧ (r.act 0).excm = true ∧ (awl [] {}).on (pgAWL 0) AWL.EXCCFG_EN = false
      ∧ awlDecode 0x18000000 0 ≠ some .nop ∧ s.earlyCause 0 .rte = some (1, 0) ∧ (built []).issues 0 = false := by
  unfold Ready; decide

theorem test_witness_illegal :
    let s := awl [] {}
    s.por = false ∧ s.issues 0 = true ∧ s.breakHit 0 = none ∧ (s.awl 0).stepping = false ∧ s.flips = [] ∧ awlDecode 0x3C000000 0 = none
      ∧ awlDecode 0 0 = some .nop ∧ awlRow (.nop 0) = some (0, .nop) ∧ awlRow (.rte 0) = some (0, .rte)
      ∧ (awl [(pgAWL 0, AWL.DBGCTL, AWL.DBGCTL_BKEN.put 1 0 |>.toNat), (pgAWL 0, AWL.BP0, 0x80000000)] {}).breakHit 0 = some 3 := by decide

/-- R261: an instruction at END in a slot of a taken branch is LOOPSTR; before END, or without the branch, it is none. -/
theorem test_witness_loop_slot :
    let s (pc : Nat) (br : Option (Nat × Option Nat)) := awl [(pgAWL 0, AWL.EXCCFG, AWL.EXCCFG_EN.put 1 0 |>.toNat)] (bank [] fun b =>
      { ((b.setCR 43 1).setCR 48 0x204).setCR 52 2 with pc := pc, br := br })
    dataRow (.add 0 3 1 (.d 2) {}) = some (0, .bin .add 3 1 (.d 2) {}) ∧ unencodable (.bin .add 3 1 (.d 2) {}) = false ∧ (s 0x204 (some (1, some 0x100))).issues 0 = true
      ∧ (s 0x204 (some (1, some 0x100))).breakHit 0 = none ∧ ((s 0x204 (some (1, some 0x100))).act 0).redo = 0
      ∧ ((s 0x204 (some (1, some 0x100))).act 0).atEnd 0x204 (insLen (.bin .add 3 1 (.d 2) {})) = true
      ∧ (after (.add 0 3 1 (.d 2) {}) (s 0x204 (some (1, some 0x100)))).rd (pgAWL 0) AWL.EXCSTAT_LAST = 3
      ∧ (after (.add 0 3 1 (.d 2) {}) (s 0x200 (some (1, some 0x100)))).reg (pgAWL 0) AWL.EXCCNT = 0
      ∧ (after (.add 0 3 1 (.d 2) {}) (s 0x204 none)).reg (pgAWL 0) AWL.EXCCNT = 0 := by decide

/-- R268: the pending taken branch of an exception in its slot is put away in the frame, with its slots. -/
theorem test_exception_branch :
    let s (br : Option (Nat × Option Nat)) := awl [(pgAWL 0, AWL.EXCCFG, AWL.EXCCFG_EN.put 1 0 |>.toNat)] (bank [] fun b => { b with pc := 0x480, br := br })
    (after (.trap 0 7) (s (some (2, some 0x100)))).bytes (localBase 0 + 0x4000 + 0x1F14) 4 = [0, 1, 2, 0x80]
      ∧ (after (.trap 0 7) (s (some (2, none)))).bytes (localBase 0 + 0x4000 + 0x1F14) 4 = [0, 0, 0, 0] := by decide

/-- The spec's TRAP 7 at 0x0480 with ENTRY 0x3E00 (R267): EPC, ECAUSE, A3 and the PC; RTE returns behind it. -/
theorem test_trap :
    let s := fields [(pgAWL 0, AWL.EXCCFG_EN, 1), (pgAWL 0, AWL.EXCCFG_ENTRY, 0x3E00)] (awl [] { pc := 0x480 })
    let t := after (.trap 0 7) s
    (t.act 0).pc = 0x3E00 ∧ t.bytes (localBase 0 + 0x4000 + 0x1F00) 4 = [0x84, 4, 0, 0] ∧ t.bytes (localBase 0 + 0x4000 + 0x1F08) 4 = [4, 7, 0, 0]
      ∧ (t.act 0).AV 3 = 0x1F00 ∧ ((after (.rte 0) t).act 0).pc = 0x484 ∧ ((after (.rte 0) t).act 0).excm = false := by decide

/-- R266, R271: a reserved word raises cause 1 with the word; BKPT halts with REASON 2 while BKEN is set. -/
theorem test_illegal_and_bkpt :
    let s := awl [(pgAWL 0, AWL.EXCCFG, AWL.EXCCFG_EN.put 1 0 |>.toNat)] (bank [] fun b => { b with pc := 0x480 })
    (after (.illegalInstruction 0 0x3C000000 0) s).bytes (localBase 0 + 0x4000 + 0x1F0C) 4 = [0, 0, 0, 0x3C]
      ∧ (after (.illegalInstruction 0 0x3C000000 0) s).rd (pgAWL 0) AWL.EXCSTAT_LAST = 1
      ∧ (after (.bkpt 0 1) (s.wr (pgAWL 0) AWL.DBGCTL_BKEN 1)).rd (pgAWL 0) AWL.DBGSTAT_REASON = 2
      ∧ ((after (.bkpt 0 9) (s.wr (pgAWL 0) AWL.DBGCTL_BKEN 1)).awl 0).bkpt = some 9
      ∧ (after (.bkpt 0 1) s).rd (pgAWL 0) AWL.EXCSTAT_LAST = 5 := by decide

end Sys2Proof.Tests
end

/-! SUPPORT. How the fields of a register lie in its word: each within it, and no bit in two of them. -/
namespace Sys2Proof.Machine

/-- Bit `i` of a register word lies in the field. -/
abbrev Fld.Covers (f : Fld) (i : Nat) : Prop := f.lo ≤ i ∧ i ≤ f.hi

/-- Every field lies within its word, and no two fields of one register share a bit. -/
structure Laid (fs : List Fld) : Prop where
  within : ∀ f ∈ fs, f.lo ≤ f.hi ∧ f.hi < 32
  eq_of_covers : ∀ f ∈ fs, ∀ g ∈ fs, f.off = g.off → ∀ i, f.Covers i → g.Covers i → f = g

theorem laid_nil : Laid [] := ⟨fun _ hf => (nomatch hf), fun _ hf => (nomatch hf)⟩

theorem laid_singleton {f : Fld} (h : f.lo ≤ f.hi ∧ f.hi < 32) : Laid [f] :=
  ⟨fun _ hg => List.mem_singleton.mp hg ▸ h, fun _ hg _ hk _ _ _ _ => (List.mem_singleton.mp hg).trans (List.mem_singleton.mp hk).symm⟩

theorem Laid.filter {fs : List Fld} (h : Laid fs) (q : Fld → Bool) : Laid (fs.filter q) :=
  have hm {f : Fld} (hf : f ∈ fs.filter q) : f ∈ fs := (List.mem_filter.mp hf).1
  ⟨fun f hf => h.within f (hm hf), fun f hf g hg => h.eq_of_covers f (hm hf) g (hm hg)⟩

/-! ### A check of a whole table: the bits of a page that are taken so far are one number -/

/-- The bits of its page that a field takes. -/
def Fld.place (f : Fld) : Nat := (2 ^ (f.hi + 1 - f.lo) - 1) <<< (8 * f.off + f.lo)

/-- Each field in turn takes bits that are not `used` and that no field before it took. -/
def unshared : Nat → List Fld → Bool
  | _, [] => true
  | used, f :: fs => used &&& f.place == 0 && unshared (used ||| f.place) fs

theorem Fld.testBit_place {f : Fld} {i : Nat} (h : f.Covers i) : f.place.testBit (8 * f.off + i) = true := by
  rw [place, Nat.testBit_shiftLeft, Nat.testBit_two_pow_sub_one, Bool.and_eq_true, decide_eq_true_eq, decide_eq_true_eq]
  omega

/-- A number without a bit in common with a field's place leaves the field's bits free. -/
theorem Fld.testBit_of_and_place {f : Fld} {i used : Nat} (h : used &&& f.place = 0) (hc : f.Covers i) :
    used.testBit (8 * f.off + i) = false := by
  have hb := congrArg (fun n => n.testBit (8 * f.off + i)) h
  simpa only [Nat.testBit_and, testBit_place hc, Bool.and_true, Nat.zero_testBit] using hb

/-- The fields of a checked list keep clear of the bits used before. -/
theorem unshared_free {used : Nat} {fs : List Fld} (h : unshared used fs = true) {g : Fld} (hg : g ∈ fs) {i : Nat} (hc : g.Covers i) :
    used.testBit (8 * g.off + i) = false := by
  induction fs generalizing used with
  | nil => cases hg
  | cons f fs ih =>
    obtain ⟨hf, hfs⟩ := Bool.and_eq_true_iff.mp h
    rcases List.mem_cons.mp hg with rfl | hg
    · exact Fld.testBit_of_and_place (beq_iff_eq.mp hf) hc
    · have hu := ih hfs hg
      rw [Nat.testBit_or, Bool.or_eq_false_iff] at hu
      exact hu.1

theorem unshared_eq_of_covers {used : Nat} {fs : List Fld} (h : unshared used fs = true) {f g : Fld} (hf : f ∈ fs) (hg : g ∈ fs)
    (ho : f.off = g.off) {i : Nat} (hfi : f.Covers i) (hgi : g.Covers i) : f = g := by
  induction fs generalizing used with
  | nil => cases hf
  | cons a fs ih =>
    have hfs := (Bool.and_eq_true_iff.mp h).2
    have hclash {b : Fld} (hb : b ∈ fs) (ho : a.off = b.off) (hai : a.Covers i) (hbi : b.Covers i) : False := by
      have hu := unshared_free hfs hb hbi
      rw [Nat.testBit_or, ← ho, Fld.testBit_place hai, Bool.or_true] at hu
      cases hu
    rcases List.mem_cons.mp hf with hfa | hf
    · rcases List.mem_cons.mp hg with hga | hg
      · rw [hfa, hga]
      · exact (hclash hg (hfa ▸ ho) (hfa ▸ hfi) hgi).elim
    · rcases List.mem_cons.mp hg with hga | hg
      · exact (hclash hf (hga ▸ ho.symm) (hga ▸ hgi) hfi).elim
      · exact ih hfs hf hg

theorem laid_of_unshared {fs : List Fld} (hw : ∀ f ∈ fs, f.lo ≤ f.hi ∧ f.hi < 32) (h : unshared 0 fs = true) : Laid fs :=
  ⟨hw, fun _ hf _ hg ho _ => unshared_eq_of_covers h hf hg ho⟩

/-! ### The register tables -/

/-- The fields of the pages of a row of the page index beyond the header: those of their kind and of their shells. -/
def rowFields (r : PageRow) : List Fld := kindFields r.kind ++ (List.range (pageShells r.first)).flatMap SHELL.fields

theorem laid_header : Laid HDR.fields := laid_of_unshared (by decide) (by decide)

theorem laid_rowFields {r : PageRow} (h : r ∈ pageIndex) : Laid (rowFields r) := by
  have hw : ∀ r ∈ pageIndex, ∀ f ∈ rowFields r, f.lo ≤ f.hi ∧ f.hi < 32 := by decide +kernel
  have hs : ∀ r ∈ pageIndex, unshared 0 (rowFields r) = true := by decide +kernel
  exact laid_of_unshared (hw r h) (hs r h)

/-- The fields of byte `b` of a word of the MSI-X map. -/
def mapByte (off b : Nat) : List Fld := [⟨off, 8 * b + 7, 8 * b + 7, .rw, 0⟩, ⟨off, 8 * b + 5, 8 * b, .rw, 0⟩]

theorem mem_mapByte {off b : Nat} {f : Fld} (h : f ∈ mapByte off b) : f.off = off ∧ f.lo ≤ f.hi ∧ 8 * b ≤ f.lo ∧ f.hi < 8 * b + 8 := by
  rcases List.mem_cons.mp h with rfl | h
  · dsimp only
    omega
  · rw [List.mem_singleton.mp h]
    dsimp only
    omega

/-- Fields of one byte that cover one bit are the same: the enable bit, or the vector below it. -/
theorem mapByte_eq_of_covers {off b i : Nat} {f g : Fld} (hf : f ∈ mapByte off b) (hg : g ∈ mapByte off b) (hfi : f.Covers i)
    (hgi : g.Covers i) : f = g := by
  simp only [mapByte, List.mem_cons, List.not_mem_nil, or_false] at hf hg
  rcases hf with rfl | rfl
  · rcases hg with rfl | rfl
    · rfl
    · dsimp only [Fld.Covers] at hfi hgi
      omega
  · rcases hg with rfl | rfl
    · dsimp only [Fld.Covers] at hfi hgi
      omega
    · rfl

theorem laid_mapWord (off : Nat) : Laid ((List.range 4).flatMap (mapByte off)) := by
  constructor
  · intro f hf
    obtain ⟨b, hb, hf⟩ := List.mem_flatMap.mp hf
    have := List.mem_range.mp hb
    have := mem_mapByte hf
    omega
  · intro f hf g hg _ i hfi hgi
    obtain ⟨b, -, hf⟩ := List.mem_flatMap.mp hf
    obtain ⟨c, -, hg⟩ := List.mem_flatMap.mp hg
    have hfb := mem_mapByte hf
    have hgc := mem_mapByte hg
    have hbc : b = c := by omega
    exact mapByte_eq_of_covers hf (hbc ▸ hg) hfi hgi

theorem laid_msixFields (off : Nat) : Laid (msixFields off) := by
  have hword {a : Acc} {r : Nat} : Laid [⟨off, 31, 0, a, r⟩] := laid_singleton ⟨Nat.zero_le 31, Nat.lt_add_one 31⟩
  unfold msixFields
  split
  · exact laid_nil
  · split
    · exact laid_mapWord off
    · split
      · exact hword
      · split
        · exact hword
        · exact laid_nil

theorem off_of_mem_msixFields {off : Nat} {f : Fld} (h : f ∈ msixFields off) : f.off = off := by
  have hword {a : Acc} {r : Nat} (h : f ∈ [(⟨off, 31, 0, a, r⟩ : Fld)]) : f.off = off := by rw [List.mem_singleton.mp h]
  unfold msixFields at h
  split at h
  · cases h
  · split at h
    · obtain ⟨b, -, hf⟩ := List.mem_flatMap.mp h
      exact (@mem_mapByte off b f hf).1
    · split at h
      · exact hword h
      · split at h
        · exact hword h
        · cases h

/-! ### The pages of a kind -/

theorem mem_pageIndex {p : Nat} {r : PageRow} (h : pageRow p = some r) : r ∈ pageIndex := List.mem_of_find?_eq_some h

theorem pageKind_of_row {p : Nat} {r : PageRow} (h : pageRow p = some r) : pageKind p = some r.kind := by rw [pageKind, h, Option.map_some]

/-- The pages of a row have the shells of its first page. -/
theorem pageShells_of_row {p : Nat} {r : PageRow} (h : pageRow p = some r) : pageShells p = pageShells r.first := by
  have hf : ∀ r ∈ pageIndex, pageKind r.first = some r.kind := by decide
  unfold pageShells
  rw [pageKind_of_row h, hf r (mem_pageIndex h)]

theorem first_add_pageInst {p : Nat} {r : PageRow} (h : pageRow p = some r) : r.first + pageInst p = p := by
  have hr := List.find?_some h
  simp only [Bool.and_eq_true, decide_eq_true_eq] at hr
  simp only [pageInst, h]
  omega

/-- A page of a kind whose pages begin at `first` is counted from there. -/
theorem page_of_kind {p first : Nat} {k : PageKind} (hk : ∀ r ∈ pageIndex, r.kind = k → r.first = first) (h : pageKind p = some k) :
    first + pageInst p = p := by
  obtain ⟨r, hr, rfl⟩ := Option.map_eq_some_iff.mp h
  rw [← hk r (mem_pageIndex hr) rfl, first_add_pageInst hr]

theorem pgCINCHB_pageInst {p : Nat} (h : pageKind p = some .cinchb) : pgCINCHB (pageInst p) = p := page_of_kind (by decide) h
theorem pgAWL_pageInst {p : Nat} (h : pageKind p = some .awl) : pgAWL (pageInst p) = p := page_of_kind (by decide) h
theorem pgSTITCH_pageInst {p : Nat} (h : pageKind p = some .stitch) : pgSTITCH (pageInst p) = p := page_of_kind (by decide) h
theorem pgSTAMP_pageInst {p : Nat} (h : pageKind p = some .stamp) : pgSTAMP (pageInst p) = p := page_of_kind (by decide) h
theorem pgGATE_pageInst {p : Nat} (h : pageKind p = some .gate) : pgGATE (pageInst p) = p := page_of_kind (by decide) h

/-! ### The fields of one register -/

theorem laid_regFields (p off : Nat) : Laid (regFields p off) := by
  unfold regFields
  cases hr : pageRow p with
  | none =>
    rw [pageKind, hr]
    exact laid_nil
  | some r =>
    rw [pageKind_of_row hr, pageShells_of_row hr]
    dsimp only
    split
    · exact laid_header.filter _
    · split
      · exact laid_msixFields off
      · exact (laid_rowFields (mem_pageIndex hr)).filter _

theorem off_of_mem_regFields {p off : Nat} {f : Fld} (h : f ∈ regFields p off) : f.off = off := by
  unfold regFields at h
  split at h
  · cases h
  · split at h
    · exact of_decide_eq_true (List.mem_filter.mp h).2
    · split at h
      · exact off_of_mem_msixFields h
      · exact of_decide_eq_true (List.mem_filter.mp h).2

variable {p off : Nat}

/-- A bit lies in one field of its register. -/
theorem regFields_eq_of_covers {f g : Fld} (hf : f ∈ regFields p off) (hg : g ∈ regFields p off) {i : Nat} (hfi : f.Covers i)
    (hgi : g.Covers i) : f = g :=
  (laid_regFields p off).eq_of_covers f hf g hg (by rw [off_of_mem_regFields hf, off_of_mem_regFields hg]) i hfi hgi

theorem regFields_lo_le_hi {f : Fld} (h : f ∈ regFields p off) : f.lo ≤ f.hi := ((laid_regFields p off).within f h).1

theorem regFields_hi_lt {f : Fld} (h : f ∈ regFields p off) : f.hi < 32 := ((laid_regFields p off).within f h).2

theorem lt_of_covers {f : Fld} (h : f ∈ regFields p off) {i : Nat} (hc : f.Covers i) : i < 32 := by
  have := regFields_hi_lt h
  omega

/-! ### The masks of the access codes, bit by bit -/

theorem getLsbD_mask_eq_covers (f : Fld) {i : Nat} (h : i < 32) : f.mask.getLsbD i = decide (f.Covers i) := by
  rw [getLsbD_mask f i h, ← Bool.decide_and, decide_eq_decide]
  omega

theorem getLsbD_foldl_mask (fs : List Fld) (w : Word) {i : Nat} (h : i < 32) :
    (fs.foldl (fun w f => w ||| f.mask) w).getLsbD i = true ↔ w.getLsbD i = true ∨ ∃ f ∈ fs, f.Covers i := by
  induction fs generalizing w with
  | nil => simp only [List.foldl_nil, List.not_mem_nil, false_and, exists_false, or_false]
  | cons f fs ih =>
    rw [List.foldl_cons, ih, BitVec.getLsbD_or, getLsbD_mask_eq_covers f h, Bool.or_eq_true, decide_eq_true_eq, or_assoc]
    simp only [List.mem_cons, exists_eq_or_imp]

theorem getLsbD_accMask (a : Acc) {i : Nat} (h : i < 32) :
    (accMask p off a).getLsbD i = true ↔ ∃ f ∈ regFields p off, f.acc = a ∧ f.Covers i := by
  rw [accMask, getLsbD_foldl_mask _ _ h]
  simp only [BitVec.ofNat_eq_ofNat, BitVec.getLsbD_zero, Bool.false_eq_true, false_or, List.mem_filter, decide_eq_true_eq, and_assoc]

/-- A bit of a field is in the mask of its own access code alone. -/
theorem getLsbD_accMask_of_mem (a : Acc) {f : Fld} (hf : f ∈ regFields p off) {i : Nat} (hc : f.Covers i) :
    (accMask p off a).getLsbD i = decide (f.acc = a) := by
  rw [Bool.eq_iff_iff, decide_eq_true_iff, getLsbD_accMask a (lt_of_covers hf hc)]
  constructor
  · rintro ⟨g, hg, ha, hgi⟩
    rwa [regFields_eq_of_covers hf hg hc hgi]
  · exact fun ha => ⟨f, hf, ha, hc⟩

/-- A bit without a field is in no mask. -/
theorem getLsbD_accMask_of_none (a : Acc) {i : Nat} (h : ∀ f ∈ regFields p off, i < f.lo ∨ f.hi < i) :
    (accMask p off a).getLsbD i = false := by
  by_cases hi : i < 32
  · rw [Bool.eq_false_iff, ne_eq, getLsbD_accMask a hi]
    rintro ⟨f, hf, -, hc⟩
    have := h f hf
    omega
  · exact BitVec.getLsbD_of_ge _ _ (by omega)

/-- Two words agree in a field when they agree in its bits. -/
theorem Fld.get_eq_get_iff {f : Fld} {v w : Word} :
    f.get v = f.get w ↔ ∀ i, f.Covers i → v.getLsbD i = w.getLsbD i := by
  have hb : ∀ (u : Word) j, (f.get u).testBit j = (decide (j < f.hi + 1 - f.lo) && u.getLsbD (f.lo + j)) := fun u j => by
    rw [Fld.get, testBit_bitsOf, BitVec.testBit_toNat]
  constructor
  · intro h i hi
    have hj := congrArg (fun n => n.testBit (i - f.lo)) h
    simpa only [hb, show i - f.lo < f.hi + 1 - f.lo by omega, show f.lo + (i - f.lo) = i by omega, decide_true, Bool.true_and] using hj
  · intro h
    refine Nat.eq_of_testBit_eq fun j => ?_
    rw [hb, hb]
    by_cases hj : j < f.hi + 1 - f.lo
    · rw [h (f.lo + j) (by omega)]
    · simp only [hj, decide_false, Bool.false_and]

/-- A word has a bit in the mask of an access code where it has one in a field with that code. -/
theorem and_accMask_ne_zero (a : Acc) (w : Word) :
    w &&& accMask p off a ≠ 0#32 ↔ ∃ f ∈ regFields p off, f.acc = a ∧ ∃ i, f.Covers i ∧ w.getLsbD i = true := by
  constructor
  · intro h
    refine Classical.byContradiction fun hn => h (BitVec.eq_of_getLsbD_eq fun i hi => ?_)
    rw [BitVec.getLsbD_and, BitVec.getLsbD_zero, Bool.and_eq_false_imp]
    intro hw
    rw [Bool.eq_false_iff, ne_eq, getLsbD_accMask a hi]
    rintro ⟨f, hf, ha, hc⟩
    exact hn ⟨f, hf, ha, i, hc, hw⟩
  · rintro ⟨f, hf, ha, i, hc, hw⟩ h
    have hb := congrArg (fun u : Word => u.getLsbD i) h
    rw [BitVec.getLsbD_and, hw, getLsbD_accMask_of_mem a hf hc, ha, decide_eq_true rfl, BitVec.getLsbD_zero] at hb
    cases hb

theorem accMask_ne_zero (a : Acc) : accMask p off a ≠ 0#32 ↔ ∃ f ∈ regFields p off, f.acc = a := by
  have h := @and_accMask_ne_zero p off a (BitVec.allOnes 32)
  rw [BitVec.allOnes_and] at h
  rw [h]
  refine exists_congr fun f => and_congr_right fun hf => ⟨fun h => h.1, fun ha => ⟨ha, f.lo, ?_⟩⟩
  have hc : f.Covers f.lo := ⟨Nat.le_refl _, regFields_lo_le_hi hf⟩
  exact ⟨hc, by rw [BitVec.getLsbD_allOnes]; exact decide_eq_true (lt_of_covers hf hc)⟩

/-- Two words differ under the mask of an access code where a field with that code differs. -/
theorem xor_and_accMask_ne_zero (a : Acc) (cur v : Word) :
    (cur ^^^ v) &&& accMask p off a ≠ 0#32 ↔ ∃ f ∈ regFields p off, f.acc = a ∧ f.get v ≠ f.get cur := by
  rw [and_accMask_ne_zero]
  refine exists_congr fun f => and_congr_right fun _ => and_congr_right fun _ => ?_
  rw [ne_eq, Fld.get_eq_get_iff, Classical.not_forall]
  refine exists_congr fun i => ?_
  rw [Classical.not_imp, BitVec.getLsbD_xor]
  generalize cur.getLsbD i = x, v.getLsbD i = y
  exact and_congr_right fun _ => by decide +revert

end Sys2Proof.Machine

/-! SUPPORT. A write with no rule but the access codes of its fields (R5, R72, R433). -/
namespace Sys2Proof.Machine

/-- The word of a register after a write of `v` over `cur`, where its RWS fields take the value (`takes`) or keep their own. -/
def writtenWord (p off : Nat) (cur v : Word) (takes : Bool) : Word :=
  let take := if takes then accMask p off .rw ||| accMask p off .rws else accMask p off .rw
  (cur &&& ~~~take &&& ~~~(v &&& accMask p off .w1c)) ||| (v &&& take)

variable {p off : Nat}

/-- A bit that is taken is the one written; another stays unless a one clears it. -/
theorem getLsbD_writtenWord (cur v : Word) (takes : Bool) {i : Nat} (hi : i < 32) :
    (writtenWord p off cur v takes).getLsbD i =
      if (accMask p off .rw).getLsbD i || takes && (accMask p off .rws).getLsbD i then v.getLsbD i
      else cur.getLsbD i && !(v.getLsbD i && (accMask p off .w1c).getLsbD i) := by
  cases takes
  all_goals
    simp only [writtenWord, BitVec.getLsbD_or, BitVec.getLsbD_and, BitVec.getLsbD_not, hi, Bool.false_eq_true, ↓reduceIte, decide_true,
      Bool.true_and, Bool.false_and, Bool.or_false]
    generalize cur.getLsbD i = c, v.getLsbD i = b, (accMask p off .rw).getLsbD i = x, (accMask p off .rws).getLsbD i = y,
      (accMask p off .w1c).getLsbD i = z
    decide +revert

/-- What a bit of a field becomes, by the access code. -/
theorem getLsbD_writtenWord_of_mem (cur v : Word) (takes : Bool) {f : Fld} (hf : f ∈ regFields p off) {i : Nat} (hc : f.Covers i) :
    (writtenWord p off cur v takes).getLsbD i =
      match f.acc with
      | .rw => v.getLsbD i
      | .rws => if takes then v.getLsbD i else cur.getLsbD i
      | .w1c => cur.getLsbD i && !v.getLsbD i
      | .ro | .wo | .rc => cur.getLsbD i := by
  rw [getLsbD_writtenWord cur v takes (lt_of_covers hf hc)]
  simp only [getLsbD_accMask_of_mem _ hf hc]
  cases f.acc <;> simp only [reduceCtorEq, decide_true, decide_false, Bool.and_true, Bool.and_false, Bool.or_false, Bool.false_or,
    Bool.false_eq_true, Bool.not_false, ↓reduceIte]

/-- A bit without a field stays. -/
theorem getLsbD_writtenWord_of_none (cur v : Word) (takes : Bool) {i : Nat} (hi : i < 32)
    (h : ∀ f ∈ regFields p off, i < f.lo ∨ f.hi < i) : (writtenWord p off cur v takes).getLsbD i = cur.getLsbD i := by
  rw [getLsbD_writtenWord cur v takes hi]
  simp only [getLsbD_accMask_of_none _ h, Bool.and_false, Bool.or_false, Bool.false_eq_true, ↓reduceIte, Bool.not_false, Bool.and_true]

/-- A field of the written word is what its access code says. -/
theorem get_writtenWord (cur v : Word) (takes : Bool) {f : Fld} (hf : f ∈ regFields p off) :
    f.get (writtenWord p off cur v takes) = fieldAfter f cur v takes := by
  have hb {i : Nat} (hc : f.Covers i) := getLsbD_writtenWord_of_mem cur v takes hf hc
  unfold fieldAfter
  cases ha : f.acc with
  | rws => cases takes <;> exact Fld.get_eq_get_iff.mpr fun i hc => by simp only [hb hc, ha, Bool.false_eq_true, ↓reduceIte]
  | w1c =>
    exact Fld.get_eq_get_iff.mpr fun i hc => by
      simp only [hb hc, ha, BitVec.getLsbD_and, BitVec.getLsbD_not, lt_of_covers hf hc, decide_true, Bool.true_and]
  | rw | ro | wo | rc => exact Fld.get_eq_get_iff.mpr fun i hc => by simp only [hb hc, ha]

namespace State

variable {s : State} {m : Nat}

/-- Two tests on masks read as what they say of the fields. -/
theorem fieldWrite_eq (hm : m < 96) (ho : off < 0x1000) (v : Word) :
    s.fieldWrite m p off v =
      let barred := safetyPage p && m != mHost && m != mBoot
      let w := writtenWord p off (s.reg p off) v (s.st (statePage p) == 1 && !barred)
      let t := if barred = true ∧ ∃ f ∈ regFields p off, f.acc = .rws then (s.setReg p off w).cfgRej p else s.setReg p off w
      if s.st (statePage p) ≠ 1 ∧ ∃ f ∈ regFields p off, f.acc = .rws ∧ f.get v ≠ s.rd p f
        then (t.cfgRej p).fault p (blockCode p 0xF2) (0x10000 * m + off) else t := by
  have hrd : (∃ f ∈ regFields p off, f.acc = .rws ∧ f.get v ≠ s.rd p f) ↔ (s.reg p off ^^^ v) &&& accMask p off .rws ≠ 0#32 := by
    rw [xor_and_accMask_ne_zero]
    exact exists_congr fun f => and_congr_right fun hf => by rw [rd, off_of_mem_regFields hf]
  simp only [hrd, ← accMask_ne_zero]
  simp only [fieldWrite, writtenWord, rwsRejected, Nat.mod_eq_of_lt (show m < 128 by omega), Nat.mod_eq_of_lt ho, Bool.and_eq_true,
    Bool.not_eq_true', beq_eq_false_iff_ne, bne_iff_ne, ne_eq]

end State
end Sys2Proof.Machine

/-! SUPPORT. A write of a register without a rule of its own is one by the access codes (R5). -/
namespace Sys2Proof.Machine

variable {p off : Nat}

/-- What makes a register plain: it is PSTAT or EVT, or one of the block without a rule of its own that is not CALCTL. -/
theorem plainReg_cases (h : plainReg p off = true) : ∃ k, pageKind p = some k ∧ (off = HDR.PSTAT ∨ off = HDR.EVT ∨
    0x40 ≤ off ∧ ownRule k off = false ∧ ¬(0x100 ≤ off ∧ off < 0x100 + 0x80 * pageShells p ∧ off % 0x80 = 0)) := by
  unfold plainReg at h
  split at h
  · cases h
  · rename_i k hk
    refine ⟨k, hk, ?_⟩
    simp only [Bool.or_eq_true, beq_iff_eq, Bool.and_eq_true, decide_eq_true_eq, Bool.not_eq_true', ← Bool.decide_and, decide_eq_false_iff_not] at h
    rcases h with (h | h) | ⟨⟨ho, hown⟩, hcal⟩
    · exact .inl h
    · exact .inr (.inl h)
    · exact .inr (.inr ⟨ho, hown, fun ⟨h1, h2, h3⟩ => hcal ⟨⟨h1, h2⟩, h3⟩⟩)

namespace State

variable {s : State} {m : Nat}

theorem cinchbWrite_plain (v : Word) (hk : pageKind p = some .cinchb) (ho : ownRule .cinchb off = false) :
    s.cinchbWrite m (pageInst p) off v = s.fieldWrite m p off v := by
  simp only [ownRule, Bool.or_eq_false_iff, beq_eq_false_iff_ne, ne_eq, ← Bool.decide_and, decide_eq_false_iff_not] at ho
  simp only [cinchbWrite, ho, ↓reduceIte, pgCINCHB_pageInst hk]

theorem awlWrite_plain (v : Word) (hk : pageKind p = some .awl) (ho : ownRule .awl off = false) :
    s.awlWrite m (pageInst p) off v = s.fieldWrite m p off v := by
  simp only [ownRule, Bool.or_eq_false_iff, beq_eq_false_iff_ne, ne_eq] at ho
  simp only [awlWrite, ho, or_self, ↓reduceIte, pgAWL_pageInst hk]

theorem stitchWrite_plain (v : Word) (hk : pageKind p = some .stitch) (ho : ownRule .stitch off = false) :
    s.stitchWrite m (pageInst p) off v = s.fieldWrite m p off v := by
  simp only [ownRule, Bool.or_eq_false_iff, beq_eq_false_iff_ne, ne_eq, ← Bool.decide_and, decide_eq_false_iff_not] at ho
  simp only [stitchWrite, ho, pgSTITCH_pageInst hk, Bool.false_eq_true, ↓reduceIte]

theorem stampWrite_plain (v : Word) (hk : pageKind p = some .stamp) (ho : ownRule .stamp off = false) :
    s.stampWrite m (pageInst p) off v = s.fieldWrite m p off v := by
  simp only [ownRule, Bool.or_eq_false_iff, beq_eq_false_iff_ne, ne_eq] at ho
  simp only [stampWrite, ho, or_self, ↓reduceIte, pgSTAMP_pageInst hk]

theorem gateWrite_plain (v : Word) (hk : pageKind p = some .gate) (ho : ownRule .gate off = false) :
    s.gateWrite m (pageInst p) off v = s.fieldWrite m p off v := by
  simp only [ownRule, Bool.or_eq_false_iff, beq_eq_false_iff_ne, ne_eq, ← Bool.decide_and, decide_eq_false_iff_not] at ho
  simp only [gateWrite, ho, ↓reduceIte, pgGATE_pageInst hk]

/-- R364: an analog channel follows a write of its page with what it drives. -/
theorem blockWrite_plain {k : PageKind} (v : Word) (hk : pageKind p = some k) (ho : ownRule k off = false) :
    s.blockWrite m p off v = if k = .axch then (s.fieldWrite m p off v).anaIdle (pageInst p) else s.fieldWrite m p off v := by
  unfold blockWrite
  simp only [hk]
  cases k with
  | cinchb => simp only [cinchbWrite_plain v hk ho, reduceCtorEq, ↓reduceIte]
  | awl => simp only [awlWrite_plain v hk ho, reduceCtorEq, ↓reduceIte]
  | stitch => simp only [stitchWrite_plain v hk ho, reduceCtorEq, ↓reduceIte]
  | stamp => simp only [stampWrite_plain v hk ho, reduceCtorEq, ↓reduceIte]
  | gate => simp only [gateWrite_plain v hk ho, reduceCtorEq, ↓reduceIte]
  | tpin | msix => cases ho
  | tack =>
    simp only [ownRule, Bool.or_eq_false_iff, beq_eq_false_iff_ne, ← Bool.decide_and, decide_eq_false_iff_not] at ho
    obtain ⟨hctl, hmeasure⟩ := ho
    have hopen : ¬(0x60 ≤ off ∧ off < 0x80 ∧ s.otpFlag 2 = true ∧ m ≠ mBoot) := fun ⟨hlo, hhi, _⟩ => hmeasure ⟨hlo, hhi⟩
    simp only [hctl, hopen, reduceCtorEq, ↓reduceIte]
  | pwr | boot | ecc | time | girth | nport | lat | cinch | bench | axch | sto | flddo | dma =>
    simp only [ownRule, Bool.or_eq_false_iff, beq_eq_false_iff_ne, ne_eq] at ho
    simp only [ho, false_and, reduceCtorEq, ↓reduceIte]
  | _ => rfl

/-- A write of a register of an analog shell. -/
theorem regWrite_shell (v : Word) (hk : (regFields p off).isEmpty = false) (hs : 0x100 ≤ off ∧ off < 0x100 + 0x80 * pageShells p)
    (h : Reaches s m p off true) : s.regWrite m p off v = s.shellWrite m p off v := by
  obtain ⟨-, -, -, hon, hlock⟩ := h
  have hd : ¬ (p = pgDBG ∧ s.debugLock = true) := fun ⟨hpg, hl⟩ => Bool.false_ne_true ((hlock rfl hpg).symm.trans hl)
  have hpctl : off ≠ HDR.PCTL := by unfold HDR.PCTL; omega
  simp only [regWrite, hon, hk, hd, hs, hpctl, show ¬ off < 0x40 by omega, Bool.not_true, Bool.or_self, Bool.false_eq_true, and_self, ↓reduceIte]

/-- Only the START bit of CALCTL makes a write of a shell's register more than one by the access codes. -/
theorem shellWrite_plain (v : Word) (h : off % 0x80 ≠ 0) : s.shellWrite m p off v = s.fieldWrite m p off v := by
  simp only [shellWrite, h, false_and, ↓reduceIte]

/-- A write of a plain register. -/
theorem regWrite_plain (v : Word) (hp : p < 0x1000) (hk : plainReg p off = true) (hf : regFields p off ≠ []) (h : Reaches s m p off true) :
    s.regWrite m p off v = if 0x40 ≤ off ∧ pageKind p = some .axch ∧ ¬(0x100 ≤ off ∧ off < 0x180)
      then (s.fieldWrite m p off v).anaIdle (pageInst p) else s.fieldWrite m p off v := by
  have hne : (regFields p off).isEmpty = false := List.isEmpty_eq_false_iff.mpr hf
  obtain ⟨k, hkind, rfl | rfl | ⟨ho, hown, hcal⟩⟩ := plainReg_cases hk
  · rw [regWrite_header v hp (by decide) (by decide) (by decide) h, if_neg fun hx => absurd hx.1 (by decide)]
    rfl
  · rw [regWrite_header v hp (by decide) (by decide) (by decide) h, if_neg fun hx => absurd hx.1 (by decide)]
    rfl
  · have haxch (hx : pageKind p = some .axch) : pageShells p = 1 := by rw [pageShells, hx]
    by_cases hs : 0x100 ≤ off ∧ off < 0x100 + 0x80 * pageShells p
    · rw [regWrite_shell v hne hs h, shellWrite_plain v fun h0 => hcal ⟨hs.1, hs.2, h0⟩, if_neg]
      rintro ⟨-, hx, hn⟩
      rw [haxch hx] at hs
      exact hn hs
    · rw [regWrite_block v hne ho (by omega) h, blockWrite_plain v hkind hown]
      have hiff : k = .axch ↔ 0x40 ≤ off ∧ pageKind p = some .axch ∧ ¬(0x100 ≤ off ∧ off < 0x180) := by
        constructor
        · rintro rfl
          rw [haxch hkind] at hs
          exact ⟨ho, hkind, hs⟩
        · rintro ⟨-, hx, -⟩
          exact Option.some.inj (hkind.symm.trans hx)
      simp only [hiff]

/-- A write the gate permits acts on the register, whatever the page's state. -/
theorem cmdWrite_permitted (hc : s.commandMaster m = true) (hg : s.gateKind m (regAddr p off) 4 true = none) (hp : p < 0x1000)
    (ho : off < 0x1000) (v : Word) : s.cmdWrite m p off v = s.regWrite m p off v := by
  have hl : (leBytes 4 v.toNat).length = 4 := rfl
  rw [cmdWrite, busWrite_four hl hc]
  simp only [busPut, hl, hg, storeReply, fabStore, isReg_regAddr hp ho, regPage_regAddr hp ho, regOff_regAddr ho, word_leBytes, ↓reduceIte]

/-- R51, R66: a write to a page that is off, or where no register is, does nothing. -/
theorem regWrite_nothing (v : Word) (h : s.pageOn p = false ∨ regFields p off = []) : s.regWrite m p off v = s := by
  rcases h with h | h
  · simp only [regWrite, h, Bool.not_false, Bool.true_or, ↓reduceIte]
  · simp only [regWrite, h, List.isEmpty_nil, Bool.or_true, ↓reduceIte]

end State

/-- The command REGISTER_WRITE at the address of a register is a write of that register, out of reset. -/
theorem exec_registerWrite (s : State) (m : Fin 96) (hp : p < 0x1000) (ho : off < 0x1000) (v : Word) (hs : s.por = false) :
    exec (.registerWrite m (BitVec.ofNat 32 (State.regAddr p off)) (leBytes 4 v.toNat)) s = .next (s.cmdWrite m p off v) := by
  have ha : (BitVec.ofNat 32 (State.regAddr p off)).toNat = State.regAddr p off := by
    rw [BitVec.toNat_ofNat]
    exact Nat.mod_eq_of_lt (by unfold State.regAddr; omega)
  show Host.Outcome.next (s.live (s.busWrite m.val (BitVec.ofNat 32 (State.regAddr p off)).toNat _)) = _
  rw [ha, State.live_up hs]
  rfl

/-- Settles O6: a plain register takes `writtenWord`, whose fields are what their access codes say; the fields of a register share no bit. -/
theorem registerWrite : Obligations.RegisterWrite := by
  constructor
  · intro s m p off v hp ho hplain hf hr barred
    refine ⟨writtenWord p off (s.reg p off) v (s.st (statePage p) == 1 && !barred), fun f hf => get_writtenWord _ _ _ hf,
      fun i hi hn => getLsbD_writtenWord_of_none _ _ _ hi hn, ?_⟩
    rw [exec_registerWrite s m hp ho v hr.1, State.cmdWrite_reaches hr hp ho, State.regWrite_plain v hp hplain hf hr,
      State.fieldWrite_eq m.isLt ho]
    rfl
  · intro s m p off v hp ho hpor hc hg h
    rw [exec_registerWrite s m hp ho v hpor, State.cmdWrite_permitted hc hg hp ho, State.regWrite_nothing v h]

end Sys2Proof.Machine
